-- ==== Sys2Proof/Word.lean ====
section
/-! DEFINITION. The plain types the commands and the state are built from: bytes, lanes, networks, ports, and the records that arrive as operands. -/

namespace Sys2Proof

/-- One byte of a frame, an image or a memory. -/
abbrev Byte := BitVec 8
/-- A string of bytes, byte 0 first on the wire or in memory (R13). -/
abbrev Bytes := List (BitVec 8)
/-- A register word, bit 31 the most significant (R12). -/
abbrev Word32 := BitVec 32

/-- The two lane dies (R15, R21). -/
inductive LaneId where
  | A | B
  deriving DecidableEq, Repr, Inhabited

/-- The other lane of the module. -/
def LaneId.other : LaneId → LaneId
  | .A => .B
  | .B => .A

/-- 0 for Lane A, 1 for Lane B, as the LANE fields number them. -/
def LaneId.num : LaneId → Nat
  | .A => 0
  | .B => 1

/-- The two safety channels of the Watchtower die (R23). -/
inductive SafeChan where
  | A | B
  deriving DecidableEq, Repr, Inhabited

def SafeChan.other : SafeChan → SafeChan
  | .A => .B
  | .B => .A

/-- Where a command stands when it is served: one of the four host channels, or the SPI service port (R434, R437). -/
inductive HostPort where
  | chan (c : Fin 4)
  | svc
  deriving DecidableEq, Repr, Inhabited

/-- A source of command packets: IPv4 address and UDP port (R432, R437). -/
structure Source where
  addr : Nat
  port : Nat
  deriving DecidableEq, Repr, Inhabited

/-- An Ethernet port of the module: ETH_LA_0, ETH_LA_1, ETH_LB_0, ETH_LB_1 (R15). -/
structure EthPort where
  lane : LaneId
  num  : Fin 2
  deriving DecidableEq, Repr, Inhabited

/-- The two directions of the Baique ring (R422). -/
inductive RingDir where
  | east | west
  deriving DecidableEq, Repr, Inhabited

/-- Sky-side numbering of the RF chains: 0 to 3 (R127). -/
abbrev Chain := Fin 4

end Sys2Proof
end

