-- ==== Sys2Proof/Inputs.lean ====
section
/-! DEFINITION. The records that commands carry as operands: what the world outside the digital core presents at an event. -/

namespace Sys2Proof

/-- What the four RF chains present of one satellite at an epoch, and what its broadcast messages and those of SBAS give for it (R122 to R126, R134,
R138, R143). Chains are numbered as in Table 5.2. -/
structure SatObs where
  /-- 1 GPS, 2 Galileo, 3 BeiDou, 4 SBAS. -/
  sys     : Nat
  prn     : Nat
  /-- A GPS satellite that broadcasts L1C (R126). -/
  l1c     : Bool
  /-- A BeiDou satellite of BDS-3 (Table 5.1). -/
  bds3    : Bool
  /-- Predicted elevation and azimuth, degrees and hundredths of a degree. -/
  elev    : Int
  azim    : Nat
  /-- Carrier lock on chains 0 to 3. -/
  lock    : Vector Bool 4
  /-- Accumulated carrier phase on chains 0 to 3, cycles. -/
  phase   : Vector ℚ 4
  /-- Uncorrected pseudorange on chains 0 to 3, 0.1 mm. -/
  range   : Vector Nat 4
  /-- Doppler on chains 0 to 3, Hz. -/
  doppler : Vector ℚ 4
  /-- C/N0 on chains 0 to 3, 0.01 dB-Hz. -/
  cn0     : Vector Nat 4
  /-- Lock time on chains 0 to 3, 10 ms units. -/
  lockTime : Vector Nat 4
  /-- Half cycle unresolved on chains 0 to 3. -/
  halfCycle : Vector Bool 4
  /-- A cycle slip on chains 0 to 3 since the previous epoch. -/
  slip    : Vector Bool 4
  /-- Its ephemeris is held and it is healthy, for the solution of each antenna. -/
  inSolution : Vector Bool 2
  /-- Standard deviations on each antenna: pseudorange mm, delta range 0.1 mm. -/
  sigma   : Vector (Nat × Nat) 2
  /-- Broadcast group delay of its band 1 and band 2 signals, m. -/
  groupDelay : Vector ℚ 2
  /-- Tropospheric delay at each antenna, m. -/
  tropo   : Vector ℚ 2
  /-- Ionospheric delay at each antenna on band 1 and band 2, m, by the broadcast model of its system. -/
  iono    : Vector (Vector ℚ 2) 2
  /-- The same by the SBAS grid, where it is valid for the pierce point. -/
  ionoGrid : Vector (Option (Vector ℚ 2)) 2
  /-- SBAS fast and long-term correction, m, while it is valid. -/
  sbas    : Option ℚ
  /-- Issue of the ephemeris decoded from its signal at this epoch (R137). -/
  issue   : Option Nat
  deriving DecidableEq, Repr, Inhabited

/-- Everything the receiver's front end presents at one epoch (R128). -/
structure EpochObs where
  sats  : List SatObs
  /-- ADC clipping seen on chains 0 to 3 in this epoch. -/
  clip  : Vector Bool 4
  /-- SOURCE bytes of the records that Oculus does not hand over in time (R129). -/
  late  : List Nat
  deriving DecidableEq, Repr, Inhabited

/-- One 1 ms monitor period of a chain (R139 to R141). -/
structure MonitorObs where
  /-- The chain's complex samples of a period in order, 6 bits a component (R123): at least those of 96 transforms of 1,024 (R139). -/
  samples : List (Int × Int)
  /-- Power at the ADC input, as the automatic gain control gives it, relative to the factory reference. -/
  power  : ℚ
  deriving DecidableEq, Repr, Inhabited

/-- What the navigation message tells Belfry at an epoch (R154). -/
structure TimeObs where
  /-- A leap second that the navigation message announces: the GPS-UTC leap count after it (R154). -/
  leap   : Option Nat
  /-- The GPS-UTC leap count in force as the navigation message states it. -/
  leapNow : Option Nat
  deriving DecidableEq, Repr, Inhabited

/-- A CAN or CAN FD frame on one of the networks (R331). -/
structure CanFrame where
  ident  : Nat
  xtd    : Bool
  fd     : Bool
  brs    : Bool
  esi    : Bool
  /-- A remote frame (R331). -/
  remote : Bool
  /-- The res bit of an FD frame is recessive (R331). -/
  res    : Bool
  /-- The frame failed with a stuff, form or CRC error: it is no valid frame and raises REC (R349, Table 13.12). -/
  bad    : Bool
  data   : Bytes
  /-- How often the receiver raised REC by 8 at this frame: a dominant bit right after its error flag, or 8 further dominant bits (R349, log entry 39). -/
  rec8   : Nat
  deriving DecidableEq, Repr, Inhabited

/-- How a frame that a controller offered ended (R337, R349, R351, R354). -/
inductive TxResult where
  /-- Sent and acknowledged. -/
  | acked
  /-- Acknowledgement error. -/
  | noAck
  /-- Bit error in the control, data or CRC field. -/
  | bitError
  /-- Bit error before the control field, as at the first dominant bit while the receive input is held recessive (R625). -/
  | startError
  /-- Stuff, form or CRC error. -/
  | frameError
  /-- The bus stayed busy beyond the guard. -/
  | busy
  deriving DecidableEq, Repr, Inhabited

/-- How a frame that a controller offered ended, and the loop delay it measured while it sent it, ns (R340). -/
structure TxTry where
  result : TxResult
  loop   : Nat
  deriving DecidableEq, Repr, Inhabited

/-- What a safety channel's controller meets on its network (R372, R373, R376). How a frame ends and which frames others send are facts of the bus, so
they are operands (DESIGN CHOICE, log entry 78). -/
inductive SafeBus where
  /-- A frame of the command's 11-bit identifier is received whole, with this payload. -/
  | frame (d : Bytes)
  /-- A frame fails in reception; REC rose by 8 so many times beside it (R349, log entry 39). -/
  | bad (rec8 : Nat)
  /-- The network is taken by another sender's frame, or idle again. -/
  | taken (on : Bool)
  /-- The channel's own frame ended so; `busy` when it lost arbitration. -/
  | own (r : TxResult)
  /-- 128 times 11 recessive bits have been seen (R349). -/
  | recovered
  deriving DecidableEq, Repr, Inhabited

/-- The line of a serial port at a break: its number, and whether a character of a frame was under way (R108). -/
structure SerialLine where
  num     : Fin 8
  inFrame : Bool
  deriving DecidableEq, Repr, Inhabited

/-- What the header of a PTP message says of it: its domain and its type (R165). -/
structure PtpHead where
  domain : Nat
  typ    : Nat
  deriving DecidableEq, Repr, Inhabited

/-- The bytes of a frame at its validation point, and how long before it the start-of-frame edge lay, ns (R102). -/
structure TimedData where
  data  : Bytes
  durNs : Nat
  deriving DecidableEq, Repr, Inhabited

/-- How a scrub read or a demand read of a protected word ended (R556 to R558). -/
inductive CodeResult where
  | clean
  /-- Corrected symbols. -/
  | corrected (symbols : Nat)
  /-- Uncorrectable, with the first two syndrome symbols. -/
  | bad (syndrome : Nat)
  deriving DecidableEq, Repr, Inhabited

/-- A request that a source puts into Q13, and how its codewords read (R560). Source 0 to 3: cores; 4: DMA. -/
structure MemAccess where
  source : Fin 5
  addr   : Nat
  /-- Bytes to write; none for a read of `len` bytes. -/
  wdata  : Option Bytes
  len    : Nat
  code   : CodeResult
  deriving DecidableEq, Repr, Inhabited

/-- What the board and the fuses present when domain 0 leaves reset (R1, R2, R534, R552, R586). -/
structure PowerOn where
  /-- ROLE_1, ROLE_0: 0 controller, 1 arbiter-only, 2 node, 3 reserved. -/
  role   : Fin 4
  /-- MOD_1, MOD_0. -/
  module : Fin 4
  /-- The ordering code is AKP-960-NX. -/
  nx     : Bool
  /-- 0 A0, 1 B0. -/
  stepping : Fin 2
  vholdMv : Nat
  /-- Installed memory code of Table 22.5 and ranks of each lane. -/
  dram   : Vector (Nat × Nat) 2
  deriving DecidableEq, Repr, Inhabited

/-- Where the end tick found the allocation solve (R294, R295): in its set-up, between iterations, or within one; `done` iterations are complete. -/
inductive StopAt where
  | setup
  | between (done : Nat)
  | within (done : Nat)
  deriving DecidableEq, Repr, Inhabited

/-- One operation of the test access port (R593). -/
inductive JtagOp where
  /-- TRST_N low, or Test-Logic-Reset. -/
  | reset
  /-- An instruction is loaded; EXTEST or another. -/
  | instruction (extest : Bool)
  | shift (tdi : Bool)
  /-- Update-DR. -/
  | update
  deriving DecidableEq, Repr, Inhabited

end Sys2Proof
end

