-- ==== Sys2Proof/Syntax.lean ====
section
/-! DEFINITION. The commands of the block: one constructor per row of spec/opcode_table.json, in the table's order.
Each constructor's docstring gives the row's mnemonic, the rule that holds its effect and the row's summary. -/

namespace Sys2Proof

/-- A command given to the block: a host opcode at its turn, a received frame, an event on a pin,
or an internal event that the spec times. -/
inductive Instr where
  /-- `PACKET_RECEIVE` (R436): A UDP command datagram arrives on an Ethernet port, is checked, relayed to the ACTIVE lane if needed and placed in its channel's reorder buffer. -/
  | packetReceive (p : EthPort) (src : Source) (sound : Bool) (raw : Bytes)
  /-- `SVC_WRITE` (R434): An SPI WRITE transaction delivers one command packet to the Watchtower. -/
  | svcWrite (raw : Bytes)
  /-- `SVC_READ` (R434): An SPI READ transaction returns the length and the ready reply, or a length of 0. -/
  | svcRead
  /-- `SVC_STATUS` (R434): An SPI STATUS transaction returns the reply-ready and command-in-progress bits. -/
  | svcStatus
  /-- `SESSION_OPEN` (R437): Opens a session on the lowest free channel and returns channel, module, power-cycle count, token state and JSN. -/
  | sessionOpen (svc : Bool)
  /-- `SESSION_CLOSE` (R438): Closes the station's session on the channel. -/
  | sessionClose (p : HostPort)
  /-- `TOKEN_REQUEST` (R442): Asks for the command token; after the hold of R443 it is granted, answered with TOKEN_HELD, or answered DONE to the holder. -/
  | tokenRequest (p : HostPort)
  /-- `TOKEN_RELEASE` (R442): The holder frees the token or passes it to a named station, and EPOCH increases. -/
  | tokenRelease (p : HostPort)
  /-- `KEEPALIVE` (R454): Keeps the channel open and frees notification slots up to the acknowledged number. -/
  | keepalive (p : HostPort)
  /-- `NOTIFY_RESEND` (R454): Resends, with REPLAY set, every held notification from the named number. -/
  | notifyResend (p : HostPort)
  /-- `CHANNEL_STATUS` (R439): Returns the channel's BASE, notification positions and flow counters. -/
  | channelStatus (p : HostPort)
  /-- `MODE_SET` (R248): Requests a mode, checked against the expected mode at acceptance and staged for its boundary. -/
  | modeSet (p : HostPort)
  /-- `MODE_STATUS` (R468): Returns the mode in force, the expected mode, MODE_PENDING, conditions and the last transition. -/
  | modeStatus (p : HostPort)
  /-- `SP_POSITION` (R251): Stages a position setpoint for a boundary. -/
  | spPosition (p : HostPort)
  /-- `SP_HEADING` (R251): Stages a heading setpoint or heading offset for a boundary. -/
  | spHeading (p : HostPort)
  /-- `SP_SITE_ORIGIN` (R193): Stages a new site origin for a boundary. -/
  | spSiteOrigin (p : HostPort)
  /-- `SP_TRACK` (R254): Stages a track of waypoints and a track speed for a boundary. -/
  | spTrack (p : HostPort)
  /-- `SP_TARGET_OFFSET` (R255): Stages the offset from the followed target for a boundary. -/
  | spTargetOffset (p : HostPort)
  /-- `SP_JOYSTICK` (R256): Stages the joystick fractions for a boundary. -/
  | spJoystick (p : HostPort)
  /-- `SP_READ` (R468): Returns every setpoint in force. -/
  | spRead (p : HostPort)
  /-- `REF_SELECT` (R213): Stages SELECT, DESELECT or RESOLVE of one reference for a boundary. -/
  | refSelect (p : HostPort)
  /-- `CHANNEL_SELECT` (R117): Stages selection or deselection of a sensor channel for a boundary. -/
  | channelSelect (p : HostPort)
  /-- `GNSS_SELECT` (R148): Stages selection or deselection of an RF chain or antenna for a boundary. -/
  | gnssSelect (p : HostPort)
  /-- `GNSS_NOISE_REF` (R141): Records or restores the noise reference of the named chains and replies after the 100 ms average. -/
  | gnssNoiseRef (p : HostPort)
  /-- `REF_READ` (R469): Returns bytes 0 to 191 of a track record. -/
  | refRead (p : HostPort)
  /-- `CHANNEL_READ` (R469): Returns a latest-value store entry and its update count. -/
  | channelRead (p : HostPort)
  /-- `THR_AVAILABLE` (R306): Stages selection of a thruster, or deselection with ramp-out, for a boundary. -/
  | thrAvailable (p : HostPort)
  /-- `THR_START` (R322): Stages a start request that joins the start queue at its boundary. -/
  | thrStart (p : HostPort)
  /-- `THR_STOP` (R323): Stages removal of the thruster's start request and pending start. -/
  | thrStop (p : HostPort)
  /-- `ALLOC_READ` (R470): Returns the allocation result block head, allocation registers and thruster records. -/
  | allocRead (p : HostPort)
  /-- `CONSEQ_READ` (R470): Returns SPR_CQ_CYCLE and the consequence results of all groups. -/
  | conseqRead (p : HostPort)
  /-- `IMAGE_BEGIN` (R88): Empties the staged store in both lanes and aborts any load, verification or installation. -/
  | imageBegin (p : HostPort)
  /-- `IMAGE_DATA` (R89): Writes image bytes into the staged store of both lanes. -/
  | imageData (p : HostPort)
  /-- `IMAGE_VERIFY` (R92): Starts verification of the staged image in both lanes. -/
  | imageVerify (p : HostPort)
  /-- `IMAGE_COMMIT` (R93): Starts installation of the verified image and commits it at the first qualifying boundary. -/
  | imageCommit (p : HostPort)
  /-- `IMAGE_ROLLBACK` (R98): Stages a return to the previous confirmed generation. -/
  | imageRollback (p : HostPort)
  /-- `IMAGE_STATUS` (R471): Returns image state, generations and the last verification result. -/
  | imageStatus (p : HostPort)
  /-- `TIER_FLOOR` (R72): Stages the fastest tier the margin planner may choose. -/
  | tierFloor (p : HostPort)
  /-- `KEEP_INFO` (R473): Returns power-cycle count, operating hours and record indices. -/
  | keepInfo (p : HostPort)
  /-- `KEEP_READ` (R502): Returns whole Keep records of a type from a given index. -/
  | keepRead (p : HostPort)
  /-- `KEEP_MARK` (R473): Writes a MARK record with the given text. -/
  | keepMark (p : HostPort)
  /-- `HEALTH_READ` (R474): Returns island status registers, tier, last violation, slack and Sky status. -/
  | healthRead (p : HostPort)
  /-- `ARB_READ` (R474): Returns the arbiter status, lane and vote registers. -/
  | arbRead (p : HostPort)
  /-- `REG_READ` (R474): Returns a run of register words on an engineering session, clearing RC fields. -/
  | regRead (p : HostPort)
  /-- `NET_TEST` (R347): Starts or ends test of one network at the next tick 19,900 in both lanes. -/
  | netTest (p : HostPort)
  /-- `NET_RESTART` (R347): Restarts a network with cleared error counts and bus-off history at tick 19,900. -/
  | netRestart (p : HostPort)
  /-- `ID_CLEAR` (R355): Clears a suspended identifier, or the whole suspension list. -/
  | idClear (p : HostPort)
  /-- `LANE_RESTART` (R409): Wakes a lane held OFF by the rejoin limit at the next boundary and restarts its rejoin count. -/
  | laneRestart (p : HostPort)
  /-- `GNSS_RAW_READ` (R474): Returns entries of a raw-measurement ring block. -/
  | gnssRawRead (p : HostPort)
  /-- `TIME_READ` (R474): Returns the Belfry registers and TIMEQ. -/
  | timeRead (p : HostPort)
  /-- `ALARM_ACK` (R475): Marks the named raised alarms as acknowledged in both lanes. -/
  | alarmAck (p : HostPort)
  /-- `ALARM_LIST` (R474): Returns the alarms that are not cleared, from a given ALARM_ID. -/
  | alarmList (p : HostPort)
  /-- `SAFETY_STATUS` (R476): Returns the safety registers, clearing their RC fields. -/
  | safetyStatus (p : HostPort)
  /-- `SAFETY_BLOCK_LOAD` (R386): Checks a safety block, stores it as pending and starts the panel update that shows its check value. -/
  | safetyBlockLoad (p : HostPort)
  /-- `SAFETY_BLOCK_READ` (R476): Returns the active or pending safety block. -/
  | safetyBlockRead (p : HostPort)
  /-- `SAFETY_CONFIRM` (R387): Accepts or refuses the typed check value and activates the pending block when accepted. -/
  | safetyConfirm (p : HostPort)
  /-- `SAFETY_ZONE_REQUEST` (R393): Sets or clears the lane request of one zone on receipt. -/
  | safetyZoneRequest (p : HostPort)
  /-- `SAFETY_PROOF_TEST` (R390): Makes a pair proof-pending so that its outputs are tested after the second mask latch. -/
  | safetyProofTest (p : HostPort)
  /-- `CNT_CONFIG` (R517): Writes a counter's configuration word in both lanes. -/
  | cntConfig (p : HostPort)
  /-- `CNT_READ` (R521): Returns value and status of a run of counters of the ACTIVE lane. -/
  | cntRead (p : HostPort)
  /-- `CNT_CLEAR` (R516): Clears the counters named in the mask in both lanes. -/
  | cntClear (p : HostPort)
  /-- `BW_READ` (R526): Returns the bandwidth window registers of one port. -/
  | bwRead (p : HostPort)
  /-- `LTN_STATUS` (R479): Returns the Lantern status, screen and image identifier. -/
  | ltnStatus (p : HostPort)
  /-- `LTN_SHOW` (R510): Requests an update to the named screen. -/
  | ltnShow (p : HostPort)
  /-- `LTN_CLEAR` (R510): Requests a clear of the panel. -/
  | ltnClear (p : HostPort)
  /-- `LTN_POWER` (R512): Selects the NATIVE or RETAINED power mode. -/
  | ltnPower (p : HostPort)
  /-- `GAIN_WRITE` (R268): Stages an engineering write of one field of a gain set. -/
  | gainWrite (p : HostPort)
  /-- `GAIN_REVERT` (R268): Stages the restoration of every gain working copy to the image values. -/
  | gainRevert (p : HostPort)
  /-- `GAIN_READ` (R480): Returns a gain set's working copy, image values and patched-field mask. -/
  | gainRead (p : HostPort)
  /-- `OPCODE_UNKNOWN` (R463): A command with an unlisted opcode is answered with OPCODE. -/
  | opcodeUnknown (p : HostPort)
  /-- `JOURNAL_MIRROR_COMPLETE` (R446): The lane bridge acknowledges the last frame of a journal entry, so its reply may be sent. -/
  | journalMirrorComplete (p : Option HostPort)
  /-- `JOURNAL_HOLD_ELAPSED` (R460): 8 µs after a JOURNAL frame left both ports, the reply to a system entry may be sent. -/
  | journalHoldElapsed (p : HostPort)
  /-- `WATCHTOWER_ACTION_RESULT` (R449): The Watchtower answers a forwarded action; the lane journals the result and replies. -/
  | watchtowerActionResult (p : HostPort)
  /-- `SESSION_TIMEOUT` (R438): A channel that received no valid packet for its session timeout is closed. -/
  | sessionTimeout (p : HostPort)
  /-- `TOKEN_SESSION_LOSS` (R442): The token is freed after its holder has had no session with the module in control for 10 s. -/
  | tokenSessionLoss
  /-- `JOURNAL_SNAPSHOT` (R461): At tick 17,000 of phase 25 the module in control sends the system settings snapshot in JOURNAL frames. -/
  | journalSnapshot
  /-- `CYCLE_BOUNDARY` (R57): At tick 0 every island exchanges banks and the staged changes are applied in the order of Table 2.5. -/
  | cycleBoundary
  /-- `COMMIT_ABANDON_TIMEOUT` (R94): A commit that has not reached its boundary within 250 cycles is abandoned. -/
  | commitAbandonTimeout
  /-- `IMAGE_VERIFY_DONE` (R92): Both lanes finish verification and IMAGE_VERIFIED is sent. -/
  | imageVerifyDone
  /-- `IMAGE_INSTALL_DONE` (R93): A lane reports installation of the image into its inactive planes complete. -/
  | imageInstallDone (l : LaneId)
  /-- `SNAPSHOT` (R32): At the snapshot tick the ingest island copies the store and streams it to Cupola on Q01. -/
  | snapshot (l : LaneId)
  /-- `FILTER_HANDOFF` (R184): The filter island forms the sea-state band from both summaries and writes Q08. -/
  | filterHandoff (l : LaneId)
  /-- `CUPOLA_FUSION` (R189): Cupola runs ages, raw level, reference level and decision level and commits tracks. -/
  | cupolaFusion (l : LaneId)
  /-- `OBSERVER_RUN` (R221): The observer propagates, updates and writes Q06 and Q05. -/
  | observerRun (l : LaneId)
  /-- `CONTROL_LAW_SLOT` (R240): The control engine computes the demand, writes Q07, updates integrators and stages transitions and region. -/
  | controlLawSlot (l : LaneId)
  /-- `DELTA_PACKET_SLOT` (R284): Management core 2 computes and sends the delta packet and hold point. -/
  | deltaPacketSlot (l : LaneId)
  /-- `CONSEQ_INPUT_WRITE` (R298): At phase 0 core 2 writes the consequence input buffer and its ready marker. -/
  | conseqInputWrite (l : LaneId)
  /-- `ALLOCATION_SOLVE` (R292): Spire sets up and iterates the active-set allocation solve. -/
  | allocationSolve (l : LaneId) (setupClk : Nat) (iterClk : Nat)
  /-- `ALLOCATION_DEADLINE` (R295): At the allocation end tick the sequencer stops the solve with SHORT, TRUNC or SETUP_TRUNC. -/
  | allocationDeadline (l : LaneId) (stop : StopAt)
  /-- `OUTPUT_STAGE` (R319): The output stage writes the Q10 transfer and the lane digest. -/
  | outputStage (l : LaneId)
  /-- `CONSEQUENCE_STEP` (R299): A spare slot runs one consequence-analysis step of a failure group. -/
  | consequenceStep (l : LaneId) (slot : Nat) (ok : Bool)
  /-- `SELFTEST_SEGMENT` (R410): A spare slot runs a self-test segment of Cupola, the control engine or Spire. -/
  | selftestSegment (l : LaneId) (slot : Nat) (pass : Bool)
  /-- `BUILTIN_TEST` (R528): An island runs its built-in test and reports a failure as SELFTEST_FAIL. -/
  | builtinTest (l : Option LaneId) (island : Nat) (pass : Bool)
  /-- `SLOT_END_TICK` (R64): At a slot's end tick the sequencer stops an unfinished engine and applies its fallback. -/
  | slotEndTick (l : LaneId) (slot : Nat) (used : Nat) (done : Bool)
  /-- `CLOCK_MEASURE` (R61): Each cycle the PMU counts island clocks against Belfry time and reports CLOCK violations. -/
  | clockMeasure (l : LaneId) (clocks : Vector Nat 9)
  /-- `STAGING_CLOSE` (R56): At the staging-close tick the settings for the next boundary are closed. -/
  | stagingClose (l : LaneId)
  /-- `REMOVAL_MASK_REQUEST` (R59): At tick 19,900 a lane requests the removal mask and the Watchtower latches it on the earlier request. -/
  | removalMaskRequest (l : LaneId)
  /-- `ALARM_EVALUATION` (R86): At tick 19,910 core 1 evaluates every alarm and sends notifications. -/
  | alarmEvaluation (l : LaneId)
  /-- `CONSEQ_PUBLISH` (R325): At tick 19,910 of phase 49 the consequence results are judged and published. -/
  | conseqPublish (l : LaneId)
  /-- `STANDBY_HEALTH` (R411): At tick 19,910 of phase 49 the ACTIVE lane sends the standby health report. -/
  | standbyHealth
  /-- `START_TIMEOUT` (R323): A start not RUNNING after START_S is dropped and START_FAILED is sent. -/
  | startTimeout (l : LaneId)
  /-- `SERIAL_FRAME_COMPLETE` (R111): A serial frame ends, is framed, checked and parsed into channel updates. -/
  | serialFrameComplete (l : LaneId) (port : Fin 8) (raw : Bytes) (startNs : Nat) (endNs : Nat) (lost : Bool)
  /-- `ETH_SENSOR_DATAGRAM` (R110): A sensor datagram is received and its sentences or binary frame parsed. -/
  | ethSensorDatagram (p : EthPort) (dst : Source) (raw : Bytes) (startNs : Nat) (stamps : List Nat) (lost : Bool)
  /-- `SERIAL_BREAK` (R108): A line held at space beyond two character times discards the frame and sets SER_BREAK. -/
  | serialBreak (l : LaneId) (port : SerialLine)
  /-- `BINARY_GAP_TIMEOUT` (R112): An inter-byte gap beyond GAP_US aborts a binary frame. -/
  | binaryGapTimeout (l : LaneId) (port : Fin 8) (raw : Bytes) (startNs : Nat)
  /-- `SERIAL_SETTINGS_SWITCH` (R107): A port switches to new line settings after one idle character time. -/
  | serialSettingsSwitch (l : LaneId) (port : Fin 8)
  /-- `CHANNEL_UPDATE_RELEASE` (R116): At stamping tick plus 8 an update is written into the store under the ordering rules. -/
  | channelUpdateRelease (l : LaneId)
  /-- `BRIDGE_UPDATE_ARRIVE` (R31): A channel update arrives over the lane bridge and is written on arrival if late. -/
  | bridgeUpdateArrive (l : LaneId)
  /-- `BRIDGE_FRAME_RECEIVE` (R33): A lane-bridge frame is checked, acknowledged and delivered. -/
  | bridgeFrameReceive (l : LaneId) (frame : Bytes) (ok : Bool)
  /-- `BRIDGE_ACK_TIMEOUT` (R33): No acknowledgement within 200 ns causes one retransmission, then a link fault. -/
  | bridgeAckTimeout (l : LaneId)
  /-- `LINK_FRAME_FAIL` (R33): A Sky or Watchtower link frame fails its check and is retransmitted or faults the link. -/
  | linkFrameFail (l : LaneId) (sky : Bool)
  /-- `FILTER_OUTPUT` (R174): At an output grid point stage 4b emits a sample, which is published as an update if due. -/
  | filterOutput (l : LaneId) (input : Fin 12) (g : Nat) (new : List (Nat × List Bool)) (newB : List (Nat × List Bool))
  /-- `FILTER_SUMMARY` (R183): At each boundary a lane's filter summary is stamped and sent to the other lane. -/
  | filterSummary (l : LaneId)
  /-- `SUMMARY_FORWARD` (R183): The other lane's summary is forwarded to the filter island on Q11. -/
  | summaryForward (l : LaneId)
  /-- `INPUT_FAULT_RAISE` (R169): An analogue input fault condition holds for its time and faults the input. -/
  | inputFaultRaise (l : LaneId) (input : Fin 12) (kind : Fin 4)
  /-- `INPUT_FAULT_CLEAR` (R169): An analogue input fault clears after its clear condition holds for its time. -/
  | inputFaultClear (l : LaneId) (input : Fin 12) (kind : Fin 4)
  /-- `MEASUREMENT_EPOCH` (R128): Oculus measures at the epoch, forms records, runs spoofing and heading tests and hands records over. -/
  | measurementEpoch (ob : EpochObs)
  /-- `SKY_RECORD_RECEIVE` (R130): An Oculus record arrives on a lane's Sky link. -/
  | skyRecordReceive (l : LaneId)
  /-- `AIDING_FRAME` (R135): A lane sends its aiding frame to Oculus once per cycle. -/
  | aidingFrame (l : LaneId)
  /-- `RTCM_FRAME` (R136): An RTCM frame is framed, forwarded to both Sky links and checked by Oculus. -/
  | rtcmFrame (l : LaneId) (frame : Bytes)
  /-- `NOTCH_MONITOR` (R139): Each 1 ms spectral monitor period places or releases notches and updates jamming state. -/
  | notchMonitor (chain : Chain) (ob : MonitorObs)
  /-- `ORIGIN_FIX` (R153): Belfry fixes the system time origin from a module, a source or the TIME_WAIT_MS expiry. -/
  | originFix (adopt : Option (Nat × Nat × Bool × Nat)) (gpsNs : Nat)
  /-- `BLF_EPOCH_EVAL` (R156): Belfry judges its source at each epoch and enters HOLDOVER when it is invalid. -/
  | blfEpochEval (ob : TimeObs)
  /-- `RETURN_QUALIFIED` (R157): After RETURN_QUAL_S of valid epochs Belfry corrects OFFSET and sends TIME_STEP. -/
  | returnQualified
  /-- `BLF_LONG_CYCLE_UPDATE` (R158): At each long-cycle boundary Belfry updates OFFSET, y_osc and y_slew. -/
  | blfLongCycleUpdate
  /-- `BLF_BOUNDARY_UPDATE` (R159): At each boundary Belfry updates EST_ERR. -/
  | blfBoundaryUpdate (temp : ℚ)
  /-- `LANE_TICK_MARKER` (R160): A lane's tick-0 marker is timestamped and its fractional divider corrected. -/
  | laneTickMarker (l : LaneId) (dev : Int)
  /-- `PPS_EDGE` (R163): PPS_A and PPS_B rise at each long-cycle boundary less their advance. -/
  | ppsEdge
  /-- `TIMEQ_COMPUTE` (R164): At phase 25 Belfry computes TIMEQ for the next edge and sends it. -/
  | timeqCompute
  /-- `LEAP_SECOND` (R154): At the end of the announced UTC day the leap count changes. -/
  | leapSecond
  /-- `PTP_MESSAGE` (R165): A PTP message is received and timestamped on a slave or master port. -/
  | ptpMessage (p : EthPort) (typ : PtpHead) (seq : Nat) (carried : Int) (rx : Int) (oneStep : Bool) (cls : Nat)
  /-- `PTP_SYNC_SEND` (R165): A master port sends Sync and Follow_Up at its interval. -/
  | ptpSyncSend (p : EthPort)
  /-- `CELL_START` (R337): At a column's start tick a REFERENCE, COMMAND or TX_BUFFER frame is started or skipped. -/
  | cellStart (l : LaneId) (net : Fin 4) (col : Nat) (r : TxTry)
  /-- `REF_FRAME_FORM` (R339): At tick 100 the reference frame is formed in the transmit bank. -/
  | refFrameForm (l : LaneId)
  /-- `Q10_RECEIVE` (R339): A Q10 entry is written into both thruster networks' staging banks, or discarded as late. -/
  | q10Receive (l : LaneId)
  /-- `TX_BANK_EXCHANGE` (R339): At the first command column the transmit banks are exchanged, or commands are repeated. -/
  | txBankExchange (l : LaneId)
  /-- `CAN_FRAME_RECEIVE` (R342): A valid frame from another node is filtered into a channel update or a mailbox. -/
  | canFrameReceive (net : Fin 4) (fr : CanFrame) (durNs : Nat)
  /-- `EVENT_FRAME_SEND` (R356): In an event window the controller offers its queued frames by identifier. -/
  | eventFrameSend (l : LaneId) (net : Fin 4) (r : TxTry)
  /-- `NET_PEER_COUNT` (R352): At tick 19,900 unacknowledged cycles are counted toward ABANDONED and its return. -/
  | netPeerCount (l : LaneId) (net : Fin 4)
  /-- `BUS_IDLE_DETECT` (R346): 11 recessive bits move a network from OFF to MAILBOX. -/
  | busIdleDetect (l : LaneId) (net : Fin 4)
  /-- `BUS_OFF_RECOVERY` (R349): After 128 occurrences of 11 recessive bits a bus-off controller returns to MAILBOX. -/
  | busOffRecovery (l : LaneId) (net : Fin 4)
  /-- `MAILBOX_ACK` (R344): Writing 1 to NEW clears NEW and LOST of a mailbox. -/
  | mailboxAck (l : LaneId) (net : Fin 4) (mbx : Fin 64)
  /-- `BUS_EVT_DOORBELL` (R357): A write appends the event-queue entry to the named network's queue. -/
  | busEvtDoorbell (l : LaneId) (net : Fin 4)
  /-- `SAFETY_INPUT_CHANGE` (R362): A recognised change of a safety input updates zones and sets or releases removal latches. -/
  | safetyInputChange (c : SafeChan) (p : Fin 8) (on : Bool)
  /-- `SAFETY_CYCLE_START` (R361): At each safety-cycle start the channels cross-check, clear latches, release zones and send safe messages. -/
  | safetyCycleStart
  /-- `RESET_INPUT_OPERATION` (R365): An operation of the reset input pair of valid length resets waiting zones. -/
  | resetInputOperation (p : Fin 8) (durUs : Nat)
  /-- `OUTPUT_STUCK_FAULT` (R366): Three wrong read-back samples latch a pair fault. -/
  | outputStuckFault (n : Fin 16)
  /-- `TEST_PULSE_START` (R369): An energised output is de-energised for 300 µs in its pulse slot. -/
  | testPulseStart (c : SafeChan) (n : Fin 16)
  /-- `TEST_PULSE_END` (R370): A test pulse ends and its read-back is judged or discarded. -/
  | testPulseEnd (c : SafeChan) (pass : Bool)
  /-- `SAFE_MESSAGE_RECEIVE` (R376): A safe message is validated and taken into the receiver's removal state. -/
  | safeMessageReceive (net : Fin 2) (ident : Nat) (x : SafeBus)
  /-- `STREAM_TIMEOUT` (R377): A stream without a valid message for TIMEOUT_MS times out. -/
  | streamTimeout (e : Fin 3) (net : Fin 2)
  /-- `SENDER_DISCREPANT` (R379): A sender's two streams differing beyond DISC_MS is reported DISCREPANT. -/
  | senderDiscrepant (e : Fin 3)
  /-- `ISLAND_FAULT` (R382): A detected island fault puts the module in SAFE_STATE at once. -/
  | islandFault (cause : Nat) (c : SafeChan) (own : Bool)
  /-- `PROOF_TEST_BEGIN` (R390): The proof test of a pending pair begins at the safety-cycle start after the second mask latch. -/
  | proofTestBegin (n : Fin 16)
  /-- `PROOF_PHASE_END` (R390): After PROOF_MS the tested output is re-energised and judged. -/
  | proofPhaseEnd (n : Fin 16) (pass : Bool)
  /-- `BLOCK_ACTIVATE` (R388): A confirmed block becomes active at the second safety-cycle start and is written to flash. -/
  | blockActivate
  /-- `PENDING_BLOCK_EXPIRE` (R386): A pending block is discarded 900 s after its load. -/
  | pendingBlockExpire
  /-- `COMMISSION_EN_CHANGE` (R387): A change of COMMISSION_EN is read by both safety channels. -/
  | commissionEnChange (on : Bool)
  /-- `SAFETY_STARTUP` (R392): From domain 0 reset the island self-tests, loads its block and starts zones and outputs. -/
  | safetyStartup (inA : Nat) (inB : Nat)
  /-- `DIGEST_RECEIVE` (R398): A lane's digest arrives at the Watchtower. -/
  | digestReceive (l : LaneId)
  /-- `DIGEST_COMPARE` (R399): The Watchtower compares the two digests and judges lane health. -/
  | digestCompare
  /-- `LANE_SWITCHOVER` (R403): At the effective boundary the Watchtower selects the new lane, which replays replies. -/
  | laneSwitchover
  /-- `TAKEBACK_EVAL` (R412): At tick 19,900 take-back to the preferred lane is evaluated and scheduled. -/
  | takebackEval
  /-- `LANE_WAKE` (R406): 50 cycles after a fault the lane's domains are woken and SELFTEST begins. -/
  | laneWake (l : LaneId)
  /-- `LANE_SELFTEST_DONE` (R406): A rejoining lane finishes its self-test and enters LOADING or FAULTED. -/
  | laneSelftestDone (l : LaneId) (pass : Bool)
  /-- `LANE_LOAD_DONE` (R94): A rejoining lane has verified and installed the active generation and enters JOINING. -/
  | laneLoadDone (l : LaneId)
  /-- `SHADOW_TRANSFER` (R407): At phase 0 the ACTIVE lane sends the shadow-state blocks to the joining lane. -/
  | shadowTransfer
  /-- `VOTE_FORM` (R416): At tick 19,900 each Watchtower forms its vote and decides to take or leave control. -/
  | voteForm (locked : Nat)
  /-- `MODULE_CONTROL_CHANGE` (R418): A module takes or leaves control at a boundary and sends MODULE_SWITCH. -/
  | moduleControlChange
  /-- `ARB_EXT_CHANGE` (R417): A filtered change of the external vote lines is read. -/
  | arbExtChange (a : Bool) (b : Bool)
  /-- `VOTE_FRAME_SEND` (R423): Each Watchtower sends its VOTE frame at tick 15,000. -/
  | voteFrameSend
  /-- `VOTE_FRAME_RECEIVE` (R424): A VOTE frame is received, deduplicated and forwarded. -/
  | voteFrameReceive (l : LaneId) (dir : RingDir) (frame : Bytes)
  /-- `STATE_FRAME_SEND` (R419): The module in control sends its control-engine state at tick 9,500. -/
  | stateFrameSend
  /-- `STATE_FRAME_RECEIVE` (R419): A STATE frame is received and held for the next control-law slot. -/
  | stateFrameReceive (l : LaneId) (dir : RingDir) (frame : Bytes)
  /-- `JOURNAL_FRAME_RECEIVE` (R460): A system entry or snapshot is received and mirrored for its boundary. -/
  | journalFrameReceive (l : LaneId) (dir : RingDir) (frame : Bytes)
  /-- `IMAGE_HOLD` (R95): An IMAGE_HOLD frame reports a module's staged, verified and installed generation. -/
  | imageHold (rx : Option (LaneId × RingDir × Bytes))
  /-- `IMAGE_COMMIT_FRAME` (R95): The module in control names the agreed multi-module commit boundary. -/
  | imageCommitFrame (rx : Option (LaneId × RingDir × Bytes))
  /-- `IMAGE_DATA_FRAME` (R95): Image bytes are sent to a module marked IMAGE_LAG. -/
  | imageDataFrame (rx : Option (LaneId × RingDir × Bytes))
  /-- `BEACON` (R425): A port with nothing to send emits a beacon every 100 µs, and its receiver counts it. -/
  | beacon (l : LaneId) (dir : RingDir) (rx : Bool)
  /-- `BAIQUE_PORT_DOWN` (R425): A monitored port loses symbol lock or misses 4 beacon intervals and goes DOWN. -/
  | baiquePortDown (l : LaneId) (dir : RingDir) (lockLost : Bool)
  /-- `TIME_EXCHANGE_START` (R426): At tick 500 of phase 10 the master sends TIME_SYNC. -/
  | timeExchangeStart (t1 : Int)
  /-- `TIME_SYNC` (R426): The slave stamps the arrival of TIME_SYNC. -/
  | timeSync (l : LaneId) (dir : RingDir) (frame : Bytes) (t2 : Int)
  /-- `TIME_DELAY` (R426): The slave sends TIME_DELAY at tick 700 and the master stamps its arrival. -/
  | timeDelay (rx : Option (LaneId × RingDir × Bytes)) (t : Int)
  /-- `TIME_REPLY` (R426): The slave receives t4 and steers its device time to the master's offset. -/
  | timeReply (l : LaneId) (dir : RingDir) (frame : Bytes)
  /-- `PFAIL_ASSERT` (R541): PFAIL_N recognised closes output gates and runs the Keep and Lantern power-fail sequences. -/
  | pfailAssert
  /-- `PFAIL_DEASSERT` (R543): After the sequences and 100 ms deasserted, every domain is reset as a power-on reset. -/
  | pfailDeassert
  /-- `VHOLD_LOSS` (R543): VHOLD below 6.0 V puts domain 0 into reset. -/
  | vholdLoss
  /-- `POWER_ON_RESET` (R536): Domain 0 leaves reset and runs the start-up steps of Table 21.3. -/
  | powerOnReset (on : PowerOn)
  /-- `ORIGIN_WAIT_EXPIRE` (R538): The extra 2,000 ms wait for a lower-numbered module's origin expires. -/
  | originWaitExpire
  /-- `CONTROL_PATH_START` (R539): A lane starts its control path at the first long-cycle boundary meeting its conditions. -/
  | controlPathStart (l : LaneId)
  /-- `INRUSH_ADMIT` (R532): At a 100 µs window start waiting domains are admitted within the rail's budget. -/
  | inrushAdmit
  /-- `DOMAIN_WAKE_DONE` (R531): A waking domain's PLLs lock and its queues leave reset. -/
  | domainWakeDone (d : Nat)
  /-- `THERMAL_TRIP` (R549): A die reading at or above 135 °C trips and its domains are switched off. -/
  | thermalTrip (die : Fin 4) (temp : Int)
  /-- `THERMAL_REWAKE` (R549): A tripped die is woken again below 115 °C. -/
  | thermalRewake (die : Fin 4) (temp : Int)
  /-- `AGEING_SAMPLE` (R544): Each millisecond the PMU samples ageing monitors and may request a slower tier. -/
  | ageingSample (l : LaneId) (mons : Vector (Vector Nat 4) 9) (tj : Int)
  /-- `BODY_BIAS_STEP` (R545): At tick 19,950 an island's body-bias step is raised or lowered. -/
  | bodyBiasStep (l : LaneId) (island : Fin 9)
  /-- `SLACK_ESTIMATE` (R548): Once per long cycle the planner estimates remaining ageing slack. -/
  | slackEstimate (l : LaneId)
  /-- `SCRUB_ACCESS` (R556): The scrubber reads, corrects and writes back a word or codeword. -/
  | scrubAccess (l : Option LaneId) (region : Nat) (addr : Nat) (code : CodeResult) (pass : Nat) (part : Nat) (demand : Bool)
  /-- `MEM_REQUEST` (R560): A management memory request on Q13 is served in rounds and answered on Q14. -/
  | memRequest (l : LaneId) (reqs : List MemAccess)
  /-- `MGMT_ACCESS` (R41): A management-core access outside the permitted regions ends with a bus error. -/
  | mgmtAccess (l : LaneId) (core : Fin 4) (addr : Nat) (len : Nat) (wdata : Option Bytes)
  /-- `REGISTER_WRITE` (R17): A write to a register without a row of its own acts by its field access codes. -/
  | registerWrite (l : LaneId) (addr : Nat) (w : Nat)
  /-- `REGISTER_READ_CLEAR` (R17): A read of an RC register returns and clears its value. -/
  | registerReadClear (l : LaneId) (addr : Nat)
  /-- `CYCLE_LO_READ` (R49): A read of PMU_CYCLE_LO latches PMU_CYCLE_HI. -/
  | cycleLoRead (l : LaneId)
  /-- `OFFSET_LO_READ` (R166): A read of BLF_OFFSET_LO latches BLF_OFFSET_HI. -/
  | offsetLoRead (l : LaneId)
  /-- `ERR_ADDR_LO_READ` (R563): A read of PMU_MEM_ERR_ADDR_LO latches the high address bits. -/
  | errAddrLoRead (l : LaneId)
  /-- `CNT_VALUE_LOW_READ` (R521): A read of the low counter of a chained pair latches the high counter. -/
  | cntValueLowRead (l : LaneId) (k : Fin 64)
  /-- `BW_WINDOW_UPDATE` (R526): At each long-cycle boundary the bandwidth windows change. -/
  | bwWindowUpdate
  /-- `KEEP_RECORD_ENQUEUE` (R489): A record enters the Keep queue, or is dropped when the queue is full. -/
  | keepRecordEnqueue (src : Option LaneId) (typ : Nat) (integrity : Bool) (payload : Bytes)
  /-- `FLASH_UNIT_DONE` (R486): A flash program or erase unit completes and the next unit of highest priority starts. -/
  | flashUnitDone (ok : Bool)
  /-- `TALLY_PERIODIC` (R487): Every 360 s Keep writes a periodic TALLY entry. -/
  | tallyPeriodic
  /-- `SUMMARY_WRITE` (R498): Every 3,600 s Keep writes the next SUMMARY slot and HISTOGRAM records. -/
  | summaryWrite
  /-- `SECTOR_REFRESH` (R501): Every 10 s one aged sector is copied, rewritten and verified. -/
  | sectorRefresh
  /-- `KEEP_HISTOGRAM_SAMPLE` (R496): At each long-cycle boundary Keep adds to the lifetime histograms and extremes. -/
  | keepHistogramSample
  /-- `LANTERN_UPDATE_START` (R510): An update starts, fixing band, waveforms and target, and the pump is raised. -/
  | lanternUpdateStart
  /-- `PUMP_RAILS_READY` (R505): All bias rails are in range and the first frame is driven. -/
  | pumpRailsReady
  /-- `PUMP_RAIL_FAULT` (R505): A rail leaving its range ends the update and sets PUMP_FAULT. -/
  | pumpRailFault
  /-- `LANTERN_UPDATE_END` (R510): The last frame ends; the book and identifier are updated and DISPLAYED may be set. -/
  | lanternUpdateEnd
  /-- `PANEL_TEMP_SAMPLE` (R511): The panel temperature is read once per second and the band chosen. -/
  | panelTempSample (t : Int)
  /-- `STATUS_RENDER` (R512): The Watchtower renders the status screen and requests an update if it changed. -/
  | statusRender
  /-- `BOOK_SAVE` (R509): Every 3,600 s the DC-balance book is written to the next LANTERN slot. -/
  | bookSave
  /-- `NODE_REFERENCE_RECEIVE` (R568): A node steers its tick to a reference frame and may commit a pending matrix. -/
  | nodeReferenceReceive (net : Fin 4) (frame : Bytes) (sofNs : Int)
  /-- `NODE_HOLDOVER_EXPIRE` (R569): After HOLDOVER_CYC cycles without reference a node becomes UNLOCKED. -/
  | nodeHoldoverExpire
  /-- `NODE_TIMING_FALLBACK` (R571): Without reference frames a node switches to the pending bit timing and back. -/
  | nodeTimingFallback
  /-- `NODE_COMMAND_RECEIVE` (R572): A node applies a valid newer command and sends the drive command frame. -/
  | nodeCommandReceive (net : Fin 4) (ident : Nat) (d : TimedData)
  /-- `DRIVE_CMD_RESEND` (R573): At tick 15,000 of a cycle without a command the node resends the drive frame. -/
  | driveCmdResend
  /-- `CMD_HOLD_TIMEOUT` (R574): After CMD_HOLD_MS without refresh CMD_TIMEOUT holds and TIMEOUT_ACTION applies. -/
  | cmdHoldTimeout
  /-- `RAMP_STEP` (R575): Every 20 ms the node output steps toward zero or toward the command. -/
  | rampStep
  /-- `LANE_SUPPLY_LOSS` (R400): A lane's core supply fails, so the lane stops, its gated transmitters go recessive and its digest, mirror and bridge traffic cease. -/
  | laneSupplyLoss (l : LaneId)
  /-- `PLL_LOSS_OF_LOCK` (R61): An island PLL loses lock, its clock may stop, CLK_LOCK clears and a CLOCK violation is recorded at once. -/
  | pllLossOfLock (l : LaneId) (island : Fin 9) (stops : Bool)
  /-- `TOKEN_HOLD_END` (R443): At the end of tick a + 1 a held TOKEN_REQUEST becomes decidable at the next visit of its channel. -/
  | tokenHoldEnd (c : Fin 4)
  /-- `EXC_FAULT` (R609): The resolver excitation stays more than 10 % from EXC_MV for 10 ms, or draws over 25 mA, and all resolver inputs of the lane are faulted. -/
  | excFault (l : LaneId)
  /-- `CHAIN_FAULT` (R611): An antenna feed current below 5 mA or above 80 mA for 100 ms, or a chain PLL unlock, sets CHAIN_FAULT for the chains of that antenna. -/
  | chainFault (ant : Fin 2) (pll : Option Chain)
  /-- `BOUNDARY_SCAN` (R593): A TAP operation on TCK, TMS and TDI shifts the boundary-scan chain and, under EXTEST, drives outputs including the STO outputs. -/
  | boundaryScan (op : JtagOp)
  deriving DecidableEq, Repr

end Sys2Proof
end

