-- ==== Sys2Proof/Config.lean ====
section
/-! DEFINITION. What an implementation fixes and the values the spec leaves open: opaque constants that no proof can see through. -/

namespace Sys2Proof.Config

/-- A fresh free value for a number the spec leaves open; State.free is advanced at each use (log entry 2). -/
opaque freeNat : Nat → Nat
/-- A fresh free rational for a number the spec leaves open; State.free is advanced at each use (log entry 2). -/
opaque freeRat : Nat → ℚ

/-- The velocity of an aiding frame, north and east, of a cycle with a combined position, no combined velocity and no prediction: the spec states none (R201, log entry 67). -/
opaque aidVelocity : Nat → Nat → ℚ

/-- Position (axis 0 to 2, earth-fixed, m), velocity (m/s), clock error (s) and its drift of a satellite, by system, PRN and instant in ns of device time:
what its broadcast ephemeris gives by the interface document of its system, which the spec does not hold (R134, log entry 11). -/
opaque satPos : Nat → Nat → ℚ → Nat → ℚ
opaque satVel : Nat → Nat → ℚ → Nat → ℚ
opaque satClock : Nat → Nat → ℚ → ℚ
opaque satDrift : Nat → Nat → ℚ → ℚ
/-- Oculus's estimators, which the spec names and does not give (log entry 11): by the number of the epoch and the measurements they take. The navigation
solution of an antenna: 0 latitude and 1 longitude in 10^-9 degree, 2 height, 3 to 5 velocity north, east and down, 6 standard deviation, 7 HDOP × 100. -/
opaque navSolution : Nat → Nat → List (List ℚ) → Nat → ℚ
/-- The receiver clock: 0 offset from GPS time, m; 1 drift, m/s; 2 and 3 inter-system bias of Galileo and BeiDou, m; 4 standard deviation, ns (R127). -/
opaque receiverClock : Nat → List (List ℚ) → Nat → ℚ
/-- The baseline, with integer ambiguities fixed or sought: 0 to 2 north, east, down, m; 3 the ratio of R147; 4 standard deviation of its azimuth, degrees. -/
opaque baseline : Nat → Bool → List (List ℚ) → Nat → ℚ
/-- The delta range of a slot whose mode needs a phase that was not locked at its previous epoch: the spec states none (R134, log entry 11). -/
opaque deltaRange : Nat → Nat → Nat → ℚ

/-- Elementary functions in binary64: the spec names them and gives no rounding (log entry 8). Angles in radians. -/
opaque sin : ℚ → ℚ
opaque cos : ℚ → ℚ
opaque atan2 : ℚ → ℚ → ℚ
opaque asin : ℚ → ℚ
opaque exp : ℚ → ℚ
opaque log : ℚ → ℚ
/-- 2 to a rational power (R548, R141) (log entry 8). -/
opaque exp2 : ℚ → ℚ
/-- The fifth root of a positive number (R548) (log entry 8). -/
opaque root5 : ℚ → ℚ
/-- The conversion of degrees to radians in binary64 (log entry 8). -/
opaque pi : ℚ

/-- What stands for the infinities and NaNs of IEEE 754, which are no rational numbers: a quotient by zero, a square root of a negative number, a result
beyond the largest finite number, and one in a binary32 or binary64 field of a table (log entry 7). -/
opaque divByZero : ℚ → ℚ
opaque sqrtNeg : ℚ → ℚ
opaque beyond64 : Bool → ℚ
opaque nonFinite : Nat → ℚ
/-- The inverse of a singular matrix, by its rows, row and column: the spec states none (log entry 26). -/
opaque singularInv : List (List ℚ) → Nat → Nat → ℚ

/-- D125 of an island at production test, ps, by lane number and island (R548, log entry 36): fused per part. -/
opaque d125Fac : Nat → Nat → ℚ
/-- The fused ageing coefficient of an island by lane number and island (R548). -/
opaque kFac : Nat → Nat → ℚ

/-- The taps of the half-band FIR of stage 2, fixed in a ROM whose contents the spec does not give, and the scale of the resolver's product sum (R170,
log entry 13). -/
opaque halfBandTap : Nat → ℚ
opaque demodGain : ℚ

/-- The error of a Spire reciprocal in units of the last place before R279 bounds it: by operand and result format (log entry 35). -/
opaque rcpUlp : ℚ → Nat → Int
/-- The same of a reciprocal square root, a sine and a cosine: by function (0 to 2), operand and result format (R279, log entry 35). -/
opaque unitUlp : Nat → ℚ → Nat → Int
/-- The fraction bits of an intermediate vector that a kernel multiplies a second time: by kernel (0 the column update of the factorisation, 1 the objective)
and column (R288, R293, log entry 35). -/
opaque midFmt : Nat → Nat → Nat
/-- The array of a solver structure that holds the linear cost g: the spec names the array and not its number (log entry 35). -/
opaque gArray : List (BitVec 8) → Nat
/-- Fjarub's scale of a primal variable and of a constraint row of a solver structure (R276, log entry 35). -/
opaque varScale : List (BitVec 8) → Nat → ℚ
opaque rowScale : List (BitVec 8) → Nat → ℚ

/-- Boundary-scan cells of a die (0 Watchtower, 1 Lane A, 2 Lane B, 3 Sky) and the place of an STO output's cell in the Watchtower's part of the
chain, by channel and pair: the BSDL descriptions that hold them are not in the spec (R593, log entry 47). -/
opaque scanCells : Nat → Nat
opaque stoCell : Nat → Nat → Nat
/-- The grey level of each pixel of a rendered screen, by its content, width and height: the spec states what a screen shows and not its glyphs (R512, log entry 48). -/
opaque render : List (BitVec 8) → Nat → Nat → Nat → Nat

/-- The bytes of Spire's part of an ENGINE_PROGRAMS section (no more than the section has), and the consequence workspace a structure needs: the spec bounds both and gives
neither's layout (R275, R283, log entry 51). -/
opaque spireProgram : List (BitVec 8) → Nat
opaque cqWorkspace : List (BitVec 8) → Nat

/-- The contents of the boot ROM, byte by byte: the spec gives its size and no contents (log entry 59). -/
opaque bootRom : Nat → BitVec 8

end Sys2Proof.Config
end

