-- ==== Sys2Proof/Machine/Bits.lean ====
section
/-! DEFINITION. Bit fields, little-endian fields of byte strings (R13), two's complement, saturation, and the CRC-32C and CRC-16 checks the frames carry. -/

namespace Sys2Proof.Machine

/-- Byte `o` of a byte string as a number; a byte beyond the end reads as 0. -/
def u8 (b : Bytes) (o : Nat) : Nat := (b.getD o 0).toNat
/-- Little-endian 16-bit field at offset `o` (R13). -/
def u16 (b : Bytes) (o : Nat) : Nat := u8 b o + 256 * u8 b (o + 1)
/-- Little-endian 32-bit field at offset `o` (R13). -/
def u32 (b : Bytes) (o : Nat) : Nat := u16 b o + 65536 * u16 b (o + 2)
/-- Little-endian 48-bit field at offset `o` (R13). -/
def u48 (b : Bytes) (o : Nat) : Nat := u32 b o + 2 ^ 32 * u16 b (o + 4)
/-- Little-endian 64-bit field at offset `o` (R13). -/
def u64 (b : Bytes) (o : Nat) : Nat := u32 b o + 2 ^ 32 * u32 b (o + 4)

/-- The two's complement value of the low `w` bits of `n` (R14). -/
def toSigned (w n : Nat) : Int :=
  let m := n % 2 ^ w
  if m < 2 ^ (w - 1) then (m : Int) else (m : Int) - (2 : Int) ^ w

/-- The stored two's complement bits of `i` in `w` bits (R14). -/
def ofSigned (w : Nat) (i : Int) : Nat := (i % (2 : Int) ^ w).toNat

def s8  (b : Bytes) (o : Nat) : Int := toSigned 8 (u8 b o)
def s16 (b : Bytes) (o : Nat) : Int := toSigned 16 (u16 b o)
def s32 (b : Bytes) (o : Nat) : Int := toSigned 32 (u32 b o)
def s64 (b : Bytes) (o : Nat) : Int := toSigned 64 (u64 b o)

/-- Bits `hi` down to `lo` of `n` (R12). -/
def bitsOf (hi lo n : Nat) : Nat := n / 2 ^ lo % 2 ^ (hi + 1 - lo)
/-- Bit `i` of `n` as a truth value. -/
def bitOf (i n : Nat) : Bool := n / 2 ^ i % 2 = 1
/-- 1 for true, 0 for false. -/
def b2n (b : Bool) : Nat := if b then 1 else 0
/-- A one-bit field placed at bit `i` of a register word. -/
def at1 (i : Nat) (b : Bool) : Nat := b2n b * 2 ^ i
/-- A field `v` of width `w` placed at bit `lo` of a register word. -/
def atF (lo w v : Nat) : Nat := v % 2 ^ w * 2 ^ lo

/-- The little-endian bytes of `n` in `k` bytes (R13). -/
def leBytes : Nat → Nat → Bytes
  | 0, _ => []
  | k + 1, n => BitVec.ofNat 8 n :: leBytes k (n / 256)

/-- The little-endian bytes of a signed number in `k` bytes (R13, R14). -/
def leSigned (k : Nat) (i : Int) : Bytes := leBytes k (ofSigned (8 * k) i)

/-- `n` zero bytes. -/
def zeroBytes (n : Nat) : Bytes := List.replicate n 0

/-- `n` bytes from offset `o`; what lies beyond the end is absent. -/
def sliceB (b : Bytes) (o n : Nat) : Bytes := (b.drop o).take n

/-- `b` padded with zero bytes up to a length of `n`. -/
def padTo (n : Nat) (b : Bytes) : Bytes := b ++ zeroBytes (n - b.length)

/-- `b` padded with zero bytes to a multiple of `m`. -/
def padMul (m : Nat) (b : Bytes) : Bytes := b ++ zeroBytes ((m - b.length % m) % m)

/-- Write `d` over `b` from offset `o`; a gap beyond the end is filled with zero bytes. -/
def patchB (b : Bytes) (o : Nat) (d : Bytes) : Bytes :=
  padTo o (b.take o) ++ d ++ b.drop (o + d.length)

/-- Every byte from `o`, `n` of them, is zero. -/
def allZero (b : Bytes) (o n : Nat) : Bool := (sliceB b o n).all (· == 0)

/-- Saturating addition to a limit, as the counters of the field maps saturate. -/
def satAdd (limit a b : Nat) : Nat := min limit (a + b)

/-- Clamp an integer between two bounds. -/
def clampI (lo hi x : Int) : Int := max lo (min hi x)
/-- Clamp a rational between two bounds. -/
def clampQ (lo hi x : ℚ) : ℚ := max lo (min hi x)

/-- The 32-bit value `a` is later than `b` (R47). -/
def later32 (a b : Nat) : Bool :=
  let d := (a + 2 ^ 32 - b % 2 ^ 32) % 2 ^ 32
  decide (1 ≤ d) && decide (d ≤ 2 ^ 31 - 1)

/-- One step of the reflected CRC-32C over a bit, polynomial 0x82F6_3B78. -/
def crc32cBit (c : BitVec 32) : BitVec 32 :=
  if c.getLsbD 0 then (c >>> 1) ^^^ 0x82F63B78#32 else c >>> 1

def crc32cByte (c : BitVec 32) (b : Byte) : BitVec 32 :=
  crc32cBit (crc32cBit (crc32cBit (crc32cBit (crc32cBit (crc32cBit (crc32cBit (crc32cBit
    (c ^^^ b.setWidth 32))))))))

/-- CRC-32C of a byte string: initial value and final complement all ones (log entry 6). -/
def crc32c (b : Bytes) : Nat := ((b.foldl crc32cByte 0xFFFFFFFF#32) ^^^ 0xFFFFFFFF#32).toNat

/-- `f` applied to element `i` of a list; nothing changes beyond the end. -/
def listMod {α : Type} (l : List α) (i : Nat) (f : α → α) : List α :=
  match l, i with
  | [], _ => []
  | x :: xs, 0 => f x :: xs
  | x :: xs, i + 1 => x :: listMod xs i f

/-- `f` applied to one element of a fixed array. -/
def vmod {α : Type} {n : Nat} (v : Vector α n) (i : Fin n) (f : α → α) : Vector α n :=
  v.set i (f v[i])

/-- Element `i` of a fixed array, or the default beyond its end. -/
def vget {α : Type} [Inhabited α] {n : Nat} (v : Vector α n) (i : Nat) : α :=
  if h : i < n then v[i] else default

/-- `f` applied to element `i` of a fixed array; nothing changes beyond its end. -/
def vmodN {α : Type} {n : Nat} (v : Vector α n) (i : Nat) (f : α → α) : Vector α n :=
  if h : i < n then v.set i (f v[i]) else v

/-- The value of the first pair with key `k`. -/
def lookupD {α : Type} (l : List (Nat × α)) (k : Nat) (d : α) : α :=
  match l.find? (·.1 == k) with
  | some p => p.2
  | none => d

/-- Replace or add the pair with key `k`. -/
def upsert {α : Type} (l : List (Nat × α)) (k : Nat) (v : α) : List (Nat × α) :=
  if l.any (·.1 == k) then l.map (fun p => if p.1 == k then (k, v) else p) else l ++ [(k, v)]

end Sys2Proof.Machine
end

