-- ==== Sys2Proof/Machine/Num.lean ====
section
/-! DEFINITION. Exact rationals with explicit rounding: to an integer, to a fixed-point format (R14), and to IEEE 754 binary32 and binary64. -/

namespace Sys2Proof.Machine

/-- 2 to an integer power. -/
def pow2 (k : Int) : ℚ := if 0 ≤ k then ((2 ^ k.toNat : Nat) : ℚ) else 1 / ((2 ^ (-k).toNat : Nat) : ℚ)

/-- Largest integer at or below `q`. -/
def floorQ (q : ℚ) : Int := q.num / (q.den : Int)
/-- Smallest integer at or above `q`. -/
def ceilQ (q : ℚ) : Int := -((-q.num) / (q.den : Int))
/-- Nearest integer, a tie away from zero (R113). -/
def roundAway (q : ℚ) : Int := if 0 ≤ q then floorQ (q + 1 / 2) else -(floorQ (-q + 1 / 2))
/-- Nearest integer, a tie to the even one. -/
def roundEven (q : ℚ) : Int :=
  let f := floorQ q
  let r := q - (f : ℚ)
  if r < 1 / 2 then f else if 1 / 2 < r then f + 1 else if f % 2 = 0 then f else f + 1

/-- Absolute value of a rational. -/
def absQ (q : ℚ) : ℚ := if q < 0 then -q else q
/-- The larger of two rationals. -/
def maxQ (a b : ℚ) : ℚ := if a < b then b else a
/-- The smaller of two rationals. -/
def minQ (a b : ℚ) : ℚ := if b < a then b else a
/-- -1, 0 or 1. -/
def signQ (q : ℚ) : ℚ := if q < 0 then -1 else if 0 < q then 1 else 0

/-- The exponent `e` with 2^e ≤ |q| < 2^(e+1), for q other than 0. -/
def expQ (q : ℚ) : Int :=
  let a := absQ q
  let e0 : Int := (Nat.log2 a.num.natAbs : Int) - (Nat.log2 a.den : Int)
  if a < pow2 e0 then e0 - 1 else e0

/-- Round to nearest, ties to even, with `p` significant bits and least exponent `emin` of the last place. -/
def roundSig (p : Nat) (emin : Int) (q : ℚ) : ℚ :=
  if q = 0 then 0
  else
    let u := max (expQ q - (p : Int) + 1) emin
    ((roundEven (q / pow2 u) : Int) : ℚ) * pow2 u

/-- IEEE 754 binary64, round to nearest even (R190, R241). A result beyond the largest finite number, an infinity of the format, is an open value (log
entry 7). -/
def f64 (q : ℚ) : ℚ :=
  let r := roundSig 53 (-1074) q
  if 2 ^ 1024 * r.den ≤ r.num.natAbs then Config.beyond64 (decide (r < 0)) else r
/-- IEEE 754 binary32, round to nearest even. -/
def f32 (q : ℚ) : ℚ := roundSig 24 (-149) q

/-- The value of a binary32 word; none for an infinity or a NaN. -/
def ofBits32 (w : Nat) : Option ℚ :=
  let s : ℚ := if bitOf 31 w then -1 else 1
  let e := bitsOf 30 23 w
  let m := bitsOf 22 0 w
  if e = 255 then none
  else if e = 0 then some (s * (m : ℚ) * pow2 (-149))
  else some (s * ((m + 2 ^ 23 : Nat) : ℚ) * pow2 ((e : Int) - 150))

/-- The value of a binary64 word; none for an infinity or a NaN. -/
def ofBits64 (w : Nat) : Option ℚ :=
  let s : ℚ := if bitOf 63 w then -1 else 1
  let e := bitsOf 62 52 w
  let m := bitsOf 51 0 w
  if e = 2047 then none
  else if e = 0 then some (s * (m : ℚ) * pow2 (-1074))
  else some (s * ((m + 2 ^ 52 : Nat) : ℚ) * pow2 ((e : Int) - 1075))

/-- The binary32 word of a value, rounded to nearest even. -/
def toBits32 (q : ℚ) : Nat :=
  let r := f32 q
  if r = 0 then 0
  else
    let s := if r < 0 then 2 ^ 31 else 0
    let a := absQ r
    let e := expQ a
    if e < -126 then s + (floorQ (a * pow2 149)).toNat
    else s + (e + 127).toNat * 2 ^ 23 + ((floorQ (a * pow2 (23 - e))).toNat - 2 ^ 23)

/-- The binary64 word of a value, rounded to nearest even. -/
def toBits64 (q : ℚ) : Nat :=
  let r := f64 q
  if r = 0 then 0
  else
    let s := if r < 0 then 2 ^ 63 else 0
    let a := absQ r
    let e := expQ a
    if e < -1022 then s + (floorQ (a * pow2 1074)).toNat
    else s + (e + 1023).toNat * 2 ^ 52 + ((floorQ (a * pow2 (52 - e))).toNat - 2 ^ 52)

/-- A binary32 field of a table; an infinity or a NaN there is an open value (log entry 7). -/
def fl32 (b : Bytes) (o : Nat) : ℚ := (ofBits32 (u32 b o)).getD (Config.nonFinite (u32 b o))
/-- A binary64 field of a table; an infinity or a NaN there is an open value (log entry 7). -/
def fl64 (b : Bytes) (o : Nat) : ℚ := (ofBits64 (u64 b o)).getD (Config.nonFinite (u64 b o))

/-- The stored integer of a value in Qm.n: nearest, ties away from zero, saturating (R14, R113). -/
def toQ (m n : Nat) (q : ℚ) : Int :=
  clampI (-(2 : Int) ^ (m + n - 1)) ((2 : Int) ^ (m + n - 1) - 1) (roundAway (q * pow2 n))
/-- The value of a stored integer with `n` fraction bits (R14). -/
def ofQ (n : Nat) (i : Int) : ℚ := (i : ℚ) / pow2 n
/-- A Q1.15 fraction of rated thrust: the largest one is full rated thrust (R14). -/
def ofThrust (i : Int) : ℚ := if i = 32767 then 1 else ofQ 15 i
/-- Q16.16, nearest, ties away, saturating (R113). -/
def toQ16 (q : ℚ) : Int := toQ 16 16 q
/-- A Q16.16 field of a byte string as a value (R464). -/
def q16 (b : Bytes) (o : Nat) : ℚ := ofQ 16 (s32 b o)
/-- The 4 bytes of a value in Q16.16. -/
def leQ16 (q : ℚ) : Bytes := leSigned 4 (toQ16 q)

/-- Correctly rounded binary64 sum, difference, product and quotient (R241); a quotient by zero is an open value (log entry 7). -/
def fadd (a b : ℚ) : ℚ := f64 (a + b)
def fsub (a b : ℚ) : ℚ := f64 (a - b)
def fmul (a b : ℚ) : ℚ := f64 (a * b)
def fdiv (a b : ℚ) : ℚ := if b = 0 then Config.divByZero a else f64 (a / b)

/-- Integer square root, rounded down, by binary search over `k` bits. -/
def isqrtAux : Nat → Nat → Nat → Nat
  | 0, _, r => r
  | k + 1, n, r => let t := r + 2 ^ k; if t * t ≤ n then isqrtAux k n t else isqrtAux k n r

def isqrt (n : Nat) : Nat := isqrtAux (Nat.log2 n / 2 + 1) n 0

/-- Correctly rounded binary64 square root of a value at or above 0; that of a negative one is an open value (log entry 7). -/
def fsqrt (q : ℚ) : ℚ :=
  if q = 0 then 0
  else if q < 0 then Config.sqrtNeg q
  else
    -- scale so that the integer root holds at least 64 significant bits, then keep a sticky half bit
    let e := expQ q
    let k : Int := (140 - e) / 2
    let x := q * pow2 (2 * k)
    let n := (floorQ x).toNat
    let r := isqrt n
    let sticky : ℚ := if ((r * r : Nat) : ℚ) = x then 0 else 1 / 2
    f64 (((r : ℚ) + sticky) * pow2 (-k))

/-- An angle in degrees taken into 0 inclusive to 360 exclusive (R7). -/
def wrap360 (q : ℚ) : ℚ := q - 360 * ((floorQ (q / 360) : Int) : ℚ)
/-- An angle difference in degrees taken into -180 inclusive to 180 exclusive. -/
def wrap180 (q : ℚ) : ℚ := wrap360 (q + 180) - 180

/-- The same of a binary64 angle as a binary64 number (R190, R241). -/
def fwrap360 (q : ℚ) : ℚ := let r := f64 (wrap360 q); if r = 360 then 0 else r
def fwrap180 (q : ℚ) : ℚ := let r := f64 (wrap180 q); if r = 180 then -180 else r

/-- The Q16.16 integer of an angle from 0 to 360 degrees exclusive: one that rounds to 360 is 0 (R7). -/
def degQ16 (q : ℚ) : Int := if toQ16 q = 360 * 65536 then 0 else toQ16 q

/-- The sum of a list of rationals, from the left. -/
def sumQ (l : List ℚ) : ℚ := l.foldl (· + ·) 0

end Sys2Proof.Machine
end

