-- ==== Sys2Proof/Machine/Effect.lean ====
section
/-! DEFINITION. What the block sends out, and the side effects a unit asks the rest of the block for: a count, a Keep record, a notification, an output. -/

namespace Sys2Proof.Machine

/-- Something that leaves the block on a pin, a port or a link. The outbox of State lists them in order of sending (log entry 4). -/
inductive Output where
  /-- A UDP datagram from port 47960 (R432). -/
  | datagram (p : EthPort) (dst : Source) (raw : Bytes)
  /-- An IGMPv2 report that joins a multicast group (R110). -/
  | igmp (p : EthPort) (group : Nat)
  /-- Bytes returned on the SPI service port (R434). -/
  | spi (raw : Bytes)
  /-- A CAN FD frame on network 0 to 3: T-A, T-B, X-A, X-B (R329). -/
  | can (lane : LaneId) (net : Nat) (ident : Nat) (xtd : Bool) (data : Bytes)
  /-- A safe message of one safety channel on S-A or S-B (R375). -/
  | safeMsg (chan : SafeChan) (net : Nat) (data : Bytes)
  /-- A frame of the Baique ring out of a port in one direction (R422). -/
  | ring (dir : RingDir) (frame : Bytes)
  /-- A frame over the lane bridge from a lane, with its priority of R34. -/
  | bridge (src : LaneId) (prio : Nat) (body : Bytes)
  /-- A frame from a lane to the Sky die (R135, R136). -/
  | skyLink (src : LaneId) (body : Bytes)
  /-- A PTP message on an Ethernet port (R165). -/
  | ptp (p : EthPort) (typ : Nat) (body : Bytes)
  /-- A rising edge of PPS_A or PPS_B at a device time in ns, and its width in µs (R163). -/
  | ppsEdge (lane : LaneId) (atNs : ℚ) (widthUs : Nat)
  /-- The resolver excitation output of a lane: its amplitude in mV RMS, 0 off, and the lag of the demodulation reference in 0.1 degree (R168). -/
  | excite (lane : LaneId) (mv : Nat) (phase : Nat)
  /-- A safe-torque output driven to a level (R359). -/
  | sto (chan : SafeChan) (pair : Nat) (energised : Bool)
  /-- A frame driven on the Lantern panel (R508). -/
  | panel (frame : Nat)
  /-- TDO level under boundary scan (R593). -/
  | tdo (level : Bool)
  deriving DecidableEq, Repr

/-- What one unit asks of the others. -/
inductive Effect where
  /-- `n` occurrences of event `ev` with qualifier `qual` (R519, R524). -/
  | count (ev qual n : Nat)
  /-- A record for Keep (R489): type, integrity (R490), payload. -/
  | keep (typ : Nat) (integrity : Bool) (payload : Bytes)
  /-- A notification to the subscribed channels (R453); `tag` names the channel and TAG of the command it concerns. -/
  | note (code : Nat) (tag : Option (Nat × Nat)) (payload : Bytes)
  /-- An output. -/
  | out (o : Output)
  /-- A certificate violation (R61): kind, island, slot, excess. -/
  | viol (kind island slot excess : Nat)
  /-- Traffic through a port of Table 20.6: bytes in and out, frames, frames discarded (R526). -/
  | bw (port inBytes outBytes frames drops : Nat)
  /-- A condition of an alarm that occurred in this cycle (R86). -/
  | alarm (ident : Nat)
  deriving DecidableEq, Repr

end Sys2Proof.Machine
end

