-- ==== Sys2Proof/Machine/Image.lean ====
section
/-! DEFINITION. Reading a schedule image: header (Table 3.1), directory (Table 3.4), sections (Table 3.5), certificate header (Table 3.6), slots (Table 3.7), crossings (Table 3.8). -/

namespace Sys2Proof.Machine

/-- IMAGE_SIZE, header bytes 8 to 11. -/
def imgSize (i : Bytes) : Nat := u32 i 8
/-- GENERATION, header bytes 12 to 15. -/
def imgGen (i : Bytes) : Nat := u32 i 12
/-- VESSEL_ID, header bytes 16 to 19. -/
def imgVessel (i : Bytes) : Nat := u32 i 16
/-- CONTINUITY, header bytes 20 to 23. -/
def imgContinuity (i : Bytes) : Nat := u32 i 20
/-- SECTION_COUNT, header bytes 24 and 25. -/
def imgSections (i : Bytes) : Nat := u16 i 24
/-- TIER_MASK, header byte 26. -/
def imgTierMask (i : Bytes) : Nat := u8 i 26
/-- FLAGS.ENGINEERING (Table 3.2). -/
def imgEngineering (i : Bytes) : Bool := bitOf 0 (u8 i 27)
/-- FLAGS.MULTI_MODULE (Table 3.2). -/
def imgMulti (i : Bytes) : Bool := bitOf 1 (u8 i 27)
/-- FLAGS.NO_AUTO_ROLLBACK (Table 3.2). -/
def imgNoAutoRollback (i : Bytes) : Bool := bitOf 2 (u8 i 27)
/-- PROBATION in long cycles, header bytes 28 and 29. -/
def imgProbation (i : Bytes) : Nat := u16 i 28
/-- STAGING_CLOSE, header bytes 30 and 31. -/
def imgStagingClose (i : Bytes) : Nat := u16 i 30
/-- TARGET, header bytes 32 and 33. -/
def imgTarget (i : Bytes) : Nat := u16 i 32

/-- Whether tier `k` is present. -/
def imgTierPresent (i : Bytes) (k : Nat) : Bool := decide (k < 4) && bitOf k (imgTierMask i)
/-- The present tiers, fastest first. -/
def imgTiers (i : Bytes) : List Nat := [0, 1, 2, 3].filter (imgTierPresent i)
/-- The slowest present tier. -/
def imgSlowest (i : Bytes) : Nat := (imgTiers i).getLastD 0

/-- One directory entry (Table 3.4). -/
structure DirEntry where
  typ    : Nat
  inst   : Nat
  rsvd   : Nat
  offset : Nat
  length : Nat
  crc    : Nat
  deriving DecidableEq, Repr, Inhabited

def dirEntry (i : Bytes) (k : Nat) : DirEntry :=
  let o := 128 + 16 * k
  ⟨u16 i o, u8 i (o + 2), u8 i (o + 3), u32 i (o + 4), u32 i (o + 8), u32 i (o + 12)⟩

/-- The directory: SECTION_COUNT entries from offset 128 (R75). -/
def imgDir (i : Bytes) : List DirEntry := (List.range (imgSections i)).map (dirEntry i)

/-- The bytes of the section of a type and tier; empty when the image has none. -/
def imgSectionAt (i : Bytes) (typ inst : Nat) : Bytes :=
  match (imgDir i).find? (fun e => e.typ == typ && e.inst == inst) with
  | some e => sliceB i e.offset e.length
  | none => []

/-- The bytes of a section that is not per tier (INSTANCE 0xFF). -/
def imgSection (i : Bytes) (typ : Nat) : Bytes := imgSectionAt i typ 0xFF

/-- Whether the image holds a section of the type. -/
def imgHas (i : Bytes) (typ : Nat) : Bool := (imgDir i).any (·.typ == typ)

/-! Section types of Table 3.5. -/
def secCertHeader := 0x0001
def secSlotTable := 0x0002
def secCrossings := 0x0003
def secPlan := 0x0004
def secPrograms := 0x0005
def secChannels := 0x0010
def secParser := 0x0011
def secOculus := 0x0018
def secTime := 0x0019
def secFilter := 0x0020
def secFusion := 0x0028
def secObserver := 0x0030
def secVessel := 0x0031
def secModes := 0x0038
def secGains := 0x0039
def secRegions := 0x003A
def secThrusters := 0x0040
def secAlloc := 0x0041
def secGroups := 0x0042
def secStart := 0x0043
def secMatrix := 0x0048
def secCanFilters := 0x0049
def secAlarms := 0x0050
def secWaveforms := 0x0058
def secScreens := 0x0059
def secRedundancy := 0x0060

/-- One SLOT_TABLE entry (Table 3.7). -/
structure Slot where
  slot     : Nat
  island   : Nat
  cls      : Nat
  start    : Nat
  stop     : Nat
  clocks   : Nat
  iter     : Nat
  work     : Nat
  cores    : Nat
  purpose  : Nat
  deriving DecidableEq, Repr, Inhabited

def slotAt (b : Bytes) (k : Nat) : Slot :=
  let o := 32 * k
  ⟨u16 b o, u8 b (o + 2), u8 b (o + 3), u16 b (o + 4), u16 b (o + 6), u32 b (o + 8), u32 b (o + 12),
    u16 b (o + 16), u8 b (o + 18), u8 b (o + 19)⟩

/-- The slot table of one tier. -/
def imgSlots (i : Bytes) (tier : Nat) : List Slot :=
  let b := imgSectionAt i secSlotTable tier
  (List.range (b.length / 32)).map (slotAt b)

/-- The first slot of a PURPOSE at a tier. -/
def imgSlotFor (i : Bytes) (tier purpose : Nat) : Option Slot :=
  (imgSlots i tier).find? (·.purpose == purpose)

/-- The slot with a given number at a tier. -/
def imgSlotNum (i : Bytes) (tier n : Nat) : Option Slot :=
  (imgSlots i tier).find? (·.slot == n)

/-- The last slot of a PURPOSE at a tier. -/
def imgLastSlotFor (i : Bytes) (tier purpose : Nat) : Option Slot :=
  ((imgSlots i tier).filter (·.purpose == purpose)).getLast?

/-- The END_TICK of the output stage, PURPOSE 8: the same at every tier (R69). -/
def imgOutputEnd (i : Bytes) : Nat :=
  match imgTiers i with
  | [] => 0
  | k :: _ => match imgLastSlotFor i k 8 with
    | some s => s.stop
    | none => 0

/-- ITER_LIMIT of the certificate header (Table 3.6). -/
def imgIterLimit (i : Bytes) : Nat := u16 (imgSection i secCertHeader) 6
/-- STEPS_PER_GROUP of the certificate header. -/
def imgStepsPerGroup (i : Bytes) : Nat := u8 (imgSection i secCertHeader) 12
/-- GROUP_COUNT of the certificate header. -/
def imgGroupCount (i : Bytes) : Nat := u8 (imgSection i secCertHeader) 13
/-- The LONG_CYCLE_PLAN byte of a phase: 0 self-test, 1 to 8 a failure group. -/
def imgPlan (i : Bytes) (phase : Nat) : Nat := u8 (imgSection i secPlan) phase

/-- One CERT_CROSSINGS entry (Table 3.8). -/
structure Crossing where
  queue    : Nat
  entries  : Nat
  producer : Nat
  consumer : Nat
  tick     : Nat
  peak     : Nat
  deriving DecidableEq, Repr, Inhabited

def imgCrossings (i : Bytes) (tier : Nat) : List Crossing :=
  let b := imgSectionAt i secCrossings tier
  (List.range (b.length / 12)).map fun k =>
    let o := 12 * k
    ⟨u8 b o, u8 b (o + 1), u16 b (o + 2), u16 b (o + 4), u16 b (o + 6), u8 b (o + 8)⟩

/-! The REDUNDANCY section (Table 15.10). Without an image the defaults of the table apply. -/
def redField (i : Option Bytes) (f : Bytes → Nat) (dflt : Nat) : Nat :=
  match i with
  | some b => f (imgSection b secRedundancy)
  | none => dflt
def redModules (i : Option Bytes) := redField i (u8 · 2) 1
def redExtVote (i : Option Bytes) := redField i (u8 · 3) 0
def redPrefLane (i : Option Bytes) := redField i (u8 · 4) 0
def redPrefModule (i : Option Bytes) := redField i (u8 · 5) 0
def redTakeback (i : Option Bytes) := redField i (u8 · 6) 1
def redMismatchCyc (i : Option Bytes) := redField i (u8 · 7) 3
def redHoldoff (i : Option Bytes) := redField i (u16 · 8) 600
def redSyncCyc (i : Option Bytes) := redField i (u16 · 10) 50
def redStrikeLimit (i : Option Bytes) := redField i (u8 · 12) 3
def redRejoinMax (i : Option Bytes) := redField i (u8 · 13) 3
def redVoteLoss (i : Option Bytes) := redField i (u8 · 14) 3
def redVoteTake (i : Option Bytes) := redField i (u8 · 15) 6
def redExtFilterMs (i : Option Bytes) := redField i (u16 · 16) 10

/-- One ALARM_TABLE entry (Table 3.12). -/
structure AlarmEntry where
  ident     : Nat
  source    : Nat
  severity  : Nat
  arg       : Nat
  raiseCyc  : Nat
  clearCyc  : Nat
  flags     : Nat
  threshold : Int
  deriving DecidableEq, Repr, Inhabited

def imgAlarms (i : Bytes) : List AlarmEntry :=
  let b := imgSection i secAlarms
  (List.range (u16 b 0)).map fun k =>
    let o := 16 + 16 * k
    ⟨u16 b o, u8 b (o + 2), u8 b (o + 3), u16 b (o + 4), u16 b (o + 6), u16 b (o + 8), u8 b (o + 10), s32 b (o + 12)⟩

end Sys2Proof.Machine
end

