-- ==== Sys2Proof/Machine/AlarmUnit.lean ====
section
/-! DEFINITION. Alarms of one lane: the conditions in force (Tables 3.12 and 17.15), their delays, latching and acknowledgement (R86, R475, R483). -/

namespace Sys2Proof.Machine

/-- One alarm as a lane holds it. -/
structure AlarmSt where
  ident  : Nat
  source : Nat := 0
  arg    : Nat := 0
  raised : Bool := false
  acked  : Bool := false
  /-- Consecutive evaluations at which the condition held, and at which it was absent. -/
  held   : Nat := 0
  gone   : Nat := 0
  /-- Cycle of the last change. -/
  changed : Nat := 0
  deriving DecidableEq, Repr, Inhabited

/-- The built-in conditions and their default severities (Table 17.15). -/
def builtinSeverity (ident : Nat) : Option Nat :=
  if 1 ≤ ident ∧ ident ≤ 0x0F then some 3
  else match ident with
  | 0x43 => some 2 | 0x44 => some 2 | 0x45 => some 2 | 0x46 => some 2
  | 0x49 => some 1 | 0x4C => some 2 | 0x4D => some 2 | 0x4F => some 0
  | 0x50 => some 2 | 0x51 => some 2 | 0x52 => some 1 | 0x54 => some 2 | 0x55 => some 2 | 0x58 => some 2 | 0x59 => some 2
  | 0x5A => some 1 | 0x5B => some 2 | 0x5C => some 1 | 0x5E => some 1 | 0x5F => some 2 | 0x60 => some 2 | 0x61 => some 2
  | n => if 0x40 ≤ n ∧ n ≤ 0x5D then some 3 else none

def builtinIdents : List Nat := (List.range 0x62).filter fun k => (builtinSeverity k).isSome

/-- The entry of a condition: the image's, or the default one of R86 and R483. -/
def alarmEntryOf (img : Bytes) (ident : Nat) : Option AlarmEntry :=
  match (imgAlarms img).find? (·.ident == ident) with
  | some e => some e
  | none => (builtinSeverity ident).map fun s => ⟨ident, 0, s, 0, 0, 0, 4 + (if 2 ≤ s then 2 else 0), 0⟩

/-- Every condition in force, in ALARM_ID order: the table's entries and the built-in conditions without one (R86). -/
def alarmEntries (img : Bytes) : List AlarmEntry :=
  builtinIdents.filterMap (alarmEntryOf img) ++ (imgAlarms img).filter fun e => decide (0xFF < e.ident)

/-- The ALARM notification (Table 17.14). -/
def alarmPayload (e : AlarmEntry) (event cause : Nat) : Bytes :=
  leBytes 2 e.ident ++ leBytes 1 e.severity ++ leBytes 1 event ++ leBytes 1 cause ++ [0] ++ leBytes 2 e.arg

/-- What raising, clearing or acknowledging an alarm sends and records: SEVERITY 0 is recorded only, KEEP writes the payload as an ALARM record
(Tables 3.12 and 18.3). -/
def alarmEvents (e : AlarmEntry) (event cause : Nat) : List Effect :=
  (if e.severity = 0 then [] else [.note 0xF001 none (alarmPayload e event cause)]) ++
  (if bitOf 2 e.flags then [.keep 3 (decide (2 ≤ e.severity)) (alarmPayload e event cause)] else [])

def alarmOf (l : List AlarmSt) (ident : Nat) : AlarmSt := (l.find? (·.ident == ident)).getD { ident := ident }

def setAlarm (a : AlarmSt) : List AlarmSt → List AlarmSt
  | [] => [a]
  | x :: xs => if a.ident < x.ident then a :: x :: xs else if a.ident = x.ident then a :: xs else x :: setAlarm a xs

/-- One evaluation of one alarm (R86, R475); `present` says whether the condition holds. -/
def alarmStep (e : AlarmEntry) (present : Bool) (cycle : Nat) (a : AlarmSt) : AlarmSt × List Effect :=
  let held := if present then a.held + 1 else 0
  let gone := if present then 0 else a.gone + 1
  let b : AlarmSt := { a with ident := e.ident, source := e.source, arg := e.arg, held := min 3000 held, gone := min 3000 gone }
  if a.raised then
    if !present && decide (max 1 e.clearCyc ≤ gone) && (!bitOf 0 e.flags || a.acked) then
      ({ b with raised := false, acked := false, changed := cycle }, alarmEvents e 1 0)
    else (b, [])
  else if present && decide (max 1 e.raiseCyc ≤ held) then
    ({ b with raised := true, acked := false, changed := cycle }, alarmEvents e 0 0)
  else (b, [])

/-- R86: every alarm in ALARM_ID order. -/
def alarmEval (l : List (AlarmEntry × Bool)) (cycle : Nat) (st : List AlarmSt) : List AlarmSt × List Effect :=
  l.foldl (fun acc p =>
    let r := alarmStep p.1 p.2 cycle (alarmOf acc.1 p.1.ident)
    (setAlarm r.1 acc.1, acc.2 ++ r.2)) (st, [])

/-- R475: acknowledgement of one alarm, or of every raised one (0xFFFF). Returns how many were acknowledged. -/
def alarmAck (img : Bytes) (ident cycle : Nat) (st : List AlarmSt) : List AlarmSt × Nat × List Effect :=
  let hit := st.filter fun a => a.raised && !a.acked && (ident == 0xFFFF || a.ident == ident)
  (hit.foldl (fun acc a => setAlarm { a with acked := true, changed := cycle } acc) st, hit.length,
    hit.flatMap fun a => match alarmEntryOf img a.ident with
      | some e => alarmEvents e 2 0
      | none => [])

/-- R87: alarms whose ALARM_ID, SOURCE and SOURCE_ARG are unchanged keep state and counts; any other raised alarm clears with cause IMAGE_CHANGE. -/
def alarmCommit (old : Option Bytes) (new : Bytes) (st : List AlarmSt) : List AlarmSt × List Effect :=
  let kept (a : AlarmSt) : Bool := match alarmEntryOf new a.ident with
    | some e => e.source == a.source && e.arg == a.arg
    | none => false
  (st.filter kept, (st.filter fun a => a.raised && !kept a).flatMap fun a =>
    match old.bind fun o => alarmEntryOf o a.ident with
    | some e => alarmEvents e 1 1
    | none => [])

/-- The alarms of ALARM_LIST from `first`: those not cleared (Table 17.8). -/
def alarmListed (img : Bytes) (first : Nat) (st : List AlarmSt) : List AlarmSt :=
  (st.filter fun a => a.raised && decide (first ≤ a.ident) && (alarmEntryOf img a.ident).isSome).take 127

/-- An 8-byte entry of ALARM_LIST: a LATCH alarm whose condition is absent awaits acknowledgement (log entry 38). -/
def alarmListEntry (img : Bytes) (a : AlarmSt) : Bytes :=
  match alarmEntryOf img a.ident with
  | some e => leBytes 2 a.ident ++ leBytes 1 e.severity ++
      leBytes 1 (b2n a.raised + 2 * b2n a.acked + 4 * b2n (bitOf 0 e.flags && !a.acked && decide (max 1 e.clearCyc ≤ a.gone))) ++ leBytes 4 (a.changed % 2 ^ 32)
  | none => []

/-- The raised alarms with LANTERN set, in descending severity and then ascending ALARM_ID, at most 12 (R512). -/
def alarmLantern (img : Bytes) (st : List AlarmSt) : List (Nat × Nat) :=
  let l := st.filterMap fun a => match alarmEntryOf img a.ident with
    | some e => if a.raised && bitOf 1 e.flags then some (e.severity, e.ident) else none
    | none => none
  ([3, 2, 1, 0].flatMap fun s => l.filter (·.1 == s)).take 12

/-- A condition of sources 1 to 3 on a channel: value word 0 against the threshold, an empty entry holding neither (Table 3.12, log entry 53). -/
def alarmChannel (e : AlarmEntry) (empty stale : Bool) (word0 : Nat) : Bool :=
  match e.source with
  | 1 => !empty && decide (e.threshold < toSigned 32 word0)
  | 2 => !empty && decide (toSigned 32 word0 < e.threshold)
  | 3 => stale
  | _ => false

end Sys2Proof.Machine
end

