-- ==== Sys2Proof/Machine/Pmu.lean ====
section
/-! DEFINITION. The tick generator, certificate violations, margin tiers, ageing and memory registers of one lane (chapters 2, 21 and 22): state and pure functions. -/

namespace Sys2Proof.Machine

/-- The common low byte of an island's status register (Table 1.8). Islands are numbered as PMU_VIOL_LAST.ISLAND. -/
structure IslandFlags where
  queueOvf    : Bool := false
  linkFault   : Bool := false
  slotRefused : Bool := false
  clkLock     : Bool := false
  bbActive    : Bool := false
  deriving DecidableEq, Repr, Inhabited

/-- Table 1.8 for an island at a tier. -/
def lowByte (f : IslandFlags) (tier : Nat) : Nat :=
  at1 7 f.queueOvf + at1 6 f.linkFault + at1 5 f.slotRefused + at1 4 f.clkLock + at1 3 f.bbActive + atF 0 2 tier

/-- Ageing state of one island (R544, R545). -/
structure IslandAge where
  /-- D125 of the last sample, ps. -/
  d125       : ℚ := 0
  /-- Body-bias step in force, 0 to 12. -/
  step       : Nat := 0
  /-- Cycle of the last body-bias change. -/
  lastChange : Option Nat := none
  deriving DecidableEq, Repr, Inhabited

/-- A location that needed correction in recent scrub passes (R557). -/
structure ScrubHit where
  addr     : Nat
  region   : Nat
  /-- Consecutive passes that needed correction. -/
  passes   : Nat
  /-- Pass number of the last correction. -/
  lastPass : Nat
  /-- Operating second of the last MEMORY record for the location. -/
  recorded : Option Nat
  deriving DecidableEq, Repr, Inhabited

/-- The memory registers of Tables 22.5 to 22.7. -/
structure MemRegs where
  usablePages : Nat := 0
  installed   : Nat := 0
  ranks       : Nat := 0
  trained     : Bool := false
  ueAny       : Bool := false
  ceAny       : Bool := false
  persistent  : Bool := false
  refetch     : Bool := false
  ce          : Nat := 0
  ue          : Nat := 0
  errAddr     : Nat := 0
  /-- PMU_MEM_ERR_ADDR_HI as latched by a read of the low word (R563). -/
  errHiLatch  : Nat := 0
  errInfo     : Nat := 0
  scrubPage   : Nat := 0
  scrubPasses : Nat := 0
  hits        : List ScrubHit := []
  deriving DecidableEq, Repr, Inhabited

/-- A response on Q14 (R560). Sources 0 to 3 are the management cores, 4 the DMA engine. -/
structure MemResponse where
  source : Fin 5
  addr   : Nat
  /-- None when the access ended with a bus error. -/
  data   : Option Bytes
  deriving DecidableEq, Repr, Inhabited

/-- The PMU_ window of one lane. -/
structure PmuState where
  /-- PMU_CYCLE_HI as latched by the last read of PMU_CYCLE_LO (R49). -/
  cycleHiLatch : Nat := 0
  /-- The staging-close tick has been reached in this cycle (Table 2.3). -/
  stageClosed  : Bool := false
  spareCnt : Nat := 0
  iterCnt  : Nat := 0
  exCnt    : Nat := 0
  ovrCnt   : Nat := 0
  violLast  : Nat := 0
  violCycle : Nat := 0
  /-- Kinds for the next digest, bit k for KIND k (Table 15.2), and those detected at or after this cycle's output-stage end tick, which the digest of
  the next cycle carries (R62). -/
  violDigest : Nat := 0
  violNext   : Nat := 0
  /-- A violation was detected in this cycle: CERT_VIOLATION is raised by its end (R62). -/
  violNow    : Bool := false
  /-- Violations of KIND 0 to 3 in this long cycle, for Table 15.5. -/
  violLong  : Vector Nat 4 := #v[0, 0, 0, 0]
  tier      : Nat := 0
  floor     : Nat := 0
  cause     : Nat := 0
  holdoff   : Nat := 0
  /-- The tier change that waits for a boundary and its cause (R71). -/
  pendingTier : Option (Nat × Nat) := none
  /-- The dividers of the pending tier are verified for the coming boundary (R71): those of a request made after tick 19,900 are not (R57). -/
  dividerOk   : Bool := true
  certBreached  : Bool := false
  certExhausted : Bool := false
  flags     : Vector IslandFlags 9 := Vector.replicate 9 {}
  /-- The island PLLs that run (R61); a stopped clock starts no slot. -/
  clockRuns : Vector Bool 9 := Vector.replicate 9 true
  /-- Islands whose PLL has lost lock since the lane woke (Table 15.3, code 2). -/
  pllLost   : Vector Bool 9 := Vector.replicate 9 false
  /-- Each island's clock over the last long cycle, kHz, 0 where none was measured (R82), and the sum and number of this long cycle's counts of R61. -/
  measuredKhz : Vector Nat 9 := Vector.replicate 9 0
  clockSum    : Vector Nat 9 := Vector.replicate 9 0
  clockCnt    : Vector Nat 9 := Vector.replicate 9 0
  /-- BRIDGE_LATE (R31): count, and whether one stands for the next digest. -/
  bridgeLate  : Nat := 0
  bridgeLateDigest : Bool := false
  bridgeLateLong : Nat := 0
  /-- TIME_LOST of PMU_STATUS (R161). -/
  timeLost  : Bool := false
  age       : Vector IslandAge 9 := Vector.replicate 9 {}
  slack     : Nat := 0
  slackLimit : Nat := 0
  slackModel : Bool := false
  slackTe    : Nat := 0
  /-- Long cycles of ageing measurement completed since the lane woke (R547); the lane was awake at the start of the present one, and has sampled in it. -/
  measured  : Nat := 0
  ageWhole  : Bool := false
  ageSeen   : Bool := false
  /-- Die temperature, one sample per long cycle over the last 3,600 s (R548), newest first. -/
  tjHist    : List Int := []
  tj        : Int := 25
  mem       : MemRegs := {}
  /-- The responses to the requests served last, in the order of service. -/
  q14       : List MemResponse := []
  /-- An uncorrectable error that names UNHEALTHY stands for the next digest (R559). -/
  memUnhealthy : Bool := false
  /-- An uncorrectable error since the last STANDBY_HEALTH report (R558). -/
  memErrLong : Bool := false
  /-- Bits k of the tiers for which the planner reports margin (R547). -/
  marginTiers : Nat := 0
  deriving DecidableEq, Repr, Inhabited

/-- The clock of an island at a tier, in kHz (Table 2.10, Table 1.2). -/
def tierKhz (island tier : Nat) : Nat :=
  match island with
  | 0 => [1000000, 900000, 800000, 700000].getD tier 0
  | 1 => [300000, 270000, 240000, 210000].getD tier 0
  | 2 => [400000, 360000, 320000, 280000].getD tier 0
  | 3 => [200000, 180000, 160000, 140000].getD tier 0
  | 4 => 100000
  | 5 => 80000
  | 6 => 250000
  | 7 => 400000
  | 8 => 500000
  | _ => 0

/-- The nominal period of an island at a tier, ps (R544). -/
def periodPs (island tier : Nat) : ℚ := 1000000000 / (tierKhz island tier : ℚ)

/-- The guaranteed clock, kHz: the tier frequency less 0.05 %, rounded down (R82). -/
def guaranteedKhz (island tier : Nat) : Nat := tierKhz island tier * 9995 / 10000

/-- PMU_VIOL_LAST (Table 2.7). -/
def violWord (kind island slot excess : Nat) : Nat :=
  atF 29 3 kind + atF 25 4 island + atF 15 10 slot + atF 0 15 (min excess 0x7FFF)

/-- PMU_TIER (Table 2.11). While a step is pending CAUSE is the cause of that step, as the worked boundary shows it (Table 2.15; DEDUCED, log entry
75). -/
def tierWord (p : PmuState) (slowest : Nat) : Nat :=
  at1 31 p.pendingTier.isSome + at1 30 p.certBreached + at1 29 p.certExhausted +
  atF 26 2 (p.pendingTier.getD (0, 0)).1 + atF 24 2 slowest + atF 12 12 p.holdoff +
  atF 8 4 ((p.pendingTier.map (·.2)).getD p.cause) +
  atF 2 2 p.floor + atF 0 2 p.tier

/-- PMU_VIOL_COUNT (Table 2.7). -/
def violCountWord (p : PmuState) : Nat :=
  atF 24 8 p.spareCnt + atF 16 8 p.iterCnt + atF 8 8 p.exCnt + atF 0 8 p.ovrCnt

/-- What R62 does in the PMU: record, count, CERT_BREACHED and the digest bit; `late` says that the output stage's end tick has come. -/
def pmuViolate (late : Bool) (cycle kind island slot excess : Nat) (p : PmuState) : PmuState :=
  { p with
    violLast := violWord kind island slot excess
    violCycle := cycle % 2 ^ 32
    certBreached := true
    violDigest := if late then p.violDigest else p.violDigest ||| 2 ^ kind
    violNext := if late then p.violNext ||| 2 ^ kind else p.violNext
    violNow := true
    violLong := vmodN p.violLong kind (fun n => min 15 (n + 1))
    spareCnt := if kind = 3 then satAdd 0xFF p.spareCnt 1 else p.spareCnt
    iterCnt := if kind = 2 then satAdd 0xFF p.iterCnt 1 else p.iterCnt
    exCnt := if kind = 1 then satAdd 0xFF p.exCnt 1 else p.exCnt
    ovrCnt := if kind = 0 ∨ kind = 4 ∨ kind = 5 then satAdd 0xFF p.ovrCnt 1 else p.ovrCnt }

/-- The next slower tier present in the image after `t`. -/
def nextSlower (img : Bytes) (t : Nat) : Option Nat := (imgTiers img).find? (fun k => decide (t < k))

/-- A slower tier is asked for (R71): a pending step to a tier at least as slow stands. `late` says that tick 19,900 has passed. -/
def askSlower (late : Bool) (k cause : Nat) (p : PmuState) : PmuState :=
  if (p.pendingTier.map fun q => decide (k ≤ q.1)).getD false then p else { p with pendingTier := some (k, cause), dividerOk := !late }

/-- The planner requests the next slower tier (R63, R71, R73, R546), with a cause of Table 2.11. -/
def requestSlower (img : Option Bytes) (late : Bool) (cause : Nat) (p : PmuState) : PmuState :=
  match img with
  | none => p
  | some b =>
    match nextSlower b p.tier with
    | some k => askSlower late k cause p
    | none => { p with certExhausted := true }

/-- The faster tier to which the planner may step (R71, R72): the next faster one present, if the floor admits it, the planner reports margin for it and
no slower step has taken effect in the last 3,600 long cycles. One tier at a time is the model's choice (DESIGN CHOICE, log entry 69). -/
def fasterTier (img : Bytes) (p : PmuState) : Option Nat :=
  (((imgTiers img).filter fun k => decide (k < p.tier)).getLast?).filter fun k =>
    decide (p.floor ≤ k) && decide (p.holdoff = 0) && bitOf k p.marginTiers

/-- The planner's request for a faster tier, which lapses when its conditions end; a pending slower step stands. -/
def requestFaster (img : Option Bytes) (late : Bool) (p : PmuState) : PmuState :=
  let slower := (p.pendingTier.map fun q => decide (p.tier < q.1)).getD false
  match img with
  | none => p
  | some b =>
    if slower then p
    else match fasterTier b p with
      | some k => if p.pendingTier.map (·.1) = some k then p else { p with pendingTier := some (k, 1), dividerOk := !late }
      | none => { p with pendingTier := none }

/-- The fastest present tier at or slower than a floor; the slowest present tier when there is none (R72). -/
def floorTier (img : Bytes) (floor : Nat) : Nat :=
  match (imgTiers img).find? (fun k => decide (floor ≤ k)) with
  | some k => k
  | none => imgSlowest img

/-- The planner's part of R72: a lane faster than the floor requests the floor's tier. -/
def applyFloor (img : Option Bytes) (p : PmuState) : PmuState :=
  match img with
  | none => p
  | some b =>
    let k := floorTier b p.floor
    if p.tier < k then askSlower false k 3 p else p

/-- A tier takes effect at a boundary (R71): the hold-off of 3,600 long cycles starts at a slower step. -/
def takeTier (k cause : Nat) (p : PmuState) : PmuState :=
  { p with tier := k, cause := cause, pendingTier := none, holdoff := if p.tier < k then 3600 else p.holdoff }

/-- The four tier-dependent islands (R67, R84). -/
def tierIslands : List Nat := [0, 1, 2, 3]

/-- Whether a pending step may take effect at the boundary of `cycle` (R71): its dividers are verified, in PLLs that run; a faster one only at a
long-cycle boundary. -/
def tierDue (cycle : Nat) (p : PmuState) : Bool :=
  match p.pendingTier with
  | none => false
  | some (k, _) => p.dividerOk && tierIslands.all (fun i => vget p.clockRuns i) &&
      (decide (p.tier < k) || (decide (cycle % 50 = 0) && decide (p.holdoff = 0) && decide (p.floor ≤ k) && bitOf k p.marginTiers))

/-- A commit puts a lane at its entry tier of the new image and carries a pending request to the next boundary (R58, R84): a request for an absent tier
becomes one for the next slower tier present, one that the entry tier already meets lapses, and the floor is held against the new tiers (R72). -/
def commitTier (img : Bytes) (tier : Nat) (p : PmuState) : PmuState :=
  let slower := (p.pendingTier.map fun q => decide (p.tier < q.1)).getD false
  let carried := p.pendingTier.bind fun q => if imgTierPresent img q.1 then some q else (nextSlower img q.1).map fun k => (k, q.2)
  let q := if tier = p.tier then p else takeTier tier 4 p
  applyFloor (some img) { q with
    pendingTier := carried.filter fun r => if slower then decide (tier < r.1) else decide (r.1 < tier)
    certExhausted := q.certExhausted || (slower && carried.isNone && (nextSlower img tier).isNone) }

/-- The mean count of each island over the long cycle that ends (R82; DEDUCED, log entry 75); a new one begins. -/
def clockLong (p : PmuState) : PmuState :=
  { p with
    measuredKhz := Vector.ofFn fun i => if p.clockCnt[i] = 0 then 0 else p.clockSum[i] / p.clockCnt[i]
    clockSum := Vector.replicate 9 0, clockCnt := Vector.replicate 9 0 }

/-- What a new cycle starts with: the violations of the last one after its digest wait for the next, and the dividers of a pending step are prepared
(R62, R71). -/
def pmuCycle (p : PmuState) : PmuState :=
  { p with stageClosed := false, violDigest := p.violDigest ||| p.violNext, violNext := 0, violNow := false, dividerOk := true }

/-! Ageing (R544 to R548). -/

/-- D125 from the largest replica delay `d` ps, the bias step and the die temperature (R544). -/
def d125Of (d : Nat) (b : Nat) (tj : Int) : ℚ :=
  let d0 : ℚ := (d : ℚ) / (1 - 5 / 1000 * (b : ℚ))
  d0 * (1 + 8 / 10000 * (125 - (tj : ℚ)))

/-- The margin M of an island at a tier and bias step (R544). -/
def margin (d125 : ℚ) (island tier b : Nat) : ℚ :=
  1 - d125 * (1 - 5 / 1000 * (b : ℚ)) / periodPs island tier

/-- Whether the planner reports margin for tier `k` (R547). -/
def reportsMargin (p : PmuState) (k : Nat) : Bool :=
  let need : ℚ := if k < p.tier then 6 / 100 else 3 / 100
  tierIslands.all fun i => decide (need ≤ margin (vget p.age i).d125 i k 12)

/-- The tiers for which the planner reports margin, one bit each. -/
def marginMask (p : PmuState) : Nat :=
  ([0, 1, 2, 3].map fun k => if reportsMargin p k then 2 ^ k else 0).sum

/-- The millisecond sample of one lane (R544, R546): the largest of four replicas of each island. An island falls short by M at step 12, whatever the step
in force. -/
def ageingSample (img : Option Bytes) (late : Bool) (mons : Vector (Vector Nat 4) 9) (tj : Int) (p : PmuState) : PmuState :=
  let age := Vector.ofFn fun i : Fin 9 =>
    { p.age[i] with d125 := d125Of (mons[i].foldl max 0) p.age[i].step tj }
  let p1 := { p with age := age, tj := tj, ageSeen := true }
  let short (i : Nat) : Bool := decide (margin (vget age i).d125 i p.tier 12 < 3 / 100)
  let p2 := if tierIslands.any short then requestSlower img late 1 p1 else p1
  let p3 := if [4, 5, 6, 7, 8].any short then { p2 with certExhausted := true } else p2
  requestFaster img late { p3 with marginTiers := marginMask p3 }

/-- The body-bias step of one island at tick 19,950 (R545). -/
def bodyBiasStep (cycle : Nat) (i : Fin 9) (p : PmuState) : PmuState :=
  let a := p.age[i]
  let free := decide (0 < p.measured) && match a.lastChange with
    | none => true
    | some c => decide (c + 50 ≤ cycle)
  let m := margin a.d125 i p.tier a.step
  let next : Option Nat :=
    if !free then none
    else if m < 5 / 100 ∧ a.step < 12 then some (a.step + 1)
    else if 0 < a.step ∧ 7 / 100 ≤ margin a.d125 i p.tier (a.step - 1) then some (a.step - 1)
    else none
  match next with
  | none => p
  | some b =>
    { p with
      age := p.age.set i { a with step := b, lastChange := some cycle }
      flags := vmod p.flags i fun f => { f with bbActive := decide (0 < b) } }

/-- The bias step that R545 gives at a tier to an island measured at step 12: lowered while the margin stays at 7 % or more (R547, log entry 19). -/
def entryStep (d125 : ℚ) (island tier : Nat) : Nat → Nat
  | 0 => 0
  | b + 1 => if 7 / 100 ≤ margin d125 island tier b then entryStep d125 island tier b else b + 1

/-- Every island at a bias step. -/
def setSteps (f : Fin 9 → Nat) (p : PmuState) : PmuState :=
  { p with age := Vector.ofFn fun i => { p.age[i] with step := f i }, flags := Vector.ofFn fun i => { p.flags[i] with bbActive := decide (0 < f i) } }

/-- A lane that wakes measures at step 12; once it has measured, it takes the bias of its tier (R547). -/
def biasWake (p : PmuState) : PmuState := setSteps (fun _ => 12) p
def biasEntry (p : PmuState) : PmuState := setSteps (fun i => entryStep p.age[i].d125 i.val p.tier 12) p

/-- A long-cycle boundary: a whole long cycle of measurement counts (R547), and the bias that it gives is applied. -/
def ageLong (p : PmuState) : PmuState :=
  let done := p.ageWhole && p.ageSeen
  let q := { p with measured := if done then p.measured + 1 else p.measured, ageWhole := true, ageSeen := false }
  if done && p.measured == 0 then biasEntry q else q

/-- The die temperature enters the history of the last 3,600 s, once per long cycle (R548). -/
def tempLong (p : PmuState) : PmuState := { p with tjHist := (p.tj :: p.tjHist).take 3600 }

/-- The middle of a temperature bin of histograms 1 to 4, degrees C (Table 18.4, R548). -/
def binMid (k : Nat) : ℚ :=
  if k = 0 then -40 else if 34 ≤ k then 125 else -40 + 5 * ((k : ℚ) - 1) + 5 / 2

/-- te: hours at 75 degrees C from the lane die's histogram (R548). -/
def teOf (hist : List Nat) : ℚ :=
  sumQ ((hist.zip (List.range hist.length)).map fun x =>
    (x.1 : ℚ) * Config.exp2 ((binMid x.2 - 75) / 10) / 3600)

/-- The slack of one island in years, and whether the fused coefficient was used (R548). -/
def slackOf (lane : Nat) (slowest : Nat) (te tjMean : ℚ) (d125 : ℚ) (i : Nat) : ℚ × Bool :=
  let fac := Config.d125Fac lane i
  let dd := d125 - fac
  let fused := decide (dd < 5) || decide (te < 1000)
  let k := if fused then Config.kFac lane i else dd / Config.root5 te
  let dlim := 97 / 100 * periodPs i slowest / (94 / 100)
  let r := (dlim - fac) / k
  let teEnd := r * r * r * r * r
  let af := Config.exp2 ((tjMean - 75) / 10)
  ((teEnd - te) / af / 8766, fused)

/-- The slack estimate of a lane (R548): UQ8.8 years, floored at 0 and saturating at 255.99. -/
def slackEstimate (lane : LaneId) (img : Option Bytes) (hist : Option (List Nat)) (p : PmuState) : PmuState :=
  let slowest := match img with
    | some b => imgSlowest b
    | none => p.tier
  let te := match hist with
    | some h => teOf h
    | none => 0
  let mean : ℚ := if p.tjHist.length = 0 then (p.tj : ℚ) else ((p.tjHist.foldl (· + ·) 0 : Int) : ℚ) / (p.tjHist.length : ℚ)
  let all := (List.range 9).map fun i => (i, slackOf lane.num slowest te mean (vget p.age i).d125 i)
  let best := all.foldl (fun b x => if x.2.1 < b.2.1 then x else b) (all.headD (0, (0, false)))
  let years := clampQ 0 (65535 / 256) best.2.1
  { p with
    slack := if p.certExhausted then 0 else (floorQ (years * 256)).toNat
    slackLimit := best.1
    slackModel := best.2.2 || hist.isNone
    slackTe := (floorQ te).toNat }

/-- The slack that the lane reports: zero from the moment CERT_EXHAUSTED is set (R73, R548). -/
def slackNow (p : PmuState) : Nat := if p.certExhausted then 0 else p.slack

/-- PMU_AGE_STATUS (Table 21.7). -/
def ageStatusWord (p : PmuState) : Nat :=
  atF 16 16 (slackNow p) + atF 12 4 p.slackLimit + atF 8 4 p.marginTiers + at1 7 p.certExhausted + at1 6 p.slackModel

/-- PMU_AGE_ISL of island `i` (Table 21.8). -/
def ageIslWord (lane : LaneId) (p : PmuState) (i : Nat) : Nat :=
  let a := vget p.age i
  let m := margin a.d125 i p.tier a.step
  let drift := floorQ (a.d125 - Config.d125Fac lane.num i)
  atF 16 16 (ofSigned 16 (roundAway (m * 10000))) + atF 12 4 a.step + atF 0 12 (clampI 0 4095 drift).toNat

/-- PMU_MEM_CONFIG (Table 22.5). -/
def memConfigWord (m : MemRegs) : Nat := atF 12 20 m.usablePages + atF 8 4 m.installed + atF 4 4 m.ranks
/-- PMU_MEM_STATUS (Table 22.6). -/
def memStatusWord (m : MemRegs) : Nat :=
  at1 31 m.trained + at1 30 m.ueAny + at1 29 m.ceAny + at1 28 m.persistent + at1 27 m.refetch
/-- PMU_MEM_SCRUB (Table 22.5). -/
def memScrubWord (m : MemRegs) : Nat := atF 12 20 m.scrubPage + atF 0 12 m.scrubPasses
/-- PMU_MEM_ERR_INFO (Table 22.7). -/
def memErrInfo (region island initiator : Nat) (demand : Bool) (syndrome : Nat) : Nat :=
  atF 28 4 region + atF 24 4 island + atF 21 3 initiator + at1 20 demand + atF 0 16 syndrome

end Sys2Proof.Machine
end

