-- ==== Sys2Proof/Machine/IngestUnit.lean ====
section
/-! DEFINITION. The ingest island of one lane (chapter 4): channel table, parser, latest-value store, release order, ages and counters, as state and pure functions. -/

namespace Sys2Proof.Machine

/-- One channel update on its way to the stores (R30, R102, R116). -/
structure ChanUpdate where
  chan      : Nat
  /-- Eight value words (R106). -/
  value     : Vector Nat 8
  quality   : Nat
  meas      : Nat
  capture   : Nat
  /-- Stamping point in device time, ns. -/
  stampNs   : Nat
  srcTime   : Bool
  saturated : Bool
  /-- The lane that received it: 0 Lane A. -/
  lane      : Nat
  /-- PORT in the encoding of Table 4.11. -/
  port      : Nat
  /-- Position in the frame or datagram. -/
  pos       : Nat
  deriving DecidableEq, Repr, Inhabited

/-- One store entry (Table 4.10). -/
structure StoreEntry where
  value     : Vector Nat 8 := #v[0, 0, 0, 0, 0, 0, 0, 0]
  meas      : Nat := 0
  capture   : Nat := 0
  seq       : Nat := 0
  empty     : Bool := true
  fromBridge : Bool := false
  srcTime   : Bool := false
  lateApplied : Bool := false
  saturated : Bool := false
  port      : Nat := 0
  quality   : Nat := 0
  stampTick : Nat := 0
  deriving DecidableEq, Repr, Inhabited

/-- The counters of one channel (Table 4.12). -/
structure ChanCounters where
  upd      : Nat := 0
  lateDrop : Nat := 0
  dupDrop  : Nat := 0
  lateNext : Nat := 0
  reject   : Nat := 0
  deriving DecidableEq, Repr, Inhabited

/-- The counters and reception state of one local port (R107 to R109, R121). -/
structure PortState where
  frames : Nat := 0
  abort  : Nat := 0
  check  : Nat := 0
  ovf    : Nat := 0
  /-- The 16-byte settings entry the receiver runs with (Table 4.3). -/
  line   : Bytes := []
  /-- New settings that wait for an idle character time (R107). -/
  pendingLine : Option Bytes := none
  deriving DecidableEq, Repr, Inhabited

/-- The ingest island of one lane. -/
structure IngestState where
  store     : Vector StoreEntry 256 := Vector.replicate 256 {}
  snapshot  : Vector StoreEntry 256 := Vector.replicate 256 {}
  /-- Device time of the snapshot (R118). -/
  snapNs    : Nat := 0
  counters  : Vector ChanCounters 256 := Vector.replicate 256 {}
  ports     : Vector PortState 10 := Vector.replicate 10 {}
  /-- Updates that wait for their release tick (R30). -/
  release   : List ChanUpdate := []
  /-- Channels deselected in force (R117). -/
  deselected : Vector Bool 256 := Vector.replicate 256 false
  serBreak  : Nat := 0
  lateAny   : Bool := false
  dupAny    : Bool := false
  rejectAny : Bool := false
  rxOvf     : Bool := false
  deriving DecidableEq, Repr, Inhabited

/-- The release instant of an update: its stamping tick plus 8 (R30), in µs of device time. -/
def ChanUpdate.releaseUs (u : ChanUpdate) : Nat := u.stampNs / 1000 + 8

/-- The order of updates released at one tick (R116). -/
def updateBefore (a b : ChanUpdate) : Bool :=
  let ka := [a.releaseUs, a.stampNs, a.lane, a.port, a.pos, a.chan]
  let kb := [b.releaseUs, b.stampNs, b.lane, b.port, b.pos, b.chan]
  decide (ka < kb)

/-- The update that is written next. -/
def firstUpdate : List ChanUpdate → Option ChanUpdate
  | [] => none
  | u :: us => some (us.foldl (fun b x => if updateBefore x b then x else b) u)

/-! The channel table (Table 4.2). -/

/-- The 16-byte entry of serial port 1 to 16 (Table 4.3). -/
def serialEntry (t : Bytes) (port : Nat) : Bytes := sliceB t (64 + 16 * (port - 1)) 16
/-- The 64-byte entry of Ethernet port 0 to 3 (Table 4.4). -/
def ethEntry (t : Bytes) (k : Nat) : Bytes := sliceB t (320 + 64 * k) 64
/-- The 64-byte entry of a channel (Table 4.5). -/
def chanEntry (t : Bytes) (ch : Nat) : Bytes := sliceB t (576 + 64 * ch) 64
def chType (e : Bytes) : Nat := u8 e 0
def chKind (e : Bytes) : Nat := u8 e 1
def chSource (e : Bytes) : Nat := u8 e 2
def chStartDeselected (e : Bytes) : Bool := bitOf 0 (u8 e 3)
def chTimeFromSource (e : Bytes) : Bool := bitOf 1 (u8 e 3)
def chParser (e : Bytes) : Nat := u16 e 4
def chStaleMs (e : Bytes) : Nat := u16 e 6
def chLatencyNs (e : Bytes) : Nat := u32 e 8
def chSrcTolUs (e : Bytes) : Nat := u32 e 12

/-- The parser entry of an index (Table 4.7). -/
def parserEntry (t : Bytes) (k : Nat) : Bytes := sliceB t (64 + 256 * k) 256
def peFraming (e : Bytes) : Nat := u8 e 0
def peMaxLen (e : Bytes) : Nat := u16 e 2
def peAddress (e : Bytes) : Bytes := sliceB e 4 5
def peSync (e : Bytes) : Bytes := sliceB e 10 (u8 e 9)
def peFields (e : Bytes) : Nat := u8 e 26
/-- A field descriptor (Table 4.8). -/
def peField (e : Bytes) (k : Nat) : Bytes := sliceB e (32 + 16 * k) 16

/-- The channels that a serial port's parser entry feeds (R105). -/
def channelsFed (table : Bytes) (kind : Nat) (matches_ : Nat → Bool) (parser : Nat) : List Nat :=
  (List.range 256).filter fun ch =>
    let e := chanEntry table ch
    decide (chType e ≠ 0) && chKind e == kind && matches_ (chSource e) && chParser e == parser

/-- The parser entries in use on a port, ascending. -/
def entriesOf (table : Bytes) (kind : Nat) (matches_ : Nat → Bool) : List Nat :=
  ((List.range 256).filterMap fun ch =>
    let e := chanEntry table ch
    if chType e ≠ 0 ∧ chKind e = kind ∧ matches_ (chSource e) then some (chParser e) else none).dedup.mergeSort (fun a b => decide (a ≤ b))

/-! Sentences (R111). -/

/-- What one framed frame came to. -/
inductive FrameResult where
  /-- Discarded: FRAME_ABORT. -/
  | abort
  /-- Discarded: CHECK_FAIL. -/
  | check
  /-- The address matches no entry: ignored without count. -/
  | ignored
  /-- Parsed by an entry. -/
  | good (entry : Nat) (body : Bytes)
  deriving DecidableEq, Repr

def isHex (b : Byte) : Option Nat :=
  let n := b.toNat
  if 48 ≤ n ∧ n ≤ 57 then some (n - 48) else if 65 ≤ n ∧ n ≤ 70 then some (n - 55) else none

/-- Whether an address matches a pattern, "?" matching any character (Table 4.7). -/
def addrMatches : Bytes → Bytes → Bool
  | [], _ => true
  | p :: ps, a :: as => (p == 63#8 || p == a) && addrMatches ps as
  | _ :: _, [] => false

/-- The frame with its terminator is sound text: every byte between start and CR LF lies in 0x20 to 0x7E (R111 rule 2). -/
def printable (b : Bytes) : Bool := b.all fun x => decide (0x20 ≤ x.toNat) && decide (x.toNat ≤ 0x7E)

/-- Judge one sentence that begins at its start character (R111); `complete` when LF ended it. An address that is known and matches no entry
makes the frame ignored, whatever else is wrong with it (rules 4 and 5); so does an address shorter than 5 characters in a frame that is otherwise
sound. Of several entries whose address it matches the spec does not name one: the lowest-numbered judges it (DESIGN CHOICE, log entry 70). -/
def judgeSentence (parser : Bytes) (entries : List Nat) (raw : Bytes) (complete : Bool) : FrameResult :=
  let sent := entries.filter fun k => peFraming (parserEntry parser k) == 0
  let bound := (sent.map fun k => peMaxLen (parserEntry parser k)).foldl max 0
  let n := raw.length
  let addr := (raw.drop 1).take 5
  let hit := sent.find? fun k => addrMatches (peAddress (parserEntry parser k)) addr &&
    (u8 raw 0 == 36 || bitOf 1 (u8 (parserEntry parser k) 1))
  let sound := complete && decide (3 ≤ n) && u8 raw (n - 2) == 13 && printable ((raw.drop 1).take (n - 3))
  if hit.isNone && ((decide (addr.length = 5) && printable addr) || sound) then .ignored
  else if !complete || decide (bound < n) || !(decide (3 ≤ n) && u8 raw (n - 2) == 13) then .abort
  else
    let inner := (raw.drop 1).take (n - 3)
    match printable inner, hit with
    | true, some k =>
      let e := parserEntry parser k
      if peMaxLen e < n then .abort
      else
        let body := inner.takeWhile (· != 42#8)
        let rest := inner.drop body.length
        if rest.isEmpty then
          if bitOf 0 (u8 e 1) then .check else .good k body
        else
          let sum := (body.foldl (fun x y => x ^^^ y) 0#8).toNat
          match isHex (rest.getD 1 0), isHex (rest.getD 2 0) with
          | some h, some l => if rest.length = 3 ∧ 16 * h + l = sum then .good k body else .check
          | _, _ => .check
    | _, _ => .abort

/-- Split the bytes of a line into frames (R111 rules 1 and 3): a new start character before LF ends the frame before it as
an abort. Answers for each frame the place of its first byte, its bytes, and whether LF ended it. `n` is the place of the byte at the front. -/
def splitFrames (bang : Bool) : Nat → Bytes → Option (Nat × Bytes) → List (Nat × Bytes × Bool) → List (Nat × Bytes × Bool)
  | _, [], cur, acc => match cur with
    | none => acc.reverse
    | some f => ((f.1, f.2.reverse, false) :: acc).reverse
  | n, b :: bs, cur, acc =>
    let start := b == 36#8 || (bang && b == 33#8)
    match cur with
    | none => splitFrames bang (n + 1) bs (if start then some (n, [b]) else none) acc
    | some f =>
      if start then splitFrames bang (n + 1) bs (some (n, [b])) ((f.1, f.2.reverse, false) :: acc)
      else if b == 10#8 then splitFrames bang (n + 1) bs none ((f.1, (b :: f.2).reverse, true) :: acc)
      else splitFrames bang (n + 1) bs (some (f.1, b :: f.2)) acc

/-- One item of an IEC 61162-450 payload (R110): a tag block that failed its checksum, or a sentence, with whether LF ended it and whether the tag
block before it failed. -/
inductive Tagged where
  | badTag
  | sentence (raw : Bytes) (complete bad : Bool)
  deriving DecidableEq, Repr

/-- The scan of an IEC 61162-450 payload after its header (R110): `tag` holds a tag block under way, `sent` a sentence under way, `bad` says that
a tag block since the last sentence failed its checksum. A tag block that the payload does not end is dropped without a count (DESIGN CHOICE, log
entry 78). -/
def splitTagged (bang : Bool) : Bytes → Option Bytes → Option Bytes → Bool → List Tagged → List Tagged
  | [], _, sent, bad, acc => match sent with
    | none => acc.reverse
    | some f => (.sentence f.reverse false bad :: acc).reverse
  | b :: bs, tag, sent, bad, acc =>
    let start := b == 36#8 || (bang && b == 33#8)
    match tag, sent with
    | some t, _ =>
      if b == 92#8 then
        let ok := tagOk t.reverse
        splitTagged bang bs none none (bad || !ok) (if ok then acc else .badTag :: acc)
      else splitTagged bang bs (some (b :: t)) none bad acc
    | none, none =>
      if b == 92#8 then splitTagged bang bs (some []) none bad acc
      else splitTagged bang bs none (if start then some [b] else none) bad acc
    | none, some f =>
      if start then splitTagged bang bs none (some [b]) false (.sentence f.reverse false bad :: acc)
      else if b == 10#8 then splitTagged bang bs none none false (.sentence (b :: f).reverse true bad :: acc)
      else splitTagged bang bs none (some (b :: f)) bad acc
where
  /-- The checksum of a tag block: the XOR of its bytes before "*", in two hexadecimal digits. -/
  tagOk (t : Bytes) : Bool :=
    let body := t.takeWhile (· != 42#8)
    let rest := t.drop body.length
    match isHex (rest.getD 1 0), isHex (rest.getD 2 0) with
    | some h, some l => decide (rest.length = 3) && decide (16 * h + l = (body.foldl (fun x y => x ^^^ y) 0#8).toNat)
    | _, _ => false

/-! Binary frames (R112). -/

/-- The check of a binary frame over the covered bytes (Table 4.7). -/
def binCheck (kind : Nat) (d : Bytes) : Nat :=
  match kind with
  | 1 => (d.foldl (fun x y => x ^^^ y) 0#8).toNat
  | 2 => (d.map BitVec.toNat).sum % 256
  | 3 => (d.map BitVec.toNat).sum % 65536
  | 4 => (d.foldl (fun (c : BitVec 16) b =>
      (List.range 8).foldl (fun (c : BitVec 16) _ => if c.getLsbD 15 then (c <<< 1) ^^^ 0x1021#16 else c <<< 1)
        (c ^^^ ((BitVec.setWidth 16 b) <<< (8 : Nat)))) 0xFFFF#16).toNat
  | 5 => crc32c d
  | _ => 0

def checkSize (kind : Nat) : Nat := match kind with
  | 1 => 1 | 2 => 1 | 3 => 2 | 4 => 2 | 5 => 4
  | _ => 0

/-- A big- or little-endian field of `n` bytes. -/
def field (be : Bool) (n : Nat) (b : Bytes) (o : Nat) : Nat :=
  let s := padTo n (sliceB b o n)
  (if be then s else s.reverse).foldl (fun a x => a * 256 + x.toNat) 0

/-- The bytes a descriptor of a binary frame or CAN payload reads (Tables 4.8 and 4.9). -/
def descSize (d : Bytes) : Nat :=
  match u8 d 1 with
  | 16 => 1 | 17 => 1 | 18 => 2 | 19 => 2 | 20 => 4 | 21 => 4 | 22 => 4 | 24 => 4
  | 23 => if u32 d 8 ≤ 0xFF then 1 else if u32 d 8 ≤ 0xFFFF then 2 else 4
  | _ => 1

/-- The offset after the last byte the entry reads: by its field descriptors, the length field not counted (DESIGN CHOICE, log entry 78). -/
def lastRead (e : Bytes) : Nat :=
  ((List.range (peFields e)).map fun k => let d := peField e k; u16 d 2 + descSize d).foldl max 0

/-- What stands at the front of a byte string for a binary entry (R112): no sync, a frame whose bytes have not all come, or a judged one with the
bytes that it takes, 0 for a discarded one. -/
inductive BinFront where
  | noSync
  | waiting
  | judged (r : FrameResult) (taken : Nat)
  deriving DecidableEq, Repr

/-- The frame length that an entry gives, none while the length field has not come (R112 rule 2). -/
def binLength (e raw : Bytes) : Option Int :=
  let sz := if bitsOf 1 0 (u8 e 18) = 2 then 2 else 1
  if u8 e 15 = 0 then some (peMaxLen e : Int)
  else if raw.length < u16 e 16 + sz then none
  else some ((field (bitOf 7 (u8 e 18)) sz raw (u16 e 16) : Int) + s16 e 20)

/-- Judge one binary frame at the front of `raw` (R112 rules 1 to 3). A length too short for its check field counts as one below the last byte read. -/
def judgeBinary (parser : Bytes) (k : Nat) (raw : Bytes) : BinFront :=
  let e := parserEntry parser k
  let sync := peSync e
  if raw.take sync.length != sync ∨ sync = [] then .noSync
  else match binLength e raw with
    | none => .waiting
    | some len =>
      if len + 1 < (lastRead e : Int) ∨ len < (checkSize (u8 e 14) : Int) ∨ (peMaxLen e : Int) < len then .judged .abort 0
      else
        let n := len.toNat
        if raw.length < n then .waiting
        else
          let cs := checkSize (u8 e 14)
          let covered := sliceB raw (u16 e 22) (n - cs - u16 e 22)
          let got := field (u8 e 19 == 1) cs raw (n - cs)
          if cs = 0 ∨ got = binCheck (u8 e 14) covered then .judged (.good k (raw.take n)) n else .judged .check 0

/-- Search a byte string for binary frames of the port's entries (R112); after a discard the search resumes at the next byte, and a frame that has not
all come ends it. Of several entries that share the sync bytes the first in index order judges the frame; the spec is silent on it (DESIGN CHOICE, log
entry 70); a frame that the end of the bytes cuts off is dropped without a count and ends the search (DESIGN CHOICE, log entry 78). Answers each frame
with the place of its first byte and its length; `n` is the place of the byte at the front. -/
def binaryFrames (parser : Bytes) (entries : List Nat) : Nat → Nat → Bytes → List (Nat × Nat × FrameResult)
  | 0, _, _ => []
  | _, _, [] => []
  | fuel + 1, n, b :: bs =>
    let raw := b :: bs
    match ((entries.filter fun k => peFraming (parserEntry parser k) == 1).map fun k => judgeBinary parser k raw).find? (· != .noSync) with
    | none => binaryFrames parser entries fuel (n + 1) bs
    | some .noSync => binaryFrames parser entries fuel (n + 1) bs
    | some .waiting => []
    | some (.judged r m) => (n, m, r) :: (if m = 0 then binaryFrames parser entries fuel (n + 1) bs else binaryFrames parser entries fuel (n + m) (raw.drop m))

/-! Decoding a frame (R113, R624, Table 4.9). -/

/-- Split at commas. -/
def splitComma : Bytes → Bytes → List Bytes → List Bytes
  | [], cur, acc => (cur.reverse :: acc).reverse
  | b :: bs, cur, acc => if b == 44#8 then splitComma bs [] (cur.reverse :: acc) else splitComma bs (b :: cur) acc

def digit (b : Byte) : Option Nat := if 48 ≤ b.toNat ∧ b.toNat ≤ 57 then some (b.toNat - 48) else none

/-- A string of decimal digits. -/
def decDigits (b : Bytes) : Option Nat :=
  b.foldl (fun a x => match a, digit x with
    | some n, some d => some (10 * n + d)
    | _, _ => none) (some 0)

/-- Unsigned decimal text with an optional point. -/
def decText (b : Bytes) : Option ℚ :=
  let ip := b.takeWhile (· != 46#8)
  let rest := (b.drop ip.length).drop 1
  if ip.isEmpty && rest.isEmpty then none
  else match decDigits ip, decDigits rest with
    | some i, some f => some ((i : ℚ) + (f : ℚ) / ((10 ^ rest.length : Nat) : ℚ))
    | _, _ => none

/-- Decimal text with an optional sign (DECODE 1). -/
def decSigned (b : Bytes) : Option ℚ :=
  match b with
  | 45#8 :: r => (decText r).map (- ·)
  | 43#8 :: r => decText r
  | _ => decText b

/-- Decimal integer text with an optional sign (R624). -/
def decInt (b : Bytes) : Option Int :=
  match b with
  | 45#8 :: r => if r.isEmpty then none else (decDigits r).map (fun n => -(n : Int))
  | 43#8 :: r => if r.isEmpty then none else (decDigits r).map (fun n => (n : Int))
  | _ => if b.isEmpty then none else (decDigits b).map (fun n => (n : Int))

/-- ddmm.mm or dddmm.mm with its hemisphere, in 10^-9 degree, nearest (DECODE 2 and 3) (log entry 10). Degrees and minutes are
taken as they stand, also out of range (DESIGN CHOICE, log entry 78). -/
def decAngle (dd : Nat) (neg : Nat) (pos : Nat) (b : Bytes) (hemi : Bytes) : Option Int :=
  match decDigits (b.take dd), decText (b.drop dd), hemi with
  | some d, some m, [h] =>
    let v := roundAway (((d : ℚ) + m / 60) * 1000000000)
    if h.toNat = neg then some (-v) else if h.toNat = pos then some v else none
  | _, _, _ => none

/-- hhmmss.ss as nanoseconds of the UTC day (DECODE 4). -/
def decTod (b : Bytes) : Option Nat :=
  match decDigits (b.take 2), decDigits ((b.drop 2).take 2), decText (b.drop 4) with
  | some h, some m, some s => some (floorQ (((h * 3600 + m * 60 : Nat) : ℚ) * 1000000000 + s * 1000000000)).toNat
  | _, _, _ => none

/-- The range of an integer DECODE (Table 4.9). -/
def intRange (dec : Nat) : Option (Int × Int) :=
  match dec with
  | 16 => some (-128, 127) | 17 => some (0, 255) | 18 => some (-32768, 32767) | 19 => some (0, 65535)
  | 20 => some (-2147483648, 2147483647) | 21 => some (0, 4294967295) | 23 => some (0, 4294967295)
  | _ => none

/-- A decoded field before scaling. -/
inductive Decoded where
  | num (q : ℚ)
  /-- An integer: scaled into a value word, stored as its value in QUALITY. -/
  | int (i : Int)
  /-- Signed 64-bit 10^-9 degree, not scaled. -/
  | ndeg (i : Int)
  /-- Nanoseconds of the UTC day. -/
  | tod (n : Nat)
  /-- An integer that is stored as its value, not scaled. -/
  | code (n : Nat)
  | absent
  | bad
  deriving DecidableEq, Repr

/-- The accepted characters of ENUMSET: the non-zero bytes of SCALE. -/
def enumHas (d : Bytes) (c : Nat) : Bool := decide (c ≠ 0) && ((sliceB d 8 4).any fun x => x.toNat == c)

/-- Decode one field of a sentence (Table 4.9, R624). DEC is brought to the nearest 2^-16, ties away from zero; its range is not bounded before scaling
(DEDUCED, log entry 75). LAT and LON take their hemisphere from the next field whatever FFLAGS bit 2 says (DESIGN CHOICE, log entry 78). -/
def decodeText (d : Bytes) (fields : List Bytes) : Decoded :=
  let f := fields.getD (u8 d 0) []
  let next := fields.getD (u8 d 0 + 1) []
  if f.isEmpty then .absent
  else match u8 d 1 with
    | 1 => match decSigned f with
      | some q => .num ((roundAway (q * 65536) : ℚ) / 65536)
      | none => .bad
    | 2 => match decAngle 2 83 78 f next with
      | some i => .ndeg i
      | none => .bad
    | 3 => match decAngle 3 87 69 f next with
      | some i => .ndeg i
      | none => .bad
    | 4 => match decTod f with
      | some n => .tod n
      | none => .bad
    | 5 => if f.length = 1 ∧ enumHas d (u8 f 0) then .code (u8 f 0) else .bad
    | k => match intRange k, decInt f with
      | some (lo, hi), some i =>
        if i < lo ∨ hi < i then .bad
        else if k = 23 then .code (i.toNat &&& u32 d 8)
        else .int i
      | _, _ => .bad

/-- Decode one field of a binary frame or CAN payload (Table 4.9). -/
def decodeBin (d : Bytes) (raw : Bytes) : Decoded :=
  let be := bitOf 1 (u8 d 5)
  let n := descSize d
  let v := field be n raw (u16 d 2)
  if raw.length < u16 d 2 + n then .absent
  else match u8 d 1 with
    | 5 => if enumHas d v then .code v else .bad
    | 16 => .int (toSigned 8 v)
    | 17 => .int (v : Int)
    | 18 => .int (toSigned 16 v)
    | 19 => .int (v : Int)
    | 20 => .int (toSigned 32 v)
    | 21 => .int (v : Int)
    | 22 => match ofBits32 v with
      | some q => .num q
      | none => .bad
    | 23 => .code (v &&& u32 d 8)
    | 24 => .tod (v * 1000000)
    | _ => .bad

/-- R113 steps 1 to 4: multiply by SCALE, round, add ADD, saturate. Answers the stored Q16.16 and whether it saturated. -/
def scaleField (d : Bytes) (q : ℚ) : Int × Bool :=
  let v := roundAway (q * q16 d 8 * 65536) + s32 d 12
  let c := clampI (-2147483648) 2147483647 v
  (c, decide (c ≠ v))

/-- The fields a frame gives an update. -/
structure Parsed where
  value : Vector Nat 8
  quality : Nat
  saturated : Bool
  /-- Nanoseconds of the UTC day. -/
  tod   : Option Nat
  ok    : Bool
  deriving DecidableEq, Repr, Inhabited

/-- QUALITY takes an integer, saturated to 0 to 65,535 (R113). -/
def putQuality (i : Int) (p : Parsed) : Parsed :=
  let c := clampI 0 65535 i
  { p with quality := c.toNat, saturated := p.saturated || decide (c ≠ i) }

/-- A scaled result goes into a value word, or its integer part, taken toward zero, into QUALITY (R113). -/
def putScaled (d : Bytes) (q : ℚ) (p : Parsed) : Parsed :=
  let r := scaleField d q
  let p1 := { p with saturated := p.saturated || r.2 }
  if u8 d 4 < 8 then { p1 with value := vmodN p.value (u8 d 4) fun _ => ofSigned 32 r.1 }
  else if u8 d 4 = 0xF0 then putQuality (if r.1 < 0 then -((-r.1) / 65536) else r.1 / 65536) p1
  else p

/-- Put one decoded field into an update (R113). `isValid` marks the VALID_FIELD descriptor, `isTime` the TIME_FIELD one. VALID_FIELD asks of a
field that is no ENUMSET only that it decodes (DESIGN CHOICE, log entry 78). -/
def putField (d : Bytes) (isValid isTime : Bool) (r : Decoded) (p : Parsed) : Parsed :=
  let dest := u8 d 4
  match r with
  | .absent => if bitOf 0 (u8 d 5) || isValid then { p with ok := false } else p
  | .bad => { p with ok := false }
  | .tod n => if dest = 0xF2 ∧ isTime = true then { p with tod := some n } else p
  | .ndeg i =>
    if dest < 7 then { p with value := vmodN (vmodN p.value dest fun _ => ofSigned 64 i % 2 ^ 32) (dest + 1) fun _ => ofSigned 64 i / 2 ^ 32 } else p
  | .code n =>
    if dest < 8 then { p with value := vmodN p.value dest fun _ => n }
    else if dest = 0xF0 then putQuality (n : Int) p
    else p
  | .int i => if dest = 0xF0 then putQuality i p else putScaled d (i : ℚ) p
  | .num q => putScaled d q p

/-- Parse one framed frame by its entry (R113). -/
def parseFrame (parser : Bytes) (k : Nat) (body : Bytes) : Parsed :=
  let e := parserEntry parser k
  let fields := splitComma body [] []
  (List.range (peFields e)).foldl (fun p j =>
    let d := peField e j
    let r := if peFraming e = 0 then decodeText d fields else decodeBin d body
    putField d (u8 e 27 == j) (u8 e 28 == j) r p) ⟨#v[0, 0, 0, 0, 0, 0, 0, 0], 0, false, none, true⟩

/-- A UTC time of day as device time nearest the capture instant (R103); `off` is UTC less device time in ns. -/
def todToDevice (off : Int) (tod : Nat) (capture : Nat) : Int :=
  let day : Int := 86400000000000
  let r := ((tod : Int) - off - (capture : Int)) % day
  (capture : Int) + (if 2 * r < day then r else r - day)

/-- The measurement time of an update (R103), or none when it is refused and counted in REJECT. The delay `extra` is the group delay of
an analogue input, 0 otherwise. `off` gives UTC less device time as it was in force at a device time, here the measurement time (R154). It is none while the Sky die is off and no Belfry converts the time: the update is refused; a measurement time
before device time 0 is taken as 0. The spec names neither case (DESIGN CHOICE, log entry 70). SOURCE_TIME stays set when the capture instant
replaces a later source time (DESIGN CHOICE, log entry 78). -/
def measTime (e : Bytes) (extra : Nat) (off : Option (Int → Int)) (tod : Option Nat) (capture : Nat) : Option (Nat × Bool) :=
  let base : Int := (capture : Int) - (chLatencyNs e : Int) - (extra : Int)
  if !chTimeFromSource e then some (base.toNat, false)
  else match tod, off with
    | some t, some o =>
      let src := todToDevice (o (todToDevice (o capture) t capture)) t capture
      if (chSrcTolUs e : Int) * 1000 < |src - base| then none
      else some ((min src (capture : Int)).toNat, true)
    | _, _ => none

/-- Count REJECT on the channels a frame feeds (R103, R113). -/
def rejectAll (chs : List Nat) (g : IngestState) : IngestState :=
  { g with
    counters := chs.foldl (fun c ch => vmodN c ch fun x => { x with reject := satAdd 0xFFFF x.reject 1 }) g.counters
    rejectAny := g.rejectAny || !chs.isEmpty }

/-- The updates and rejects of one good frame (R103, R113): one whose time field is absent forms no update when a channel that it feeds needs it. -/
def frameUpdates (table parser : Bytes) (chs : List Nat) (k : Nat) (body : Bytes) (off : Option (Int → Int))
    (capture stampNs lane port pos : Nat) : List ChanUpdate × List Nat :=
  let p := parseFrame parser k body
  let timed := chs.any fun ch => chTimeFromSource (chanEntry table ch)
  if !p.ok || (timed && p.tod.isNone) then ([], chs)
  else chs.foldl (fun acc ch =>
    let e := chanEntry table ch
    match measTime e 0 off p.tod capture with
      | none => (acc.1, acc.2 ++ [ch])
      | some (m, src) =>
        (acc.1 ++ [⟨ch, p.value, p.quality, m, capture, stampNs, src, p.saturated, lane, port, pos⟩], acc.2)) ([], [])

/-- Count one framing result on a local port (R111, R112, R121). -/
def portCount (r : FrameResult) (p : PortState) : PortState :=
  match r with
  | .abort => { p with abort := satAdd 0xFFFFFFFF p.abort 1 }
  | .check => { p with check := satAdd 0xFFFFFFFF p.check 1 }
  | .ignored => p
  | .good _ _ => { p with frames := (p.frames + 1) % 2 ^ 32 }

/-- The events of one framing result (Table 20.4). -/
def frameEvents (port : Nat) (r : FrameResult) : List Effect :=
  match r with
  | .abort => [.count 0x0706 port 1]
  | .check => [.count 0x0707 port 1]
  | _ => []

/-- Take a framing result into the island: counters, updates to release, rejects. -/
def takeFrame (table parser : Bytes) (fed : Nat → List Nat) (off : Option (Int → Int)) (capture stampNs lane lport port pos : Nat)
    (r : FrameResult) (g : IngestState) : IngestState × List ChanUpdate × List Effect :=
  let g1 := { g with ports := vmodN g.ports lport (portCount r), rejectAny := g.rejectAny || (r == .abort) || (r == .check) }
  match r with
  | .good k body =>
    let (ups, rej) := frameUpdates table parser (fed k) k body off capture stampNs lane port pos
    let g2 := rejectAll rej g1
    ({ g2 with release := g2.release ++ ups }, ups, rej.map fun ch => .count 0x0705 ch 1)
  | r => (g1, [], frameEvents lport r)

/-- Whether an update is late (R116): its release falls after the first snapshot tick at or after its measurement time. -/
def isLate (snapTick : Nat) (u : ChanUpdate) : Bool :=
  let measUs := (u.meas + 999) / 1000
  let c := measUs / 20000
  let first := if measUs % 20000 ≤ snapTick then c * 20000 + snapTick else (c + 1) * 20000 + snapTick
  decide (first < u.releaseUs)

/-- Write an update into the store under the comparison of R116; `fromBridge` as the receiving lane sees it. -/
def storeWrite (snapTick : Nat) (fromBridge : Bool) (u : ChanUpdate) (g : IngestState) : IngestState × List Effect :=
  let e := vget g.store u.chan
  if e.empty ∨ e.meas < u.meas then
    let late := isLate snapTick u
    let n : StoreEntry :=
      { value := u.value, meas := u.meas, capture := u.capture, seq := (e.seq + 1) % 2 ^ 32, empty := false, fromBridge := fromBridge,
        srcTime := u.srcTime, lateApplied := late, saturated := u.saturated, port := u.port, quality := u.quality,
        stampTick := u.stampNs / 1000 % 20000 }
    ({ g with
        store := vmodN g.store u.chan fun _ => n
        counters := vmodN g.counters u.chan fun c =>
          { c with upd := (c.upd + 1) % 2 ^ 32, lateNext := if late then satAdd 0xFFFF c.lateNext 1 else c.lateNext } },
      [.count 0x0701 u.chan 1] ++ (if late then [.count 0x0704 u.chan 1] else []))
  else if e.meas = u.meas then
    ({ g with counters := vmodN g.counters u.chan fun c => { c with dupDrop := satAdd 0xFFFF c.dupDrop 1 }, dupAny := true },
      [.count 0x0702 u.chan 1])
  else
    ({ g with counters := vmodN g.counters u.chan fun c => { c with lateDrop := satAdd 0xFFFF c.lateDrop 1 }, lateAny := true },
      [.count 0x0703 u.chan 1])

/-- The age of a channel in µs at the snapshot (R118). -/
def ageUs (snapNs : Nat) (e : StoreEntry) : Nat := min ((snapNs - e.meas) / 1000) (2 ^ 32 - 1)

/-- Breakpoint `i` of the inflation table: AGE_MS and FACTOR (Table 4.5). -/
def inflBreak (e : Bytes) (i : Nat) : Nat × Nat := (u16 e (24 + 4 * i), u16 e (26 + 4 * i))

/-- The segment of R119 that holds an age between the first and last breakpoints. -/
def inflSegment (e : Bytes) (a : Nat) : Nat → Nat
  | 0 => 0
  | i + 1 => if 1000 * (inflBreak e (i + 1)).1 < a then i + 1 else inflSegment e a i

/-- The inflation factor F of an age, UQ8.8 (R119). -/
def inflation (e : Bytes) (a : Nat) : Nat :=
  let (a0, f0) := inflBreak e 0
  let (an, fn) := inflBreak e 7
  if a ≤ 1000 * a0 then f0
  else if 1000 * an ≤ a then fn
  else
    let i := inflSegment e a 6
    let (x0, y0) := inflBreak e i
    let (x1, y1) := inflBreak e (i + 1)
    y0 + (y1 - y0) * (a - 1000 * x0) / (1000 * (x1 - x0))

/-- A channel is stale at the snapshot (R120). -/
def isStale (e : Bytes) (snapNs : Nat) (s : StoreEntry) : Bool :=
  s.empty || decide (chStaleMs e * 1000 < ageUs snapNs s)

/-- STATUS of a store entry (Table 4.11). -/
def storeStatus (s : StoreEntry) : Nat :=
  at1 15 s.empty + at1 14 s.fromBridge + at1 13 s.srcTime + at1 12 s.lateApplied + at1 11 s.saturated + atF 0 5 s.port

/-- The 64 bytes of a store entry (Table 4.10). -/
def storeBytes (s : StoreEntry) : Bytes :=
  ((s.value.toList.map (leBytes 4)).flatten) ++ leBytes 8 s.meas ++ leBytes 8 s.capture ++ leBytes 4 s.seq ++
  leBytes 2 (storeStatus s) ++ leBytes 2 s.quality ++ leBytes 2 s.stampTick ++ zeroBytes 6

/-- BUS_INGEST_STATUS (Table 4.13), the common low byte apart. -/
def ingestStatusHigh (link0 link1 : Bool) (g : IngestState) : Nat :=
  at1 24 link0 + at1 25 link1 + atF 16 8 g.serBreak + at1 11 g.lateAny + at1 10 g.dupAny + at1 9 g.rejectAny + at1 8 g.rxOvf

/-- A value word as a Q16.16 value. -/
def chWord (s : StoreEntry) (i : Nat) : ℚ := ofQ 16 (toSigned 32 (vget s.value i))
/-- Two value words as one signed count of 10^-9 degree (R106). -/
def chNdeg (s : StoreEntry) (i : Nat) : Int := toSigned 64 (vget s.value i + 2 ^ 32 * vget s.value (i + 1))

/-- The snapshot copy (R32). -/
def takeSnapshot (snapNs : Nat) (g : IngestState) : IngestState := { g with snapshot := g.store, snapNs := snapNs }

/-- What the parser entry of an analogue channel is held to across a commit (the text before R179): the configuration index, which the caller compares,
and MODE, DC, DF, OUT_PHASE and GROUP_DELAY_NS. -/
def analogKey (img : Bytes) (input conf : Nat) : Bytes :=
  let c := imgSection img secFilter
  let o := u32 c (576 + 4 * conf)
  sliceB c (64 + 16 * (input - 1)) 1 ++ sliceB c (o + 2) 1 ++ sliceB c (o + 4) 2 ++ sliceB c (o + 8) 2 ++ sliceB c (o + 24) 4

/-- The parser entry of a CAN FD channel (Table 4.5): its CAN_FILTERS entry and the layout that this names. -/
def canKey (img : Bytes) (net k : Nat) : Bytes :=
  let c := imgSection img secCanFilters
  let e := sliceB c (64 + 2048 * (net - 1) + 16 * k) 16
  e ++ sliceB c (8256 + 128 * u8 e 3) 128

/-- The parser entry that a channel names (Table 4.5). -/
def parserKey (img : Bytes) (e : Bytes) : Bytes :=
  match chKind e with
  | 3 => analogKey img (chSource e) (chParser e)
  | 4 => canKey img (chSource e) (chParser e)
  | 5 => []
  | _ => parserEntry (imgSection img secParser) (chParser e)

/-- A channel keeps its entry across a commit: its source, type and parser entry are unchanged (R87). -/
def channelKept (old new : Bytes) (ch : Nat) : Bool :=
  let a := chanEntry (imgSection old secChannels) ch
  let b := chanEntry (imgSection new secChannels) ch
  (sliceB a 0 3 == sliceB b 0 3) && chParser a == chParser b && parserKey old a == parserKey new b

/-- The channels that keep their entry when a generation comes into force; none does with no image before. -/
def channelKeeps (old : Option Bytes) (new : Bytes) (ch : Nat) : Bool := (old.map fun o => channelKept o new ch).getD false

/-- What a commit of a new image does to the channels (R87, R117): a channel whose source, type and parser entry are unchanged keeps its
entry; any other becomes empty, and an update formed under the old table no longer reaches it. A receiver that runs switches its line settings later (R107). -/
def ingestCommit (old : Option Bytes) (new : Bytes) (lane : LaneId) (g : IngestState) : IngestState :=
  let nt := imgSection new secChannels
  let keepCh := channelKeeps old new
  { g with
    store := Vector.ofFn fun i => if keepCh i.val then g.store[i] else {}
    release := g.release.filter fun u => keepCh u.chan
    deselected := Vector.ofFn fun i => chStartDeselected (chanEntry nt i.val)
    ports := Vector.ofFn fun i =>
      if i.val < 8 then
        let e := serialEntry nt (8 * lane.num + i.val + 1)
        if g.ports[i].line = [] then { g.ports[i] with line := e }
        else if e = g.ports[i].line then { g.ports[i] with pendingLine := none }
        else { g.ports[i] with pendingLine := some e }
      else g.ports[i] }

end Sys2Proof.Machine
end

