-- ==== Sys2Proof/Machine/Linear.lean ====
section
/-! DEFINITION. Small exact linear algebra over the rationals: three-component vectors, rotations (R6), matrices, Gauss-Jordan inverse. Every operation is rounded to binary64 (R190), an inverse as a whole (log entry 26). -/

namespace Sys2Proof.Machine

/-- A vector of three components. -/
structure V3 where
  x : ℚ := 0
  y : ℚ := 0
  z : ℚ := 0
  deriving DecidableEq, Repr, Inhabited

def V3.add (a b : V3) : V3 := ⟨fadd a.x b.x, fadd a.y b.y, fadd a.z b.z⟩
def V3.sub (a b : V3) : V3 := ⟨fsub a.x b.x, fsub a.y b.y, fsub a.z b.z⟩
def V3.scale (k : ℚ) (a : V3) : V3 := ⟨fmul k a.x, fmul k a.y, fmul k a.z⟩
def V3.dot (a b : V3) : ℚ := fadd (fadd (fmul a.x b.x) (fmul a.y b.y)) (fmul a.z b.z)
def V3.cross (a b : V3) : V3 :=
  ⟨fsub (fmul a.y b.z) (fmul a.z b.y), fsub (fmul a.z b.x) (fmul a.x b.z), fsub (fmul a.x b.y) (fmul a.y b.x)⟩

/-- Degrees to radians. -/
def rad (d : ℚ) : ℚ := fdiv (fmul d Config.pi) 180
/-- Radians to degrees. -/
def deg (r : ℚ) : ℚ := fdiv (fmul r 180) Config.pi
/-- Sine, cosine and tangent of an angle in degrees. -/
def sind (d : ℚ) : ℚ := Config.sin (rad d)
def cosd (d : ℚ) : ℚ := Config.cos (rad d)
def tand (d : ℚ) : ℚ := fdiv (sind d) (cosd d)
/-- Direction of (x, y) in degrees, 0 inclusive to 360 exclusive. -/
def dirDeg (y x : ℚ) : ℚ := fwrap360 (deg (Config.atan2 y x))

/-- Rotation about the body x axis by `d` degrees. -/
def rotX (d : ℚ) (v : V3) : V3 := ⟨v.x, fsub (fmul (cosd d) v.y) (fmul (sind d) v.z), fadd (fmul (sind d) v.y) (fmul (cosd d) v.z)⟩
/-- Rotation about the y axis. -/
def rotY (d : ℚ) (v : V3) : V3 := ⟨fadd (fmul (cosd d) v.x) (fmul (sind d) v.z), v.y, fsub (fmul (cosd d) v.z) (fmul (sind d) v.x)⟩
/-- Rotation about the z axis. -/
def rotZ (d : ℚ) (v : V3) : V3 := ⟨fsub (fmul (cosd d) v.x) (fmul (sind d) v.y), fadd (fmul (sind d) v.x) (fmul (cosd d) v.y), v.z⟩
/-- Body to earth by the z-y-x convention (R6): heading, pitch, roll in degrees. -/
def rotBody (hdg pitch roll : ℚ) (v : V3) : V3 := rotZ hdg (rotY pitch (rotX roll v))

/-- A matrix as its rows. -/
abbrev Mat := List (List ℚ)

def matAt (m : Mat) (i j : Nat) : ℚ := (m.getD i []).getD j 0
def matMake (r c : Nat) (f : Nat → Nat → ℚ) : Mat := (List.range r).map fun i => (List.range c).map (f i)
def matId (n : Nat) : Mat := matMake n n fun i j => if i = j then 1 else 0
def matDiag (l : List ℚ) : Mat := matMake l.length l.length fun i j => if i = j then l.getD i 0 else 0
def matMul (a b : Mat) : Mat :=
  let c := (b.headD []).length
  matMake a.length c fun i j => ((List.range b.length).map fun k => fmul (matAt a i k) (matAt b k j)).foldl fadd 0
def matT (a : Mat) : Mat := matMake (a.headD []).length a.length fun i j => matAt a j i
def matAdd (a b : Mat) : Mat := matMake a.length (a.headD []).length fun i j => fadd (matAt a i j) (matAt b i j)
def dotL (a b : List ℚ) : ℚ := (List.zipWith fmul a b).foldl fadd 0
def matVec (a : Mat) (v : List ℚ) : List ℚ := a.map fun row => dotL row v

/-- One Gauss-Jordan column: divide the pivot row and clear the column elsewhere. A zero pivot leaves the matrix. -/
def jordanStep (m : Mat) (k : Nat) : Mat :=
  let p := matAt m k k
  if p = 0 then m
  else
    let row := (m.getD k []).map (· / p)
    (List.range m.length).map fun i =>
      if i = k then row
      else
        let q := matAt m i k
        List.zipWith (fun a b => a - q * b) (m.getD i []) row

/-- Inverse of a symmetric positive definite matrix, exact, then rounded; that of a singular matrix is open (log entry 26). -/
def matInv (a : Mat) : Mat :=
  let n := a.length
  let aug := matMake n (2 * n) fun i j => if j < n then matAt a i j else if j - n = i then 1 else 0
  let r := (List.range n).foldl jordanStep aug
  if (List.range n).all fun k => matAt r k k == 1 then matMake n n fun i j => f64 (matAt r i (n + j))
  else matMake n n (Config.singularInv a)

/-- The quadratic form v' m v. -/
def matQuad (m : Mat) (v : List ℚ) : ℚ := dotL v (matVec m v)

/-- Weighted least squares: rows h, observation, variance; a prior (column, value, variance) may stand beside them. Solution and its covariance. The
sums over the rows are accumulated one row after the other (R190). -/
def leastSquares (n : Nat) (obs : List (List ℚ × ℚ × ℚ)) (prior : Option (Nat × ℚ × ℚ)) : List ℚ × Mat :=
  let a := matMake n n fun i j =>
    fadd ((obs.map fun o => fdiv (fmul (o.1.getD i 0) (o.1.getD j 0)) o.2.2).foldl fadd 0) (match prior with
        | some (k, _, v) => if i = k ∧ j = k then fdiv 1 v else 0
        | none => 0)
  let y := (List.range n).map fun i =>
    fadd ((obs.map fun o => fdiv (fmul (o.1.getD i 0) o.2.1) o.2.2).foldl fadd 0) (match prior with
        | some (k, x, v) => if i = k then fdiv x v else 0
        | none => 0)
  let c := matInv a
  (matVec c y, c)

/-! Geometry. -/

/-- WGS 84 meridian radius and prime-vertical radius at a latitude in degrees, m (R193). -/
def wgsRadii (lat : ℚ) : ℚ × ℚ :=
  let f : ℚ := 1 / (298257223563 / 1000000000)
  let e2 := f * (2 - f)
  let s := sind lat
  let w2 := fsub 1 (fmul (fmul e2 s) s)
  let w := fsqrt w2
  (fdiv (fmul 6378137 (fsub 1 e2)) (fmul w2 w), fdiv 6378137 w)

/-- A geographic position in 10^-9 degree as metres north and east of the origin (R193). -/
def project (origin : Int × Int) (lat lon : Int) : ℚ × ℚ :=
  let lat0 : ℚ := (origin.1 : ℚ) / 1000000000
  let (m0, n0) := wgsRadii lat0
  let dlat : ℚ := ((lat - origin.1 : Int) : ℚ) / 1000000000
  let dlon : ℚ := ((lon - origin.2 : Int) : ℚ) / 1000000000
  (fmul (rad dlat) m0, fmul (fmul (rad dlon) n0) (cosd lat0))

/-- The geographic position `n` metres north and `e` east of a position in 10^-9 degree, by the projection of R193 about it. -/
def unproject (at_ : Int × Int) (n e : ℚ) : Int × Int :=
  let lat0 : ℚ := (at_.1 : ℚ) / 1000000000
  let (m0, n0) := wgsRadii lat0
  let degPer (r : ℚ) : ℚ := if r = 0 then 0 else 180 * 1000000000 / (Config.pi * r)
  (at_.1 + roundAway (n * degPer m0), at_.2 + roundAway (e * degPer (n0 * cosd lat0)))

end Sys2Proof.Machine
end

