-- ==== Sys2Proof/Machine/CupolaUnit.lean ====
section
/-! DEFINITION. Cupola, the fusion engine of one lane (chapter 8): conversion, raw level, own tests, admission, voting, combination, Q04 and Q09. -/

namespace Sys2Proof.Machine

/-! FUSION_CONFIG (Tables 8.8 to 8.10). -/
def fuSpoofAction (c : Bytes) := u8 c 7
def fuAdmit (c : Bytes) := u16 c 8
def fuClear (c : Bytes) := u16 c 10
def fuConflict (c : Bytes) := u8 c 12
def fuPredFail (c : Bytes) := u8 c 13
def fuMedCyc (c : Bytes) := u8 c 14
def fuPredHeld (c : Bytes) := u8 c 15
def fuTrustInit (c : Bytes) := u16 c 16
def fuTrustUp (c : Bytes) := u16 c 18
def fuTrustDown (c : Bytes) := u16 c 20
def fuTrustMin (c : Bytes) := u16 c 22
def fuSatGate (c : Bytes) : ℚ := q16 c 24
def fuRaim (c : Bytes) : ℚ := q16 c 28
def fuWatchMult (c : Bytes) : ℚ := (u16 c 32 : ℚ) / 256
def fuJamMult (c : Bytes) : ℚ := (u16 c 34 : ℚ) / 256
def fuClkCoast (c : Bytes) : ℚ := (u16 c 36 : ℚ)
/-- PREFER list of a class 1 to 4: reference numbers, best first. -/
def fuPrefer (c : Bytes) (cls : Nat) : List Nat := ((sliceB c (64 + 8 * (cls - 1)) 8).map (·.toNat)).filter (· != 0)
/-- A Q16.16 field of the class block of class 1 to 4. -/
def fuBlock (c : Bytes) (cls off : Nat) : ℚ := q16 c (96 + 32 * (cls - 1) + off)
def fuPredGate (c : Bytes) (cls : Nat) : ℚ := fuBlock c cls 0
def fuPredWarn (c : Bytes) (cls : Nat) : ℚ := fuBlock c cls 4
def fuPairGate (c : Bytes) (cls : Nat) : ℚ := fuBlock c cls 8
def fuConflictMin (c : Bytes) (cls : Nat) : ℚ := fuBlock c cls 12
def fuMedK (c : Bytes) (cls : Nat) : ℚ := fuBlock c cls 16
def fuMedMin (c : Bytes) (cls : Nat) : ℚ := fuBlock c cls 20
def fuGroupGain (c : Bytes) (cls : Nat) : ℚ := (u16 c (96 + 32 * (cls - 1) + 24) : ℚ) / 256
/-- The reference entry of a track. -/
def fuEntry (c : Bytes) (track : Nat) : Bytes := sliceB c (256 + 96 * track) 96
def reClass (e : Bytes) := u8 e 0
def reRef (e : Bytes) := u8 e 1
def reKind (e : Bytes) := u8 e 2
def reStated (e : Bytes) : Bool := bitOf 0 (u8 e 3)
def reChan (e : Bytes) := u16 e 4
def reAnt (e : Bytes) := u8 e 6
def reGroup (e : Bytes) := u8 e 7
def reLever (e : Bytes) : V3 := ⟨(s32 e 8 : ℚ) / 1000, (s32 e 12 : ℚ) / 1000, (s32 e 16 : ℚ) / 1000⟩
def reSigma (e : Bytes) : ℚ := q16 e 20
def reSigmaMax (e : Bytes) : ℚ := q16 e 24
def reJump (e : Bytes) : ℚ := q16 e 28
def reVmax (e : Bytes) : ℚ := q16 e 32
def reNoiseK (e : Bytes) : ℚ := q16 e 36
def reFreeze (e : Bytes) := u16 e 40
def reNoiseTau (e : Bytes) := u16 e 42
def reSatMin (e : Bytes) := u8 e 44
def reLevelMin (e : Bytes) := u8 e 45
def reCorrMax (e : Bytes) := u16 e 46
def reMount (e : Bytes) : ℚ := q16 e 48
def reSector (e : Bytes) (k : Nat) : Nat × Nat := (u16 e (52 + 4 * k), u16 e (54 + 4 * k))
def reSigma2 (e : Bytes) : ℚ := q16 e 60

/-- The first track and the number of tracks of a class (Table 8.1). -/
def classTracks (cls : Nat) : List Nat := match cls with
  | 1 => List.range 8
  | 2 => (List.range 6).map (· + 8)
  | 3 => (List.range 6).map (· + 14)
  | 4 => (List.range 4).map (· + 20)
  | _ => (List.range 8).map (· + 24)

/-- The track of a class and reference number, if the number lies in the class range (Table 8.1). -/
def trackOf (cls ref : Nat) : Option Nat :=
  if ref = 0 then none else (classTracks cls)[ref - 1]?

def classDof (cls : Nat) : ℚ := match cls with
  | 1 => 2
  | 2 => 1
  | 3 => 2
  | 4 => 3
  | _ => 1

/-- A change of track state (Table 8.3 HISTORY). -/
structure TrackHist where
  cycle : Nat := 0
  state : Nat := 0
  cause : Nat := 0
  nis   : Nat := 0
  slots : Nat := 0
  deriving DecidableEq, Repr, Inhabited

/-- One track record (Table 8.3), with the run counts its tests need. -/
structure Track where
  state   : Nat := 0
  cause   : Nat := 0
  cls     : Nat := 0
  refNo   : Nat := 0
  new     : Bool := false
  pairPending : Bool := false
  medHold : Bool := false
  contributed : Bool := false
  anchored : Bool := false
  /-- A relative reference left DESELECTED or STALE and takes a new anchor when it enters CANDIDATE (R205). -/
  reanchor : Bool := false
  predSoft : Bool := false
  passRun : Nat := 0
  /-- FAIL_RUN, and whether it counts median failures (R209) or prediction failures (R207). -/
  failRun : Nat := 0
  failMed : Bool := false
  trust   : Nat := 0
  share   : Nat := 0
  nis     : Option ℚ := none
  lastMeas : Nat := 0
  /-- Last converted quantity, its covariance before F (C11, C22, C12, or the three variances of motion), its inflation factor. -/
  z       : V3 := {}
  /-- Measurement time of Z; 0 before the first. -/
  zMeas   : Nat := 0
  cov     : V3 := {}
  infl    : ℚ := 1
  anchor  : ℚ × ℚ := (0, 0)
  noiseVar : ℚ := 0
  updateCycle : Nat := 0
  history : Vector TrackHist 16 := Vector.replicate 16 {}
  histNext : Nat := 0
  /-- Raw level of KIND 2: clock b and drift d, the measurement time of the solve (none before the first), masks, CLK_AIDED. -/
  clkB    : ℚ := 0
  clkD    : ℚ := 0
  clkAt   : Option Nat := none
  kept    : Nat := 0
  exScreen : Nat := 0
  exResid : Nat := 0
  clkAided : Bool := false
  /-- Value words 0 and 1 of the last NEW measurement and how many in a row were identical. -/
  freezeW : Nat × Nat := (0, 0)
  freezeN : Nat := 0
  /-- Control-point velocity of the cycle with its variances and covariance, when solved (R199). -/
  vel     : Option (ℚ × ℚ × V3) := none
  deriving DecidableEq, Repr, Inhabited

/-- A combination of a class: value, covariance, and the contributing tracks. -/
structure Combo where
  z : V3 := {}
  cov : V3 := {}
  from_ : List Nat := []
  deriving DecidableEq, Repr, Inhabited

/-- The prediction of Q05 (Table 9.4), its values as written in Q16.16. -/
structure Prediction where
  cycle : Nat := 0
  held  : Nat := 0
  none_ : Bool := true
  hdg   : ℚ := 0
  hdgVar : ℚ := 0
  n     : ℚ := 0
  e     : ℚ := 0
  varN  : ℚ := 0
  varE  : ℚ := 0
  covNE : ℚ := 0
  vn    : ℚ := 0
  ve    : ℚ := 0
  deriving DecidableEq, Repr, Inhabited

/-- The Q04 transfer (Table 8.7). -/
structure Q04 where
  cycle  : Nat := 0
  empty  : Bool := true
  posNone : Bool := true
  hdgNone : Bool := true
  attUncomp : Bool := false
  velNone : Bool := true
  posConflict : Bool := false
  hdgConflict : Bool := false
  motionConflict : Bool := false
  predHeld : Bool := false
  predNone : Bool := false
  /-- Contributor masks by track: position, heading, motion; velocity count. -/
  posMask : Nat := 0
  hdgMask : Nat := 0
  motMask : Nat := 0
  velCount : Nat := 0
  n : ℚ := 0
  e : ℚ := 0
  varN : ℚ := 0
  varE : ℚ := 0
  covNE : ℚ := 0
  age : Nat := 0
  hdg : ℚ := 0
  hdgVar : ℚ := 0
  vn : ℚ := 0
  ve : ℚ := 0
  varVn : ℚ := 0
  varVe : ℚ := 0
  roll : ℚ := 0
  pitch : ℚ := 0
  heave : ℚ := 0
  deriving DecidableEq, Repr, Inhabited

/-- The Q09 transfer (R216). -/
structure Q09 where
  windSpeed : ℚ := 0
  windDir   : ℚ := 0
  windN     : Nat := 0
  accPos    : Nat := 0
  accHdg    : Nat := 0
  accMot    : Nat := 0
  windNone  : Bool := true
  windConflict : Bool := false
  posConflict : Bool := false
  hdgConflict : Bool := false
  posNone   : Bool := true
  hdgNone   : Bool := true
  held      : Bool := false
  deriving DecidableEq, Repr, Inhabited

/-- One change that R219 reports after the alarms of a cycle. -/
structure TrackChange where
  track : Nat
  old   : Nat
  new   : Nat
  cause : Nat
  nis   : Nat
  deriving DecidableEq, Repr, Inhabited

/-- Phase-centre position of an antenna relative to the site origin, north and east, m, its height where its POSITION record gives one (R198), and its
velocity (R201). -/
structure AidPoint where
  pos : V3 := {}
  hgt : Option ℚ := none
  vel : V3 := {}
  deriving DecidableEq, Repr, Inhabited

/-- Cupola of one lane. -/
structure CupolaState where
  tracks  : Vector Track 32 := Vector.replicate 32 {}
  /-- The latest combinations of classes 1 to 4, and of velocity; the cycle flag says whether the last cycle formed it. -/
  combo   : Vector (Option Combo) 5 := Vector.replicate 5 none
  comboNow : Vector Bool 5 := Vector.replicate 5 false
  velCombo : Option (ℚ × ℚ × V3) := none
  /-- Consecutive failing and passing cycles of the conflict tests of classes 1 to 4 (R208, R209, R211), and the pair they count; none for
  cycles without a majority. -/
  failRun : Vector Nat 5 := Vector.replicate 5 0
  clearRun : Vector Nat 5 := Vector.replicate 5 0
  pairOf  : Vector (Option (Nat × Nat)) 5 := Vector.replicate 5 none
  /-- References deselected by command (R213). -/
  refDesel : Vector Bool 32 := Vector.replicate 32 false
  /-- State and cause of each track at the last commit of R189, against which R219 reports, and the motion tracks then ACCEPTED (R192). -/
  reported : Vector (Nat × Nat) 32 := Vector.replicate 32 (0, 0)
  attRefs  : List Nat := []
  /-- Site origin in 10^-9 degree, once one is in force (R193). -/
  origin  : Option (Int × Int) := none
  q04     : Q04 := {}
  q09     : Q09 := {}
  /-- The channels as the snapshot stream of Q01 brought them (R32). -/
  chans   : Vector StoreEntry 256 := Vector.replicate 256 {}
  resolveVoid : Nat := 0
  exclScreen : Nat := 0
  exclResid : Nat := 0
  attUncomp : Bool := false
  predHeld : Bool := false
  predNone : Bool := false
  farOrigin : Bool := false
  abandoned : Bool := false
  spoofHold : Bool := false
  posNone : Bool := false
  hdgNone : Bool := false
  windNone : Bool := false
  changes : List TrackChange := []
  /-- The two antennas of the aiding frame (R201), when there is one. -/
  aid     : Option (Vector AidPoint 2) := none
  deriving DecidableEq, Repr, Inhabited

/-- The rotation basis of a cycle (R192). -/
structure Basis where
  roll  : ℚ := 0
  pitch : ℚ := 0
  att   : Bool := false
  hdg   : Option ℚ := none
  deriving DecidableEq, Repr, Inhabited

def Basis.rot (b : Basis) (v : V3) : Option V3 := b.hdg.map fun h => rotBody h b.pitch b.roll v

/-! Class arithmetic. A covariance is (C11, C22, C12); motion uses three variances. -/
def covScale (k : ℚ) (c : V3) : V3 := V3.scale k c
def covInv (cls : Nat) (c : V3) : V3 :=
  if cls = 1 ∨ cls = 3 then
    let d := fsub (fmul c.x c.y) (fmul c.z c.z)
    ⟨fdiv c.y d, fdiv c.x d, fdiv (-c.z) d⟩
  else if cls = 4 then ⟨fdiv 1 c.x, fdiv 1 c.y, fdiv 1 c.z⟩
  else ⟨fdiv 1 c.x, 0, 0⟩
/-- The quadratic form of a symmetric matrix of the class. -/
def covQuad (cls : Nat) (m d : V3) : ℚ :=
  if cls = 1 ∨ cls = 3 then fadd (fadd (fmul (fmul m.x d.x) d.x) (fmul (fmul m.y d.y) d.y)) (fmul (fmul (fmul 2 m.z) d.x) d.y)
  else if cls = 4 then fadd (fadd (fmul (fmul m.x d.x) d.x) (fmul (fmul m.y d.y) d.y)) (fmul (fmul m.z d.z) d.z)
  else fmul (fmul m.x d.x) d.x
def covTr (cls : Nat) (c : V3) : ℚ :=
  if cls = 1 ∨ cls = 3 then fadd c.x c.y else if cls = 4 then fadd (fadd c.x c.y) c.z else c.x
/-- A symmetric matrix of the class applied to a vector. -/
def covMul (cls : Nat) (m d : V3) : V3 :=
  if cls = 1 ∨ cls = 3 then ⟨fadd (fmul m.x d.x) (fmul m.z d.y), fadd (fmul m.z d.x) (fmul m.y d.y), 0⟩
  else if cls = 4 then ⟨fmul m.x d.x, fmul m.y d.y, fmul m.z d.z⟩
  else ⟨fmul m.x d.x, 0, 0⟩
/-- A difference of class quantities; headings wrap. -/
def clsSub (cls : Nat) (a b : V3) : V3 := if cls = 2 then ⟨fwrap180 (fsub a.x b.x), 0, 0⟩ else V3.sub a b
/-- Squared length of a difference. -/
def lenSq (d : V3) : ℚ := fadd (fadd (fmul d.x d.x) (fmul d.y d.y)) (fmul d.z d.z)

/-! Reading the snapshot. -/

/-- What Cupola reads in a cycle. -/
structure CplIn where
  cfg    : Bytes
  table  : Bytes
  oculus : Bytes
  snap   : Vector StoreEntry 256
  snapNs : Nat
  cycle  : Nat
  /-- Channel deselected (R117). -/
  desel  : Nat → Bool
  pred   : Prediction

def CplIn.ent (i : CplIn) (ch : Nat) : StoreEntry := vget i.snap ch
def CplIn.stale (i : CplIn) (ch : Nat) : Bool := isStale (chanEntry i.table ch) i.snapNs (i.ent ch)
def CplIn.infl (i : CplIn) (ch : Nat) : ℚ :=
  (inflation (chanEntry i.table ch) (ageUs i.snapNs (i.ent ch)) : ℚ) / 256
/-- The channel that carries an Oculus record, by its SOURCE byte (Table 5.3). -/
def CplIn.ocu (i : CplIn) (src : Nat) : Option Nat :=
  (List.range 256).find? fun ch =>
    let e := chanEntry i.table ch
    decide (chType e ≠ 0) && chKind e == 5 && chSource e == src
/-- Spoofing state of the EPOCH record: 2 SPOOF. -/
def CplIn.spoof (i : CplIn) : Nat :=
  match i.ocu 0 with
  | some ch => bitsOf 31 30 (vget (i.ent ch).value 3)
  | none => 0

/-- The prediction as R196 lets Cupola use it: available, held. It is held for as many cycles as have passed since the one that it was produced for,
whether its transfer came again with the held marker or none came. -/
def usePred (i : CplIn) : Option (Prediction × Bool) :=
  let p := i.pred
  let held := max p.held ((i.cycle % 2 ^ 32 + 2 ^ 32 - p.cycle) % 2 ^ 32)
  if p.none_ then none
  else if held = 0 then some (p, false)
  else if held ≤ fuPredHeld i.cfg then
    let k : ℚ := (1 + held : Nat)
    some ({ p with varN := fmul k p.varN, varE := fmul k p.varE, covNE := fmul k p.covNE, hdgVar := fmul k p.hdgVar }, true)
  else none

/-- Mean of a list of rationals, rounded. -/
def meanF (l : List ℚ) : ℚ := if l.isEmpty then 0 else fdiv (l.foldl fadd 0) (l.length : ℚ)

/-- The channel of a reference takes part in this cycle: it is not stale, and neither it nor its reference is deselected (R117, R120). -/
def takesPart (i : CplIn) (s : CupolaState) (t : Nat) : Bool :=
  !i.stale (reChan (fuEntry i.cfg t)) && !i.desel (reChan (fuEntry i.cfg t)) && !vget s.refDesel t

/-- The rotation basis (R192). -/
def basisOf (i : CplIn) (s : CupolaState) : Basis :=
  let ms := s.attRefs.filter (takesPart i s)
  let ch (t : Nat) := i.ent (reChan (fuEntry i.cfg t))
  let hdg := match usePred i with
    | some (p, _) => some p.hdg
    | none => if vget s.comboNow 2 then (vget s.combo 2).map (·.z.x) else none
  { roll := meanF (ms.map fun t => chWord (ch t) 0), pitch := meanF (ms.map fun t => chWord (ch t) 1), att := !ms.isEmpty, hdg := hdg }

/-! The raw level (R197 to R199). -/

/-- One filled slot. -/
structure RawSlot where
  idx  : Nat
  h    : List ℚ
  w0   : ℚ
  w1   : ℚ
  w2   : ℚ
  var  : ℚ
  sdDr : ℚ
  fresh : Bool
  deriving DecidableEq, Repr, Inhabited

/-- The filled slots of an antenna without SATURATED (R197); a stale or deselected channel takes no part (R117, R120). -/
def rawSlots (i : CplIn) (ant : Nat) (f : ℚ) : List RawSlot :=
  (List.range 16).filterMap fun k =>
    match i.ocu (3 * 32 + 16 * ant + k) with
    | none => none
    | some ch =>
      let e := i.ent ch
      let w6 := vget e.value 6
      let w7 := vget e.value 7
      if i.stale ch ∨ i.desel ch ∨ bitsOf 31 29 w6 = 0 ∨ bitOf 1 w7 = true then none
      else
        let u (j : Nat) : ℚ := ofQ 30 (toSigned 32 (vget e.value j))
        let sd : ℚ := (bitsOf 31 16 w7 : ℚ) / 1000
        let mult : ℚ := fmul (if bitOf 6 w7 then fuWatchMult i.cfg else 1) (if bitOf 4 w7 then fuJamMult i.cfg else 1)
        some { idx := k, h := [-(u 3), -(u 4), -(u 5), 1], w0 := chWord e 0, w1 := chWord e 1, w2 := chWord e 2,
               var := fmul (fmul (fmul sd sd) f) mult, sdDr := (bitsOf 15 8 w7 : ℚ) / 10000, fresh := bitOf 5 w7 || bitOf 7 w7 }

/-- What the raw level gives an internal reference. -/
structure RawOut where
  z    : Option (V3 × V3) := none
  cause : Nat := 3
  track : Track := {}
  screened : Nat := 0
  resid : Nat := 0
  deriving DecidableEq, Repr, Inhabited

/-- A solve under the count rules of R198. -/
def rawSolve (coast : ℚ) (age : Option ℚ) (bPred : ℚ) (ss : List RawSlot) : Option (List ℚ × Mat × Bool) :=
  let obs := ss.map fun x => (x.h, x.w0, x.var)
  if 4 ≤ ss.length then
    let r := leastSquares 4 obs none
    some (r.1, r.2, false)
  else if ss.length = 3 then
    match age with
    | some a =>
      if a ≤ coast then
        let sg := fadd (fdiv 3 10) (fdiv a 2)
        let r := leastSquares 4 obs (some (3, bPred, fmul sg sg))
        some (r.1, r.2, true)
      else none
    | none => none
  else none

/-- The slot with the largest normalised residual. -/
def worstSlot (x : List ℚ) (ss : List RawSlot) : Option (RawSlot × ℚ) :=
  ss.foldl (fun best s =>
    let r := fdiv (absQ (fsub s.w0 (dotL s.h x))) (fsqrt s.var)
    match best with
    | some (_, q) => if q < r then some (s, r) else best
    | none => some (s, r)) none

/-- The residual passes of R198: at most `k` exclusions. The result is the solution, the kept slots, the excluded ones; none stands for no output. -/
def raimPasses (limit coast : ℚ) (age : Option ℚ) (bPred : ℚ) :
    Nat → List RawSlot → (List ℚ × Mat × Bool) → List Nat → Option ((List ℚ × Mat × Bool) × List RawSlot) × List Nat
  | k, ss, sol, ex =>
    match worstSlot sol.1 ss with
    | none => (some (sol, ss), ex)
    | some (w, r) =>
      if r ≤ limit then (some (sol, ss), ex)
      else match k with
        | 0 => (none, ex)
        | k + 1 =>
          let ss' := ss.filter (·.idx != w.idx)
          match rawSolve coast age bPred ss' with
          | none => (none, ex ++ [w.idx])
          | some sol' => raimPasses limit coast age bPred k ss' sol' (ex ++ [w.idx])

def maskOf (l : List Nat) : Nat := (l.map fun k => 2 ^ k).sum

/-- The raw level of one internal position reference (R197 to R199). A slot without FIRST was filled in the epoch before, RATE_DIV cycles ago (R128, R133). -/
def rawLevel (i : CplIn) (b : Basis) (origin : Int × Int) (rates : V3) (tr : Track) (e : Bytes) : RawOut :=
  let pos := i.ent (reChan e)
  let f := i.infl (reChan e)
  let lin := project origin (chNdeg pos 0) (chNdeg pos 2)
  match b.rot (reLever e) with
  | none => { cause := 3, track := tr }
  | some lev =>
    let ss := rawSlots i (reAnt e) f
    let age : Option ℚ := tr.clkAt.map fun t => fdiv ((pos.meas - t : Nat) : ℚ) 1000000000
    let bPred := fadd tr.clkB (fmul tr.clkD (age.getD 0))
    let coast := fuClkCoast i.cfg
    let screen : Option (Prediction × ℚ) := match usePred i, age with
      | some (p, _), some a => if a ≤ coast then some (p, a) else none
      | _, _ => none
    let passes (s : RawSlot) : Bool := match screen with
      | none => true
      | some (p, a) =>
        let dr : List ℚ := [fsub (fadd p.n lev.x) lin.1, fsub (fadd p.e lev.y) lin.2, 0, bPred]
        let nu := fsub s.w0 (dotL s.h dr)
        let sg := fadd (fdiv 3 10) (fdiv a 2)
        let pp : Mat := [[p.varN, p.covNE, 0, 0], [p.covNE, p.varE, 0, 0], [0, 0, 25, 0], [0, 0, 0, fmul sg sg]]
        !decide (fmul (fuSatGate i.cfg) (fadd s.var (matQuad pp s.h)) < fmul nu nu)
    let kept := ss.filter passes
    let out := ss.filter fun s => !passes s
    let t1 := { tr with exScreen := maskOf (out.map (·.idx)), exResid := 0, kept := maskOf (kept.map (·.idx)), vel := none }
    match rawSolve coast age bPred kept with
    | none => { cause := 3, track := t1, screened := out.length }
    | some sol =>
      let (res, ex) := raimPasses (fuRaim i.cfg) coast age bPred 2 kept sol []
      let t2 := { t1 with exResid := maskOf ex }
      match res with
      | none => { cause := 14, track := t2, screened := out.length, resid := ex.length }
      | some (fin, good) =>
        let x := fin.1
        let z : V3 := ⟨fsub (fadd lin.1 (x.getD 0 0)) lev.x, fsub (fadd lin.2 (x.getD 1 0)) lev.y, 0⟩
        let c : V3 := ⟨matAt fin.2.1 0 0, matAt fin.2.1 1 1, matAt fin.2.1 0 1⟩
        let dt : ℚ := fdiv (fmul (max 1 (u8 i.oculus 2) : ℚ) 2) 100
        let vobs := good.map fun s =>
          (s.h, if s.fresh then s.w2 else fdiv s.w1 dt, fmul (fdiv s.sdDr dt) (fdiv s.sdDr dt))
        let (drift, vel) :=
          if 4 ≤ good.length then
            let v := leastSquares 4 vobs none
            let lever := match b.rot (V3.cross rates (reLever e)) with
              | some l => l
              | none => {}
            (v.1.getD 3 0, some (fsub (v.1.getD 0 0) lever.x, fsub (v.1.getD 1 0) lever.y,
              (⟨matAt v.2 0 0, matAt v.2 1 1, matAt v.2 0 1⟩ : V3)))
          else (tr.clkD, none)
        { z := some (z, c), cause := 0, screened := out.length, resid := ex.length
          track := { t2 with clkB := x.getD 3 0, clkD := drift, clkAt := some pos.meas, clkAided := fin.2.2,
                             kept := maskOf (good.map (·.idx)), vel := vel } }

/-! Conversion (Table 8.2, R195). -/

/-- α_b of R146, the baseline and its length from OCULUS_CONFIG. -/
def ocuBaseline (o : Bytes) : V3 :=
  let p (off : Nat) : ℚ := (s32 o off : ℚ) / 1000
  ⟨p 20 - p 8, p 24 - p 12, p 28 - p 16⟩

/-- Converted quantity and covariance before F, or the anchor offset of a relative reference, or nothing when no basis or origin lets it convert. -/
inductive Converted where
  | value (z c : V3)
  /-- A relative reference: its offset from the anchor and the covariance. -/
  | offset (n e : ℚ) (c : V3)
  | noBasis
  deriving DecidableEq, Repr, Inhabited

def sq (q : ℚ) : ℚ := fmul q q

def convert (i : CplIn) (b : Basis) (s : CupolaState) (e : Bytes) : Converted :=
  let en := i.ent (reChan e)
  let sb := reSigma e
  let lev := reLever e
  match reClass e, reKind e with
  | 1, 1 =>
    match s.origin, b.rot lev with
    | some o, some l =>
      let p := project o (chNdeg en 0) (chNdeg en 2)
      let sg := if reStated e then maxQ sb (chWord en 5) else sb
      .value ⟨fsub p.1 l.x, fsub p.2 l.y, 0⟩ ⟨sq sg, sq sg, 0⟩
    | _, _ => .noBasis
  | 1, 3 =>
    match s.origin, b.hdg with
    | some _, some h =>
      let rho := chWord en 0
      let beta := chWord en 1
      let o := rotZ h ⟨fadd lev.x (fmul rho (cosd beta)), fadd lev.y (fmul rho (sind beta)), 0⟩
      let al := sq sb
      let ac := sq (fmul rho (rad (reSigma2 e)))
      let cb := cosd (h + beta)
      let sbn := sind (h + beta)
      .offset o.x o.y ⟨fadd (fmul (fmul al cb) cb) (fmul (fmul ac sbn) sbn), fadd (fmul (fmul al sbn) sbn) (fmul (fmul ac cb) cb), fmul (fmul (fsub al ac) cb) sbn⟩
    | _, _ => .noBasis
  | 1, 4 =>
    match s.origin, b.hdg with
    | some _, some h =>
      let ta := tand (chWord en 0)
      let tb := tand (chWord en 1)
      let len := chWord en 2
      let k := fdiv len (fsqrt (fadd (fadd 1 (fmul ta ta)) (fmul tb tb)))
      let o := rotZ h ⟨fadd lev.x (fmul k ta), fadd lev.y (fmul k tb), 0⟩
      let c := fadd (sq (fmul len (rad (reSigma2 e)))) (sq sb)
      .offset o.x o.y ⟨c, c, 0⟩
    | _, _ => .noBasis
  | 2, 1 =>
    let sg := if reStated e then maxQ sb (chWord en 2) else sb
    .value ⟨fwrap360 (chWord en 0 + reMount e), 0, 0⟩ ⟨sq sg, 0, 0⟩
  | 2, 2 =>
    let bl := ocuBaseline i.oculus
    let len := fsqrt (fadd (fadd (fmul bl.x bl.x) (fmul bl.y bl.y)) (fmul bl.z bl.z))
    let base := sq (maxQ sb (chWord en 4))
    if b.att then
      let l := rotY b.pitch (rotX b.roll bl)
      .value ⟨fwrap360 (fsub (fadd (chWord en 3) (dirDeg bl.y bl.x)) (dirDeg l.y l.x)), 0, 0⟩ ⟨base, 0, 0⟩
    else .value ⟨fwrap360 (chWord en 3), 0, 0⟩ ⟨fadd base (sq (fmul (fdiv (absQ bl.z) len) 3)), 0, 0⟩
  | 3, _ =>
    let g := fwrap360 (chWord en 1 + reMount e)
    .value ⟨fmul (chWord en 0) (cosd g), fmul (chWord en 0) (sind g), 0⟩ ⟨sq sb, sq sb, 0⟩
  | 4, _ =>
    let r := chWord en 0
    let p := chWord en 1
    .value ⟨r, p, fsub (fadd (chWord en 2) (fmul lev.x (sind p))) (fmul lev.y (sind r))⟩ ⟨sq sb, sq sb, sq (reSigma2 e)⟩
  | _, _ => .value ⟨chWord en 0, 0, 0⟩ ⟨1, 0, 0⟩

/-- A direction in degrees lies in one of the two blanked sectors. -/
def inSector (e : Bytes) (d : ℚ) : Bool :=
  [0, 1].any fun k =>
    let (a, b) := reSector e k
    a != b && decide (fwrap360 (d - (a : ℚ)) ≤ fwrap360 ((b : ℚ) - (a : ℚ)))

/-- The validity test of Table 8.6; the internal position case is judged by the raw level. -/
def validOk (i : CplIn) (s : CupolaState) (e : Bytes) : Bool :=
  let en := i.ent (reChan e)
  match reClass e, reKind e with
  | 1, 1 =>
    !((decide (reSigmaMax e ≠ 0) && decide (reSigmaMax e < chWord en 5))
      || (decide (reSatMin e ≠ 0) && decide (vget en.value 7 < reSatMin e))
      || (decide (reCorrMax e ≠ 0) && decide ((reCorrMax e : ℚ) < chWord en 6)))
  | 1, 3 =>
    !((decide (reSatMin e ≠ 0) && decide (vget en.value 2 ≠ reSatMin e))
      || (decide (reLevelMin e ≠ 0) && decide (vget en.value 3 < reLevelMin e)))
  | 2, 2 => bitOf 0 (vget en.value 5)
  | 3, _ =>
    let d := match vget s.combo 3 with
      | some c => dirDeg c.z.y c.z.x
      | none => fwrap360 (chWord en 1 + reMount e)
    !inSector e d
  | _, _ => true

/-- What the reference level leaves of one track for the decision level. -/
structure TrackWork where
  t      : Track
  ownPass : Bool := false
  d2     : Option ℚ := none
  aged   : Nat := 0
  screened : Nat := 0
  resid  : Nat := 0
  deriving DecidableEq, Repr, Inhabited

/-- The value against which the innovation of a class is taken (Table 8.6), with its covariance when it is the prediction. -/
def innovRef (i : CplIn) (s : CupolaState) (cls : Nat) : Option (V3 × V3) :=
  match cls with
  | 1 => (usePred i).map fun p => (⟨p.1.n, p.1.e, 0⟩, ⟨p.1.varN, p.1.varE, p.1.covNE⟩)
  | 2 => (usePred i).map fun p => (⟨p.1.hdg, 0, 0⟩, ⟨p.1.hdgVar, 0, 0⟩)
  | 3 => (vget s.combo 3).map fun c => (c.z, {})
  | 4 => (vget s.combo 4).map fun c => (c.z, {})
  | _ => none

/-- The estimate at which a relative reference is anchored (R205): prediction, previous combined position, site origin. -/
def anchorAt (i : CplIn) (s : CupolaState) : V3 :=
  match usePred i with
  | some p => ⟨p.1.n, p.1.e, 0⟩
  | none => match vget s.combo 1 with
    | some c => c.z
    | none => {}

/-- A position reference is converted only with a site origin and a heading basis; without them its track receives no measurement (R192, R193). -/
def measurable (b : Basis) (s : CupolaState) (e : Bytes) : Bool := reClass e != 1 || (s.origin.isSome && b.hdg.isSome)

/-- A NEW measurement enters its track before it is tested (R203): its time, its value, the freeze count, NOISE_VAR and the prediction statistic. -/
def takeMeasurement (i : CplIn) (s : CupolaState) (e : Bytes) (zc : Option (V3 × V3)) (t : Track) : Track :=
  let en := i.ent (reChan e)
  let cls := reClass e
  let w01 := (vget en.value 0, vget en.value 1)
  let t1 := { t with
    new := true, lastMeas := en.meas, infl := i.infl (reChan e), freezeW := w01, freezeN := if t.freezeN ≠ 0 ∧ t.freezeW = w01 then t.freezeN + 1 else 1 }
  match zc with
  | none => t1
  | some (z, c) =>
    let ref := if cls = 5 then none else innovRef i s cls
    let nu := ref.map fun r => clsSub cls z r.1
    let d2 := if cls = 1 ∨ cls = 2 then (match ref, nu with
        | some r, some d => some (covQuad cls (covInv cls (V3.add (covScale t1.infl c) r.2)) d)
        | _, _ => none) else none
    { t1 with
      z := z, zMeas := en.meas, cov := c
      noiseVar := match nu with
        | some d => fadd t.noiseVar (fdiv (fsub (fdiv (lenSq d) (classDof cls)) t.noiseVar) (reNoiseTau e : ℚ))
        | none => t.noiseVar
      nis := if d2.isSome then d2 else t.nis
      predSoft := match d2 with
        | some q => decide (fuPredWarn i.cfg cls < q)
        | none => t.predSoft }

/-- The jump test of Table 8.6 between the last converted quantity and a new one. -/
def jumps (e : Bytes) (z : V3) (meas : Nat) (t : Track) : Bool :=
  let cls := reClass e
  let dz := clsSub cls z t.z
  let dt : ℚ := fdiv ((meas - t.zMeas : Nat) : ℚ) 1000000000
  decide (fadd (reJump e) (fmul (reVmax e) dt) < fsqrt (lenSq (if cls = 4 then ⟨dz.x, dz.y, 0⟩ else dz)))

/-- The reference level for one track (R203, R205). A relative reference that is to enter CANDIDATE from DESELECTED or STALE, or was never anchored, is
tested with the anchor it would take, and takes it when it passes. -/
def ownTests (i : CplIn) (b : Basis) (s : CupolaState) (rates : V3) (k : Nat) : TrackWork :=
  let e := fuEntry i.cfg k
  let t0 := { vget s.tracks k with contributed := false, pairPending := false, medHold := false, new := false, share := 0, vel := none }
  let en := i.ent (reChan e)
  let cls := reClass e
  let fail (t : Track) (st cause : Nat) : Track := { t with state := st, cause := cause, passRun := 0, failRun := 0, failMed := false }
  if cls = 0 then { t := { t0 with state := 0, cause := 0, cls := 0 } }
  else if vget s.refDesel k || i.desel (reChan e) then { t := fail { t0 with reanchor := true } 1 2 }
  else if i.stale (reChan e) then { t := fail { t0 with reanchor := true } 2 1 }
  else
    let isNew := measurable b s e && decide (t0.lastMeas < en.meas) && !en.empty
    let internal := cls == 1 && reKind e == 2
    let spoofed := (internal || (cls == 2 && reKind e == 2)) && i.spoof == 2 && fuSpoofAction i.cfg == 1
    let raw : RawOut := match internal && isNew, s.origin with
      | true, some o => rawLevel i b o rates t0 e
      | _, _ => { track := t0, cause := 0 }
    let conv : Converted := if internal then (match raw.z with
        | some (z, c) => .value z c
        | none => .noBasis)
      else if measurable b s e then convert i b s e else .noBasis
    let t1 := raw.track
    let at_ (a : ℚ × ℚ) : Option (V3 × V3) := match conv with
      | .value z c => some (z, c)
      | .offset n o c => some (⟨fsub a.1 n, fsub a.2 o, 0⟩, c)
      | .noBasis => none
    let fresh : Option (ℚ × ℚ) := match conv with
      | .offset n o _ => if t1.anchored && !t1.reanchor then none else
          let q := anchorAt i s
          some (fadd q.x n, fadd q.y o)
      | _ => none
    let zc := at_ (fresh.getD t1.anchor)
    let t2 := if isNew then takeMeasurement i s e zc t1 else { t1 with infl := i.infl (reChan e) }
    let d2 := if isNew ∧ (cls = 1 ∨ cls = 2) ∧ zc.isSome ∧ (innovRef i s cls).isSome then t2.nis else none
    let jump : Bool := match zc with
      | some (z, _) => t1.zMeas != 0 && fresh.isNone && jumps e z en.meas t1
      | none => false
    let cause : Option Nat :=
      if isNew ∧ internal ∧ raw.cause ≠ 0 then some raw.cause
      else if isNew ∧ !internal ∧ cls ≠ 5 ∧ !validOk i s e then some 3
      else if spoofed then some 9
      else if isNew ∧ reFreeze e ≠ 0 ∧ reFreeze e ≤ t2.freezeN then some 4
      else if isNew ∧ jump then some 5
      else if isNew ∧ cls ≠ 5 ∧ zc.isSome ∧ fdiv (fmul (sq (reNoiseK e)) (covTr cls (covScale t2.infl t2.cov))) (classDof cls) < t2.noiseVar then some 6
      else if cls ≠ 5 ∧ t2.trust < fuTrustMin i.cfg then some 8
      else none
    let age := ageUs i.snapNs en
    match cause with
    | some c =>
      let t3 := match fresh, at_ t1.anchor with
        | some _, some (z, _) => { t2 with z := if t1.anchored then z else t1.z }
        | _, _ => t2
      { t := fail { t3 with reanchor := false } 6 c, d2 := d2, aged := age, screened := raw.screened, resid := raw.resid }
    | none =>
      let t3 := match fresh, zc with
        | some a, some (z, c) => { t2 with anchored := true, anchor := a, reanchor := false, z := z, cov := c, zMeas := en.meas }
        | _, _ => t2
      { t := t3, ownPass := true, d2 := d2, aged := age, screened := raw.screened, resid := raw.resid }

/-- A track that passed enters CANDIDATE from DESELECTED, STALE, REJECTED or VOTED_OUT (R205); a monitor track is MONITOR. -/
def enterCandidate (w : TrackWork) : TrackWork :=
  if !w.ownPass then w
  else if w.t.cls = 5 then { w with t := { w.t with state := 8, cause := 0 } }
  else if w.t.state = 1 ∨ w.t.state = 2 ∨ w.t.state = 6 ∨ w.t.state = 7 then
    { w with t := { w.t with state := 3, cause := 0, passRun := 0, failRun := 0, failMed := false } }
  else w

/-! The decision level (R206 to R214). -/

/-- Inflated covariance of a member. -/
def TrackWork.cf (w : TrackWork) : V3 := covScale w.t.infl w.t.cov

/-- The magnitude test of R210 for a difference against a limit per component. -/
def exceeds (cls : Nat) (d : V3) (lim : ℚ) : Bool :=
  if cls = 4 then decide (lim < absQ d.x) || decide (lim < absQ d.y) || decide (lim < absQ d.z)
  else decide (lim < fsqrt (lenSq d))

/-- The pair test fails (R208, R210). -/
def pairFails (c : Bytes) (cls : Nat) (a b : TrackWork) : Bool :=
  let d := clsSub cls a.t.z b.t.z
  let q := covQuad cls (covInv cls (V3.add a.cf b.cf)) d
  decide (fuPairGate c cls < q) && exceeds cls d (fuConflictMin c cls)

/-- Median of a list; the mean of the two middle values for an even count. -/
def medianQ (l : List ℚ) : ℚ :=
  let s := l.mergeSort (fun a b => decide (a ≤ b))
  if s.length % 2 = 1 then s.getD (s.length / 2) 0 else fdiv (fadd (s.getD (s.length / 2 - 1) 0) (s.getD (s.length / 2) 0)) 2

/-- Headings are handled as deviations from the prediction or the previous combination. -/
def headingBase (i : CplIn) (s : CupolaState) (ws : List TrackWork) : ℚ :=
  match usePred i with
  | some p => p.1.hdg
  | none => match vget s.combo 2 with
    | some c => c.z.x
    | none => match ws with
      | w :: _ => w.t.z.x
      | [] => 0

/-- The median of the members' quantities, component by component (R209). -/
def medianOf (cls : Nat) (base : ℚ) (ws : List TrackWork) : V3 :=
  if cls = 2 then ⟨fwrap360 (fadd base (medianQ (ws.map fun w => fwrap180 (fsub w.t.z.x base)))), 0, 0⟩
  else ⟨medianQ (ws.map (·.t.z.x)), medianQ (ws.map (·.t.z.y)), medianQ (ws.map (·.t.z.z))⟩

/-- A member fails the median test (R209, R210). -/
def medianFails (c : Bytes) (cls : Nat) (m : V3) (w : TrackWork) : Bool :=
  let d := clsSub cls w.t.z m
  let lim (v : ℚ) : ℚ := maxQ (fuMedMin c cls) (fmul (fuMedK c cls) (fsqrt v))
  let cf := w.cf
  if cls = 4 then decide (lim cf.x < absQ d.x) || decide (lim cf.y < absQ d.y) || decide (lim cf.z < absQ d.z)
  else decide (lim (fdiv (covTr cls cf) (classDof cls)) < fsqrt (lenSq d))

/-- d² lies above PRED_GATE. -/
def predFails (c : Bytes) (cls : Nat) (w : TrackWork) : Bool := match w.d2 with
  | some q => decide (fuPredGate c cls < q)
  | none => false

/-- The working set of a cycle: tracks in ascending number. -/
abbrev Works := List (Nat × TrackWork)

def setWork (k : Nat) (f : TrackWork → TrackWork) (ws : Works) : Works :=
  ws.map fun p => if p.1 = k then (p.1, f p.2) else p

def setState (st cause : Nat) (w : TrackWork) : TrackWork := { w with t := { w.t with state := st, cause := cause } }

/-- Outcome of the vote of a class: the works, the withheld tracks, the run counts with the pair they count. -/
structure Vote where
  ws : Works
  withheld : List Nat := []
  failRun : Nat := 0
  clearRun : Nat := 0
  pair : Option (Nat × Nat) := none

/-- FAIL_RUN of one kind, prediction or median, after a cycle. -/
def runNext (med hit : Bool) (t : Track) : Track :=
  { t with failRun := if hit then (if t.failMed = med then t.failRun else 0) + 1 else 0, failMed := med }
def noRun (w : TrackWork) : TrackWork := { w with t := { w.t with failRun := 0 } }

/-- One member (R207). A cycle without a NEW measurement neither fails nor passes the prediction test. -/
def voteOne (i : CplIn) (cls k : Nat) (w : TrackWork) (ws : Works) : Vote :=
  let w1 := if w.t.state = 5 then setState 4 0 w else w
  let fails := predFails i.cfg cls w1
  let w2 : TrackWork := if w1.d2.isSome then { w1 with t := runNext false fails w1.t } else w1
  { ws := setWork k (fun _ => if fails ∧ fuPredFail i.cfg ≤ w2.t.failRun then setState 6 7 w2 else w2) ws }

/-- Two members (R208, R211); the counts go on only for the same pair. -/
def voteTwo (i : CplIn) (s : CupolaState) (cls a b : Nat) (wa wb : TrackWork) (ws : Works) : Vote :=
  let same := vget s.pairOf cls == some (a, b)
  let both (f : TrackWork → TrackWork) : Works := setWork b (fun w => noRun (f w)) (setWork a (fun w => noRun (f w)) ws)
  if pairFails i.cfg cls wa wb then
    let n := (if same then vget s.failRun cls else 0) + 1
    let hold (w : TrackWork) : TrackWork :=
      let w1 : TrackWork := { w with t := { w.t with pairPending := true } }
      if fuConflict i.cfg ≤ n ∧ w1.t.state ≠ 5 then setState 5 10 w1 else w1
    { ws := both hold, withheld := [a, b], failRun := n, pair := some (a, b) }
  else if wa.t.state = 5 ∨ wb.t.state = 5 then
    let n := (if same then vget s.clearRun cls else 0) + 1
    if fuClear i.cfg ≤ n then { ws := both fun w => if w.t.state = 5 then setState 4 0 w else w, pair := some (a, b) }
    else { ws := both id, clearRun := n, pair := some (a, b) }
  else { ws := both id, pair := some (a, b) }

/-- Three or more members (R209). -/
def voteMany (i : CplIn) (s : CupolaState) (cls : Nat) (v ws : Works) : Vote :=
  let nums := v.map (·.1)
  let m := medianOf cls (headingBase i s (v.map (·.2))) (v.map (·.2))
  let bad := (v.filter fun p => medianFails i.cfg cls m p.2).map (·.1)
  let good := nums.filter fun k => !bad.contains k
  if 2 ≤ good.length ∧ nums.length < 2 * good.length then
    let pass (w : TrackWork) : TrackWork := noRun (if w.t.state = 5 then setState 4 0 w else w)
    let miss (w : TrackWork) : TrackWork :=
      let w1 : TrackWork := { w with t := runNext true true w.t }
      if predFails i.cfg cls w = true ∨ fuMedCyc i.cfg ≤ w1.t.failRun then setState 7 11 w1 else { w1 with t := { w1.t with medHold := true } }
    { ws := ws.map fun p => if good.contains p.1 then (p.1, pass p.2) else if bad.contains p.1 then (p.1, miss p.2) else p, withheld := bad }
  else
    let n := (if vget s.pairOf cls = none then vget s.failRun cls else 0) + 1
    let hold (w : TrackWork) : TrackWork :=
      let w1 : TrackWork := noRun { w with t := { w.t with pairPending := true } }
      if fuConflict i.cfg ≤ n ∧ w1.t.state ≠ 5 then setState 5 10 w1 else w1
    { ws := ws.map fun p => if nums.contains p.1 then (p.1, hold p.2) else p, withheld := nums, failRun := n }

/-- V of a class: ACCEPTED and SUSPECT tracks whose own tests passed (R206). -/
def votersOf (ws : Works) : Works := ws.filter fun p => (p.2.t.state == 4 || p.2.t.state == 5) && p.2.ownPass

/-- R207 to R209 for one class. -/
def voteClass (i : CplIn) (s : CupolaState) (cls : Nat) (ws : Works) : Vote :=
  match votersOf ws with
  | [] => { ws := ws }
  | [(k, w)] => voteOne i cls k w ws
  | [(a, wa), (b, wb)] => voteTwo i s cls a b wa wb ws
  | v => voteMany i s cls v ws

/-- Rank in a PREFER list; unlisted references rank below every listed one. -/
def preferRank (l : List Nat) (ref : Nat) : Nat := (l.takeWhile (· != ref)).length

/-- The preferred-reference rule while a conflict stands (R212). -/
def preferRule (c : Bytes) (cls : Nat) (ws : Works) : Works :=
  let sus := ws.filter (·.2.t.state == 5)
  let l := fuPrefer c cls
  if sus.length < 2 then ws
  else
    match sus.find? fun p => sus.all fun q => q.1 == p.1 || decide (preferRank l p.2.t.refNo < preferRank l q.2.t.refNo) with
    | none => ws
    | some p => ws.map fun q => if q.2.t.state = 5 then (if q.1 = p.1 then (q.1, setState 4 0 q.2) else (q.1, setState 7 12 q.2)) else q

/-- A candidate agrees with V in this cycle (R205). -/
def agrees (i : CplIn) (s : CupolaState) (cls : Nat) (v : List TrackWork) (w : TrackWork) : Bool :=
  match v with
  | [] => true
  | [m] => !pairFails i.cfg cls w m
  | ms =>
    let all := ms ++ [w]
    !medianFails i.cfg cls (medianOf cls (headingBase i s all) all) w

/-- Admission of candidates (R205). -/
def admitTrack (i : CplIn) (s : CupolaState) (cls : Nat) (v : List TrackWork) (p : Nat × TrackWork) : Nat × TrackWork :=
  let w := p.2
  if w.t.state ≠ 3 then p
  else if w.ownPass ∧ w.t.lastMeas ≠ 0 ∧ predFails i.cfg cls w = false ∧ agrees i s cls v w = true then
    let n := min (w.t.passRun + 1) 65535
    if fuAdmit i.cfg ≤ n then (p.1, { w with t := { w.t with state := 4, cause := 0, passRun := n, failRun := 0, trust := fuTrustInit i.cfg } })
    else (p.1, { w with t := { w.t with passRun := n } })
  else (p.1, { w with t := { w.t with passRun := 0 } })

/-- Trust as a fraction: 0xFFFF stands for 65535/65536. -/
def trustQ (t : Nat) : ℚ := (t : ℚ) / 65536

/-- Information of a member for its group and its share: trust times the mean of the inverse covariance. -/
def memberInfo (cls : Nat) (w : TrackWork) : ℚ := fmul (trustQ w.t.trust) (covTr cls (covInv cls w.cf))

/-- The group factor g (R214), over the trusts of the group's contributors. -/
def groupFactor (c : Bytes) (cls : Nat) (con : List (Nat × TrackWork)) (p : Nat × TrackWork) : ℚ :=
  let g := reGroup (fuEntry c p.1)
  let mates := con.filter fun q => reGroup (fuEntry c q.1) == g
  if g = 0 ∨ mates.length ≤ 1 then 1
  else
    let ws := mates.map fun q => trustQ q.2.t.trust
    minQ 1 (fdiv (fmul (fuGroupGain c cls) (ws.foldl maxQ 0)) (ws.foldl fadd 0))

/-- The combination of the contributors of a class in information form (R214). -/
def combine (c : Bytes) (cls : Nat) (base : ℚ) (con : List (Nat × TrackWork)) : Option Combo :=
  if con.isEmpty then none
  else
    let acc := con.foldl (fun (a : V3 × V3) p =>
      let w := fmul (trustQ p.2.t.trust) (groupFactor c cls con p)
      let inv := covScale w (covInv cls p.2.cf)
      let z := if cls = 2 then (⟨fwrap180 (fsub p.2.t.z.x base), 0, 0⟩ : V3) else p.2.t.z
      (V3.add a.1 inv, V3.add a.2 (covMul cls inv z))) (({} : V3), ({} : V3))
    let cc := covInv cls acc.1
    let z := covMul cls cc acc.2
    some { z := if cls = 2 then ⟨fwrap360 (fadd base z.x), 0, 0⟩ else z, cov := cc, from_ := con.map (·.1) }

/-- The combined velocity over internal references that solved it (R214). -/
def combineVel (c : Bytes) (con : List (Nat × TrackWork)) : Option (ℚ × ℚ × V3) × Nat :=
  let vs := con.filterMap fun p => p.2.t.vel.map fun v => (p, v)
  let who := vs.map (·.1)
  if vs.isEmpty then (none, 0)
  else
    let acc := vs.foldl (fun (a : V3 × V3) x =>
      let w := fmul (trustQ x.1.2.t.trust) (groupFactor c 1 who x.1)
      let inv := covScale w (covInv 1 (covScale x.1.2.t.infl x.2.2.2))
      (V3.add a.1 inv, V3.add a.2 (covMul 1 inv ⟨x.2.1, x.2.2.1, 0⟩))) (({} : V3), ({} : V3))
    let cc := covInv 1 acc.1
    let z := covMul 1 cc acc.2
    (some (z.x, z.y, cc), vs.length)

/-- Trust and share after the combination (R204). -/
def afterCombine (c : Bytes) (cls : Nat) (con : List (Nat × TrackWork)) (p : Nat × TrackWork) : Nat × TrackWork :=
  let isCon := con.any (·.1 == p.1)
  let total := (con.map fun q => fmul (memberInfo cls q.2) (groupFactor c cls con q)).foldl fadd 0
  let t := p.2.t
  let share := if isCon then (clampI 0 65535 (roundAway (fdiv (fmul (memberInfo cls p.2) (groupFactor c cls con p)) total * 65536))).toNat else 0
  let trust :=
    if t.state ≠ 4 then t.trust
    else if t.predSoft then t.trust - fuTrustDown c
    else if isCon then min 0xFFFF (t.trust + fuTrustUp c)
    else t.trust
  (p.1, { p.2 with t := { t with contributed := isCon, share := share, trust := trust } })

/-- The decision level of one class: vote, preference, combination, trust, admission. -/
def decisionLevel (i : CplIn) (cls : Nat) (acc : CupolaState × Works) : CupolaState × Works :=
  let (s, all) := acc
  let ks := classTracks cls
  let mine := all.filter fun p => ks.contains p.1
  let v0 := (votersOf mine).map (·.2)
  let vote := voteClass i s cls mine
  let ws := preferRule i.cfg cls vote.ws
  let con := ws.filter fun p => p.2.t.state == 4 && p.2.ownPass && p.2.t.new && !vote.withheld.contains p.1
  let base := headingBase i s (con.map (·.2))
  let c := combine i.cfg cls base con
  let (vel, _) := combineVel i.cfg con
  let ws1 := (ws.map (afterCombine i.cfg cls con)).map (admitTrack i s cls v0)
  let s1 := { s with
    failRun := vmodN s.failRun cls fun _ => vote.failRun
    clearRun := vmodN s.clearRun cls fun _ => vote.clearRun
    pairOf := vmodN s.pairOf cls fun _ => vote.pair
    combo := match c with
      | some x => vmodN s.combo cls fun _ => some x
      | none => s.combo
    comboNow := vmodN s.comboNow cls fun _ => c.isSome
    velCombo := if cls = 1 then vel else s.velCombo }
  (s1, all.map fun p => (ws1.find? (·.1 == p.1)).getD p)

/-- Attitude and turn rates of the references that contributed to the previous combinations (R199) and still take part, degrees per second to
radians. -/
def bodyRates (i : CplIn) (s : CupolaState) : V3 :=
  let ch (t w : Nat) : ℚ := chWord (i.ent (reChan (fuEntry i.cfg t))) w
  let last (cls : Nat) : List Nat := if vget s.comboNow cls then (((vget s.combo cls).map (·.from_)).getD []).filter (takesPart i s) else []
  let mot := last 4
  let hd := (last 2).filter fun t => reKind (fuEntry i.cfg t) == 1
  ⟨rad (meanF (mot.map fun t => ch t 3)), rad (meanF (mot.map fun t => ch t 4)), rad (meanF (hd.map fun t => ch t 1))⟩

/-- LAST_NIS as its Q16.16 word, 0xFFFF_FFFF when there is none. -/
def nisWord (q : Option ℚ) : Nat := match q with
  | some x => ofSigned 32 (toQ16 x)
  | none => 0xFFFFFFFF

/-- Commit one track (R189): the record is written, a change of state since the last commit enters HISTORY. -/
def commitTrack (cycle old : Nat) (new : Track) (slots : Nat) : Track :=
  let t := { new with updateCycle := cycle % 2 ^ 32 }
  if old = new.state then t
  else
    let h : TrackHist := ⟨cycle % 2 ^ 32, new.state, new.cause, (min 65535 (floorQ (new.nis.getD 0 * 256)).toNat), slots⟩
    { t with history := vmodN t.history t.histNext fun _ => h, histNext := (t.histNext + 1) % 16 }

/-- Number of contributors of a class in this cycle. -/
def conCount (s : CupolaState) (cls : Nat) : Nat :=
  if vget s.comboNow cls then ((vget s.combo cls).map (·.from_.length)).getD 0 else 0
def conMask (s : CupolaState) (cls : Nat) : Nat :=
  let first := (classTracks cls).headD 0
  if vget s.comboNow cls then maskOf (((vget s.combo cls).map (·.from_)).getD [] |>.map (· - first)) else 0

/-- A value rounded to Q16.16 as the queues carry it (R190). -/
def qz (q : ℚ) : ℚ := ofQ 16 (toQ16 q)

def stateCount (s : CupolaState) (cls st : Nat) : Nat := ((classTracks cls).filter fun k => (vget s.tracks k).state == st).length
/-- A conflict stands in a class: SUSPECT tracks remain (R211). -/
def conflictIn (s : CupolaState) (cls : Nat) : Bool := decide (stateCount s cls 5 ≠ 0)

/-- The Q04 transfer of a committed cycle (Table 8.7). -/
def q04Of (i : CplIn) (b : Basis) (ages : List Nat) (velN : Nat) (s : CupolaState) : Q04 :=
  let pos := if vget s.comboNow 1 then vget s.combo 1 else none
  let hdg := if vget s.comboNow 2 then vget s.combo 2 else none
  let mot := if vget s.comboNow 4 then vget s.combo 4 else none
  { cycle := i.cycle % 2 ^ 32, empty := false, posNone := pos.isNone, hdgNone := hdg.isNone, attUncomp := !b.att,
    velNone := s.velCombo.isNone, posConflict := conflictIn s 1, hdgConflict := conflictIn s 2, motionConflict := conflictIn s 4,
    predHeld := s.predHeld, predNone := s.predNone,
    posMask := conMask s 1, hdgMask := conMask s 2, motMask := conMask s 4, velCount := velN,
    n := qz ((pos.map (·.z.x)).getD 0), e := qz ((pos.map (·.z.y)).getD 0),
    varN := qz ((pos.map (·.cov.x)).getD 0), varE := qz ((pos.map (·.cov.y)).getD 0), covNE := qz ((pos.map (·.cov.z)).getD 0),
    age := if ages.isEmpty then 0 else ages.sum / ages.length,
    hdg := ofQ 16 (degQ16 ((hdg.map (·.z.x)).getD 0)), hdgVar := qz ((hdg.map (·.cov.x)).getD 0),
    vn := qz ((s.velCombo.map (·.1)).getD 0), ve := qz ((s.velCombo.map (·.2.1)).getD 0),
    varVn := qz ((s.velCombo.map (·.2.2.x)).getD 0), varVe := qz ((s.velCombo.map (·.2.2.y)).getD 0),
    roll := qz ((mot.map (·.z.x)).getD 0), pitch := qz ((mot.map (·.z.y)).getD 0), heave := qz ((mot.map (·.z.z)).getD 0) }

/-- The Q09 transfer of a committed cycle (R216). -/
def q09Of (s : CupolaState) : Q09 :=
  let wnow := vget s.comboNow 3
  let (sp, dir) := match vget s.combo 3 with
    | some c => (qz (fsqrt (fadd (fmul c.z.x c.z.x) (fmul c.z.y c.z.y))), ofQ 16 (degQ16 (dirDeg c.z.y c.z.x)))
    | none => (0, 0)
  { windSpeed := sp, windDir := dir, windN := conCount s 3,
    accPos := stateCount s 1 4, accHdg := stateCount s 2 4, accMot := stateCount s 4 4,
    windNone := !wnow, windConflict := conflictIn s 3, posConflict := conflictIn s 1, hdgConflict := conflictIn s 2,
    posNone := !vget s.comboNow 1, hdgNone := !vget s.comboNow 2, held := false }

/-- Phase-centre position and velocity of each antenna for the aiding frame (R201): from the combined position and velocity, else from the prediction.
A combined position without a combined velocity takes the predicted one, and without either a velocity that the spec does not state (log entry 67). -/
def aidOf (i : CplIn) (b : Basis) (rates : V3) (s : CupolaState) : Option (Vector AidPoint 2) :=
  let pr := (usePred i).map (·.1)
  let vel : ℚ × ℚ := match s.velCombo, pr with
    | some v, _ => (v.1, v.2.1)
    | none, some p => (p.vn, p.ve)
    | none, none => (Config.aidVelocity i.cycle 0, Config.aidVelocity i.cycle 1)
  let cp : Option (ℚ × ℚ × ℚ × ℚ) :=
    match (if vget s.comboNow 1 then vget s.combo 1 else none) with
    | some c => some (c.z.x, c.z.y, vel.1, vel.2)
    | none => pr.map fun p => (p.n, p.e, p.vn, p.ve)
  let arm (k : Nat) : V3 := ⟨fdiv (s32 i.oculus (8 + 12 * k)) 1000, fdiv (s32 i.oculus (12 + 12 * k)) 1000, fdiv (s32 i.oculus (16 + 12 * k)) 1000⟩
  match cp, b.hdg with
  | some (n, e, vn, ve), some h =>
    let rot (v : V3) : V3 := rotBody h b.pitch b.roll v
    let hgt (ch : Nat) : Option ℚ := if (i.ent ch).empty then none else some (chWord (i.ent ch) 4)
    some (Vector.ofFn fun k => { pos := V3.add ⟨n, e, 0⟩ (rot (arm k.val)), hgt := (i.ocu (32 + 16 * k.val)).bind (hgt ·), vel := V3.add ⟨vn, ve, 0⟩ (rot (V3.cross rates (arm k.val))) })
  | _, _ => none

/-- CUPOLA_FUSION: one cycle of Cupola in the order of R189. -/
def cupolaFusion (i : CplIn) (s0 : CupolaState) : CupolaState × List Effect :=
  let b := basisOf i s0
  let rates := bodyRates i s0
  let pr := usePred i
  let s := { s0 with
    attUncomp := !b.att, predNone := pr.isNone, predHeld := (pr.map (·.2)).getD false,
    spoofHold := decide (i.spoof = 2) && fuSpoofAction i.cfg == 1 }
  let works : Works := (List.range 32).map fun k => (k, enterCandidate (ownTests i b s rates k))
  let (s1, ws) := ([4, 2, 1, 3] : List Nat).foldl (fun acc cls => decisionLevel i cls acc) (s, works)
  let scr := (ws.map (·.2.screened)).sum
  let res := (ws.map (·.2.resid)).sum
  let newTracks : Vector Track 32 := Vector.ofFn fun k =>
    let w := (ws.find? (·.1 == k.val)).getD (k.val, { t := s0.tracks[k] })
    commitTrack i.cycle s0.reported[k].1 w.2.t ((List.range 16).filter fun j => bitOf j w.2.t.kept).length
  let now (k : Nat) : Nat × Nat := ((vget newTracks k).state, (vget newTracks k).cause)
  let changed := (List.range 32).filter fun k => vget s0.reported k != now k
  let s2 := { s1 with
    tracks := newTracks
    reported := newTracks.map fun t => (t.state, t.cause)
    attRefs := (classTracks 4).filter fun k => (vget newTracks k).state == 4
    exclScreen := satAdd 0xFFFF s1.exclScreen scr
    exclResid := satAdd 0xFFFF s1.exclResid res
    changes := s1.changes ++ changed.map fun k =>
      ⟨k, (vget s0.reported k).1, (vget newTracks k).state, (vget newTracks k).cause, nisWord (vget newTracks k).nis⟩ }
  let ages := (ws.filter fun p => p.2.t.contributed && decide (p.1 < 8)).map (·.2.aged)
  let velN := ((ws.filter fun p => p.2.t.contributed && decide (p.1 < 8)).filter fun p => p.2.t.vel.isSome).length
  let q4 := q04Of i b ages velN s2
  let far := match (if vget s2.comboNow 1 then vget s2.combo 1 else none) with
    | some c => decide (10000 < fsqrt (fadd (fmul c.z.x c.z.x) (fmul c.z.y c.z.y)))
    | none => s2.farOrigin
  let s3 := { s2 with
    q04 := q4, q09 := q09Of s2, farOrigin := far, posNone := q4.posNone, hdgNone := q4.hdgNone, windNone := !vget s2.comboNow 3,
    aid := aidOf i b rates s2 }
  let evs : List Effect :=
    (changed.filter fun k => (vget s0.reported k).1 != (vget newTracks k).state).map (fun k => .count 0x0201 k 1)
      ++ (if scr = 0 then [] else [.count 0x0202 0xFF scr]) ++ (if res = 0 then [] else [.count 0x0203 0xFF res])
  (s3, evs)

/-- A cycle's fusion is abandoned (Table 2.8): tracks keep their state, Q04 carries an empty set, the previous wind stands; no combination is formed,
and the aiding frame takes the prediction (R201). -/
def cupolaAbandon (i : CplIn) (s : CupolaState) : CupolaState :=
  { s with
    abandoned := true, q04 := { cycle := i.cycle % 2 ^ 32, empty := true }, q09 := { s.q09 with held := true }, comboNow := Vector.replicate 5 false
    velCombo := none, aid := aidOf i (basisOf i s) (bodyRates i s) { s with comboNow := Vector.replicate 5 false, velCombo := none }, attRefs := (classTracks 4).filter fun k => (vget s.tracks k).state == 4, posNone := true, hdgNone := true, windNone := true }

/-- The Q04 transfer as its entries of four words (Table 8.7). -/
def q04Words (q : Q04) : List (List Nat) :=
  let w (x : ℚ) : Nat := ofSigned 32 (toQ16 x)
  let flags := at1 0 q.empty + at1 1 q.posNone + at1 2 q.hdgNone + at1 3 q.attUncomp + at1 4 q.velNone + at1 5 q.posConflict
    + at1 6 q.hdgConflict + at1 7 q.motionConflict + at1 8 q.predHeld + at1 9 q.predNone
  let cnt (m : Nat) : Nat := ((List.range 32).filter fun k => bitOf k m).length
  let e0 := [q.cycle, flags, atF 24 8 (cnt q.posMask) + atF 16 8 (cnt q.hdgMask) + atF 8 8 (cnt q.motMask) + atF 0 8 q.velCount,
    atF 0 8 q.posMask + atF 8 6 q.hdgMask + atF 16 4 q.motMask]
  if q.empty then [e0]
  else [e0, [w q.n, w q.e, w q.varN, w q.varE], [w q.covNE, q.age, 0, 0], [w q.hdg, w q.hdgVar, 0, 0],
    [w q.vn, w q.ve, w q.varVn, w q.varVe], [w q.roll, w q.pitch, w q.heave, 0]]

/-- A new site origin moves anchors by the change of origin (R193). -/
def cupolaShift (dn de : ℚ) (s : CupolaState) : CupolaState :=
  { s with
    tracks := s.tracks.map fun t =>
      if t.anchored then { t with anchor := (fadd t.anchor.1 dn, fadd t.anchor.2 de), z := ⟨fadd t.z.x dn, fadd t.z.y de, 0⟩ }
      else if t.cls = 1 then { t with z := ⟨fadd t.z.x dn, fadd t.z.y de, 0⟩ } else t
    combo := vmodN s.combo 1 fun c => c.map fun x => { x with z := ⟨fadd x.z.x dn, fadd x.z.y de, 0⟩ } }

/-- SELECT and DESELECT of a reference at a boundary: a deselected one leaves V at once (R213). -/
def cupolaSelect (track : Nat) (off : Bool) (s : CupolaState) : CupolaState :=
  { s with
    refDesel := vmodN s.refDesel track fun _ => off
    tracks := if off then vmodN s.tracks track fun t => { t with state := 1, cause := 2, reanchor := true, passRun := 0, failRun := 0 } else s.tracks }

/-- RESOLVE of a track at a boundary (R213). -/
def cupolaResolve (cls track : Nat) (s : CupolaState) : CupolaState :=
  if (vget s.tracks track).state = 5 then
    { s with tracks := Vector.ofFn fun k =>
        let t := s.tracks[k]
        if k.val = track then { t with state := 4, cause := 0 }
        else if (classTracks cls).contains k.val ∧ t.state = 5 then { t with state := 7, cause := 13 }
        else t }
  else { s with resolveVoid := satAdd 0xFFFFFFFF s.resolveVoid 1 }

/-- Tracks at a commit boundary (R217): an entry unchanged in bytes 0 to 63 keeps its record. -/
def cupolaCommit (old : Option Bytes) (new : Bytes) (s : CupolaState) : CupolaState :=
  let nc := imgSection new secFusion
  let same (k : Nat) : Bool := match old with
    | some o => sliceB (fuEntry (imgSection o secFusion) k) 0 64 == sliceB (fuEntry nc k) 0 64
    | none => false
  { s with
    refDesel := Vector.replicate 32 false, attRefs := s.attRefs.filter same
    tracks := Vector.ofFn fun k =>
      let e := fuEntry nc k.val
      if same k.val then s.tracks[k]
      else if reClass e = 0 then {}
      else { state := 3, cause := 15, cls := reClass e, refNo := reRef e, trust := fuTrustInit nc } }

/-- CPL_STATUS, the common low byte apart (Table 8.12). -/
def cplStatusHigh (s : CupolaState) : Nat :=
  at1 31 ([1, 2, 3, 4].any (conflictIn s)) + at1 30 s.posNone + at1 29 s.hdgNone + at1 28 s.attUncomp + at1 27 s.windNone
    + at1 26 s.predHeld + at1 25 s.predNone + at1 24 s.farOrigin + at1 23 s.abandoned + at1 22 s.spoofHold

/-- CPL_CLASS (Table 8.11). -/
def cplClassWord (s : CupolaState) : Nat :=
  atF 28 4 (stateCount s 1 4) + atF 24 4 (stateCount s 1 5) + atF 20 4 (stateCount s 2 4) + atF 16 4 (stateCount s 2 5)
    + atF 12 4 (stateCount s 3 4) + atF 8 4 (stateCount s 3 5) + atF 4 4 (stateCount s 4 4) + atF 0 4 (stateCount s 4 5)

/-- A binary64 field. -/
def leF64 (q : ℚ) : Bytes := leBytes 8 (toBits64 q)

/-- Bytes 0 to 255 of a track record (Table 8.3), a heading wrapped after its rounding (R7); the rest is zero. A HISTORY entry takes 8 bytes (log entry 29). -/
def trackBytes (t : Track) : Bytes :=
  let w (x : ℚ) : Bytes := leQ16 x
  let head := leBytes 1 (16 * t.state + t.cause) ++ leBytes 1 t.cls ++ leBytes 1 t.refNo
    ++ leBytes 1 (at1 0 t.new + at1 1 t.pairPending + at1 2 t.medHold + at1 3 t.contributed + at1 4 t.anchored + at1 5 t.predSoft)
    ++ leBytes 2 t.passRun ++ leBytes 2 t.failRun ++ leBytes 2 t.trust ++ leBytes 2 t.share ++ leBytes 4 (nisWord t.nis)
  let body := leBytes 8 t.lastMeas ++ (if t.cls = 2 then leSigned 4 (degQ16 t.z.x) else w t.z.x) ++ w t.z.y ++ w t.z.z ++ w t.cov.x ++ w t.cov.y ++ w t.cov.z
    ++ w t.anchor.1 ++ w t.anchor.2 ++ w t.noiseVar ++ leBytes 4 t.updateCycle
  let hist := t.history.toList.flatMap fun h =>
    leBytes 4 h.cycle ++ leBytes 1 (16 * h.state + h.cause) ++ leBytes 2 h.nis ++ leBytes 1 h.slots
  head ++ body ++ hist ++ leBytes 4 t.histNext ++ leF64 t.clkB ++ leF64 t.clkD ++ leBytes 8 (t.clkAt.getD 0) ++ leBytes 4 t.kept
    ++ leBytes 4 t.exScreen ++ leBytes 4 t.exResid ++ leBytes 1 (b2n t.clkAided) ++ zeroBytes 23

/-- A track as its record reads after a write from outside. A field whose bytes did not change keeps its exact value. -/
def trackRead (b : Bytes) (t : Track) : Track :=
  let a := trackBytes t
  let new (off n : Nat) : Bool := sliceB a off n != sliceB b off n
  let w (off : Nat) (q : ℚ) : ℚ := if new off 4 then q16 b off else q
  let f (off : Nat) (q : ℚ) : ℚ := if new off 8 then fl64 b off else q
  { t with
    state := u8 b 0 / 16, cause := u8 b 0 % 16, cls := u8 b 1, refNo := u8 b 2, new := bitOf 0 (u8 b 3), pairPending := bitOf 1 (u8 b 3)
    medHold := bitOf 2 (u8 b 3), contributed := bitOf 3 (u8 b 3), anchored := bitOf 4 (u8 b 3), predSoft := bitOf 5 (u8 b 3)
    passRun := u16 b 4, failRun := u16 b 6, trust := u16 b 8, share := u16 b 10
    nis := if new 12 4 then (if u32 b 12 = 0xFFFFFFFF then none else some (q16 b 12)) else t.nis
    lastMeas := u64 b 16, z := ⟨w 24 t.z.x, w 28 t.z.y, w 32 t.z.z⟩, cov := ⟨w 36 t.cov.x, w 40 t.cov.y, w 44 t.cov.z⟩
    anchor := (w 48 t.anchor.1, w 52 t.anchor.2), noiseVar := w 56 t.noiseVar, updateCycle := u32 b 60
    history := Vector.ofFn fun k => ⟨u32 b (64 + 8 * k.val), u8 b (68 + 8 * k.val) / 16, u8 b (68 + 8 * k.val) % 16, u16 b (69 + 8 * k.val), u8 b (71 + 8 * k.val)⟩
    histNext := u32 b 192 % 16, clkB := f 196 t.clkB, clkD := f 204 t.clkD
    clkAt := if new 212 8 then (if u64 b 212 = 0 then none else some (u64 b 212)) else t.clkAt
    kept := u32 b 220, exScreen := u32 b 224, exResid := u32 b 228, clkAided := bitOf 0 (u8 b 232) }

/-- The bytes `d` are written at offset `o` of Cupola state memory; the record of a track stands at `base`. -/
def trackPut (o base : Nat) (d : Bytes) (t : Track) : Track :=
  if base < o + d.length ∧ o < base + 256 then
    trackRead ((trackBytes t).zipIdx.map fun p => if o ≤ base + p.2 ∧ base + p.2 < o + d.length then d.getD (base + p.2 - o) 0 else p.1) t
  else t

/-- CPL_TRACK: the four words of bytes 0 to 15 of a record. -/
def cplTrackWord (s : CupolaState) (k j : Nat) : Nat := u32 (trackBytes (vget s.tracks k)) (4 * j)

end Sys2Proof.Machine
end

