-- ==== Sys2Proof/Machine/ObserverUnit.lean ====
section
/-! DEFINITION. The vessel observer (chapter 9): model, propagation, sequential updates, dead reckoning, Q05 and Q06. Spire's internal formats for
it are not laid out in the spec, so its arithmetic is binary64-rounded here and overflow is checked at the queues (log entry 31). -/

namespace Sys2Proof.Machine

/-! OBSERVER_CONFIG and VESSEL (Tables 9.5 to 9.7). -/
def obRoll (c : Bytes) : Bool := u8 c 2 == 1
def obSub (c : Bytes) := u8 c 3
def obInitSet (c : Bytes) := u8 c 5
def obPosGap (c : Bytes) := u16 c 6
def obHdgGap (c : Bytes) := u16 c 8
def obPosDr (c : Bytes) := u16 c 10
def obHdgDr (c : Bytes) := u16 c 12
def obReturnWarn (c : Bytes) := u16 c 14
def obRollVar (c : Bytes) : ℚ := fl32 c 20
/-- Initial variance `k`: 0 POS, 1 HDG, 2 VEL, 3 RATE, 4 BIAS_NE, 5 BIAS_YAW, 6 WAVE, 7 ROLL. -/
def obP0 (c : Bytes) (k : Nat) : ℚ := fl32 c (24 + 4 * k)
/-- Field `k` of tuning set `s` (Table 9.6): 0 W0_NE, 1 W0_YAW, 2 ZETA, 3 T_BIAS_S, 4 Q_VEL, 5 Q_RATE, 6 Q_BIAS_NE, 7 Q_BIAS_YAW,
8 Q_WAVE_NE, 9 Q_WAVE_YAW, 10 Q_ROLL. -/
def obTune (c : Bytes) (s k : Nat) : ℚ := fl32 c (128 + 64 * s + 4 * k)
/-- VESSEL field `k`: 0 M11, 1 M22, 2 M33, 3 M23, 4 D11, 5 D22, 6 D33, 7 D23, 8 ROLL_PERIOD_S, 9 ROLL_ZETA, 10 K_ROLL. -/
def vesselF (v : Bytes) (k : Nat) : ℚ := fl32 v (4 + 4 * k)

/-- The Q06 transfer (Table 9.3), its values as written. -/
structure Q06 where
  cycle  : Nat := 0
  held   : Bool := false
  init   : Bool := true
  posDr  : Bool := false
  hdgDr  : Bool := false
  posExp : Bool := false
  hdgExp : Bool := false
  stretch : Bool := false
  ret    : Bool := false
  waveSet : Nat := 0
  missed : Nat := 0
  hdg : ℚ := 0
  r   : ℚ := 0
  n   : ℚ := 0
  e   : ℚ := 0
  u   : ℚ := 0
  v   : ℚ := 0
  bx  : ℚ := 0
  by_ : ℚ := 0
  bn  : ℚ := 0
  posGap : Nat := 0
  hdgGap : Nat := 0
  wn  : ℚ := 0
  we  : ℚ := 0
  wh  : ℚ := 0
  roll : ℚ := 0
  rollRate : ℚ := 0
  sdPos : ℚ := 0
  sdHdg : ℚ := 0
  deriving DecidableEq, Repr, Inhabited

/-- The observer of one lane (R235). -/
structure ObserverState where
  init    : Bool := true
  /-- The states of Table 9.1. -/
  x       : List ℚ := []
  p       : Mat := []
  posGap  : Nat := 0
  hdgGap  : Nat := 0
  missed  : Nat := 0
  /-- The wave set that a region has put in force since the observer left INIT (R226). -/
  waveSet : Option Nat := none
  /-- Change of site origin that the next run applies first (R234). -/
  shift   : ℚ × ℚ := (0, 0)
  q06     : Q06 := {}
  q05     : Prediction := {}
  ovf     : Bool := false
  stretch : Bool := false
  reInit  : Nat := 0
  returnMm : Nat := 0
  drPos   : Nat := 0
  /-- The position gap run at the end of the last position dead reckoning (Table 18.5). -/
  drGap   : Nat := 0
  drHdg   : Nat := 0
  deriving DecidableEq, Repr, Inhabited

/-- What a run is given: configuration, cycle, model inputs of the previous cycle (R224), the Q04 transfer. -/
structure ObsIn where
  cfg    : Bytes
  vessel : Bytes
  cycle  : Nat
  tauThr : V3
  tauWind : V3
  q04    : Q04

def xAt (x : List ℚ) (i : Nat) : ℚ := x.getD i 0
/-- The state dimension nx (R222). -/
def obNx (c : Bytes) : Nat := if obRoll c then 17 else 15
/-- The tuning set in force. -/
def ObserverState.set (o : ObserverState) (c : Bytes) : Nat := o.waveSet.getD (obInitSet c)

/-- The inverse mass matrix on (surge, sway, yaw). -/
def massInv (v : Bytes) : Mat := matInv [[vesselF v 0, 0, 0], [0, vesselF v 1, vesselF v 3], [0, vesselF v 3, vesselF v 2]]
/-- The damping matrix; its off-diagonal entries are equal (log entry 32). -/
def dampMat (v : Bytes) : Mat := [[vesselF v 4, 0, 0], [0, vesselF v 5, vesselF v 7], [0, vesselF v 7, vesselF v 6]]

/-- Frozen bias components: north-east, yaw (R231). -/
structure Freeze where
  ne  : Bool
  yaw : Bool

/-- The continuous model (R223). -/
def obModel (i : ObsIn) (set : Nat) (fz : Freeze) (x : List ℚ) : List ℚ :=
  let c := i.cfg
  let psi := 360 * xAt x 2
  let cp := cosd psi
  let sp := sind psi
  let u := xAt x 3
  let v := xAt x 4
  let rr := rad (xAt x 5)
  let bx := f64 (cp * xAt x 6 + sp * xAt x 7)
  let by_ := f64 (cp * xAt x 7 - sp * xAt x 6)
  let dn := matVec (dampMat i.vessel) [u, v, rr]
  let force := [f64 (i.tauThr.x + i.tauWind.x + bx - dn.getD 0 0), f64 (i.tauThr.y + i.tauWind.y + by_ - dn.getD 1 0),
    f64 (i.tauThr.z + i.tauWind.z + xAt x 8 - dn.getD 2 0)]
  let acc := matVec (massInv i.vessel) force
  let tb := obTune c set 3
  let wave (w0 : ℚ) (k : Nat) : List ℚ :=
    [xAt x (k + 1), f64 (-(w0 * w0) * xAt x k - 2 * obTune c set 2 * w0 * xAt x (k + 1))]
  let wr := fdiv (2 * Config.pi) (vesselF i.vessel 8)
  let roll := if obRoll c then
      [xAt x 16, f64 (-(wr * wr) * xAt x 15 - 2 * vesselF i.vessel 9 * wr * xAt x 16 + vesselF i.vessel 10 * i.tauThr.y)] else []
  [f64 (cp * u - sp * v), f64 (sp * u + cp * v), f64 (xAt x 5 / 360), acc.getD 0 0, acc.getD 1 0, deg (acc.getD 2 0),
    if fz.ne then 0 else fdiv (-(xAt x 6)) tb, if fz.ne then 0 else fdiv (-(xAt x 7)) tb, if fz.yaw then 0 else fdiv (-(xAt x 8)) tb]
    ++ wave (obTune c set 0) 9 ++ wave (obTune c set 0) 11 ++ wave (obTune c set 1) 13 ++ roll

/-- The Jacobian of the model (R223). -/
def obJacobian (i : ObsIn) (set : Nat) (fz : Freeze) (x : List ℚ) : Mat :=
  let c := i.cfg
  let psi := 360 * xAt x 2
  let cp := cosd psi
  let sp := sind psi
  let u := xAt x 3
  let v := xAt x 4
  let k := 2 * Config.pi
  let mi := massInv i.vessel
  let dm := dampMat i.vessel
  let md := matMul mi dm
  let d2r := fdiv Config.pi 180
  let bn := xAt x 6
  let be := xAt x 7
  -- row a of the accelerations; yaw is in degrees
  let row (a j : Nat) : ℚ :=
    let s : ℚ := if a = 2 then fdiv 180 Config.pi else 1
    let t : ℚ := match j with
      | 2 => k * (matAt mi a 0 * (cp * be - sp * bn) + matAt mi a 1 * (-(cp * bn) - sp * be))
      | 3 => -(matAt md a 0)
      | 4 => -(matAt md a 1)
      | 5 => -(matAt md a 2) * d2r
      | 6 => matAt mi a 0 * cp - matAt mi a 1 * sp
      | 7 => matAt mi a 0 * sp + matAt mi a 1 * cp
      | 8 => matAt mi a 2
      | _ => 0
    f64 (s * t)
  let tb := obTune c set 3
  let ze := obTune c set 2
  let wv (w0 : ℚ) (b a j : Nat) : ℚ :=
    if a = b then (if j = b + 1 then 1 else 0)
    else if j = b then f64 (-(w0 * w0)) else if j = b + 1 then f64 (-2 * ze * w0) else 0
  let wr := fdiv (2 * Config.pi) (vesselF i.vessel 8)
  matMake (obNx c) (obNx c) fun a j => match a with
    | 0 => if j = 2 then f64 (k * (-(sp * u) - cp * v)) else if j = 3 then cp else if j = 4 then -sp else 0
    | 1 => if j = 2 then f64 (k * (cp * u - sp * v)) else if j = 3 then sp else if j = 4 then cp else 0
    | 2 => if j = 5 then fdiv 1 360 else 0
    | 3 => row 0 j
    | 4 => row 1 j
    | 5 => row 2 j
    | 6 => if j = 6 ∧ fz.ne = false then fdiv (-1) tb else 0
    | 7 => if j = 7 ∧ fz.ne = false then fdiv (-1) tb else 0
    | 8 => if j = 8 ∧ fz.yaw = false then fdiv (-1) tb else 0
    | 9 | 10 => wv (obTune c set 0) 9 a j
    | 11 | 12 => wv (obTune c set 0) 11 a j
    | 13 | 14 => wv (obTune c set 1) 13 a j
    | 15 => if j = 16 then 1 else 0
    | _ => if j = 15 then f64 (-(wr * wr)) else if j = 16 then f64 (-2 * vesselF i.vessel 9 * wr) else 0

/-- Process-noise rates on the diagonal (Table 9.6, R231). -/
def obNoise (c : Bytes) (set : Nat) (fz : Freeze) : List ℚ :=
  let q (k : Nat) := obTune c set k
  let ne : ℚ := if fz.ne then 0 else q 6
  let ya : ℚ := if fz.yaw then 0 else q 7
  [0, 0, 0, q 4, q 4, q 5, ne, ne, ya, 0, q 8, 0, q 8, 0, q 9] ++ (if obRoll c then [0, q 10] else [])

def addL (a b : List ℚ) : List ℚ := List.zipWith fadd a b
def scaleL (k : ℚ) (a : List ℚ) : List ℚ := a.map fun v => f64 (k * v)

/-- The heading state stays a binary angle of 2⁻³² turn (R222). -/
def wrapTurn (x : List ℚ) : List ℚ :=
  listMod x 2 fun t => let r := ofQ 32 (roundAway (t * 4294967296)); r - ((floorQ r : Int) : ℚ)

/-- One substep: midpoint Runge-Kutta for the state, the Jacobian at its start for the covariance (R223, log entry 32). -/
def obSubstep (i : ObsIn) (set : Nat) (fz : Freeze) (h : ℚ) (xp : List ℚ × Mat) : List ℚ × Mat :=
  let (x, p) := xp
  let k1 := obModel i set fz x
  let k2 := obModel i set fz (addL x (scaleL (h / 2) k1))
  let x1 := wrapTurn (addL x (scaleL h k2))
  let n := obNx i.cfg
  let j := obJacobian i set fz x
  let f := matMake n n fun a b => (if a = b then 1 else 0) + f64 (h * matAt j a b)
  let q := obNoise i.cfg set fz
  let p1 := matMul (matMul f p) (matT f)
  let p2 := matMake n n fun a b =>
    let (r, s) := if a ≤ b then (a, b) else (b, a)
    f64 (matAt p1 r s + if r = s then h * q.getD r 0 else 0)
  (x1, p2)

/-- Propagation over `steps` intervals of 20 ms in SUB substeps (R223, R230). -/
def obPropagate (i : ObsIn) (set : Nat) (fz : Freeze) (steps : Nat) (xp : List ℚ × Mat) : List ℚ × Mat :=
  let sub := obSub i.cfg
  let h : ℚ := (steps : ℚ) * (1 / 50) / (sub : ℚ)
  (List.range sub).foldl (fun a _ => obSubstep i set fz h a) xp

/-- A sparse measurement row. -/
def rowOf (n : Nat) (l : List (Nat × ℚ)) : List ℚ := (List.range n).map fun i => lookupD l i 0

/-- The states that dead reckoning freezes (R231): b_N and b_E, and b_ψ. -/
def Freeze.holds (fz : Freeze) (i : Nat) : Bool := (fz.ne && (i == 6 || i == 7)) || (fz.yaw && i == 8)

/-- One scalar update: row h, innovation, variance. A frozen state takes no change (R231): its gain is zero, its variance stays, and its covariances
follow the states that do change (log entry 32). -/
def obUpdate (fz : Freeze) (h : List ℚ) (innov var : ℚ) (xp : List ℚ × Mat) : List ℚ × Mat :=
  let (x, p) := xp
  let n := p.length
  let ph := matVec p h
  let s := f64 (dotL h ph + var)
  let k := ph.map fun v => fdiv v s
  let g := (List.range n).map fun i => if fz.holds i then 0 else k.getD i 0
  (wrapTurn (addL x (scaleL innov g)),
   matMake n n fun a b =>
    let (r, c) := if a ≤ b then (a, b) else (b, a)
    if fz.holds r && fz.holds c then matAt p r c
    else if fz.holds r then f64 (matAt p r c - k.getD c 0 * ph.getD r 0)
    else f64 (matAt p r c - k.getD r 0 * ph.getD c 0))

/-- The north-east pair whitened with the Cholesky factor of its covariance, then two scalar updates (R225). -/
def obPair (fz : Freeze) (h1 h2 : List ℚ) (z : (List ℚ) → ℚ × ℚ) (c11 c22 c12 : ℚ) (xp : List ℚ × Mat) : List ℚ × Mat :=
  let l11 := fsqrt c11
  let l21 := fdiv c12 l11
  let l22 := fsqrt (c22 - l21 * l21)
  let r1 := h1.map fun v => fdiv v l11
  let r2 := (List.zipWith (fun a b => fdiv (f64 (b - l21 * a)) l22) r1 h2)
  let i1 := fdiv (z xp.1).1 l11
  let s1 := obUpdate fz r1 i1 1 xp
  let d := z s1.1
  let w1 := fdiv d.1 l11
  obUpdate fz r2 (fdiv (f64 (d.2 - l21 * w1)) l22) 1 s1

/-- The updates of Table 9.2 in order, with the bias components that are frozen in this run (R231). -/
def obMeasure (i : ObsIn) (set : Nat) (fz : Freeze) (xp : List ℚ × Mat) : List ℚ × Mat :=
  let n := obNx i.cfg
  let q := i.q04
  let s1 := if q.empty || q.posNone then xp else
    obPair fz (rowOf n [(0, 1), (10, 1)]) (rowOf n [(1, 1), (12, 1)])
      (fun x => (f64 (q.n - xAt x 0 - xAt x 10), f64 (q.e - xAt x 1 - xAt x 12))) q.varN q.varE q.covNE xp
  let s2 := if q.empty || q.hdgNone then s1 else
    obUpdate fz (rowOf n [(2, 360), (14, 1)]) (wrap180 (f64 (q.hdg - 360 * xAt s1.1 2 - xAt s1.1 14))) q.hdgVar s1
  let w0 := obTune i.cfg set 0
  let ze := obTune i.cfg set 2
  let dxi (x : List ℚ) (k : Nat) : ℚ := f64 (-(w0 * w0) * xAt x k - 2 * ze * w0 * xAt x (k + 1))
  let vel (east : Bool) (s : List ℚ × Mat) : List ℚ × Mat :=
    let x := s.1
    let psi := 360 * xAt x 2
    let cp := cosd psi
    let sp := sind psi
    let k := 2 * Config.pi
    let u := xAt x 3
    let v := xAt x 4
    if east then
      obUpdate fz (rowOf n [(2, f64 (k * (cp * u - sp * v))), (3, sp), (4, cp), (11, f64 (-(w0 * w0))), (12, f64 (-2 * ze * w0))])
        (f64 (q.ve - (sp * u + cp * v) - dxi x 11)) q.varVe s
    else
      obUpdate fz (rowOf n [(2, f64 (k * (-(sp * u) - cp * v))), (3, cp), (4, -sp), (9, f64 (-(w0 * w0))), (10, f64 (-2 * ze * w0))])
        (f64 (q.vn - (cp * u - sp * v) - dxi x 9)) q.varVn s
  let s3 := if q.empty || q.velNone then s2 else vel true (vel false s2)
  if !obRoll i.cfg || q.empty || q.motMask == 0 then s3
  else obUpdate fz (rowOf n [(15, 1)]) (f64 (q.roll - xAt s3.1 15)) (obRollVar i.cfg) s3

/-- A value rounded to `n` fraction bits of a 32-bit word, and whether it saturates (R277, R278). -/
def spRound (n : Nat) (q : ℚ) : ℚ × Bool :=
  let r := roundAway (q * pow2 n)
  let c := clampI (-(2 : Int) ^ 31) ((2 : Int) ^ 31 - 1) r
  (ofQ n c, decide (c ≠ r))

/-- Saturated gap counts. -/
def cap16 (n : Nat) : Nat := min n 65535

/-- Q06 of a completed run (Table 9.3), and whether a conversion overflowed. -/
def q06Of (i : ObsIn) (o : ObserverState) (set : Nat) (stretch ret : Bool) : Q06 × Bool :=
  let x := o.x
  let psi := 360 * xAt x 2
  let cp := cosd psi
  let sp := sind psi
  let a := matAt o.p 0 0
  let b := matAt o.p 1 1
  let c := matAt o.p 0 1
  let eig := f64 ((a + b) / 2 + fsqrt (((a - b) / 2) * ((a - b) / 2) + c * c))
  let vals : List (ℚ × Bool) := [spRound 16 (wrap360 psi), spRound 16 (xAt x 5), spRound 16 (xAt x 0), spRound 16 (xAt x 1), spRound 16 (xAt x 3),
    spRound 16 (xAt x 4), spRound 16 (cp * xAt x 6 + sp * xAt x 7), spRound 16 (cp * xAt x 7 - sp * xAt x 6), spRound 8 (xAt x 8),
    spRound 16 (xAt x 10), spRound 16 (xAt x 12), spRound 16 (xAt x 14), spRound 16 (if obRoll i.cfg then xAt x 15 else 0),
    spRound 16 (if obRoll i.cfg then xAt x 16 else 0), spRound 16 (fsqrt eig), spRound 16 (360 * fsqrt (matAt o.p 2 2))]
  let v (k : Nat) : ℚ := (vals.getD k (0, false)).1
  ({ cycle := i.cycle % 2 ^ 32, held := false, init := false,
     posDr := decide (obPosGap i.cfg < o.posGap), hdgDr := decide (obHdgGap i.cfg < o.hdgGap),
     posExp := decide (obPosDr i.cfg < o.posGap), hdgExp := decide (obHdgDr i.cfg < o.hdgGap),
     stretch := stretch, ret := ret, waveSet := set, missed := 0,
     hdg := wrap360 (v 0), r := v 1, n := v 2, e := v 3, u := v 4, v := v 5, bx := v 6, by_ := v 7, bn := v 8, posGap := cap16 o.posGap,
     hdgGap := cap16 o.hdgGap, wn := v 9, we := v 10, wh := v 11, roll := v 12, rollRate := v 13, sdPos := v 14, sdHdg := v 15 },
   vals.any (·.2))

/-- Q05 of a completed run: the posterior advanced by 20 ms of the linearised model (R228). -/
def q05Of (i : ObsIn) (o : ObserverState) (set : Nat) (fz : Freeze) : Prediction × Bool :=
  let n := obNx i.cfg
  let h : ℚ := 1 / 50
  let x := addL o.x (scaleL h (obModel i set fz o.x))
  let j := obJacobian i set fz o.x
  let f := matMake n n fun a b => (if a = b then 1 else 0) + f64 (h * matAt j a b)
  let q := obNoise i.cfg set fz
  let p0 := matMul (matMul f o.p) (matT f)
  let p := matMake n n fun a b => f64 (matAt p0 a b + if a = b then h * q.getD a 0 else 0)
  let hn := rowOf n [(0, 1), (10, 1)]
  let he := rowOf n [(1, 1), (12, 1)]
  let hp := rowOf n [(2, 360), (14, 1)]
  let psi := 360 * xAt x 2
  let w0 := obTune i.cfg set 0
  let ze := obTune i.cfg set 2
  let dxi (k : Nat) : ℚ := f64 (-(w0 * w0) * xAt x k - 2 * ze * w0 * xAt x (k + 1))
  let vals : List (ℚ × Bool) := [spRound 16 (wrap360 (f64 (psi + xAt x 14))), spRound 16 (matQuad p hp), spRound 16 (xAt x 0 + xAt x 10),
    spRound 16 (xAt x 1 + xAt x 12), spRound 16 (matQuad p hn), spRound 16 (matQuad p he), spRound 16 (dotL hn (matVec p he)),
    spRound 16 (cosd psi * xAt x 3 - sind psi * xAt x 4 + dxi 9), spRound 16 (sind psi * xAt x 3 + cosd psi * xAt x 4 + dxi 11)]
  let v (k : Nat) : ℚ := (vals.getD k (0, false)).1
  ({ cycle := (i.cycle + 1) % 2 ^ 32, held := 0, none_ := false, hdg := wrap360 (v 0), hdgVar := v 1, n := v 2, e := v 3, varN := v 4, varE := v 5,
     covNE := v 6, vn := v 7, ve := v 8 }, vals.any (·.2))

/-- Dead-reckoning episodes begun (Table 9.8): the gap run of a class goes from `a` to `b` and passes its limit. -/
def drBegun (limit a b n : Nat) : Nat := if a ≤ limit ∧ limit < b then satAdd 0xFFFF n 1 else n

/-- A missed run (R230): the last transfers are written again, held; both gap runs grow. The held Q06 says how many runs were missed (log entry 32). -/
def obMissed (c : Bytes) (ovf : Bool) (o : ObserverState) : ObserverState :=
  { o with
    missed := o.missed + 1, posGap := o.posGap + 1, hdgGap := o.hdgGap + 1, ovf := o.ovf || ovf,
    drPos := if o.init then o.drPos else drBegun (obPosGap c) o.posGap (o.posGap + 1) o.drPos,
    drHdg := if o.init then o.drHdg else drBegun (obHdgGap c) o.hdgGap (o.hdgGap + 1) o.drHdg,
    q06 := { o.q06 with held := true, missed := min 15 (o.missed + 1) }, q05 := { o.q05 with held := min 15 (o.q05.held + 1) } }

/-- A position contributor and a heading contributor stand in the transfer. -/
def q04Pos (q : Q04) : Bool := !q.empty && !q.posNone
def q04Hdg (q : Q04) : Bool := !q.empty && !q.hdgNone

/-- Leaving INIT (R229). -/
def obStart (i : ObsIn) (o : ObserverState) : ObserverState :=
  let c := i.cfg
  let q := i.q04
  let cp := cosd q.hdg
  let sp := sind q.hdg
  let vel := if q.velNone then ((0 : ℚ), (0 : ℚ)) else (f64 (cp * q.vn + sp * q.ve), f64 (cp * q.ve - sp * q.vn))
  let roll : List ℚ := if obRoll c then [if q.motMask == 0 then 0 else q.roll, 0] else []
  let d : List ℚ := [obP0 c 0, obP0 c 0, obP0 c 1, obP0 c 2, obP0 c 2, obP0 c 3, obP0 c 4, obP0 c 4, obP0 c 5,
    obP0 c 6, obP0 c 6, obP0 c 6, obP0 c 6, obP0 c 6, obP0 c 6] ++ (if obRoll c then [obP0 c 7, obP0 c 7] else [])
  { o with
    init := false, posGap := 0, hdgGap := 0, missed := 0
    x := wrapTurn ([q.n, q.e, q.hdg / 360, vel.1, vel.2, 0, 0, 0, 0, 0, 0, 0, 0, 0, 0] ++ roll), p := matDiag d }

/-- Write the outputs of a completed run; an overflow makes the run missed (R280). -/
def obFinish (i : ObsIn) (prev : ObserverState) (set : Nat) (fz : Freeze) (stretch ret : Bool) (retMm : Nat) (o : ObserverState) :
    ObserverState × Bool :=
  let (q6, v6) := q06Of i o set stretch ret
  let (q5, v5) := q05Of i o set fz
  if v6 || v5 then (obMissed i.cfg true prev, true)
  else
    ({ o with
      q06 := q6, q05 := q5, missed := 0, stretch := o.stretch || stretch, returnMm := if ret then retMm else o.returnMm,
      drGap := if ret then prev.posGap else o.drGap
      drPos := drBegun (obPosGap i.cfg) prev.posGap o.posGap o.drPos, drHdg := drBegun (obHdgGap i.cfg) prev.hdgGap o.hdgGap o.drHdg }, false)

/-- OBSERVER_RUN: one run in the order of R221. The second component says that an overflow invalidated it. -/
def observerRun (i : ObsIn) (o0 : ObserverState) : ObserverState × List Effect :=
  -- R234: the change of origin comes first
  let o1 := { o0 with x := listMod (listMod o0.x 0 (fadd o0.shift.1)) 1 (fadd o0.shift.2), shift := (0, 0) }
  let again := !o1.init && decide (5 ≤ o1.missed)
  let o := if again then { o1 with init := true, missed := 0, reInit := satAdd 0xFF o1.reInit 1, waveSet := none } else o1
  if o.init then
    if q04Pos i.q04 && q04Hdg i.q04 then
      let s := obStart i o
      let set := s.set i.cfg
      let (r, v) := obFinish i o set ⟨false, false⟩ false false 0 s
      (r, if v then [.count 0x0303 4 1, .count 0x0305 0xFF 1] else [])
    else
      ({ o with missed := 0, q06 := { cycle := i.cycle % 2 ^ 32, init := true, waveSet := o.set i.cfg }, q05 := { cycle := (i.cycle + 1) % 2 ^ 32, none_ := true } }, [])
  else
    let set := o.set i.cfg
    let fz : Freeze := ⟨decide (obPosGap i.cfg < o.posGap), decide (obHdgGap i.cfg < o.hdgGap)⟩
    let xp := obPropagate i set fz (o.missed + 1) (o.x, o.p)
    let pos := q04Pos i.q04
    let hdg := q04Hdg i.q04
    let posGap := if pos then 0 else o.posGap + 1
    let hdgGap := if hdg then 0 else o.hdgGap + 1
    -- the gap runs of this run: a run with a contributor of the class is in dead reckoning no longer
    let fz2 : Freeze := ⟨decide (obPosGap i.cfg < posGap), decide (obHdgGap i.cfg < hdgGap)⟩
    let upd := obMeasure i set fz2 xp
    let ret := pos && fz.ne
    let dn := f64 (xAt upd.1 0 - xAt xp.1 0)
    let de := f64 (xAt upd.1 1 - xAt xp.1 1)
    let mm := min (2 ^ 32 - 1) (roundAway (fsqrt (dn * dn + de * de) * 1000)).toNat
    let o2 := { o with x := upd.1, p := upd.2, posGap := posGap, hdgGap := hdgGap }
    let (r, v) := obFinish i o set fz2 (decide (0 < o.missed)) ret mm o2
    if v then (r, [.count 0x0303 4 1, .count 0x0305 0xFF 1])
    else (r, if ret && decide (obReturnWarn i.cfg < mm) then [.note 0xF021 none (leBytes 4 mm)] else [])

/-- A run whose slot overran (R230). -/
def observerOverrun (c : Bytes) (o : ObserverState) : ObserverState × List Effect := (obMissed c false o, [.count 0x0305 0xFF 1])

/-- A commit that does not carry state, or a wake of the domain (R229): the last Q05 and Q06 transfers are observer state too (R235). -/
def observerInit (o : ObserverState) : ObserverState := 
  { o with init := true, x := [], p := [], missed := 0, posGap := 0, hdgGap := 0, waveSet := none, shift := (0, 0), q05 := {}, q06 := {} }

/-- A region takes effect: its wave set is in force once the observer has left INIT (R226). -/
def observerRegion (set : Nat) (o : ObserverState) : ObserverState := if o.init then o else { o with waveSet := some set }

/-- The site origin changed at this boundary (R234): the next run shifts first, Cupola shifts the held prediction (R193). -/
def observerShift (dn de : ℚ) (o : ObserverState) : ObserverState :=
  { o with shift := (f64 (o.shift.1 + dn), f64 (o.shift.2 + de)), q05 := { o.q05 with n := qz (o.q05.n + dn), e := qz (o.q05.e + de) } }

/-- Dead reckoning of the two classes and its expiry, as the gap runs stand (R231, R232). -/
def obsPosDr (c : Bytes) (o : ObserverState) : Bool := !o.init && decide (obPosGap c < o.posGap)
def obsHdgDr (c : Bytes) (o : ObserverState) : Bool := !o.init && decide (obHdgGap c < o.hdgGap)
def obsPosExp (c : Bytes) (o : ObserverState) : Bool := !o.init && decide (obPosDr c < o.posGap)
def obsHdgExp (c : Bytes) (o : ObserverState) : Bool := !o.init && decide (obHdgDr c < o.hdgGap)

/-- The low-frequency position of the last completed run, in the present earth frame and in the format of Q06 (R251, R234). -/
def obsPosition (o : ObserverState) : ℚ × ℚ :=
  ((spRound 16 (f64 (xAt o.x 0 + o.shift.1))).1, (spRound 16 (f64 (xAt o.x 1 + o.shift.2))).1)

/-- SPR_OBS_STATUS (Table 9.9). -/
def obsStatusWord (c : Bytes) (o : ObserverState) : Nat :=
  at1 31 o.init + at1 30 (obsPosDr c o) + at1 29 (obsHdgDr c o) + at1 28 (obsPosExp c o) + at1 27 (obsHdgExp c o) + at1 26 o.q06.held
    + at1 25 o.ovf + at1 24 o.stretch + at1 23 (obRoll c) + atF 19 4 (o.set c) + atF 8 8 (min 255 o.missed) + o.reInit % 256

/-- SPR_OBS_GAP. -/
def obsGapWord (o : ObserverState) : Nat := cap16 o.hdgGap * 65536 + cap16 o.posGap

end Sys2Proof.Machine
end

