-- ==== Sys2Proof/Machine/ControlUnit.lean ====
section
/-! DEFINITION. The control engine of one lane (chapter 10): modes and transitions, setpoints, reference model, control law, blend, wind feedforward, regions, engineering writes, Q07. Binary64 throughout (R241). -/

namespace Sys2Proof.Machine

/-! MODE_MACHINE (Tables 10.2 to 10.4). -/
def mmJoySource (c : Bytes) := u8 c 2
def mmJoyCh (c : Bytes) := u16 c 4
def mmJoyTimeout (c : Bytes) := u16 c 6
def mmJoyFull (c : Bytes) (k : Nat) : ℚ := fl32 c (8 + 4 * k)
def mmTargetCh (c : Bytes) := u16 c 20
def mmWindHold (c : Bytes) := u16 c 22
def mmMaxStep (c : Bytes) : ℚ := fl32 c 24
def mmCount (c : Bytes) := u16 c 28
/-- Source of axis 0 surge, 1 sway, 2 yaw in a mode: 0 OFF, 1 MANUAL, 2 AUTO. -/
def mmAxis (c : Bytes) (mode k : Nat) : Nat := bitsOf (2 * k + 1) (2 * k) (u8 c (64 + 16 * mode))
def mmAxes (c : Bytes) (mode : Nat) : Nat := bitsOf 5 0 (u8 c (64 + 16 * mode))
def mmWindManual (c : Bytes) (mode : Nat) : Bool := bitOf 0 (u8 c (65 + 16 * mode))
def mmHdgCourse (c : Bytes) (mode : Nat) : Bool := bitOf 1 (u8 c (65 + 16 * mode))
def mmHdgTarget (c : Bytes) (mode : Nat) : Bool := bitOf 2 (u8 c (65 + 16 * mode))
def mmRollDamp (c : Bytes) (mode : Nat) : Bool := bitOf 3 (u8 c (65 + 16 * mode))

/-- A transition entry (Table 10.4). -/
structure Transition where
  from_ : Nat
  dst    : Nat
  auto  : Bool
  need  : Nat
  forbid : Nat
  deriving DecidableEq, Repr, Inhabited

def mmTransitions (c : Bytes) : List Transition :=
  (List.range (mmCount c)).map fun k =>
    let o := 176 + 8 * k
    ⟨u8 c o, u8 c (o + 1), u8 c (o + 2) == 1, u16 c (o + 4), u16 c (o + 6)⟩

/-- The entry leads from a mode to another: FROM 0xFF is any mode other than TO. -/
def Transition.leads (t : Transition) (m dst : Nat) : Bool := t.dst == dst && (t.from_ == m || (t.from_ == 0xFF && m != dst))
/-- REQUIRE and FORBID are met by a condition word. -/
def Transition.met (t : Transition) (cond : Nat) : Bool := (t.need &&& cond) == t.need && (t.forbid &&& cond) == 0

/-- A mode exists in an image when some host transition enters it; STANDBY always does (R243). -/
def modeExists (c : Bytes) (m : Nat) : Bool := m == 0 || (mmTransitions c).any fun t => !t.auto && t.dst == m

/-! REGION_TABLE (Table 10.8). -/
def rgClasses (c : Bytes) := u8 c 2
def rgRegimes (c : Bytes) := u8 c 3
def rgInit (c : Bytes) := u8 c 5
def rgHold (c : Bytes) := u16 c 6
/-- SPD_UP[j] and SPD_DOWN[j], j from 1 to 3. -/
def rgUp (c : Bytes) (j : Nat) : ℚ := fl32 c (8 + 4 * (j - 1))
def rgDown (c : Bytes) (j : Nat) : ℚ := fl32 c (20 + 4 * (j - 1))
/-- Override `k`: FWD, CMP, FLOOR, THRESHOLD in 2^-16. -/
def rgOverride (c : Bytes) (k : Nat) : Nat × Nat × Nat × Int := (u8 c (32 + 8 * k), u8 c (33 + 8 * k), u8 c (34 + 8 * k), s32 c (36 + 8 * k))
def rgRequired (c : Bytes) (k : Nat) : Nat := u16 c (64 + 4 * k)
def rgGain (c : Bytes) (r : Nat) : Nat := u8 c (96 + 8 * r)
def rgWave (c : Bytes) (r : Nat) : Nat := u8 c (97 + 8 * r)
def rgLookup (c : Bytes) (k : Nat) : Nat := u8 c (608 + k)

/-! GAIN_SETS (R266). -/
def gsCount (c : Bytes) := u8 c 2
def gsRho (c : Bytes) : ℚ := fl32 c 64
def gsFront (c : Bytes) : ℚ := fl32 c 68
def gsLat (c : Bytes) : ℚ := fl32 c 72
def gsLoa (c : Bytes) : ℚ := fl32 c 76
/-- Coefficient `k` (0 CX, 1 CY, 2 CN) of the 10-degree entry `j`. -/
def gsCoef (c : Bytes) (j k : Nat) : ℚ := fl32 c (80 + 12 * (j % 36) + 4 * k)
/-- The image's word of field `f` of set `s`. -/
def gsWord (c : Bytes) (s f : Nat) : Nat := if f = 23 then u16 c (512 + 128 * s + 92) else u32 c (512 + 128 * s + 4 * f)

/-- The Q07 transfer (Table 10.10), its values as written. -/
structure Q07 where
  cycle : Nat := 0
  mode  : Nat := 0
  axes  : Nat := 0
  held  : Bool := false
  standby : Bool := true
  blend : Bool := false
  sat   : Vector Bool 3 := Vector.replicate 3 false
  windNone : Bool := false
  rollDamp : Bool := false
  posFrozen : Bool := false
  yawFrozen : Bool := false
  region : Nat := 0
  gainSet : Nat := 0
  waveSet : Nat := 0
  band  : Nat := 0
  cls   : Nat := 0
  regime : Nat := 0
  tau   : V3 := {}
  tauRd : ℚ := 0
  ff    : V3 := {}
  deriving DecidableEq, Repr, Inhabited

/-- The control engine of one lane. -/
structure ControlState where
  mode     : Nat := 0
  /-- The automatic transition staged for the next boundary. -/
  autoTo   : Option Nat := none
  lastOld  : Nat := 0
  lastNew  : Nat := 0
  /-- 0 host, 1 automatic, 2 start-up. -/
  lastCause : Nat := 2
  modeCycle : Nat := 0
  refused  : Nat := 0
  swaps    : Nat := 0
  modeRefused : Bool := false
  /-- Setpoints (Table 10.7). -/
  posSp    : ℚ × ℚ := (0, 0)
  hdgSp    : ℚ := 0
  hdgOff   : ℚ := 0
  target   : ℚ × ℚ := (0, 0)
  joy      : Vector Int 3 := Vector.replicate 3 0
  /-- Cycle of the boundary that last applied a JOYSTICK setpoint. -/
  joyAt    : Option Nat := none
  track    : List (ℚ × ℚ) := []
  trackSpeed : ℚ := 0
  trackPoint : ℚ × ℚ := (0, 0)
  /-- Where the track point started, from which the first leg runs. -/
  trackFrom : ℚ × ℚ := (0, 0)
  leg      : Nat := 0
  course   : ℚ := 0
  trackStart : Bool := false
  trackEnd : Bool := false
  /-- The setpoint held while the target is lost (R255). -/
  targetSp : ℚ × ℚ := (0, 0)
  targetBrg : ℚ := 0
  targetLost : Bool := false
  joyTimeout : Bool := false
  ref      : ℚ × ℚ := (0, 0)
  vref     : ℚ × ℚ := (0, 0)
  refPsi   : ℚ := 0
  vrefPsi  : ℚ := 0
  intNE    : ℚ × ℚ := (0, 0)
  intYaw   : ℚ := 0
  /-- Axes that became AUTO at this boundary: position, yaw; and whether their setpoint was applied at the same boundary (R253). -/
  startPos : Bool := false
  startYaw : Bool := false
  spNow    : Bool := false
  hdgNow   : Bool := false
  fWind    : V3 := {}
  windRun  : Nat := 0
  windNone : Bool := false
  /-- Output of the last completed slot. -/
  out      : V3 := {}
  sat      : Vector Bool 3 := Vector.replicate 3 false
  posFrozen : Bool := false
  yawFrozen : Bool := false
  /-- The blend: D, k, running; and a blend event that the next slot takes up (R263). -/
  blendD   : V3 := {}
  blendK   : Nat := 0
  blendOn  : Bool := false
  blendEvent : Bool := false
  region   : Nat := 0
  gainSet  : Nat := 0
  /-- The region staged for the next boundary. -/
  regionNext : Option Nat := none
  band     : Nat := 0
  bandQ08  : Nat := 0
  override : Bool := false
  cls      : Nat := 0
  regime   : Nat := 0
  upRun    : Nat := 0
  downRun  : Nat := 0
  /-- Engineering patches: set, field, 32-bit value (R268). -/
  patches  : List (Nat × Nat × Nat) := []
  /-- Conditions of the last completed slot (Table 10.5). -/
  cond     : Nat := 0
  q07      : Q07 := {}
  /-- The held markers of the Q08 and Q09 transfers that the last slot read (R65). -/
  bandHeld : Bool := false
  windHeld : Bool := false
  miss     : Bool := false
  held     : Bool := false
  unhealthy : Bool := false
  missRun  : Nat := 0
  regionHeld : Bool := false
  /-- Cycle of the last completed slot. -/
  lastSlot : Option Nat := none
  deriving DecidableEq, Repr, Inhabited

/-- The working copy's word of a field (R267, R268). -/
def gainWord (g : Bytes) (s : ControlState) (set f : Nat) : Nat :=
  match s.patches.find? fun p => p.1 == set && p.2.1 == f with
  | some p => p.2.2
  | none => gsWord g set f

/-- Field `f` of the gain set in force. -/
def gain (g : Bytes) (s : ControlState) (f : Nat) : ℚ :=
  (ofBits32 (gainWord g s s.gainSet f)).getD (Config.nonFinite (gainWord g s s.gainSet f))
def blendCyc (g : Bytes) (s : ControlState) : Nat := gainWord g s s.gainSet 23 % 65536

/-- Some working copy differs from the image. -/
def engPatched (g : Bytes) (s : ControlState) : Bool := s.patches.any fun p => p.2.2 != gsWord g p.1 p.2.1

/-- What a slot is given. -/
structure CtlIn where
  modes  : Bytes
  regions : Bytes
  gains  : Bytes
  table  : Bytes
  rollOn : Bool
  cycle  : Nat
  q06    : Q06
  q08    : List Nat
  /-- The held marker of the Q08 transfer (R65). -/
  q08Held : Bool
  q09    : Q09
  snap   : Vector StoreEntry 256
  snapNs : Nat
  origin : Option (Int × Int)
  /-- Thrusters in the allocation in force, bit k - 1. -/
  mask   : Nat

def CtlIn.stale (i : CtlIn) (ch : Nat) : Bool := isStale (chanEntry i.table ch) i.snapNs (vget i.snap ch)

/-- The step of the control law, 0.02 s in binary64 (R241). -/
def ctlDt : ℚ := f64 (1 / 50)
/-- The length of a vector of two, each operation rounded (R241). -/
def fnorm (a b : ℚ) : ℚ := fsqrt (fadd (fmul a a) (fmul b b))

/-- Move a track point by `d` metres along its legs (R254). -/
def moveTrack (wps : List (ℚ × ℚ)) : Nat → ℚ → (ℚ × ℚ) × Nat → (ℚ × ℚ) × Nat
  | 0, _, a => a
  | fuel + 1, d, (p, leg) =>
    match wps[leg]? with
    | none => (p, leg)
    | some w =>
      let dn := fsub w.1 p.1
      let de := fsub w.2 p.2
      let dist := fnorm dn de
      if dist ≤ d then moveTrack wps fuel (fsub d dist) (w, leg + 1)
      else ((fadd p.1 (fdiv (fmul dn d) dist), fadd p.2 (fdiv (fmul de d) dist)), leg)

/-- The course of a leg of a track that starts at `start`; past the last waypoint that of the last leg. A leg without length keeps the course before it
(R254 says neither: DESIGN CHOICE, log entry 78). -/
def legCourse (start : ℚ × ℚ) (wps : List (ℚ × ℚ)) (leg : Nat) (before : ℚ) : ℚ :=
  let k := min leg (wps.length - 1)
  let a := if k = 0 then start else wps.getD (k - 1) start
  let b := wps.getD k start
  if a = b then before else dirDeg (fsub b.2 a.2) (fsub b.1 a.1)

/-- The difference of two headings as a binary angle of 2⁻³² turn (R222, R254), in degrees. -/
def angleDiff (a b : ℚ) : ℚ :=
  let turn (x : ℚ) : Int := roundAway (x / 360 * 2 ^ 32)
  f64 ((toSigned 32 (ofSigned 32 (turn a - turn b)) : ℚ) * 360 / 2 ^ 32)

/-- The reference model for position (R254). -/
def refPos (a vmax dt : ℚ) (sp : ℚ × ℚ) (r v : ℚ × ℚ) : (ℚ × ℚ) × (ℚ × ℚ) :=
  let dn := fsub sp.1 r.1
  let de := fsub sp.2 r.2
  let dist := fnorm dn de
  let sp_ := minQ vmax (fsqrt (fmul (fmul 2 a) dist))
  let vd : ℚ × ℚ := if dist = 0 then (0, 0) else (fdiv (fmul sp_ dn) dist, fdiv (fmul sp_ de) dist)
  let qn := fsub vd.1 v.1
  let qe := fsub vd.2 v.2
  let ql := fnorm qn qe
  let adt := fmul a dt
  let (dvn, dve) := if adt < ql then (fdiv (fmul (fmul qn a) dt) ql, fdiv (fmul (fmul qe a) dt) ql) else (qn, qe)
  let v1 : ℚ × ℚ := (fadd v.1 dvn, fadd v.2 dve)
  let vl := fnorm v1.1 v1.2
  if dist ≤ fmul vl dt ∧ vl ≤ adt then (sp, (0, 0))
  else ((fadd r.1 (fmul v1.1 dt), fadd r.2 (fmul v1.2 dt)), v1)

/-- The same steps for heading; the difference is a binary angle, so it takes the shorter way. -/
def refHdg (a vmax dt sp r v : ℚ) : ℚ × ℚ :=
  let d := angleDiff sp r
  let dist := absQ d
  let s := minQ vmax (fsqrt (fmul (fmul 2 a) dist))
  let vd := if dist = 0 then 0 else fdiv (fmul s d) dist
  let q := fsub vd v
  let adt := fmul a dt
  let dv := if adt < absQ q then fdiv (fmul (fmul q a) dt) (absQ q) else q
  let v1 := fadd v dv
  if dist ≤ fmul (absQ v1) dt ∧ absQ v1 ≤ adt then (fwrap360 sp, 0)
  else (fwrap360 (fadd r (fmul v1 dt)), v1)

/-- Wind coefficients by linear interpolation over 10 degrees (R261, R266). -/
def windCoef (g : Bytes) (k : Nat) (dir : ℚ) : ℚ :=
  let j := (floorQ (dir / 10)).toNat
  let w := fsub (fdiv dir 10) (j : ℚ)
  fadd (gsCoef g j k) (fmul w (fsub (gsCoef g (j + 1) k) (gsCoef g j k)))

/-- Joystick fractions and JOY_TIMEOUT (R256). -/
def joyFractions (i : CtlIn) (s : ControlState) : (ℚ × ℚ × ℚ) × Bool :=
  let lim (q : ℚ) : ℚ := clampQ (-1) 1 q
  let c := i.modes
  if mmJoySource c = 1 then
    let e := vget i.snap (mmJoyCh c)
    let out := e.empty || decide (mmJoyTimeout c * 20000 < ageUs i.snapNs e)
    (if out then (0, 0, 0) else (lim (chWord e 0), lim (chWord e 1), lim (chWord e 2)), out)
  else
    let out := match s.joyAt with
      | none => true
      | some n => decide (mmJoyTimeout c ≤ i.cycle - n)
    let f (k : Nat) : ℚ := lim (((vget s.joy k : Int) : ℚ) / 32768)
    (if out then (0, 0, 0) else (f 0, f 1, f 2), out)

/-- The condition word of a slot (Table 10.5). -/
def condWord (i : CtlIn) (s : ControlState) : Nat :=
  at1 0 i.q06.init + at1 1 i.q06.held + at1 2 i.q06.posDr + at1 3 i.q06.hdgDr + at1 4 i.q06.posExp + at1 5 i.q06.hdgExp
    + at1 6 (i.q09.accPos == 0) + at1 7 (i.q09.accHdg == 0) + at1 8 i.q09.posConflict + at1 9 i.q09.hdgConflict
    + at1 10 s.windNone + at1 11 s.targetLost + at1 12 s.trackEnd + at1 13 s.joyTimeout + at1 14 (bitOf 25 (i.q08.getD 0 0))

/-- Step 2 of R240: axes that became AUTO (R253). -/
def ctlStart (i : CtlIn) (s : ControlState) : ControlState :=
  let q := i.q06
  let s1 := if s.startPos then
      { s with ref := (q.n, q.e), vref := (0, 0), posSp := if s.spNow then s.posSp else (q.n, q.e), intNE := (0, 0) } else s
  let s2 := if s1.startYaw then
      { s1 with refPsi := q.hdg, vrefPsi := 0, hdgSp := if s1.hdgNow then s1.hdgSp else q.hdg, intYaw := 0 } else s1
  { s2 with startPos := false, startYaw := false, spNow := false, hdgNow := false }

/-- Step 3 of R240: track point, target setpoint, reference model over `dt` seconds (R254, R255, R271). A target without a site origin has no
projection: its setpoint is held (DESIGN CHOICE, log entry 76). -/
def ctlReference (i : CtlIn) (dt : ℚ) (s0 : ControlState) : ControlState :=
  let c := i.modes
  let g := i.gains
  let s1 := if s0.trackStart then { s0 with trackPoint := s0.ref, trackFrom := s0.ref, leg := 0, trackStart := false } else s0
  let s2 := if s1.mode = 4 ∧ s1.track ≠ [] then
      let (p, leg) := moveTrack s1.track 17 (fmul s1.trackSpeed dt) (s1.trackPoint, s1.leg)
      { s1 with trackPoint := p, leg := leg, course := legCourse s1.trackFrom s1.track leg s1.course, trackEnd := s1.trackEnd || decide (s1.track.length ≤ leg) } else s1
  let lost := mmTargetCh c == 0xFFFF || i.stale (mmTargetCh c)
  let s3 := match lost, i.origin with
    | true, _ => { s2 with targetLost := true }
    | false, none => { s2 with targetLost := false }
    | false, some o =>
      let e := vget i.snap (mmTargetCh c)
      let p := project o (chNdeg e 0) (chNdeg e 2)
      { s2 with
        targetLost := false, targetSp := (fadd p.1 s2.target.1, fadd p.2 s2.target.2),
        targetBrg := dirDeg (fsub p.2 s2.ref.2) (fsub p.1 s2.ref.1) }
  let sp := if s3.mode = 4 then s3.trackPoint else if s3.mode = 5 then s3.targetSp else s3.posSp
  let hsp := if s3.mode = 4 ∧ mmHdgCourse c 4 = true then fwrap360 (fadd s3.course s3.hdgOff)
    else if s3.mode = 5 ∧ mmHdgTarget c 5 = true then fwrap360 (fadd s3.targetBrg s3.hdgOff) else s3.hdgSp
  let posAuto := mmAxis c s3.mode 0 == 2 || mmAxis c s3.mode 1 == 2
  let yawAuto := mmAxis c s3.mode 2 == 2
  let s4 := if posAuto then
      let (r, v) := refPos (gain g s3 20) (gain g s3 19) dt sp s3.ref s3.vref
      { s3 with ref := r, vref := v } else s3
  if yawAuto then
    let (r, v) := refHdg (gain g s4 22) (gain g s4 21) dt hsp s4.refPsi s4.vrefPsi
    { s4 with refPsi := r, vrefPsi := v }
  else s4

/-- Wind feedforward (R261): the state after the slot and tau_ff. -/
def ctlWind (i : CtlIn) (s : ControlState) : ControlState × V3 :=
  let g := i.gains
  let run := if i.q09.windNone then s.windRun + 1 else 0
  let none_ := i.q09.windNone && (s.windNone || decide (mmWindHold i.modes < run))
  let s1 := { s with windRun := min run 65535, windNone := none_, blendEvent := s.blendEvent || (none_ != s.windNone) }
  if none_ then ({ s1 with fWind := {} }, {})
  else
    let v := i.q09.windSpeed
    let d := fwrap360 i.q09.windDir
    let q := fdiv (fmul (fmul (1 / 2) (gsRho g)) (fmul v v)) 1000
    let f : V3 := ⟨fmul q (fmul (gsFront g) (windCoef g 0 d)), fmul q (fmul (gsLat g) (windCoef g 1 d)), fmul q (fmul (fmul (gsLat g) (gsLoa g)) (windCoef g 2 d))⟩
    let al := fdiv ctlDt (fadd (gain g s 13) ctlDt)
    let w := V3.add s.fWind (V3.scale al (V3.sub f s.fWind))
    ({ s1 with fWind := w }, V3.scale (-(gain g s 12)) w)

/-- A component by axis number. -/
def V3.at (v : V3) (k : Nat) : ℚ := match k with
  | 0 => v.x
  | 1 => v.y
  | _ => v.z
def V3.of (f : Nat → ℚ) : V3 := ⟨f 0, f 1, f 2⟩

/-- The errors of R257: body position error, body velocity error, heading error, rate error. -/
structure CtlErr where
  ex : ℚ
  ey : ℚ
  vx : ℚ
  vy : ℚ
  ep : ℚ
  er : ℚ

def ctlErrors (i : CtlIn) (s : ControlState) : CtlErr :=
  let q := i.q06
  let cp := cosd q.hdg
  let sp := sind q.hdg
  let dn := fsub q.n s.ref.1
  let de := fsub q.e s.ref.2
  { ex := fadd (fmul cp dn) (fmul sp de), ey := fsub (fmul cp de) (fmul sp dn),
    vx := fsub q.u (fadd (fmul cp s.vref.1) (fmul sp s.vref.2)), vy := fsub q.v (fsub (fmul cp s.vref.2) (fmul sp s.vref.1)),
    ep := fwrap180 (fsub q.hdg s.refPsi), er := fsub q.r s.vrefPsi }

/-- An integrator is held at zero while its axes are not AUTO (R259). -/
def heldIntegrators (c : Bytes) (s : ControlState) : ControlState :=
  let auto (k : Nat) : Bool := s.mode != 0 && mmAxis c s.mode k == 2
  { s with intNE := if auto 0 && auto 1 then s.intNE else (0, 0), intYaw := if auto 2 then s.intYaw else 0 }

/-- Q06 brings RETURN in this cycle: a held transfer repeats the last completed one and is no new event (R230, R263; DEDUCED, log entry 79). -/
def returnNow (cycle : Nat) (q : Q06) : Bool := q.ret && !q.held && q.cycle == cycle % 2 ^ 32

/-- Steps 4 and 5 of R240 and the integrators: raw demand, blend, limits, Q07, integrator update (R257 to R263, R270). -/
def ctlDemand (i : CtlIn) (elapsed : Nat) (s00 : ControlState) : ControlState :=
  let s0 := heldIntegrators i.modes s00
  let c := i.modes
  let g := i.gains
  let q := i.q06
  let (s1, ff) := ctlWind i s0
  let (joy, tmo) := joyFractions i s1
  let s := { s1 with joyTimeout := tmo }
  let er := ctlErrors i s
  let gn (k : Nat) : ℚ := gain g s k
  let src (k : Nat) : Nat := if s.mode = 0 then 0 else mmAxis c s.mode k
  let cp := cosd q.hdg
  let sp := sind q.hdg
  let roll := i.rollOn && mmRollDamp c s.mode && src 1 != 0 && decide (gn 14 ≠ 0)
  let rd := if roll then clampQ (-(gn 15)) (gn 15) (fmul (-(gn 14)) q.rollRate) else 0
  let e : V3 := ⟨er.ex, er.ey, er.ep⟩
  let ev : V3 := ⟨er.vx, er.vy, er.er⟩
  let ti : V3 := ⟨fadd (fmul cp s.intNE.1) (fmul sp s.intNE.2), fsub (fmul cp s.intNE.2) (fmul sp s.intNE.1), s.intYaw⟩
  let bb : V3 := ⟨q.bx, q.by_, q.bn⟩
  let law (k : Nat) : ℚ :=
    let tp := -(fadd (fmul (gn k) (e.at k)) (fmul (gn (3 + k)) (ev.at k)))
    let tb := fmul (-(gn 11)) (bb.at k)
    fadd (fadd (fadd (fadd tp (ti.at k)) tb) (ff.at k)) (if k = 1 then rd else 0)
  let jf (k : Nat) : ℚ := match k with
    | 0 => joy.1
    | 1 => joy.2.1
    | _ => joy.2.2
  let manFf := mmWindManual c s.mode
  let raw : V3 := V3.of fun k => match src k with
    | 0 => 0
    | 1 => fadd (fmul (jf k) (mmJoyFull c k)) (if manFf then ff.at k else 0)
    | _ => if q.init then s.out.at k else law k
  let ffOut : V3 := V3.of fun k => match src k with
    | 0 => 0
    | 1 => if manFf then ff.at k else 0
    | _ => if q.init then s.q07.ff.at k else ff.at k
  -- the blend (R263)
  let bc := blendCyc g s
  let ev_ := s.blendEvent || returnNow i.cycle q
  let (bd, bk, bon) :=
    if s.mode = 0 then (({} : V3), 0, false)
    else if ev_ then
      (if bc = 0 then (({} : V3), 0, false) else (V3.of fun k => if src k = 0 then 0 else fsub (s.out.at k) (raw.at k), 0, true))
    else if s.blendOn then (if bc ≤ s.blendK + elapsed then (({} : V3), 0, false) else (s.blendD, s.blendK + elapsed, true))
    else (({} : V3), 0, false)
  let pre : V3 := V3.of fun k =>
    if src k = 0 then 0
    else if bon then fadd (raw.at k) (fmul (bd.at k) (fsub 1 (fdiv (bk : ℚ) (bc : ℚ)))) else raw.at k
  let lim (k : Nat) : ℚ := gn (16 + k)
  let out : V3 := V3.of fun k => if src k = 0 then 0 else clampQ (-(lim k)) (lim k) (pre.at k)
  let sat : Vector Bool 3 := Vector.ofFn fun k => decide (out.at k.val ≠ pre.at k.val)
  -- integrators (R259, R260)
  let posAuto := src 0 == 2 && src 1 == 2
  let posFz := q.held || q.posDr || q.init
  let yawFz := q.held || q.hdgDr || q.init
  let di (k : Nat) : ℚ :=
    let d := -(fmul (fmul (gn (6 + k)) (e.at k)) ctlDt)
    let fz := if k = 2 then yawFz else posFz
    if fz || (vget sat k && signQ d == signQ (out.at k)) then 0 else d
  let nn := fadd s.intNE.1 (fsub (fmul cp (di 0)) (fmul sp (di 1)))
  let ne := fadd s.intNE.2 (fadd (fmul sp (di 0)) (fmul cp (di 1)))
  let len := fnorm nn ne
  let intNE := if !posAuto then ((0 : ℚ), (0 : ℚ))
    else if gn 9 < len then (fdiv (fmul nn (gn 9)) len, fdiv (fmul ne (gn 9)) len) else (nn, ne)
  let intYaw := if src 2 == 2 then clampQ (-(gn 10)) (gn 10) (fadd s.intYaw (di 2)) else 0
  let q7 : Q07 :=
    { cycle := i.cycle % 2 ^ 32, mode := s.mode, axes := mmAxes c s.mode, held := false, standby := s.mode == 0, blend := bon, sat := sat,
      windNone := s.windNone, rollDamp := roll, posFrozen := posFz, yawFrozen := yawFz, region := s.region, gainSet := s.gainSet,
      waveSet := rgWave i.regions s.region, band := s.band, cls := s.cls, regime := s.regime,
      tau := ⟨qz out.x, qz out.y, ofQ 8 (toQ 24 8 out.z)⟩, tauRd := qz rd, ff := ⟨qz ffOut.x, qz ffOut.y, ofQ 8 (toQ 24 8 ffOut.z)⟩ }
  { s with
    out := out, sat := sat, posFrozen := posFz, yawFrozen := yawFz, blendD := bd, blendK := bk, blendOn := bon, blendEvent := false,
    intNE := intNE, intYaw := intYaw, q07 := q7 }

/-- Step 8 of R240: conditions and the automatic transition (R245, R247). -/
def ctlAuto (i : CtlIn) (s : ControlState) : ControlState :=
  let cond := condWord i s
  let dst := if s.mode = 0 then none
    else ((mmTransitions i.modes).find? fun t => t.auto && t.dst != s.mode && t.leads s.mode t.dst && t.met cond).map (·.dst)
  { s with cond := cond, autoTo := dst }

/-- Step 9 of R240: the operating region (R264). -/
def ctlRegion (i : CtlIn) (s : ControlState) : ControlState :=
  let c := i.regions
  if i.q06.init then { s with regionNext := none, regionHeld := true, upRun := 0, downRun := 0 }
  else
    let b0 := bitsOf 31 29 (i.q08.getD 0 0)
    let holds (k : Nat) : Bool :=
      let (f, cmp, _, th) := rgOverride c k
      let w := i.q08.getD f 0
      let v := toSigned 32 (bitsOf 63 32 w)
      decide (f ≠ 0) && bitOf 23 w && (if cmp = 0 then decide (th ≤ v) else decide (v < th))
    let band := (List.range 4).foldl (fun b k => if holds k then max b (rgOverride c k).2.2.1 else b) b0
    let cls := ((List.range (rgClasses c)).find? fun k => (rgRequired c k &&& i.mask) == rgRequired c k).getD (rgClasses c - 1)
    let spd := fnorm i.q06.u i.q06.v
    let g := s.regime
    let top := rgRegimes c - 1
    let up := if g < top ∧ rgUp c (g + 1) ≤ spd then s.upRun + 1 else 0
    let dn := if 0 < g ∧ spd < rgDown c g then s.downRun + 1 else 0
    let (regime, up1, dn1) :=
      if rgHold c ≤ up then ((([3, 2, 1] : List Nat).find? fun j => decide (j ≤ top) && decide (rgUp c j ≤ spd)).getD g, 0, 0)
      else if rgHold c ≤ dn then (g - 1, 0, 0)
      else (g, up, dn)
    { s with
      regionNext := some (rgLookup c (32 * band + 4 * cls + regime)), regionHeld := false, band := band, bandQ08 := b0,
      override := decide (band ≠ b0), cls := cls, regime := regime, upRun := up1, downRun := dn1 }

/-- CONTROL_LAW_SLOT: a completed slot, in the order of R240. -/
def controlSlot (i : CtlIn) (s : ControlState) : ControlState × List Effect :=
  let elapsed : Nat := match s.lastSlot with
    | some n => i.cycle - n
    | none => 1
  let dt : ℚ := fmul (elapsed : ℚ) ctlDt
  let s1 := ctlDemand i elapsed (ctlReference i dt (ctlStart i s))
  let s2 := ctlRegion i (ctlAuto i s1)
  ({ s2 with held := false, missRun := 0, lastSlot := some i.cycle, bandHeld := i.q08Held, windHeld := i.q09.held },
    if s1.blendOn && s1.blendK == 0 then [.count 0x0402 0xFF 1] else [])

/-- MISS (R66): the previous demand is sent again, held; nothing is staged. A RETURN of its Q06 transfer stays an event for the next completed slot
(R263). -/
def controlMiss (cycle : Nat) (q : Q06) (s : ControlState) : ControlState × List Effect :=
  let n := min 7 (s.missRun + 1)
  ({ s with
      miss := true, held := true, blendEvent := s.blendEvent || returnNow cycle q, missRun := n, unhealthy := s.unhealthy || decide (3 ≤ n), regionHeld := true, autoTo := none, regionNext := none,
      q07 := { s.q07 with held := true, cycle := cycle % 2 ^ 32 } },
    [.count 0x0401 0xFF 1])

/-! Boundary steps. -/

/-- Set the mode: axes that become AUTO start at the next slot (R253), a mode change is a blend event (R263). -/
def enterMode (c : Bytes) (dst : Nat) (s : ControlState) : ControlState :=
  let auto (m k : Nat) : Bool := m != 0 && mmAxis c m k == 2
  let posWas := auto s.mode 0 || auto s.mode 1
  let posIs := auto dst 0 || auto dst 1
  { s with
    mode := dst, blendEvent := true, startPos := s.startPos || (posIs && !posWas), startYaw := s.startYaw || (auto dst 2 && !auto s.mode 2),
    trackStart := s.trackStart || (dst == 4 && s.mode != 4) }

/-- An applied transition (R249). -/
def applyMode (c : Bytes) (dst cause cycle : Nat) (s : ControlState) : ControlState × List Effect :=
  let s1 := enterMode c dst s
  ({ s1 with lastOld := s.mode, lastNew := dst, lastCause := cause, modeCycle := cycle % 2 ^ 32 },
    [.note 0xF010 none (leBytes 1 s.mode ++ leBytes 1 dst ++ leBytes 1 cause ++ leBytes 1 0 ++ leBytes 4 cycle)])

/-- A region put in force: the whole working copy of its set becomes active (R267). -/
def applyRegion (rg : Bytes) (r : Nat) (s : ControlState) : ControlState × List Effect :=
  let g := rgGain rg r
  if g = s.gainSet then ({ s with region := r }, [])
  else ({ s with region := r, gainSet := g, blendEvent := true, swaps := satAdd 0xFFFFFFFF s.swaps 1 }, [.count 0x0403 0xFF 1])

/-- Step 4 of R57: the staged region, then the staged automatic transition. A setpoint applied at an earlier boundary is none of this one (R253). -/
def ctlBoundary (c rg : Bytes) (cycle : Nat) (s0 : ControlState) : ControlState × List Effect :=
  let s := { s0 with spNow := s0.spNow && s0.startPos, hdgNow := s0.hdgNow && s0.startYaw }
  let (s1, e1) := match s.regionNext with
    | some r => applyRegion rg r s
    | none => (s, [])
  let s2 := { s1 with regionNext := none, autoTo := none }
  match s.autoTo with
  | some dst =>
    let (s3, e3) := applyMode c dst 1 cycle s2
    (s3, e1 ++ e3)
  | none => (s2, e1)

/-- The unmet conditions of the first entry that leads from the mode in force to the requested one (Table 17.14). -/
def unmetOf (c : Bytes) (dst : Nat) (s : ControlState) : Nat :=
  match (mmTransitions c).find? fun t => !t.auto && t.leads s.mode dst with
  | some t => (t.need &&& (0xFFFF ^^^ (s.cond &&& 0xFFFF))) ||| (t.forbid &&& s.cond)
  | none => 0

/-- A host mode command at its boundary (R248). -/
def hostMode (c : Bytes) (dst cycle : Nat) (tag : Option (Nat × Nat)) (s : ControlState) : ControlState × List Effect :=
  if dst = s.mode then (s, [])
  else if (mmTransitions c).any fun t => !t.auto && t.leads s.mode dst && t.met s.cond then applyMode c dst 0 cycle s
  else ({ s with modeRefused := true, refused := satAdd 0xFFFFFFFF s.refused 1 },
    [.count 0x0404 0xFF 1, .note 0xF011 tag (leBytes 1 dst ++ leBytes 1 s.mode ++ leBytes 2 (unmetOf c dst s))])

/-- The POSITION setpoint at its boundary; refused when it lies too far from the low-frequency position `p` of the last completed run, unless the
observer is in INIT (R251). -/
def setPosition (c : Bytes) (init : Bool) (p : ℚ × ℚ) (n e : ℚ) (tag : Option (Nat × Nat)) (s : ControlState) : ControlState × List Effect :=
  let d := fnorm (fsub n p.1) (fsub e p.2)
  if init = false ∧ mmMaxStep c < d then
    (s, [.note 0xF012 tag (leBytes 2 0x0301 ++ leBytes 2 0 ++ leBytes 4 (min (2 ^ 32 - 1) (roundAway (d * 1000)).toNat))])
  else ({ s with posSp := (n, e), spNow := true }, [])

/-- The HEADING setpoint: an offset under HDG_COURSE or HDG_TARGET of the mode in force (Table 10.7). -/
def setHeading (c : Bytes) (h : ℚ) (s : ControlState) : ControlState :=
  if (s.mode = 4 ∧ mmHdgCourse c 4 = true) ∨ (s.mode = 5 ∧ mmHdgTarget c 5 = true) then { s with hdgOff := h }
  else { s with hdgSp := fwrap360 h, hdgNow := true }

/-- The TRACK setpoint (R254). -/
def setTrack (speed : ℚ) (wps : List (ℚ × ℚ)) (s : ControlState) : ControlState :=
  { s with track := wps, trackSpeed := speed, trackStart := true, trackEnd := false, leg := 0 }

def setTarget (n e : ℚ) (s : ControlState) : ControlState := { s with target := (n, e) }
def setJoystick (a b c : Int) (cycle : Nat) (s : ControlState) : ControlState := { s with joy := #v[a, b, c], joyAt := some cycle }

/-- A site origin change shifts the position setpoint, the reference, the waypoints and the track point (R252). -/
def controlShift (dn de : ℚ) (s : ControlState) : ControlState :=
  let m (p : ℚ × ℚ) : ℚ × ℚ := (fadd p.1 dn, fadd p.2 de)
  { s with posSp := m s.posSp, ref := m s.ref, track := s.track.map m, trackPoint := m s.trackPoint, trackFrom := m s.trackFrom, targetSp := m s.targetSp }

/-- An engineering gain write at its boundary; a blend event when it changes the set in force (R263, R268). -/
def gainWrite (g : Bytes) (set f w : Nat) (s : ControlState) : ControlState :=
  { s with
    patches := (set, f, w) :: s.patches.filter (fun p => !(p.1 == set && p.2.1 == f))
    blendEvent := s.blendEvent || (set == s.gainSet && gainWord g s set f != w) }

/-- The revert write restores every working copy (R268). -/
def gainRevert (g : Bytes) (s : ControlState) : ControlState :=
  { s with patches := [], blendEvent := s.blendEvent || s.patches.any fun p => p.1 == s.gainSet && p.2.2 != gsWord g p.1 p.2.1 }

/-- GAIN_READ reply for a set (R480): working copy, image values, patched fields. -/
def gainReadReply (g : Bytes) (set : Nat) (s : ControlState) : Bytes :=
  let fs := List.range 24
  fs.flatMap (fun f => leBytes 4 (gainWord g s set f)) ++ fs.flatMap (fun f => leBytes 4 (gsWord g set f))
    ++ leBytes 4 ((fs.map fun f => at1 f (gainWord g s set f != gsWord g set f)).sum)

/-- The control engine at a commit or rollback boundary (R87, R90, R263, R268). `carry` says that controller state is carried. A mode in force at the
boundary that the incoming image lacks, changed after acceptance or met by an automatic rollback, is a case the spec does not name: STANDBY with cause
automatic (DESIGN CHOICE, log entry 68). -/
def controlCommit (old : Option Bytes) (new : Bytes) (carry : Bool) (cycle : Nat) (s : ControlState) : ControlState × List Effect :=
  let c := imgSection new secModes
  let rg := imgSection new secRegions
  let gOld := (old.map fun o => imgSection o secGains).getD []
  let gNew := imgSection new secGains
  let r := if carry then s.region else rgInit rg
  let gs := rgGain rg r
  let differs := (List.range 24).any fun f => gainWord gOld s s.gainSet f != gsWord gNew gs f
  let s1 := { s with
    patches := [], region := r, gainSet := gs, regionNext := none, autoTo := none, blendEvent := s.blendEvent || differs || gs != s.gainSet,
    intNE := if carry then s.intNE else (0, 0), intYaw := if carry then s.intYaw else 0, ref := if carry then s.ref else (0, 0),
    vref := if carry then s.vref else (0, 0), refPsi := if carry then s.refPsi else 0, vrefPsi := if carry then s.vrefPsi else 0,
    fWind := if carry then s.fWind else {}, lastSlot := s.lastSlot }
  if modeExists c s.mode then (s1, [])
  else applyMode c 0 1 cycle s1

/-! Registers (Tables 2.9, 10.11 to 10.13). -/

/-- CTL_STATUS, the common low byte apart; `pending` is MODE_PENDING (R250). -/
def ctlStatusHigh (g : Bytes) (pending : Bool) (s : ControlState) : Nat :=
  atF 29 3 s.mode + at1 28 pending + at1 27 s.blendOn + at1 26 (vget s.sat 0) + at1 25 (vget s.sat 1) + at1 24 (vget s.sat 2)
    + at1 23 s.posFrozen + at1 22 s.yawFrozen + at1 21 s.windNone + at1 20 s.joyTimeout + at1 19 s.targetLost + at1 18 s.trackEnd
    + at1 17 (engPatched g s) + at1 16 s.modeRefused + at1 15 s.miss + at1 14 s.held + at1 13 s.unhealthy + atF 10 3 s.missRun
    + at1 9 s.regionHeld

/-- CTL_REGION. -/
def ctlRegionWord (rg : Bytes) (s : ControlState) : Nat :=
  atF 24 8 s.region + atF 18 6 s.gainSet + atF 14 4 (rgWave rg s.region) + atF 11 3 s.band + atF 8 3 s.cls + atF 6 2 s.regime
    + atF 3 3 s.bandQ08 + at1 2 s.override

/-- CTL_MODE_LAST. -/
def modeLastWord (s : ControlState) : Nat := atF 8 3 s.lastOld + atF 4 3 s.lastNew + atF 0 2 s.lastCause

/-- A CTL_ register by offset, from 0x10 on. -/
def ctlReg (s : ControlState) (off : Nat) : Nat :=
  let w (q : ℚ) : Nat := ofSigned 32 (toQ16 q)
  let w8 (q : ℚ) : Nat := ofSigned 32 (toQ 24 8 q)
  match off with
  | 0x10 => w s.out.x
  | 0x14 => w s.out.y
  | 0x18 => w8 s.out.z
  | 0x20 => w s.intNE.1
  | 0x24 => w s.intNE.2
  | 0x28 => w8 s.intYaw
  | 0x30 => w s.ref.1
  | 0x34 => w s.ref.2
  | 0x38 => ofSigned 32 (degQ16 s.refPsi)
  | 0x40 => modeLastWord s
  | 0x44 => s.modeCycle
  | 0x48 => s.refused
  | 0x4C => s.swaps
  | _ => 0

end Sys2Proof.Machine
end

