-- ==== Sys2Proof/Machine/SpireUnit.lean ====
section
/-! DEFINITION. The Spire solver (chapter 11): the resident structure, delta packets, LDL' factorisation with replaced pivots, the active-set solve, outcomes, warm start. Values are exact rationals on the grid of their format; every write rounds and saturates as R277 says. -/

namespace Sys2Proof.Machine

/-! The resident structure (Tables 11.2 to 11.6). `sec` is the ALLOC_STRUCTURE section, `b` the offset of the structure's header. -/
structure SprCol where
  lFmt : Nat
  dFmt : Nat
  rFmt : Nat
  neg  : Bool
  tiny : Int
  reg  : Int
  xFmt : Nat
  deriving DecidableEq, Repr, Inhabited

structure SprCon where
  pos  : Nat
  two  : Bool
  fmt  : Nat
  shiftTo : Nat
  loA  : Nat
  hiA  : Nat
  loI  : Nat
  hiI  : Nat
  enabled : Bool
  deriving DecidableEq, Repr, Inhabited

structure SprArr where
  fmt  : Nat
  cls  : Nat
  len  : Nat
  /-- Byte offset of entry 0 in Spire local memory. -/
  off  : Nat
  init : Nat
  deriving DecidableEq, Repr, Inhabited

/-- An entry of K: row and column in permuted order, array and index of its value. -/
structure SprK where
  row : Nat
  col : Nat
  arr : Nat
  idx : Nat
  deriving DecidableEq, Repr, Inhabited

/-- A structure as read from the image. -/
structure SprProblem where
  n     : Nat
  nPrim : Nat
  m     : Nat
  dim   : Nat
  deltaMax : Nat
  stepTol : Int
  lamTol : Int
  feasTol : Int
  resTol : Int
  objFmt : Nat
  holdArr : Nat
  iters : Nat
  thrusters : Nat
  arrs  : List SprArr
  cols  : List SprCol
  cons  : List SprCon
  perm  : List Nat
  kk    : List SprK
  /-- Rows of L below the diagonal, by column. -/
  lpat  : List (List Nat)
  shift : List Nat
  /-- Q07 entry, word, array, index. -/
  inputs : List (Nat × Nat × Nat × Nat)
  gArr  : Nat
  deriving DecidableEq, Repr, Inhabited

def sprConseqOffset (sec : Bytes) : Nat := u32 sec 60
def sprPart (sec : Bytes) (b k : Nat) : Bytes := sliceB sec (b + u32 sec (b + 64 + 8 * k)) (u32 sec (b + 68 + 8 * k))

def sprParse (sec : Bytes) (b : Nat) : SprProblem :=
  let np := u16 sec (b + 4)
  let na := u16 sec (b + 6)
  let m := u16 sec (b + 8)
  let dim := u16 sec (b + 10)
  let pa := sprPart sec b 0
  let pc := sprPart sec b 1
  let pn := sprPart sec b 2
  let pp := sprPart sec b 3
  let pk := sprPart sec b 4
  let pl := sprPart sec b 5
  let ps := sprPart sec b 6
  let pi := sprPart sec b 7
  { n := np + na, nPrim := np, m := m, dim := dim, deltaMax := u32 sec (b + 20), stepTol := s32 sec (b + 24), lamTol := s32 sec (b + 28),
    feasTol := s32 sec (b + 32), resTol := s32 sec (b + 36), objFmt := u8 sec (b + 40), holdArr := u8 sec (b + 41), iters := u16 sec (b + 42),
    thrusters := u8 sec (b + 44),
    arrs := (List.range (u16 sec (b + 2))).map fun k => ⟨u8 pa (16 * k), u8 pa (16 * k + 1), u32 pa (16 * k + 4), u32 pa (16 * k + 8), u32 pa (16 * k + 12)⟩
    cols := (List.range dim).map fun k => ⟨u8 pc (16 * k), u8 pc (16 * k + 1), u8 pc (16 * k + 2), bitOf 7 (u8 pc (16 * k + 3)),
      s32 pc (16 * k + 4), s32 pc (16 * k + 8), u8 pc (16 * k + 12)⟩
    cons := (List.range m).map fun k => ⟨u16 pn (16 * k), u8 pn (16 * k + 2) == 1, u8 pn (16 * k + 3), u16 pn (16 * k + 4), u8 pn (16 * k + 6),
      u8 pn (16 * k + 7), u16 pn (16 * k + 8), u16 pn (16 * k + 10), u8 pn (16 * k + 12) == 1⟩
    perm := (List.range dim).map fun k => u16 pp (2 * k)
    kk := (List.range dim).flatMap fun c =>
      let a := u32 pk (4 * c)
      (List.range (u32 pk (4 * c + 4) - a)).map fun j =>
        let w := u32 pk (4 * (dim + 1) + 4 * (a + j))
        ⟨bitsOf 31 22 w, c, bitsOf 21 14 w, bitsOf 13 0 w⟩
    lpat := (List.range dim).map fun c =>
      let a := u32 pl (4 * c)
      (List.range (u32 pl (4 * c + 4) - a)).map fun j => u16 pl (4 * (dim + 1) + 2 * (a + j))
    shift := (List.range (np + na)).map fun k => u16 ps (2 * k)
    inputs := (List.range (pi.length / 8)).map fun k => (u8 pi (8 * k), u8 pi (8 * k + 1), u8 pi (8 * k + 2), u16 pi (8 * k + 4))
    gArr := Config.gArray (sec.drop b) }

/-- Initial array values: classes 0 and 1 from the section, class 2 zero. -/
def sprInit (sec : Bytes) (p : SprProblem) : List (List Int) :=
  p.arrs.map fun a => (List.range a.len).map fun k => if a.cls = 2 then 0 else s32 sec (a.init + 4 * k)

def sprEnabled (p : SprProblem) : List Bool := p.cons.map (·.enabled)

/-- The value of an array entry. -/
def arrVal (p : SprProblem) (v : List (List Int)) (a i : Nat) : ℚ := ofQ (p.arrs.getD a default).fmt ((v.getD a []).getD i 0)

/-- Write an array entry raw. -/
def arrSet (v : List (List Int)) (a i : Nat) (x : Int) : List (List Int) := listMod v a fun l => listMod l i fun _ => x

/-! Delta packets (R284 to R286). -/

inductive DeltaEntry where
  | set (arr idx : Nat) (val : Int)
  | enable (con : Nat) (on : Bool)
  deriving DecidableEq, Repr

/-- The 64-bit word of an entry (Table 11.7). -/
def deltaWord : DeltaEntry → Nat
  | .set a i v => atF 60 4 1 + atF 52 8 a + atF 32 20 i + ofSigned 32 v
  | .enable c on => atF 60 4 2 + atF 32 20 c + b2n on

/-- The entry of a 64-bit word, for a word of KIND SET or ENABLE. -/
def deltaOf (w : Nat) : Option DeltaEntry :=
  if bitsOf 63 60 w = 1 then some (.set (bitsOf 59 52 w) (bitsOf 51 32 w) (toSigned 32 (bitsOf 31 0 w)))
  else if bitsOf 63 60 w = 2 then some (.enable (bitsOf 51 32 w) (bitOf 0 w))
  else none

def deltaCrc (ws : List Nat) : Nat := crc32c (ws.flatMap (leBytes 8))

/-- The 64-bit entries of a packet on Q11: HEADER, SET and ENABLE entries, TRAILER (R284). -/
def deltaWords (cycle : Nat) (es : List DeltaEntry) : List Nat :=
  let ws := es.map deltaWord
  (atF 32 20 es.length + cycle % 2 ^ 32) :: ws ++ [atF 60 4 15 + deltaCrc ws]

/-- Delta staging: the 64-bit entries as they arrived, and the tick at which the last one did (none while nothing has arrived). -/
structure DeltaStage where
  words : List Nat := []
  tick  : Option Nat := none
  deriving DecidableEq, Repr, Inhabited

/-- Staging whose TRAILER no longer agrees with its entries. -/
def DeltaStage.spoil (st : DeltaStage) : DeltaStage := { st with words := st.words.dropLast ++ (st.words.getLast?.map (· ^^^ 1)).toList }

/-- The packet that stands in staging: what its HEADER names, its body, its TRAILER. -/
structure DeltaPacket where
  cycle : Nat
  count : Nat
  body  : List Nat
  crc   : Nat
  deriving DecidableEq, Repr

def deltaPacket (ws : List Nat) : Option DeltaPacket :=
  match ws with
  | [] => none
  | h :: r =>
    let t := r.getLastD 0
    if bitsOf 63 60 h = 0 ∧ bitsOf 63 60 t = 15 then
      some { cycle := bitsOf 31 0 h, count := bitsOf 51 32 h, body := r.dropLast, crc := bitsOf 31 0 t }
    else none

/-- A SET names a CLASS 1 array and an index that exists; nothing is asked of an ENABLE (R285). -/
def deltaEntryOk (p : SprProblem) : DeltaEntry → Bool
  | .set a i _ => (p.arrs.getD a default).cls == 1 && decide (i < (p.arrs.getD a default).len)
  | .enable _ _ => true

/-- SPR_DELTA_STATUS bits 31:30: 0 applied, 1 absent, 2 late, 3 refused (R285). -/
def deltaJudge (p : SprProblem) (cycle startTick : Nat) (st : DeltaStage) : Nat :=
  match deltaPacket st.words, st.tick with
  | some d, some t =>
    if startTick ≤ t then 2
    else if d.cycle = cycle % 2 ^ 32 ∧ d.count ≤ p.deltaMax ∧ d.count = d.body.length ∧ d.crc = deltaCrc d.body
        ∧ d.body.all (fun w => (deltaOf w).any (deltaEntryOk p)) = true then 0
    else 3
  | _, _ => 1

/-- The entries of the packet in staging, in entry order. -/
def DeltaStage.entries (st : DeltaStage) : List DeltaEntry := match deltaPacket st.words with
  | some d => d.body.filterMap deltaOf
  | none => []

def deltaApply (ve : List (List Int) × List Bool) : DeltaEntry → List (List Int) × List Bool
  | .set a i v => (arrSet ve.1 a i v, ve.2)
  | .enable c on => (ve.1, listMod ve.2 c fun _ => on)

/-! The solver. -/

/-- A value with the kind of the first overflow on the way to it, as SPR_OVF_LAST numbers them: 0 accumulator, 1 rounding, 2 input conversion, 3 output
conversion, 4 function unit (R280, Table 11.11). -/
abbrev Ov (α : Type) := α × Option Nat

def ovIf (kind : Nat) (b : Bool) : Option Nat := if b then some kind else none
/-- The first overflow of a list. -/
def firstOv (l : List (Option Nat)) : Option Nat := l.findSome? id

/-- A result rounded into an array of `n` fraction bits. -/
def spStore (n : Nat) (q : ℚ) : Ov ℚ := ((spRound n q).1, ovIf 1 (spRound n q).2)

/-- A sum of products in the 72-bit accumulator, in the order given: each with its fraction bits and value. The accumulator's point is that of the finest
product, so that the sum is exact until it saturates (R277, log entry 35). -/
def accSum (l : List (Nat × ℚ)) : Ov ℚ :=
  let f := (l.map (·.1)).foldl max 0
  let lim : ℚ := ofQ f ((2 : Int) ^ 71 - 1)
  l.foldl (fun (a : Ov ℚ) t =>
    let s := a.1 + t.2
    let c := clampQ (-lim) lim s
    (c, a.2.or (ovIf 0 (decide (c ≠ s))))) (0, none)

/-- A sum of products stored in an array of `n` fraction bits. -/
def accStore (n : Nat) (l : List (Nat × ℚ)) : Ov ℚ :=
  let a := accSum l
  let r := spStore n a.1
  (r.1, a.2.or r.2)

/-- Working-set member: constraint number, and whether it stands on its upper side. -/
abbrev WSet := List (Nat × Bool)

/-- Which constraint stands at a permuted position. -/
def conAt (p : SprProblem) (pos : Nat) : Option Nat :=
  let i := p.perm.getD pos 0
  if p.n ≤ i then some (i - p.n) else none

/-- The row of a constraint carries c_i in K_W (R287); one that is disabled is out of the working set, an equality too (R285). -/
def coupled (p : SprProblem) (en : List Bool) (w : WSet) (c : Nat) : Bool :=
  en.getD c false && (!(p.cons.getD c default).two || w.any (·.1 == c))

/-- An entry of K_W in permuted order, on or below the diagonal: its fraction bits and value. -/
structure KEntry where
  row : Nat
  col : Nat
  fmt : Nat
  val : ℚ

/-- K_W (R287): decoupled rows have diagonal −1 and no off-diagonal entries. -/
def kwEntries (p : SprProblem) (v : List (List Int)) (en : List Bool) (w : WSet) : List KEntry :=
  p.kk.filterMap fun e =>
    let free (q : Nat) : Bool := match conAt p q with
      | some c => !coupled p en w c
      | none => false
    let fmt := (p.arrs.getD e.arr default).fmt
    if e.row = e.col then some (if free e.row then ⟨e.row, e.col, 0, -1⟩ else ⟨e.row, e.col, fmt, arrVal p v e.arr e.idx⟩)
    else if free e.row || free e.col then none
    else some ⟨max e.row e.col, min e.row e.col, fmt, arrVal p v e.arr e.idx⟩

/-- The fraction bits and value at a permuted pair. -/
def kwAt (k : List KEntry) (i j : Nat) : Nat × ℚ :=
  match k.find? fun e => e.row == max i j && e.col == min i j with
  | some e => (e.fmt, e.val)
  | none => (0, 0)

/-- A result of the function unit: `x` raw, its error `e` within `ulp` units in the last place of the format (R279). -/
def unitResult (fmt ulp : Nat) (x : ℚ) (e : Int) : Ov ℚ :=
  let r0 := roundAway x + clampI (-(ulp : Int)) ulp e
  let r := if absQ ((r0 : ℚ) - x) ≤ (ulp : ℚ) then r0 else roundAway x
  let c := clampI (-(2 : Int) ^ 31) ((2 : Int) ^ 31 - 1) r
  (ofQ fmt c, ovIf 4 (decide (c ≠ r)))

/-- The largest value of a format: what a function of the unit saturates to. -/
def unitTop (fmt : Nat) : Ov ℚ := (ofQ fmt ((2 : Int) ^ 31 - 1), some 4)

/-- The function unit's reciprocal: within 1 unit in the last place; of zero it saturates (R279). -/
def spRcp (fmt : Nat) (d : ℚ) : Ov ℚ := if d = 0 then unitTop fmt else unitResult fmt 1 (1 / d * pow2 fmt) (Config.rcpUlp d fmt)

/-- Its reciprocal square root: within 1 unit in the last place; of zero or a negative number it saturates (R279). No kernel of the allocation uses it. -/
def spRsqrt (fmt : Nat) (d : ℚ) : Ov ℚ := if d ≤ 0 then unitTop fmt else unitResult fmt 1 (1 / fsqrt d * pow2 fmt) (Config.unitUlp 0 d fmt)

/-- Its sine and cosine of a binary angle of 2^-32 turn (R222): within 2 units in the last place (R279). No kernel of the allocation uses them. -/
def spSin (fmt a : Nat) : Ov ℚ := unitResult fmt 2 (sind ((a : ℚ) * 360 / 2 ^ 32) * pow2 fmt) (Config.unitUlp 1 a fmt)
def spCos (fmt a : Nat) : Ov ℚ := unitResult fmt 2 (cosd ((a : ℚ) * 360 / 2 ^ 32) * pow2 fmt) (Config.unitUlp 2 a fmt)

/-- The factor: columns of L as (row, value), pivots, reciprocals, replaced pivots, first overflow. -/
structure Factor where
  l    : List (List (Nat × ℚ)) := []
  d    : List ℚ := []
  rcp  : List ℚ := []
  piv  : Nat := 0
  ovf  : Option Nat := none

def lAt (f : Factor) (i k : Nat) : ℚ := lookupD (f.l.getD k []) i 0
def sprColAt (p : SprProblem) (i : Nat) : SprCol := p.cols.getD i default

/-- One column of the left-looking factorisation (R288, R289). The multiplier L_jk d_k is a product of its own before it meets column k (log entry 35). -/
def factorCol (p : SprProblem) (k : List KEntry) (f : Factor) (j : Nat) : Factor :=
  let c := sprColAt p j
  let prior := (List.range j).filter fun q => lAt f j q ≠ 0
  let mult (q : Nat) : Ov ℚ := spStore (Config.midFmt 0 q % 32) (lAt f j q * f.d.getD q 0)
  let terms (i : Nat) : List (Nat × ℚ) :=
    kwAt k i j :: prior.map fun q => ((sprColAt p q).lFmt + Config.midFmt 0 q % 32, -(lAt f i q * (mult q).1))
  let (d0, o0) := accStore c.dFmt (terms j)
  let raw := roundAway (d0 * pow2 c.dFmt)
  let wrong := if c.neg then decide (0 ≤ raw) else decide (raw ≤ 0)
  let bad := wrong || decide (|raw| < c.tiny)
  let d := if bad then (if c.neg then -(ofQ c.dFmt c.reg) else ofQ c.dFmt c.reg) else d0
  let (r, o1) := spRcp c.rFmt d
  let col := (p.lpat.getD j []).map fun i =>
    let a := accSum (terms i)
    let x := spStore c.lFmt (a.1 * r)
    ((i, x.1), a.2.or x.2)
  { l := f.l ++ [col.map (·.1)], d := f.d ++ [d], rcp := f.rcp ++ [r], piv := f.piv + b2n bad,
    ovf := f.ovf.or (firstOv (prior.map (fun q => (mult q).2) ++ [o0, o1] ++ col.map (·.2))) }

def factorise (p : SprProblem) (k : List KEntry) : Factor := (List.range p.dim).foldl (factorCol p k) {}

/-- A value rounded into the X_FMT of a row. -/
def xRound (p : SprProblem) (i : Nat) (q : ℚ) : Ov ℚ := spStore (sprColAt p i).xFmt q

/-- Forward substitution, diagonal scaling, backward substitution (R290). -/
def kktSolve (p : SprProblem) (f : Factor) (rhs : List ℚ) : Ov (List ℚ) :=
  let n := p.dim
  let xf (i : Nat) : Nat := (sprColAt p i).xFmt
  let fwd := (List.range n).foldl (fun (a : Ov (List ℚ)) i =>
    let (y, o) := accStore (xf i) ((xf i, rhs.getD i 0) :: (List.range i).map fun j => ((sprColAt p j).lFmt + xf j, -(lAt f i j * a.1.getD j 0)))
    (a.1 ++ [y], a.2.or o)) ([], none)
  let dia := (List.range n).map fun i => xRound p i (fwd.1.getD i 0 * f.rcp.getD i 0)
  (List.range n).foldl (fun (a : Ov (List ℚ)) t =>
    let j := n - 1 - t
    let (y, o) := accStore (xf j) ((xf j, a.1.getD j 0) :: (f.l.getD j []).map fun e => ((sprColAt p j).lFmt + xf e.1, -(e.2 * a.1.getD e.1 0)))
    (listMod a.1 j fun _ => y, a.2.or o)) (dia.map (·.1), fwd.2.or (firstOv (dia.map (·.2))))

/-- The entries of a symmetric matrix in one row: the other index, fraction bits, value. -/
def symRow (k : List KEntry) (i : Nat) : List (Nat × Nat × ℚ) :=
  k.filterMap fun e => if e.row = i then some (e.col, e.fmt, e.val) else if e.col = i then some (e.row, e.fmt, e.val) else none

/-- The residual check passes (R290): each K_W z − rhs, raw in its row's X_FMT, against RES_TOL. -/
def residualOk (p : SprProblem) (k : List KEntry) (z rhs : List ℚ) : Ov Bool :=
  let rs := (List.range p.dim).map fun i =>
    let (r, o) := accStore (sprColAt p i).xFmt ((symRow k i).map (fun e => (e.2.1 + (sprColAt p e.1).xFmt, e.2.2 * z.getD e.1 0)) ++ [((sprColAt p i).xFmt, -(rhs.getD i 0))])
    (decide (absQ (r * pow2 (sprColAt p i).xFmt) ≤ (p.resTol : ℚ)), o)
  (rs.all (·.1), firstOv (rs.map (·.2)))

/-- Permuted position of an original index. -/
def posOf (p : SprProblem) (i : Nat) : Nat := (p.perm.takeWhile (· != i)).length
/-- The X_FMT of a primal index. -/
def xFmtOf (p : SprProblem) (i : Nat) : Nat := (sprColAt p (posOf p i)).xFmt

/-- Coefficients of a constraint: primal index, fraction bits, value. -/
def conCoefs (p : SprProblem) (v : List (List Int)) (c : Nat) : List (Nat × Nat × ℚ) :=
  let q := (p.cons.getD c default).pos
  p.kk.filterMap fun e =>
    if e.row = e.col then none
    else
      let o := if e.row = q then some e.col else if e.col = q then some e.row else none
      match o with
      | some x => let i := p.perm.getD x 0; if i < p.n then some (i, (p.arrs.getD e.arr default).fmt, arrVal p v e.arr e.idx) else none
      | none => none

/-- c_i' x of a primal vector in the accumulator. -/
def conSum (p : SprProblem) (v : List (List Int)) (x : Nat → ℚ) (c : Nat) : Ov ℚ :=
  accSum ((conCoefs p v c).map fun e => (e.2.1 + xFmtOf p e.1, e.2.2 * x e.1))

/-- c_i' x in ROW_FMT. -/
def conValue (p : SprProblem) (v : List (List Int)) (x : List ℚ) (c : Nat) : Ov ℚ :=
  let a := conSum p v (fun i => x.getD i 0) c
  let r := spStore (p.cons.getD c default).fmt a.1
  (r.1, a.2.or r.2)

def conLo (p : SprProblem) (v : List (List Int)) (c : Nat) : ℚ := let k := p.cons.getD c default; arrVal p v k.loA k.loI
def conHi (p : SprProblem) (v : List (List Int)) (c : Nat) : ℚ := let k := p.cons.getD c default; arrVal p v k.hiA k.hiI

/-- Every enabled constraint holds within FEAS_TOL. -/
def feasible (p : SprProblem) (v : List (List Int)) (en : List Bool) (x : List ℚ) : Ov Bool :=
  let rs := (List.range p.m).map fun c =>
    if en.getD c false then
      let k := p.cons.getD c default
      let tol := ofQ k.fmt p.feasTol
      let (y, o) := conValue p v x c
      (if k.two then decide (conLo p v c - tol ≤ y) && decide (y ≤ conHi p v c + tol) else decide (absQ (y - conLo p v c) ≤ tol), o)
    else (true, none)
  (rs.all (·.1), firstOv (rs.map (·.2)))

/-- Entries of H by primal index, the diagonal once. -/
def hEntries (p : SprProblem) (v : List (List Int)) : List KEntry :=
  p.kk.filterMap fun e =>
    let i := p.perm.getD e.row 0
    let j := p.perm.getD e.col 0
    if i < p.n ∧ j < p.n then some ⟨i, j, (p.arrs.getD e.arr default).fmt, arrVal p v e.arr e.idx⟩ else none

/-- The products of row `i` of H x, scaled. -/
def hTerms (p : SprProblem) (h : List KEntry) (x : List ℚ) (scale : ℚ) (i : Nat) : List (Nat × ℚ) :=
  (symRow h i).map fun e => (e.2.1 + xFmtOf p e.1, scale * (e.2.2 * x.getD e.1 0))

/-- The fraction bits and value of g at a primal index. -/
def gTerm (p : SprProblem) (v : List (List Int)) (scale : ℚ) (i : Nat) : Nat × ℚ := ((p.arrs.getD p.gArr default).fmt, scale * arrVal p v p.gArr i)

/-- The objective in OBJ_FMT: the sum of x_i (H x / 2 + g)_i, the second factor a vector of its own (R293, log entry 35). -/
def objective (p : SprProblem) (v : List (List Int)) (x : List ℚ) : Ov ℚ :=
  let h := hEntries p v
  let us := (List.range p.n).map fun i => accStore (Config.midFmt 1 i % 32) (hTerms p h x (1 / 2) i ++ [gTerm p v 1 i])
  let r := accStore p.objFmt ((List.range p.n).map fun i => (xFmtOf p i + Config.midFmt 1 i % 32, x.getD i 0 * (us.getD i (0, none)).1))
  (r.1, (firstOv (us.map (·.2))).or r.2)

/-- The state of a solve between iterations. -/
structure SolveState where
  x    : List ℚ := []
  w    : WSet := []
  k    : Nat := 0
  best : List ℚ := []
  bestW : WSet := []
  bestObj : ℚ := 0
  bestIter : Nat := 0
  piv  : Nat := 0
  residFail : Bool := false
  /-- The kind of the run's first overflow; the run goes on to its planned end and ends with OVERFLOW (R280). -/
  ovf : Option Nat := none
  outcome : Option Nat := none
  deriving DecidableEq, Repr, Inhabited

/-- The outcome, an overflow of the run included (R280). -/
def SolveState.verdict (s : SolveState) : Option Nat := if s.ovf.isSome then some 6 else s.outcome

/-- The release test at a point without a step: the member that leaves W, none at the optimum. The most negative multiplier leaves, ties to the lowest
constraint, when some multiplier is below −LAM_TOL, raw in its own row's X_FMT (R292). The most negative one is
chosen by value, the tolerance is compared raw (DEDUCED, log entry 79). -/
def releaseOf (p : SprProblem) (z : List ℚ) (w : WSet) : Option (Nat × Bool) :=
  let pos (e : Nat × Bool) : Nat := (p.cons.getD e.1 default).pos
  let lam (e : Nat × Bool) : ℚ := let l := z.getD (pos e) 0; if e.2 then l else -l
  let two := w.filter fun e => (p.cons.getD e.1 default).two
  if two.any fun e => decide (lam e < -(ofQ (sprColAt p (pos e)).xFmt p.lamTol)) then
    two.foldl (fun (b : Option (Nat × Bool)) e => match b with
      | none => some e
      | some c => if lam e < lam c then some e else some c) none
  else none

/-- The ratio test: step length below 1 and the constraint it reaches, on which side; with the overflow of its sums (R292). -/
def ratioTest (p : SprProblem) (v : List (List Int)) (en : List Bool) (s : SolveState) (step : Nat → ℚ) : Ov (ℚ × Option (Nat × Bool)) :=
  ((List.range p.m).filter fun c => en.getD c false && (p.cons.getD c default).two && !s.w.any (·.1 == c)).foldl
    (fun (a : Ov (ℚ × Option (Nat × Bool))) c =>
      let (sl, o1) := conSum p v step c
      let (y, o2) := conValue p v s.x c
      let o := a.2.or (o1.or o2)
      if sl = 0 then (a.1, o)
      else
        let r := if 0 < sl then (conHi p v c - y) / sl else (conLo p v c - y) / sl
        (if r < a.1.1 then (r, some (c, decide (0 < sl))) else a.1, o)) (((1 : ℚ), none), none)

/-- One iteration (R292, R293). -/
def solveIter (p : SprProblem) (v : List (List Int)) (en : List Bool) (s : SolveState) : SolveState :=
  let kw := kwEntries p v en s.w
  let f := factorise p kw
  let h := hEntries p v
  let rhs := (List.range p.dim).map fun q =>
    let i := p.perm.getD q 0
    if i < p.n then accStore (sprColAt p q).xFmt (hTerms p h s.x (-1) i ++ [gTerm p v (-1) i]) else (0, none)
  let o0 := firstOv (rhs.map (·.2))
  let rhs := rhs.map (·.1)
  let (z, o1) := kktSolve p f rhs
  let (fits, o2) := residualOk p kw z rhs
  let s1 := { s with piv := s.piv + f.piv, ovf := s.ovf.or (firstOv [f.ovf, o0, o1, o2]) }
  if !fits then { s1 with outcome := some 5, residFail := true }
  else
    let step (i : Nat) : ℚ := z.getD (posOf p i) 0
    let k := s.k + 1
    let small := (List.range p.n).all fun i => decide (absQ (step i * pow2 (xFmtOf p i)) ≤ (p.stepTol : ℚ))
    if small then
      match releaseOf p z s.w with
      | none => { s1 with k := k, outcome := some 0, best := s.x, bestW := s.w, bestIter := k }
      | some e =>
        let w := s.w.filter (·.1 != e.1)
        if s.x = s.best then { s1 with k := k, w := w, bestW := w, bestIter := k } else { s1 with k := k, w := w }
    else
      let (cand, o3) := ratioTest p v en s step
      let alpha := ofQ 31 (floorQ (maxQ 0 cand.1 * 2147483648))
      let xs := (List.range p.n).map fun i => xRound p (posOf p i) (s.x.getD i 0 + alpha * step i)
      let x := xs.map (·.1)
      let w := match cand.2 with
        | some e => (s.w ++ [e]).mergeSort (fun a b => decide (a.1 ≤ b.1))
        | none => s.w
      let (ok, o4) := feasible p v en x
      let s2 := { s1 with k := k, ovf := s1.ovf.or (firstOv (o3 :: (xs.map Prod.snd ++ [o4]))) }
      if !ok then { s2 with outcome := some 4 }
      else
        let (ob, o5) := objective p v x
        let s3 := { s2 with x := x, w := w, ovf := s2.ovf.or o5 }
        if ob ≤ s.bestObj then { s3 with best := x, bestW := w, bestObj := ob, bestIter := k } else s3

/-- At most `fuel` iterations. -/
def solveRun (p : SprProblem) (v : List (List Int)) (en : List Bool) : Nat → SolveState → SolveState
  | 0, s => s
  | k + 1, s => if s.outcome.isSome then s else solveRun p v en k (solveIter p v en s)

/-- What a warm start saves (R296). -/
structure Warm where
  x : List ℚ := []
  w : WSet := []
  deriving DecidableEq, Repr, Inhabited

/-- The shifted warm start, with the overflow of the values that do not fit their new rows (R296, R280). -/
def warmShift (p : SprProblem) (en : List Bool) (s : Warm) : Ov (List ℚ × WSet) :=
  let xs := (List.range p.n).map fun i => xRound p (posOf p i) (s.x.getD (p.shift.getD i 0) 0)
  ((xs.map (·.1),
    (s.w.filterMap fun e =>
      let t := (p.cons.getD e.1 default).shiftTo
      if t = 0xFFFF ∨ en.getD t false = false then none else some (t, e.2)).mergeSort (fun a b => decide (a.1 ≤ b.1))), firstOv (xs.map (·.2)))

/-- The hold point of HOLD_ARRAY. -/
def holdPoint (p : SprProblem) (v : List (List Int)) : List ℚ := (List.range p.n).map fun i => arrVal p v p.holdArr i

/-- The start of a solve (R291): the state and START (0 WARM, 1 HOLD, 2 none). The first candidate that is feasible is used. `ov` is the overflow met so
far, which invalidates the run (R280). -/
def solveStart (p : SprProblem) (v : List (List Int)) (en : List Bool) (ov : Option Nat) : List (Nat × List ℚ × WSet) → SolveState × Nat
  | [] => ({ ovf := ov, outcome := some 7 }, 2)
  | c :: rest =>
    let (ok, o1) := feasible p v en c.2.1
    if !ok then solveStart p v en (ov.or o1) rest
    else
      let (ob, o2) := objective p v c.2.1
      ({ x := c.2.1, w := c.2.2, best := c.2.1, bestW := c.2.2, bestObj := ob, ovf := ov.or (o1.or o2) }, c.1)

/-- The finished solve as the output stage and the registers see it. -/
structure SolveResult where
  outcome : Nat := 8
  iters   : Nat := 0
  bestIter : Nat := 0
  start   : Nat := 2
  piv     : Nat := 0
  residFail : Bool := false
  /-- The kind of the first overflow. -/
  ovf     : Option Nat := none
  x       : List ℚ := []
  w       : WSet := []
  obj     : ℚ := 0
  deriving DecidableEq, Repr, Inhabited

/-- The whole solve; `stop` is present when the end tick cut it short (R294, R295), `ov` when the set-up overflowed before the start point (R280). -/
def solveAll (p : SprProblem) (v : List (List Int)) (en : List Bool) (limit : Nat) (ov : Option Nat) (cands : List (Nat × List ℚ × WSet)) (stop : Option StopAt) :
    SolveResult :=
  if stop = some .setup then { outcome := 8 }
  else
    let (s0, start) := solveStart p v en ov cands
    let fuel := match stop with
      | some (.between d) => min d limit
      | some (.within d) => min d limit
      | _ => limit
    let s := solveRun p v en fuel s0
    let out := match s.verdict with
      | some o => o
      | none => match stop with
        | some (.between _) => 2
        | some (.within _) => 3
        | _ => 1
    let x := if out = 3 then s.x else s.best
    let w := if out = 3 then s.w else s.bestW
    { outcome := out, iters := s.k, bestIter := if out = 3 then s.k else s.bestIter, start := start, piv := s.piv, residFail := s.residFail, ovf := s.ovf,
      x := if 5 ≤ out then [] else x, w := if 5 ≤ out then [] else w, obj := if 5 ≤ out then s.bestObj else (objective p v x).1 }

/-- Ceiling of a division by 32, as the clock formulas use it. -/
def c32 (n : Nat) : Nat := (n + 31) / 32

/-- The terms S, R and U of R301. -/
def clockTerms (p : SprProblem) : Nat × Nat × Nat :=
  let cnt (j : Nat) : Nat := (p.lpat.getD j []).length
  let kj (j : Nat) : Nat := (p.kk.filter fun e => e.row == j || e.col == j).length
  let s := ((List.range p.dim).map fun j => c32 (cnt j)).sum
  let r := ((List.range p.dim).map fun j => c32 (kj j)).sum
  let u := ((List.range p.dim).map fun k => ((p.lpat.getD k []).map fun j =>
    c32 ((p.lpat.getD k []).filter fun i => decide (j ≤ i)).length).sum).sum
  (s, r, u)

/-- One iteration (Table 11.10). -/
def iterClocks (p : SprProblem) : Nat :=
  let (s, r, u) := clockTerms p
  328 + 39 * p.dim + 3 * s + 2 * u + 2 * r
/-- Allocation set-up for `d` packet entries. -/
def setupClocks (p : SprProblem) (d : Nat) : Nat :=
  let (_, r, _) := clockTerms p
  8000 + 6 * d + 24 * p.dim + 4 * r
def outputClocks (p : SprProblem) : Nat := 2400 + 800 * p.thrusters
def stepClocks (p : SprProblem) : Nat := 6000 + p.iters * iterClocks p

end Sys2Proof.Machine
end

