-- ==== Sys2Proof/Machine/AllocUnit.lean ====
section
/-! DEFINITION. Thrust allocation (chapter 12): membership, the posed problem, delta packets, budgets, the output stage, start gate, consequence analysis, and the SPR_ registers. Core 2 computes exactly and rounds once, on conversion to a raw value (log entry 37). -/

namespace Sys2Proof.Machine

/-! THRUSTER_MODELS (Tables 12.5 and 12.6). Thrusters are numbered from 0 here, thruster k of the spec being k - 1. -/
def tmCount (c : Bytes) := u8 c 2
def tmHorizon (c : Bytes) := u8 c 3
def tmEdgeRows (c : Bytes) := u8 c 4
def tmSections (c : Bytes) := u8 c 5
def tmWinMax (c : Bytes) : ℚ := fl32 c 36
def tmTanSpread (c : Bytes) : ℚ := fl32 c 40
def tmAzHold (c : Bytes) : ℚ := fl32 c 44
def tmTotalLimit (c : Bytes) : ℚ := fl32 c 48
def tmBalKn (c : Bytes) : ℚ := fl32 c 52
def tmBalKnm (c : Bytes) : ℚ := fl32 c 56
/-- POWER_CH, RESERVE_KW and STALE_BUDGET_KW of section j, numbered from 0. -/
def tmPowerCh (c : Bytes) (j : Nat) := u16 c (64 + 16 * j)
def tmReserve (c : Bytes) (j : Nat) : ℚ := fl32 c (68 + 16 * j)
def tmStaleBudget (c : Bytes) (j : Nat) : ℚ := fl32 c (72 + 16 * j)
def tmEntry (c : Bytes) (k : Nat) : Bytes := sliceB c (256 + 1024 * k) 1024
def thKind (e : Bytes) := u8 e 0
def thSection (e : Bytes) := u8 e 1
def thStartAvail (e : Bytes) : Bool := bitOf 0 (u8 e 3)
def thX (e : Bytes) : ℚ := (s32 e 4 : ℚ) / 1000
def thY (e : Bytes) : ℚ := (s32 e 8 : ℚ) / 1000
def thFwd (e : Bytes) : ℚ := fl32 e 12
def thRev (e : Bytes) : ℚ := fl32 e 16
def thKw (e : Bytes) : ℚ := fl32 e 20
def thUp (e : Bytes) : ℚ := fl32 e 24
def thDown (e : Bytes) : ℚ := fl32 e 28
def thSlew (e : Bytes) : ℚ := fl32 e 32
def thAxis (e : Bytes) : ℚ := fl32 e 36
def thFollowFrac (e : Bytes) : ℚ := fl32 e 44
def thFollowDeg (e : Bytes) : ℚ := fl32 e 48
def thFollowCyc (e : Bytes) := u32 e 52
def thVerts (e : Bytes) := u8 e 56
def thSectors (e : Bytes) := u8 e 57
def thFeedback (e : Bytes) := u16 e 58
def thVert (e : Bytes) (i : Nat) : ℚ × ℚ := (fl32 e (64 + 8 * i), fl32 e (68 + 8 * i))
def thSector (e : Bytes) (i : Nat) : ℚ × ℚ := ((u16 e (192 + 4 * i) : ℚ) / 100, (u16 e (194 + 4 * i) : ℚ) / 100)
def thCurve (e : Bytes) : List (ℚ × ℚ) := (List.range 32).map fun i => (fl32 e (352 + 8 * i), fl32 e (356 + 8 * i))
def thPower (e : Bytes) : List (ℚ × ℚ) := (List.range 16).map fun i => (fl32 e (608 + 8 * i), fl32 e (612 + 8 * i))

/-- The segment of a curve that contains an abscissa: its two ends. -/
def curveSeg (pts : List (ℚ × ℚ)) (x : ℚ) : (ℚ × ℚ) × (ℚ × ℚ) :=
  let segs := pts.zip (pts.drop 1)
  match segs.find? fun s => decide (x < s.2.1) with
  | some s => s
  | none => segs.getLastD ((0, 0), (0, 0))

def curveSlope (pts : List (ℚ × ℚ)) (x : ℚ) : ℚ :=
  let s := curveSeg pts x
  (s.2.2 - s.1.2) / (s.2.1 - s.1.1)

def curveAt (pts : List (ℚ × ℚ)) (x : ℚ) : ℚ :=
  let s := curveSeg pts x
  s.1.2 + (s.2.2 - s.1.2) / (s.2.1 - s.1.1) * (x - s.1.1)

/-- Power of a thrust magnitude, kW (R312). -/
def thPowerAt (e : Bytes) (r : ℚ) : ℚ := thKw e * curveAt (thPower e) (r / thFwd e)
/-- The tangent at a magnitude: slope and value at zero thrust. -/
def thTangent (e : Bytes) (r : ℚ) : ℚ × ℚ :=
  let m := thKw e * curveSlope (thPower e) (r / thFwd e) / thFwd e
  (m, thPowerAt e r - m * r)
/-- Drive command fraction of a thrust fraction: the inverse of the thrust curve (R319). -/
def thDrive (e : Bytes) (t : ℚ) : ℚ := curveAt ((thCurve e).map fun p => (p.2, p.1)) t

/-! START_GATE (R323) and FAILURE_GROUPS (Table 12.7). -/
def sgMinMs (c : Bytes) := u16 c 2
def sgSpacingMs (c : Bytes) (j : Nat) := 10 * u16 c (4 + 2 * j)
def sgStartKw (c : Bytes) (k : Nat) : ℚ := fl32 c (64 + 16 * k)
def sgStartS (c : Bytes) (k : Nat) : ℚ := fl32 c (68 + 16 * k)
def fgCount (c : Bytes) := u8 c 2
def fgSteps (c : Bytes) := u8 c 3
def fgEdgeRows (c : Bytes) := u8 c 4
def fgStepMs (c : Bytes) := u16 c 6
def fgMargin (c : Bytes) : ℚ := fl32 c 8
def fgTol (c : Bytes) (k : Nat) : ℚ := fl32 c (12 + 4 * k)
def fgThrusters (c : Bytes) (g : Nat) := u16 c (64 + 8 * g)
def fgSections (c : Bytes) (g : Nat) := u8 c (66 + 8 * g)

/-! State. -/

/-- The previous command of a thruster as last sent on T-A or T-B: body-frame thrust, azimuth, power (R305, R404). -/
structure PrevCmd where
  x  : ℚ := 0
  y  : ℚ := 0
  az : ℚ := 0
  kw : ℚ := 0
  deriving DecidableEq, Repr, Inhabited

/-- One thruster entry of Q10 (Table 12.4). -/
structure Q10Entry where
  frac  : Int := 0
  az    : Nat := 0
  drive : Int := 0
  step1 : Int := 0
  kw    : Nat := 0
  inAlloc : Bool := false
  startReq : Bool := false
  azHeld : Bool := false
  deriving DecidableEq, Repr, Inhabited

/-- The Q10 transfer. -/
structure Q10 where
  cycle   : Nat := 0
  outcome : Nat := 0
  fallback : Bool := false
  held    : Bool := false
  standby : Bool := false
  powerLimited : Bool := false
  slack   : Bool := false
  mask    : Nat := 0
  starts  : Nat := 0
  thr     : Vector Q10Entry 16 := Vector.replicate 16 {}
  deriving DecidableEq, Repr, Inhabited

/-- A consequence input buffer (R324). -/
structure CqInput where
  demand  : ℚ × ℚ × ℚ := (0, 0, 0)
  budgets : Vector ℚ 8 := Vector.replicate 8 0
  prev    : Vector PrevCmd 16 := Vector.replicate 16 {}
  member  : Nat := 0
  ramping : Nat := 0
  phase0  : Nat := 0
  deriving DecidableEq, Repr, Inhabited

/-- One failure group of the consequence workspace (R299, R300). -/
structure CqGroup where
  solve : SolveState := {}
  start : Bool := false
  done  : Bool := false
  discarded : Bool := false
  /-- Iterations done in this long cycle. -/
  iters : Nat := 0
  /-- Final iterate of the last completed analysis. -/
  final : Option Warm := none
  status : Nat := 0
  /-- Judgement (R325): STATUS, UTIL, MARGIN_KW, and the published word. -/
  judged : Nat := 0
  util  : Nat := 0
  margin : Nat := 0
  deriving DecidableEq, Repr, Inhabited

/-- The consequence analysis. -/
structure CqState where
  active : CqInput := {}
  staged : CqInput := {}
  marker : Bool := false
  haveInput : Bool := false
  stale  : Bool := false
  switched : Bool := false
  groups : Vector CqGroup 8 := Vector.replicate 8 {}
  /-- SPR_CQ_RESULT words and SPR_CQ_CYCLE. -/
  words  : Vector Nat 8 := Vector.replicate 8 0
  cycle  : Nat := 0
  /-- Sum and count of the entry 1 demands of the completed slots of this and of the previous long cycle. -/
  sum    : ℚ × ℚ × ℚ := (0, 0, 0)
  cnt    : Nat := 0
  lastSum : ℚ × ℚ × ℚ := (0, 0, 0)
  lastCnt : Nat := 0
  deriving DecidableEq, Repr, Inhabited

/-- Allocation and Spire of one lane. -/
structure AllocState where
  available : Nat := 0
  ramping  : Nat := 0
  removed  : Nat := 0
  /-- Thrusters that an availability command deselected (R306). -/
  hostOff  : Nat := 0
  follow   : Nat := 0
  followRun : Vector Nat 16 := Vector.replicate 16 0
  /-- In-allocation set of the last cycle in which it was formed. -/
  member   : Nat := 0
  lost     : Bool := false
  prev     : Vector PrevCmd 16 := Vector.replicate 16 {}
  budgets  : Vector ℚ 8 := Vector.replicate 8 0
  total    : ℚ := 0
  powerStale : Bool := false
  /-- Resident values and enables of the main problem, and core 2's copy. -/
  vals     : List (List Int) := []
  enables  : List Bool := []
  staging  : DeltaStage := {}
  packets  : Nat := 0
  warm     : Option Warm := none
  result   : SolveResult := {}
  solved   : Option Nat := none
  setupClk : Nat := 0
  iterClk  : Nat := 0
  /-- The solve that the SPR_ registers describe: the one of the result block that stands, with its cycle, set-up clocks and largest iteration (R303, R304). -/
  shown    : SolveResult := { outcome := 0, start := 0 }
  shownAt  : Nat := 0
  shownSetup : Nat := 0
  shownIter : Nat := 0
  q10      : Q10 := {}
  block    : Bytes := zeroBytes 1088
  /-- Section loads at the last command, kW. -/
  loads    : Vector Nat 8 := Vector.replicate 8 0
  resultSeq : Nat := 0
  /-- Start gate (R322, R323): queue of thruster numbers, pending (thruster, admission cycle), last admissions. -/
  queue    : List Nat := []
  pending  : List (Nat × Nat) := []
  lastStart : Vector (Option Nat) 8 := Vector.replicate 8 none
  lastAny  : Option Nat := none
  queueFull : Bool := false
  startFailed : Bool := false
  lastAdmitted : Nat := 0
  admitted : Nat := 0
  fallbackRun : Nat := 0
  powerLimited : Bool := false
  totalLimited : Bool := false
  cq       : CqState := {}
  /-- SPR_STATUS stickies and counters. -/
  ovf      : Bool := false
  ovfCycle : Nat := 0
  ovfLast  : Nat := 0
  pivReplaced : Bool := false
  residFail : Bool := false
  allocTrunc : Bool := false
  deltaIgnored : Bool := false
  plane    : Bool := false
  pivCount : Nat := 0
  deltaStatus : Nat := 0
  deltaIgn : Nat := 0
  outcomes : Vector Nat 9 := Vector.replicate 9 0
  deriving DecidableEq, Repr, Inhabited

/-- What core 2 and Spire are given in a cycle. -/
structure AllocIn where
  tm     : Bytes
  sec    : Bytes
  gate   : Bytes
  groups : Bytes
  table  : Bytes
  iterLimit : Nat
  cycle  : Nat
  snap   : Vector StoreEntry 256
  snapNs : Nat
  q07    : Q07

def AllocIn.stale (i : AllocIn) (ch : Nat) : Bool := isStale (chanEntry i.table ch) i.snapNs (vget i.snap ch)
def AllocIn.fb (i : AllocIn) (k w : Nat) : ℚ := chWord (vget i.snap (thFeedback (tmEntry i.tm k))) w
/-- Status bits of word 3 of the feedback channel (R305). -/
def AllocIn.fbBits (i : AllocIn) (k : Nat) : Nat := vget (vget i.snap (thFeedback (tmEntry i.tm k))).value 3
def AllocIn.fbStale (i : AllocIn) (k : Nat) : Bool := i.stale (thFeedback (tmEntry i.tm k))

def hypot (x y : ℚ) : ℚ := fsqrt (x * x + y * y)

/-- Signed thrust of a command: along AXIS_DEG for a tunnel, the magnitude for an azimuth thruster. -/
def signedThrust (e : Bytes) (p : PrevCmd) : ℚ :=
  if thKind e = 1 then p.x * cosd (thAxis e) + p.y * sind (thAxis e) else hypot p.x p.y

def cmdMag (p : PrevCmd) : ℚ := hypot p.x p.y

def setBit (m k : Nat) (b : Bool) : Nat := if b then m ||| 2 ^ k else if bitOf k m then m - 2 ^ k else m

/-- The follow test of one thruster (R627). -/
def followDiff (i : AllocIn) (a : AllocState) (k : Nat) : Bool :=
  let e := tmEntry i.tm k
  let p := vget a.prev k
  let t := signedThrust e p
  decide (thFollowFrac e < absQ (i.fb k 0 - t / thFwd e)) ||
  (thKind e == 2 && decide (tmAzHold i.tm * thFwd e < cmdMag p) && decide (thFollowDeg e < absQ (wrap180 (i.fb k 1 - p.az))))

/-- Follow runs and FOLLOW of every thruster (R627). -/
def followAll (i : AllocIn) (a : AllocState) : AllocState :=
  (List.range (tmCount i.tm)).foldl (fun a k =>
    let tested := bitOf k a.member && !i.fbStale k
    let run := if tested && followDiff i a k then vget a.followRun k + 1 else 0
    { a with
      followRun := vmodN a.followRun k fun _ => run
      follow := if thFollowCyc (tmEntry i.tm k) < run then setBit a.follow k true else a.follow }) a

/-- A thruster is in the allocation (R305, R306). -/
def isMember (i : AllocIn) (a : AllocState) (k : Nat) : Bool :=
  let w := i.fbBits k
  (bitOf k a.available || bitOf k a.ramping) && !bitOf k a.removed && bitOf 0 w && bitOf 1 w && !bitOf 2 w && !i.fbStale k && !bitOf k a.follow

/-- Membership of the cycle: the follow test, the set, and THR_LOST (R318). -/
def formMembers (i : AllocIn) (a : AllocState) : AllocState :=
  let a1 := followAll i a
  let m := ((List.range (tmCount i.tm)).map fun k => if isMember i a1 k then 2 ^ k else 0).sum
  let gone := (List.range 16).any fun k => bitOf k a1.member && !bitOf k m && (bitOf k (a1.available ||| a1.ramping) || !bitOf k a1.hostOff)
  { a1 with member := m, lost := gone }

/-- Section power of the previous commands, kW. -/
def sectionLoad (i : AllocIn) (a : AllocState) (j : Nat) : ℚ :=
  sumQ ((List.range (tmCount i.tm)).map fun k =>
    if thSection (tmEntry i.tm k) = j + 1 then thPowerAt (tmEntry i.tm k) (cmdMag (vget a.prev k)) else 0)

/-- Section budgets (R313). -/
def formBudgets (i : AllocIn) (a : AllocState) : AllocState :=
  let one (j : Nat) : ℚ × Bool :=
    if tmSections i.tm ≤ j then (0, false)
    else
      let ch := tmPowerCh i.tm j
      if i.stale ch then (tmStaleBudget i.tm j, true)
      else
        let meas := sumQ ((List.range (tmCount i.tm)).map fun k =>
          if thSection (tmEntry i.tm k) = j + 1 then (if i.fbStale k then (vget a.prev k).kw else i.fb k 2) else 0)
        let s := vget i.snap ch
        (maxQ 0 (chWord s 0 - (chWord s 1 - meas) - tmReserve i.tm j), false)
  let bs := (List.range 8).map one
  let b : Vector ℚ 8 := Vector.ofFn fun j => (bs.getD j.val (0, false)).1
  { a with budgets := b, total := minQ (sumQ (bs.map (·.1))) (tmTotalLimit i.tm), powerStale := bs.any (·.2) }

/-! The posed problem (R307 to R312). -/

/-- What fixes the coefficients of a structure of the form of Table 12.3. -/
structure Posed where
  tm    : Bytes
  h     : Nat
  dt    : ℚ
  edges : Nat
  peaks : Bool
  member : Nat
  ramping : Nat
  prev  : Vector PrevCmd 16
  budgets : Vector ℚ 8
  total : ℚ
  tau   : ℚ × ℚ × ℚ

def Posed.t (p : Posed) : Nat := tmCount p.tm
def Posed.s (p : Posed) : Nat := tmSections p.tm
def Posed.e (p : Posed) (k : Nat) : Bytes := tmEntry p.tm k
def Posed.kinds (p : Posed) (kd : Nat) : List Nat := (List.range p.t).filter fun k => thKind (p.e k) == kd
def Posed.inA (p : Posed) (k : Nat) : Bool := bitOf k p.member

/-! Variable numbers (Table 12.2), each kind by item and then by step; steps are numbered from 0 (log entry 34). -/
def Posed.vT (p : Posed) (k s ax : Nat) : Nat := 2 * (k * p.h + s) + ax
def Posed.vSlack (p : Posed) (ax s : Nat) : Nat := 2 * p.t * p.h + ax * p.h + s
def Posed.nAz (p : Posed) : Nat := (p.kinds 2).length
def Posed.rankAz (p : Posed) (k : Nat) : Nat := ((p.kinds 2).takeWhile (· != k)).length
def Posed.vR (p : Posed) (k s : Nat) : Nat := 2 * p.t * p.h + 3 * p.h + p.rankAz k * p.h + s
def Posed.vP (p : Posed) (k s : Nat) : Nat := 2 * p.t * p.h + 3 * p.h + p.nAz * p.h + k * p.h + s
def Posed.vLoad (p : Posed) (j s : Nat) : Nat := 2 * p.t * p.h + 3 * p.h + p.nAz * p.h + p.t * p.h + j * p.h + s
def Posed.vPeak (p : Posed) (j : Nat) : Nat := 2 * p.t * p.h + 3 * p.h + p.nAz * p.h + p.t * p.h + p.s * p.h + j
def Posed.n (p : Posed) : Nat := 2 * p.t * p.h + 3 * p.h + p.nAz * p.h + p.t * p.h + p.s * p.h + if p.peaks then p.s + 1 else 0

/-- The bound of a ramp-out at step s, 0 being the first (R306). -/
def Posed.rampBound (p : Posed) (k s : Nat) : ℚ :=
  maxQ 0 (absQ (cmdMag (vget p.prev k)) - thDown (p.e k) * thFwd (p.e k) * p.dt * ((s : ℚ) + 1))

/-- The walls of an azimuth thruster's window at a step, degrees below and above θ_c (R310). -/
def Posed.window (p : Posed) (k s : Nat) : ℚ × ℚ :=
  let e := p.e k
  let th := (vget p.prev k).az
  let w := minQ (tmWinMax p.tm) (thSlew e * p.dt * ((s : ℚ) + 1))
  let secs := (List.range (thSectors e)).map (thSector e)
  match secs.find? fun x => decide (wrap360 (th - x.1) < wrap360 (x.2 - x.1)) && decide (0 < wrap360 (th - x.1)) with
  | some x =>
    let a := wrap360 (th - x.1)
    let b := wrap360 (x.2 - th)
    if a ≤ b then (-a, -a) else (b, b)
  | none =>
    secs.foldl (fun (lh : ℚ × ℚ) x =>
      let up := wrap360 (x.1 - th)
      let dn := wrap360 (th - x.2)
      (if dn < -lh.1 then -dn else lh.1, if up < lh.2 then up else lh.2)) (-w, w)

/-- Outward unit normals and distances of the polygon's edges (R311). -/
def polyEdges (e : Bytes) : List (ℚ × ℚ × ℚ) :=
  let n := thVerts e
  (List.range n).map fun i =>
    let a := thVert e i
    let b := thVert e ((i + 1) % n)
    let len := hypot (b.1 - a.1) (b.2 - a.2)
    let nx := (a.2 - b.2) / len
    let ny := (b.1 - a.1) / len
    let h := nx * a.1 + ny * a.2
    if h < 0 then (-nx, -ny, -h) else (nx, ny, h)

/-- The `m` edges whose normals lie nearest to an azimuth, ties by the lower index, in index order (R311). -/
def nearEdges (e : Bytes) (az : ℚ) (m : Nat) : List (ℚ × ℚ × ℚ) :=
  let es := (polyEdges e).zipIdx
  let key (x : (ℚ × ℚ × ℚ) × Nat) : ℚ := absQ (wrap180 (dirDeg x.1.2.1 x.1.1 - az))
  let sorted := es.mergeSort fun a b => decide (key a < key b) || (decide (key a = key b) && decide (a.2 ≤ b.2))
  ((sorted.take m).mergeSort fun a b => decide (a.2 ≤ b.2)).map (·.1)

/-- One row: coefficients, low and high bounds (none is open), enabled. -/
structure PRow where
  co : List (Nat × ℚ)
  lo : Option ℚ
  hi : Option ℚ
  on : Bool := true

/-- Tangents of a thruster's power rows: slope, value at zero, +1 for forward or magnitude and -1 for reverse (R312). -/
def Posed.tangents (p : Posed) (k : Nat) : List (ℚ × ℚ × ℚ) :=
  let e := p.e k
  let t0 := signedThrust e (vget p.prev k)
  let sp := tmTanSpread p.tm
  if thKind e = 1 then
    let f := thTangent e (maxQ t0 (sp * thFwd e))
    let r := thTangent e (maxQ (-t0) (sp * thRev e))
    [(f.1, f.2, 1), (r.1, r.2, -1)]
  else
    let m := absQ t0
    let pt (d : ℚ) : ℚ × ℚ × ℚ := let r := clampQ 0 (thFwd e) (m + d * sp * thFwd e); let q := thTangent e r; (q.1, q.2, 1)
    [pt 0, pt (-1), pt 1]

/-- Rows of one tunnel thruster in one step, by row kind of Table 12.3. -/
def Posed.tunnelRows (p : Posed) (s k : Nat) : List (Nat × List PRow) :=
  let e := p.e k
  let c := cosd (thAxis e)
  let q := sind (thAxis e)
  let x := p.vT k s 0
  let y := p.vT k s 1
  let t0 := signedThrust e (vget p.prev k)
  let on := p.inA k
  let rb := p.rampBound k s
  let rng : ℚ × ℚ := if !on then (0, 0) else if bitOf k p.ramping then (-rb, rb) else (-(thRev e), thFwd e)
  let up := thUp e * thFwd e * p.dt
  let dn := thDown e * thFwd e * p.dt
  let d : ℚ × ℚ := if t0 < 0 then (-up, dn) else (-dn, up)
  let base : ℚ := if s = 0 then t0 else 0
  let prevCo : List (Nat × ℚ) := if s = 0 then [] else [(p.vT k (s - 1) 0, -c), (p.vT k (s - 1) 1, -q)]
  let pw := (p.tangents k).map fun g =>
    if on then { co := [(p.vP k s, 1), (x, -g.1 * g.2.2 * c), (y, -g.1 * g.2.2 * q)], lo := some g.2.1, hi := none : PRow }
    else { co := [(p.vP k s, 1), (x, 0), (y, 0)], lo := some 0, hi := none }
  [(0, [{ co := [(x, -q), (y, c)], lo := some 0, hi := some 0 }]),
   (1, [{ co := [(x, c), (y, q)], lo := some rng.1, hi := some rng.2 }]),
   (2, [{ co := [(x, c), (y, q)] ++ prevCo, lo := some (base + d.1), hi := some (base + d.2), on := on }]),
   (3, pw)]

/-- Rows of one azimuth thruster in one step, by row kind. -/
def Posed.azRows (p : Posed) (s k : Nat) : List (Nat × List PRow) :=
  let e := p.e k
  let th := (vget p.prev k).az
  let on := p.inA k
  let x := p.vT k s 0
  let y := p.vT k s 1
  let scale : ℚ := if !on then 0 else if bitOf k p.ramping then p.rampBound k s / thFwd e else 1
  let eds := (nearEdges e th p.edges).map fun n => { co := [(x, n.1), (y, n.2.1)], lo := none, hi := some (n.2.2 * scale) : PRow }
  let w := p.window k s
  let al := th + w.1
  let ah := th + w.2
  let walls := [{ co := [(x, -(sind al)), (y, cosd al)], lo := some 0, hi := none : PRow }, { co := [(x, sind ah), (y, -(cosd ah))], lo := some 0, hi := none }]
  let c := cosd th
  let q := sind th
  let t0 := (vget p.prev k).x * c + (vget p.prev k).y * q
  let up := thUp e * thFwd e * p.dt
  let dn := thDown e * thFwd e * p.dt
  let base : ℚ := if s = 0 then t0 else 0
  let prevCo : List (Nat × ℚ) := if s = 0 then [] else [(p.vT k (s - 1) 0, -c), (p.vT k (s - 1) 1, -q)]
  let mag (a : ℚ) : PRow := { co := [(p.vR k s, 1), (x, -(cosd a)), (y, -(sind a))], lo := some 0, hi := none }
  let pw := (p.tangents k).map fun g =>
    if on then { co := [(p.vP k s, 1), (p.vR k s, -g.1)], lo := some g.2.1, hi := none : PRow }
    else { co := [(p.vP k s, 1), (p.vR k s, 0)], lo := some 0, hi := none }
  [(0, eds), (1, walls), (2, [{ co := [(x, c), (y, q)] ++ prevCo, lo := some (base - dn), hi := some (base + up), on := on }]),
   (3, [mag th, mag al, mag ah]), (4, pw)]

/-- The rows of one kind over the thrusters of a kind. -/
def rowsOfKind (l : List (List (Nat × List PRow))) (kd : Nat) : List PRow :=
  l.flatMap fun r => (r.filter fun x => x.1 == kd).flatMap (·.2)

/-- All rows of one step in the order of Table 12.3. -/
def Posed.stepRows (p : Posed) (s : Nat) : List PRow :=
  let ks := List.range p.t
  let js := List.range p.s
  let tv (ax : Nat) : ℚ := match ax with
    | 0 => p.tau.1
    | 1 => p.tau.2.1
    | _ => p.tau.2.2
  let bal := [0, 1, 2].map fun ax =>
    { co := (ks.flatMap fun k => match ax with
        | 0 => [(p.vT k s 0, 1)]
        | 1 => [(p.vT k s 1, 1)]
        | _ => [(p.vT k s 0, -(thY (p.e k))), (p.vT k s 1, thX (p.e k))]) ++ [(p.vSlack ax s, 1)],
      lo := some (tv ax), hi := some (tv ax) : PRow }
  let load := js.map fun j =>
    { co := (p.vLoad j s, 1) :: ((ks.filter fun k => thSection (p.e k) == j + 1).map fun k => (p.vP k s, (-1 : ℚ))), lo := some 0, hi := some 0 : PRow }
  let lim := js.map fun j => { co := [(p.vLoad j s, 1)], lo := some 0, hi := some (vget p.budgets j) : PRow }
  let tot := [{ co := js.map fun j => (p.vLoad j s, (1 : ℚ)), lo := some 0, hi := some p.total : PRow }]
  let pk := if p.peaks then
      (js.map fun j => { co := [(p.vPeak j, 1), (p.vLoad j s, -1)], lo := some 0, hi := none : PRow }) ++
      [{ co := (p.vPeak p.s, 1) :: (js.map fun j => (p.vLoad j s, (-1 : ℚ))), lo := some 0, hi := none }]
    else []
  let tun := (p.kinds 1).map (p.tunnelRows s)
  let az := (p.kinds 2).map (p.azRows s)
  bal ++ load ++ lim ++ tot ++ pk ++ [0, 1, 2, 3].flatMap (rowsOfKind tun) ++ [0, 1, 2, 3, 4].flatMap (rowsOfKind az)

def Posed.rows (p : Posed) : List PRow := (List.range p.h).flatMap p.stepRows

/-- Row numbers of a step's section limit rows and its total limit row. -/
def Posed.limitRow (p : Posed) (perStep s j : Nat) : Nat := perStep * s + 3 + p.s + j

/-- The highest of a list of values. -/
def topQ : List ℚ → ℚ
  | [] => 0
  | x :: l => l.foldl maxQ x

/-- The point of a plan: thrust and magnitude per thruster and step, with slack, powers, loads and peaks following (R317). -/
def Posed.pointWith (p : Posed) (th : Nat → Nat → ℚ × ℚ) (mag : Nat → Nat → ℚ) : List ℚ :=
  let ks := List.range p.t
  let ss := List.range p.h
  let js := List.range p.s
  let slack (ax s : Nat) : ℚ := match ax with
    | 0 => p.tau.1 - sumQ (ks.map fun k => (th k s).1)
    | 1 => p.tau.2.1 - sumQ (ks.map fun k => (th k s).2)
    | _ => p.tau.2.2 - sumQ (ks.map fun k => thX (p.e k) * (th k s).2 - thY (p.e k) * (th k s).1)
  let pw (k s : Nat) : ℚ :=
    if !p.inA k then 0
    else
      let u := (th k s).1 * cosd (thAxis (p.e k)) + (th k s).2 * sind (thAxis (p.e k))
      let at_ (g : ℚ × ℚ × ℚ) : ℚ := g.2.1 + g.1 * (if thKind (p.e k) = 1 then g.2.2 * u else mag k s)
      topQ ((p.tangents k).map at_)
  let load (j s : Nat) : ℚ := sumQ (ks.map fun k => if thSection (p.e k) = j + 1 then pw k s else 0)
  let tot (s : Nat) : ℚ := sumQ (js.map fun j => load j s)
  let top (f : Nat → ℚ) : ℚ := topQ (ss.map f)
  (ks.flatMap fun k => ss.flatMap fun s => [(th k s).1, (th k s).2]) ++ ([0, 1, 2].flatMap fun ax => ss.map (slack ax)) ++
  ((p.kinds 2).flatMap fun k => ss.map (mag k)) ++ (ks.flatMap fun k => ss.map (pw k)) ++ (js.flatMap fun j => ss.map (load j)) ++
  (if p.peaks then (js.map fun j => top (load j)) ++ [top tot] else [])

/-- The point of a plan whose magnitudes are those of its thrusts. -/
def Posed.point (p : Posed) (th : Nat → Nat → ℚ × ℚ) : List ℚ := p.pointWith th fun k s => hypot (th k s).1 (th k s).2

/-- The hold point of R317: its thrusts, and each r, which is |T0|. -/
def Posed.holdTh (p : Posed) (k s : Nat) : ℚ × ℚ :=
  let c := vget p.prev k
  if !p.inA k then (0, 0)
  else if bitOf k p.ramping then
    let b := p.rampBound k s
    let m := cmdMag c
    if m = 0 ∨ m ≤ b then (c.x, c.y) else (c.x * b / m, c.y * b / m)
  else (c.x, c.y)

def Posed.holdMag (p : Posed) (k _s : Nat) : ℚ := if p.inA k then cmdMag (vget p.prev k) else 0

/-- The location of a coefficient in K. -/
def findK (pr : SprProblem) (row var : Nat) : Option (Nat × Nat) :=
  let a := (pr.cons.getD row default).pos
  let b := posOf pr var
  (pr.kk.find? fun e => e.row == min a b && e.col == max a b || e.row == max a b && e.col == min a b).map fun e => (e.arr, e.idx)

def rawIn (pr : SprProblem) (arr : Nat) (q : ℚ) : Int := toQ (32 - (pr.arrs.getD arr default).fmt) (pr.arrs.getD arr default).fmt q

/-- The values and enables that the settings in force require (R286): class 1 arrays only, without the places that the set-up fills from Q07. -/
def Posed.wanted (p : Posed) (pr : SprProblem) (id_ : Bytes) (scaleOn : Bool) : List DeltaEntry :=
  let rs (r : Nat) : ℚ := if scaleOn then Config.rowScale id_ r else 1
  let vs (v : Nat) : ℚ := if scaleOn then Config.varScale id_ v else 1
  let cls1 (a : Nat) : Bool := (pr.arrs.getD a default).cls == 1
  let fed (a i : Nat) : Bool := pr.inputs.any fun x => x.2.2.1 == a && x.2.2.2 == i
  let setE (a i : Nat) (q : ℚ) : List DeltaEntry := if cls1 a && !fed a i then [.set a i (rawIn pr a q)] else []
  let openHi (c : SprCon) : ℚ := ofQ c.fmt ((2 : Int) ^ 31 - 1)
  let rowE := (p.rows.zipIdx).flatMap fun ri =>
    let r := ri.2
    let c := pr.cons.getD r default
    (ri.1.co.flatMap fun x => match findK pr r x.1 with
      | some k => setE k.1 k.2 (rs r * x.2 * vs x.1)
      | none => []) ++
    (match ri.1.lo with
      | some q => setE c.loA c.loI (rs r * q)
      | none => setE c.loA c.loI (-(openHi c))) ++
    (if c.two then match ri.1.hi with
        | some q => setE c.hiA c.hiI (rs r * q)
        | none => setE c.hiA c.hiI (openHi c)
      else []) ++ [.enable r ri.1.on]
  let hold := ((p.pointWith p.holdTh p.holdMag).zipIdx).flatMap fun x => setE pr.holdArr x.2 (x.1 / vs x.2)
  rowE ++ hold

/-- The entries that differ from core 2's copy. -/
def deltaDiff (vals : List (List Int)) (en : List Bool) (w : List DeltaEntry) : List DeltaEntry :=
  w.filter fun
    | .set a i v => (vals.getD a []).getD i 0 != v
    | .enable c on => en.getD c false != on

/-- The posed main problem of a cycle. -/
def posedMain (i : AllocIn) (a : AllocState) : Posed :=
  { tm := i.tm, h := tmHorizon i.tm, dt := 1 / 5, edges := tmEdgeRows i.tm, peaks := true, member := a.member, ramping := a.ramping, prev := a.prev,
    budgets := a.budgets, total := a.total,
    tau := if i.q07.standby then (0, 0, 0) else (i.q07.tau.x, i.q07.tau.y, i.q07.tau.z) }

def mainProblem (sec : Bytes) : SprProblem := sprParse sec 0
def conseqProblem (sec : Bytes) : SprProblem := sprParse sec (sprConseqOffset sec)

/-! Start gate (R322, R323). -/

/-- Joining the queue at a boundary: the state and whether the queue was full. -/
def startJoin (k : Nat) (a : AllocState) : AllocState × Bool :=
  if 16 ≤ a.queue.length then ({ a with queueFull := true }, true) else ({ a with queue := a.queue ++ [k] }, false)

/-- A stop command (R323). -/
def startStop (k : Nat) (a : AllocState) : AllocState :=
  { a with queue := a.queue.filter (· != k), pending := a.pending.filter (·.1 != k) }

def msSince (cycle : Nat) : Option Nat → Option Nat
  | none => none
  | some c => some (20 * (cycle - c))

def spaced (cycle need : Nat) (last : Option Nat) : Bool := match msSince cycle last with
  | none => true
  | some m => decide (need ≤ m)

/-- START_ADMIT: at most one request per slot. Thrusters are numbered from 1 here. -/
def startAdmit (i : AllocIn) (a : AllocState) : AllocState :=
  let running (k : Nat) : Bool := bitOf 0 (i.fbBits (k - 1)) && !i.fbStale (k - 1)
  let a := { a with pending := a.pending.filter fun p => !running p.1 }
  let ok (k : Nat) : Bool :=
    let j := thSection (tmEntry i.tm (k - 1)) - 1
    let pend := sumQ (a.pending.map fun p => if thSection (tmEntry i.tm (p.1 - 1)) = j + 1 then sgStartKw i.gate (p.1 - 1) else 0)
    !i.stale (tmPowerCh i.tm j) && decide (sgStartKw i.gate (k - 1) ≤ vget a.budgets j - sectionLoad i a j - pend)
      && spaced i.cycle (sgSpacingMs i.gate j) (vget a.lastStart j) && spaced i.cycle (sgMinMs i.gate) a.lastAny
  -- the first request of each section stands for its section
  let firsts := a.queue.zipIdx.filter fun x =>
    !((a.queue.take x.2).any fun q => thSection (tmEntry i.tm (q - 1)) == thSection (tmEntry i.tm (x.1 - 1)))
  match firsts.find? fun x => ok x.1 with
  | none => a
  | some (k, pos) =>
    let j := thSection (tmEntry i.tm (k - 1)) - 1
    { a with
      queue := a.queue.take pos ++ a.queue.drop (pos + 1), pending := a.pending ++ [(k, i.cycle)],
      lastStart := vmodN a.lastStart j fun _ => some i.cycle, lastAny := some i.cycle, lastAdmitted := k,
      admitted := satAdd (2 ^ 32 - 1) a.admitted 1 }

/-- START_FAILED (R323): the pending starts whose START_S has passed. -/
def startExpired (i : AllocIn) (a : AllocState) : List Nat :=
  (a.pending.filter fun p => decide (sgStartS i.gate (p.1 - 1) * 1000 ≤ ((20 * (i.cycle - p.2) : Nat) : ℚ))
    && !(bitOf 0 (i.fbBits (p.1 - 1)) && !i.fbStale (p.1 - 1))).map (·.1)

def startDrop (ks : List Nat) (a : AllocState) : AllocState :=
  if ks.isEmpty then a else { a with pending := a.pending.filter (fun p => !ks.contains p.1), startFailed := true }

/-! The delta-packet slot (R284). -/

def deltaSlot (i : AllocIn) (tick : Nat) (a0 : AllocState) : AllocState :=
  let a := startAdmit i (formBudgets i (formMembers i a0))
  let pr := mainProblem i.sec
  let es := deltaDiff a.vals a.enables ((posedMain i a).wanted pr i.sec true)
  { a with staging := { words := deltaWords i.cycle es, tick := some tick } }

/-! The allocation (R285, R286, R291 to R297). -/

/-- Word `w` of entry `e` of Q07 as a value (Table 10.10). -/
def q07Val (q : Q07) (e w : Nat) : ℚ :=
  let z : Bool := q.standby
  match e, w with
  | 1, 0 => if z then 0 else q.tau.x
  | 1, 1 => if z then 0 else q.tau.y
  | 1, 2 => if z then 0 else q.tau.z
  | 1, 3 => q.tauRd
  | 2, 0 => q.ff.x
  | 2, 1 => q.ff.y
  | 2, 2 => q.ff.z
  | _, _ => 0

/-- The Q07 words read into their arrays, with the overflow of a conversion (R278). -/
def q07Inputs (pr : SprProblem) (q : Q07) (vals : List (List Int)) : Ov (List (List Int)) :=
  pr.inputs.foldl (fun (acc : Ov (List (List Int))) x =>
    let f := (pr.arrs.getD x.2.2.1 default).fmt
    let (v, o) := spRound f (q07Val q x.1 x.2.1)
    (arrSet acc.1 x.2.2.1 x.2.2.2 (roundAway (v * pow2 f)), acc.2.or (ovIf 2 o))) (vals, none)

/-- The allocation solve of a cycle. `stop` is present when the end tick cut it; clocks as measured. -/
def allocSolve (i : AllocIn) (startTick : Nat) (setupClk iterClk : Nat) (stop : Option StopAt) (a : AllocState) : AllocState :=
  let pr := mainProblem i.sec
  let judge := deltaJudge pr i.cycle startTick a.staging
  let es := a.staging.entries
  let (v1, en1) := if judge = 0 then es.foldl deltaApply (a.vals, a.enables) else (a.vals, a.enables)
  let (v2, ovIn) := q07Inputs pr i.q07 v1
  let warm := a.warm.map (warmShift pr en1)
  let cands := match warm with
    | some w => [(0, w.1.1, w.1.2)]
    | none => []
  let r := solveAll pr v2 en1 i.iterLimit (ovIn.or (warm.bind (·.2))) (cands ++ [(1, holdPoint pr v2, [])]) stop
  { a with
    vals := v2, enables := en1, staging := {}, result := r, solved := some i.cycle, setupClk := setupClk, iterClk := iterClk,
    warm := if r.outcome ≤ 4 then some { x := r.x, w := r.w } else a.warm,
    deltaStatus := atF 30 2 judge + (if judge = 0 then es.length % 2 ^ 13 else 0),
    deltaIgnored := a.deltaIgnored || decide (judge ≠ 0), deltaIgn := if judge = 0 then a.deltaIgn else satAdd (2 ^ 32 - 1) a.deltaIgn 1,
    pivCount := satAdd (2 ^ 32 - 1) a.pivCount r.piv, pivReplaced := a.pivReplaced || decide (0 < r.piv),
    residFail := a.residFail || decide (r.outcome = 5), allocTrunc := a.allocTrunc || decide (r.outcome = 3),
    ovf := a.ovf || decide (r.outcome = 6),
    outcomes := vmodN a.outcomes r.outcome (satAdd (2 ^ 32 - 1) · 1) }

/-! The output stage (R316, R318, R319, R328). -/

/-- Loads and factors of the fallback (R318). -/
def fallbackFactors (i : AllocIn) (a : AllocState) : List ℚ :=
  let ls := (List.range (tmSections i.tm)).map (sectionLoad i a)
  let ks := ls.zipIdx.map fun x => if x.1 = 0 then (1 : ℚ) else minQ 1 (vget a.budgets x.2 / x.1)
  let sum := sumQ (List.zipWith (· * ·) ks ls)
  if a.total < sum then ks.map fun k => k * a.total / sum else ks

/-- Raw Q1.15 with its overflow flag (R278); full rated thrust is the largest value and no overflow (R14). -/
def q15 (q : ℚ) : Int × Bool :=
  let r := roundAway (q * 32768)
  (clampI (-32768) 32767 r, decide (r < -32768) || decide (32768 < r))

/-- Thrust plan of thruster k at step s from the solution. -/
def planOf (p : Posed) (sec : Bytes) (x : List ℚ) (k s : Nat) : ℚ × ℚ :=
  (x.getD (p.vT k s 0) 0 * Config.varScale sec (p.vT k s 0), x.getD (p.vT k s 1) 0 * Config.varScale sec (p.vT k s 1))

/-- Start requests: the pending starts, one bit each. -/
def startMask (a : AllocState) : Nat := (a.pending.map (·.1)).dedup.foldl (fun m k => setBit m (k - 1) true) 0

/-- The command of thruster k, its thrust in Q16.16: thrust, azimuth, AZ_HELD. -/
def cmdOf (i : AllocIn) (a : AllocState) (k : Nat) (t : ℚ × ℚ) (holdAz : Bool) : PrevCmd × Bool :=
  let e := tmEntry i.tm k
  let p := vget a.prev k
  let t := (ofQ 16 (toQ16 t.1), ofQ 16 (toQ16 t.2))
  let m := hypot t.1 t.2
  if thKind e = 1 then ({ x := t.1, y := t.2, az := thAxis e, kw := thPowerAt e m }, false)
  else
    let held := holdAz || decide (m < tmAzHold i.tm * thFwd e)
    ({ x := t.1, y := t.2, az := if held then p.az else dirDeg t.2 t.1, kw := thPowerAt e m }, held)

/-- The record of one thruster in the result block. -/
def blockRecord (c : PrevCmd) (steps : List (ℚ × ℚ)) (flags : Nat) : Bytes :=
  leQ16 c.x ++ leQ16 c.y ++ leBytes 4 (floorQ (c.kw + 1 / 2)).toNat ++ ((List.range 6).flatMap fun s => let t := steps.getD s (0, 0); leQ16 t.1 ++ leQ16 t.2)
    ++ leBytes 4 flags

/-- Q16.16 and Q24.8 in 32 bits, and the overflow of a value outside (R280). -/
def ovQ16 (q : ℚ) : Option Nat := (spStore 16 q).2
def ovQ8 (q : ℚ) : Option Nat := (spStore 8 q).2
/-- Whole kW in 16 bits, and the overflow of a larger power (R280; DEDUCED, log entry 79). -/
def kw16 (q : ℚ) : Nat := min 65535 (roundAway q).toNat
def ovKw (kind : Nat) (q : ℚ) : Option Nat := ovIf kind (decide (65535 < roundAway q))

/-- The output stage: the new state, and the first overflow. After an overflow the result block, the commands and the registers stay; the hold point of
outcomes 5 to 8 is saved all the same (R280 against R296: DEDUCED, log entry 79). -/
def outputStage (i : AllocIn) (a : AllocState) : Ov AllocState :=
  let p := posedMain i a
  let n := tmCount i.tm
  let fb := decide (5 ≤ a.result.outcome) || decide (a.solved ≠ some i.cycle)
  let outcome := if a.solved = some i.cycle then a.result.outcome else 8
  let factors := fallbackFactors i a
  let plan (k s : Nat) : ℚ × ℚ :=
    if !bitOf k a.member then (0, 0)
    else if fb then
      let c := vget a.prev k
      let f := factors.getD (thSection (tmEntry i.tm k) - 1) 1
      (f * c.x, f * c.y)
    else planOf p i.sec a.result.x k s
  let tcmd (k : Nat) : ℚ × ℚ :=
    let c := vget a.prev k
    if !bitOf k a.member then (0, 0)
    else if fb then plan k 0
    else (c.x + ((plan k 0).1 - c.x) / 10, c.y + ((plan k 0).2 - c.y) / 10)
  let starts := startMask a
  let one (k : Nat) : PrevCmd × Q10Entry × Option Nat :=
    let e := tmEntry i.tm k
    let (c, held) := cmdOf i a k (tcmd k) (fb || !bitOf k a.member)
    let t := signedThrust e c
    let t1 := signedThrust e { c with x := (plan k 0).1, y := (plan k 0).2 }
    let (f, o1) := q15 (t / thFwd e)
    let (d, o2) := q15 (thDrive e (t / thFwd e))
    let (g, o3) := q15 (t1 / thFwd e)
    let az := (roundAway (wrap360 c.az / 360 * 65536) % 65536).toNat
    (c, { frac := f, az := az, drive := d, step1 := g, kw := kw16 c.kw, inAlloc := bitOf k a.member,
          startReq := bitOf k starts, azHeld := held && thKind e == 2 },
      firstOv [ovQ16 (tcmd k).1, ovQ16 (tcmd k).2, ovIf 3 (o1 || o2 || o3), ovKw 3 c.kw])
  let all := (List.range n).map one
  let cmds : Vector PrevCmd 16 := Vector.ofFn fun k => (all.getD k.val default).1
  let ents : Vector Q10Entry 16 := Vector.ofFn fun k => (all.getD k.val default).2.1
  let slack (ax : Nat) : ℚ :=
    if fb then
      match ax with
      | 0 => p.tau.1 - sumQ ((List.range n).map fun k => (vget cmds k).x)
      | 1 => p.tau.2.1 - sumQ ((List.range n).map fun k => (vget cmds k).y)
      | _ => p.tau.2.2 - sumQ ((List.range n).map fun k => thX (tmEntry i.tm k) * (vget cmds k).y - thY (tmEntry i.tm k) * (vget cmds k).x)
    else a.result.x.getD (p.vSlack ax 0) 0 * Config.varScale i.sec (p.vSlack ax 0)
  let slackOn := decide (tmBalKn i.tm < absQ (slack 0)) || decide (tmBalKn i.tm < absQ (slack 1)) || decide (tmBalKnm i.tm < absQ (slack 2))
  let per := (p.stepRows 0).length
  let inW (r : Nat) : Bool := !fb && a.result.w.any (·.1 == r)
  let secLim := (List.range p.h).any fun s => (List.range p.s).any fun j => inW (p.limitRow per s j)
  let totLim := (List.range p.h).any fun s => inW (p.limitRow per s p.s)
  let q : Q10 :=
    { cycle := i.cycle % 2 ^ 32, outcome := outcome, fallback := fb, held := i.q07.held, standby := i.q07.standby, powerLimited := secLim || totLim,
      slack := slackOn, mask := a.member, starts := starts, thr := ents }
  let loads := (List.range 8).map fun j =>
    sumQ ((List.range n).map fun k => if thSection (tmEntry i.tm k) = j + 1 then (vget cmds k).kw else 0)
  let steps := (List.range n).flatMap fun k => (List.range p.h).map (plan k)
  let ovf := firstOv (all.map (·.2.2) ++ steps.map (fun t => (ovQ16 t.1).or (ovQ16 t.2)) ++ [ovQ16 (slack 0), ovQ16 (slack 1), ovQ8 (slack 2)] ++ loads.map (ovKw 1))
  let flagsOf (x : Q10Entry) : Nat := at1 16 x.inAlloc + at1 17 x.startReq + at1 18 x.azHeld + x.kw
  let head := leBytes 4 i.cycle ++ leBytes 4 outcome
    ++ leBytes 4 (at1 4 fb + at1 5 q.held + at1 6 q.standby + at1 7 q.powerLimited + at1 8 q.slack) ++ leBytes 4 a.member
    ++ leQ16 (slack 0) ++ leQ16 (slack 1) ++ leSigned 4 (toQ 24 8 (slack 2)) ++ (loads.flatMap fun l => leBytes 2 (kw16 l))
  let recs := (List.range 16).flatMap fun k =>
    if k < n then blockRecord (vget cmds k) ((List.range p.h).map (plan k)) (flagsOf (vget ents k)) else zeroBytes 64
  let warm := if fb then some { x := (p.point fun k _ => ((vget cmds k).x, (vget cmds k).y)).zipIdx.map fun x => x.1 / Config.varScale i.sec x.2, w := [] : Warm }
    else a.warm
  if ovf.isSome then ({ a with ovf := true, warm := warm }, ovf)
  else
    ({ a with
        q10 := q, loads := Vector.ofFn (fun j => kw16 (loads.getD j.val 0)), warm := warm
        shown := if a.solved = some i.cycle then a.result else {}, shownAt := i.cycle % 2 ^ 32
        shownSetup := if a.solved = some i.cycle then a.setupClk else 0, shownIter := if a.solved = some i.cycle then a.iterClk else 0, block := padTo 64 head ++ recs, resultSeq := (a.resultSeq + 1) % 2 ^ 32,
        ramping := (List.range 16).foldl (fun m k => if (vget ents k).frac = 0 then setBit m k false else m) a.ramping,
        fallbackRun := if fb then satAdd 0xFF a.fallbackRun 1 else 0, powerLimited := secLim || totLim, totalLimited := totLim }, none)

/-- A command frame on T-A or T-B, sent by this lane or taken by its receivers, is the previous command of its thruster (R404). -/
def takeCommand (tm : Bytes) (d : Bytes) (a : AllocState) : AllocState :=
  let k := u8 d 3 - 1
  let e := tmEntry tm k
  if u8 d 3 = 0 ∨ tmCount tm ≤ k then a
  else
    let t := ofThrust (s16 d 4) * thFwd e
    let az : ℚ := if thKind e = 1 then thAxis e else (u16 d 6 : ℚ) * 360 / 65536
    { a with prev := vmodN a.prev k fun _ => { x := t * cosd az, y := t * sind az, az := az, kw := (u16 d 12 : ℚ) } }

/-- The words of the Q10 transfer, 4 per entry (Table 12.4). -/
def q10Words (n : Nat) (q : Q10) : List (List Nat) :=
  [q.cycle, atF 0 4 q.outcome + at1 4 q.fallback + at1 5 q.held + at1 6 q.standby + at1 7 q.powerLimited + at1 8 q.slack,
    atF 0 16 q.mask + atF 16 16 q.starts, 0] ::
  (List.range n).map fun k =>
    let t := vget q.thr k
    [atF 0 16 (ofSigned 16 t.frac) + atF 16 16 t.az, atF 0 16 (ofSigned 16 t.drive) + atF 16 16 (ofSigned 16 t.step1),
     atF 0 16 t.kw + at1 16 t.inAlloc + at1 17 t.startReq + at1 18 t.azHeld, 0]

/-- The words of the Q07 and Q06 transfers (Tables 10.10 and 9.3). -/
def q07Words (q : Q07) : List (List Nat) :=
  let w (x : ℚ) : Nat := ofSigned 32 (toQ16 x)
  let w8 (x : ℚ) : Nat := ofSigned 32 (toQ 24 8 x)
  [[q.cycle, atF 0 3 q.mode + atF 3 6 q.axes + at1 9 q.held + at1 10 q.standby + at1 11 q.blend + at1 12 q.sat[0] + at1 13 q.sat[1] + at1 14 q.sat[2]
      + at1 15 q.windNone + at1 16 q.rollDamp + at1 17 q.posFrozen + at1 18 q.yawFrozen,
    atF 0 8 q.region + atF 8 6 q.gainSet + atF 14 4 q.waveSet + atF 18 3 q.band + atF 21 3 q.cls + atF 24 2 q.regime, 0],
   [w q.tau.x, w q.tau.y, w8 q.tau.z, w q.tauRd], [w q.ff.x, w q.ff.y, w8 q.ff.z, 0]]

def q06Words (q : Q06) : List (List Nat) :=
  let w (x : ℚ) : Nat := ofSigned 32 (toQ16 x)
  let w8 (x : ℚ) : Nat := ofSigned 32 (toQ 24 8 x)
  let fl := at1 0 q.held + at1 1 q.init + at1 2 q.posDr + at1 3 q.hdgDr + at1 4 q.posExp + at1 5 q.hdgExp + at1 6 q.stretch + at1 7 q.ret
    + atF 8 4 q.waveSet + atF 12 4 q.missed
  [[q.cycle, fl, w q.hdg, w q.r], [w q.n, w q.e, w q.u, w q.v], [w q.bx, w q.by_, w8 q.bn, atF 16 16 q.posGap + atF 0 16 q.hdgGap],
   [w q.wn, w q.we, w q.wh, 0], [w q.roll, w q.rollRate, w q.sdPos, w q.sdHdg]]

/-- Bytes of a transfer, entries in order, words little-endian. -/
def transferBytes (l : List (List Nat)) : Bytes := l.flatten.flatMap (leBytes 4)

/-! Boundary effects (R57 step 5, R306, R322). -/

/-- THR_AVAILABLE at its boundary: selecting also clears FOLLOW; deselecting ramps out a thruster that is in the allocation. -/
def setAvailable (k : Nat) (on : Bool) (a : AllocState) : AllocState :=
  let z := k - 1
  if on then { a with available := setBit a.available z true, ramping := setBit a.ramping z false, hostOff := setBit a.hostOff z false,
                      follow := setBit a.follow z false,
                      followRun := vmodN a.followRun z fun _ => 0 }
  else
    let zero := (vget a.q10.thr z).frac == 0
    { a with available := setBit a.available z false, hostOff := setBit a.hostOff z true, ramping := setBit a.ramping z (bitOf z a.member && !zero) }

/-- A commit (R87, R90): resident values are those of the image; the warm start and commands carry only when state carries. START_AVAILABLE replaces
AVAILABLE (Table 12.1); a thruster that the host deselected goes on ramping out unless it makes it available (R306, log entry 77). -/
def allocCommit (new : Bytes) (carry : Bool) (a : AllocState) : AllocState :=
  let sec := imgSection new secAlloc
  let pr := mainProblem sec
  let tm := imgSection new secThrusters
  let avail := ((List.range (tmCount tm)).map fun k => if thStartAvail (tmEntry tm k) then 2 ^ k else 0).sum
  let off (m : Nat) : Nat := (List.range 16).foldl (fun m k => if bitOf k avail then setBit m k false else m) m
  let a1 := { a with
    vals := sprInit sec pr, enables := sprEnabled pr, staging := {}, plane := !a.plane, available := avail, ramping := off a.ramping
    hostOff := off a.hostOff }
  if carry then a1 else { a1 with warm := none, cq := {} }

/-! Consequence analysis (R298 to R300, R324, R325). -/

/-- A completed control-law slot adds its demand to the long cycle's mean (R324). By which queue the demand reaches core 2 no rule says, so it passes
beside Q12 (DESIGN CHOICE, log entry 78). -/
def cqDemand (q : Q07) (c : CqState) : CqState :=
  { c with sum := (c.sum.1 + q.tau.x, c.sum.2.1 + q.tau.y, c.sum.2.2 + q.tau.z), cnt := c.cnt + 1 }

/-- A long-cycle boundary: every configured group starts its solve anew; what it ended the last long cycle with stays only if it ended it (R299). -/
def cqLongCycle (n : Nat) (c : CqState) : CqState :=
  { c with
    lastSum := c.sum, lastCnt := c.cnt, sum := (0, 0, 0), cnt := 0, switched := false,
    groups := Vector.ofFn fun i =>
      let g := c.groups[i]
      { g with solve := {}, start := false, done := false, discarded := false, iters := 0, final := if g.done then g.final else none, status := if i.val < n then 1 else 0 } }

/-- CONSEQ_INPUT_WRITE (R324). The demand of a long cycle without a completed slot is 0 (log entry 76). -/
def cqWrite (i : AllocIn) (a : AllocState) : AllocState :=
  let c := a.cq
  let m := fgMargin i.groups
  let d (f : ℚ × ℚ × ℚ → ℚ) : ℚ := if c.lastCnt = 0 then 0 else f c.lastSum / (c.lastCnt : ℚ) * m
  { a with cq := { c with
      marker := true, haveInput := true
      staged := { demand := (d (·.1), d (·.2.1), d (·.2.2)), budgets := (formBudgets i a).budgets, prev := a.prev, member := a.member, ramping := a.ramping, phase0 := i.cycle } } }

/-- The posed consequence problem of group g, 0 to 7. -/
def posedCq (i : AllocIn) (inp : CqInput) (g : Nat) : Posed :=
  let tmask := fgThrusters i.groups g
  let smask := fgSections i.groups g
  let member := (List.range 16).foldl (fun m k => if bitOf k tmask then setBit m k false else m) inp.member
  let budgets : Vector ℚ 8 := Vector.ofFn fun j => if bitOf j.val smask then 0 else inp.budgets[j]
  { tm := i.tm, h := fgSteps i.groups, dt := (fgStepMs i.groups : ℚ) / 1000, edges := fgEdgeRows i.groups, peaks := false, member := member,
    ramping := inp.ramping, prev := inp.prev, budgets := budgets, total := minQ (sumQ budgets.toList) (tmTotalLimit i.tm), tau := inp.demand }

/-- The group's array values and enables, with the overflow of a conversion. -/
def cqValues (i : AllocIn) (inp : CqInput) (g : Nat) : SprProblem × Ov (List (List Int)) × List Bool :=
  let pr := conseqProblem i.sec
  let b := i.sec.drop (sprConseqOffset i.sec)
  let p := posedCq i inp g
  let q : Q07 := { standby := false, tau := ⟨inp.demand.1, inp.demand.2.1, inp.demand.2.2⟩ }
  let (v, en) := (p.wanted pr b true).foldl deltaApply (sprInit i.sec pr, sprEnabled pr)
  (pr, q07Inputs pr q v, en)

/-- The first consequence step of phase 0 takes the new input when its marker stands (R298). -/
def cqSwitch (phase : Nat) (c : CqState) : CqState :=
  if phase = 0 ∧ c.switched = false then
    if c.marker then { c with active := c.staged, marker := false, stale := false, switched := true } else { c with stale := true, switched := true }
  else c

/-- Group status after its last step (Table 11.9, log entry 77). -/
def cqStatus (g : CqGroup) (stale : Bool) : Nat :=
  match g.solve.verdict with
  | some 0 => if g.discarded then 4 else if stale then 7 else 2
  | some 7 => 6
  | some 4 => 5
  | some 5 => 5
  | some 6 => 5
  | _ => if g.discarded then 4 else if stale then 7 else 3

/-- One consequence step of group g, 0 to 7. `ok` is false when the step did not finish and is discarded; `last` marks the group's last planned step. -/
def cqStep (i : AllocIn) (phase g : Nat) (ok last : Bool) (a : AllocState) : AllocState :=
  let c := cqSwitch phase a.cq
  let gr := vget c.groups g
  let gr1 : CqGroup :=
    if !ok then { gr with discarded := true }
    else
      let (pr, (v, ov), en) := cqValues i c.active g
      let gs :=
        if gr.start then gr
        else
          let cands := (match gr.final with
            | some w => [(0, w.x, w.w.filter fun e => en.getD e.1 false)]
            | none => []) ++ [(1, holdPoint pr v, [])]
          { gr with solve := (solveStart pr v en ov cands).1, start := true }
      if gs.solve.outcome.isSome then gs
      else { gs with solve := solveRun pr v en pr.iters gs.solve, iters := gs.iters + pr.iters }
  let gr2 : CqGroup :=
    if last then { gr1 with done := true, status := cqStatus gr1 c.stale, final :=
      if gr1.start && decide (gr1.solve.verdict.getD 1 ≤ 4) then some { x := gr1.solve.x, w := gr1.solve.w } else none }
    else { gr1 with status := 1 }
  let piv := gr2.solve.piv - (if gr.start then gr.solve.piv else 0)
  { a with
    cq := { c with groups := vmodN c.groups g fun _ => gr2 }, pivCount := satAdd (2 ^ 32 - 1) a.pivCount piv, pivReplaced := a.pivReplaced || decide (0 < piv)
    residFail := a.residFail || (gr2.solve.residFail && !(gr.start && gr.solve.residFail)) }

/-- The judgement of a group (R325): STATUS, UTIL, MARGIN_KW. -/
def cqJudge (i : AllocIn) (c : CqState) (g : Nat) : CqGroup :=
  let gr := vget c.groups g
  let p := posedCq i c.active g
  let b := i.sec.drop (sprConseqOffset i.sec)
  let x := gr.solve.best
  let s := p.h - 1
  let val (v : Nat) : ℚ := x.getD v 0 * Config.varScale b v
  let slackOk := [0, 1, 2].all fun ax => decide (absQ (val (p.vSlack ax s)) ≤ fgTol i.groups ax)
  let usable := gr.start && (gr.status == 2 || gr.status == 3 || gr.status == 4 || gr.status == 7)
  let conv := gr.status == 2 || (gr.status == 7 && gr.solve.verdict == some 0)
  let st := if usable && slackOk then 1 else if conv && !slackOk then 2 else 3
  let tmask := fgThrusters i.groups g
  let smask := fgSections i.groups g
  let surv := (List.range p.t).filter fun k => !bitOf k tmask
  let mag (k : Nat) : ℚ := hypot (val (p.vT k s 0)) (val (p.vT k s 1))
  let util := (surv.map fun k => mag k / thFwd (p.e k)).foldl maxQ 0
  let load (j : Nat) : ℚ := sumQ (surv.map fun k => if thSection (p.e k) = j + 1 then thPowerAt (p.e k) (mag k) else 0)
  let ms := ((List.range p.s).filter fun j => !bitOf j smask).map fun j => vget p.budgets j - load j
  let margin := match ms with
    | [] => 0
    | m :: r => r.foldl minQ m
  { gr with judged := st, util := min 255 (floorQ (util * 256)).toNat, margin := min 65535 (floorQ (maxQ 0 margin)).toNat }

/-- CONSEQ_PUBLISH (R325): judge and publish every configured group. -/
def cqPublish (i : AllocIn) (c : CqState) : CqState :=
  let n := fgCount i.groups
  let gs : Vector CqGroup 8 := Vector.ofFn fun g => if g.val < n then cqJudge i c g.val else {}
  { c with
    groups := gs,
    words := gs.map fun g => atF 30 2 g.judged + atF 26 4 g.status + atF 16 8 g.util + atF 0 16 g.margin,
    cycle := (i.cycle - 49) % 2 ^ 32 }

/-! Registers. -/

/-- SPR_STATUS bits 31 to 8 (Table 11.12). -/
def sprStatusHigh (a : AllocState) : Nat :=
  at1 31 a.ovf + at1 30 a.pivReplaced + at1 29 a.residFail + at1 28 a.allocTrunc + at1 27 a.q10.fallback + at1 26 a.deltaIgnored
    + at1 25 a.cq.stale + at1 24 a.plane
/-- SPR_ALLOC_RESULT (Table 11.13), of the solve whose block stands (R304). -/
def sprAllocResult (a : AllocState) : Nat :=
  atF 28 4 a.shown.outcome + atF 21 7 a.shown.iters + atF 14 7 a.shown.bestIter + atF 12 2 a.shown.start + atF 0 8 (min 255 a.shown.piv)
def alcStatus (a : AllocState) : Nat :=
  atF 24 8 a.fallbackRun + at1 23 a.powerLimited + at1 22 a.totalLimited + at1 21 a.powerStale + at1 20 a.q10.slack + at1 19 a.q10.standby
    + at1 18 (a.cq.groups.toList.any (·.judged == 2)) + at1 17 (a.cq.groups.toList.any (·.judged == 3))
def alcMask (a : AllocState) : Nat := atF 16 16 a.available + atF 0 16 a.member
def alcExcl (a : AllocState) : Nat := atF 16 16 a.follow + atF 0 16 a.removed
/-- SPR_ALC_POWER of section j, 0 to 7. -/
def alcPower (a : AllocState) (j : Nat) : Nat :=
  atF 16 16 (min 65535 (floorQ (vget a.budgets j + 1 / 2)).toNat) + vget a.loads j
def gateStatus (a : AllocState) : Nat :=
  atF 27 5 a.queue.length + at1 26 a.queueFull + at1 25 a.startFailed + atF 20 5 a.lastAdmitted + startMask a
def conseqStatusWord (a : AllocState) : Nat := ((List.range 8).map fun g => (vget a.cq.groups g).status * 16 ^ g).sum

/-- The SPR_ registers of Tables 11.11 and 12.8, RC fields as they stand. -/
def sprReg (sec : Bytes) (a : AllocState) (off : Nat) : Nat :=
  let pr := mainProblem sec
  match off with
  | 0x0010 => sprAllocResult a
  | 0x0014 => a.shownAt
  | 0x0018 => ofSigned 32 (roundAway (a.shown.obj * pow2 pr.objFmt))
  | 0x001C => a.shownSetup
  | 0x0020 => a.shownIter
  | 0x0030 => a.pivCount
  | 0x0034 => a.ovfLast
  | 0x0038 => a.ovfCycle
  | 0x0040 => a.deltaStatus
  | 0x0044 => a.deltaIgn
  | 0x0050 => conseqStatusWord a
  | 0x0060 => a.resultSeq
  | 0x0800 => alcStatus a
  | 0x0804 => alcMask a
  | 0x0808 => alcExcl a
  | 0x0850 => gateStatus a
  | 0x0854 => a.admitted
  | 0x0880 => a.cq.cycle
  | _ =>
    if 0x0100 ≤ off ∧ off < 0x0124 then vget a.outcomes ((off - 0x0100) / 4)
    else if 0x0810 ≤ off ∧ off < 0x0830 then alcPower a ((off - 0x0810) / 4)
    else if 0x0860 ≤ off ∧ off < 0x0880 then vget a.cq.words ((off - 0x0860) / 4)
    else 0

end Sys2Proof.Machine
end

