-- ==== Sys2Proof/Machine/ArbiterUnit.lean ====
section
/-! DEFINITION. The Watchtower's arbiter (chapter 15): lane states, digests and their comparison, switchover, take-back, votes, module control and the Baique ring. -/

namespace Sys2Proof.Machine

/-- What the Watchtower holds of one lane. STATE is numbered as in Table 15.1. -/
structure LaneArb where
  state     : Nat := 0
  unhealthy : Bool := false
  seen      : Bool := false
  matched   : Bool := false
  cause     : Nat := 0
  /-- Cycles of the strikes of the last 50 cycles (R401). -/
  strikes   : List Nat := []
  /-- Cycles of the passages from FAULTED to SELFTEST of the last hour (R409). -/
  rejoins   : List Nat := []
  healthyRun : Nat := 0
  /-- Consecutive cycles without a condition since UNHEALTHY was set (R397). -/
  clean     : Nat := 0
  /-- Consecutive matches in SYNCING, and the cycle in which SYNCING began (R408). -/
  syncRun   : Nat := 0
  syncFrom  : Nat := 0
  /-- The digest received in this cycle (R398). -/
  digest    : Option Bytes := none
  /-- The boundary at which a STANDBY or SYNCING lane that met a condition becomes FAULTED (R406). -/
  faultAt   : Option Nat := none
  /-- The cycle from which the lane may be woken (R406). -/
  wakeAt    : Option Nat := none
  /-- Held OFF by the rejoin limit (R409). -/
  limited   : Bool := false
  /-- Consecutive cycles with |BLF_LANE_DEV| above 1,000 ns, and the last of them (Table 15.3, code 4). -/
  devRun    : Nat := 0
  devCycle  : Nat := 0
  /-- A condition of Table 15.3 outside the comparison was met since the last comparison. -/
  condNow   : Bool := false
  /-- The lane runs the control path (R539). -/
  running   : Bool := false
  /-- The lane has lost its supply or tripped (Table 15.3, code 2): found at the comparison. -/
  supply    : Bool := false
  deriving DecidableEq, Repr, Inhabited

/-- The last VOTE frame of a module (Table 15.8) and what its header says. -/
structure VoteInfo where
  cycle   : Nat
  voteFor : Nat
  vflags  : Nat
  lanes   : Nat
  defer   : Nat
  run     : Nat
  tag     : Nat
  ext     : Nat
  gen     : Nat
  lane    : Nat
  deriving DecidableEq, Repr, Inhabited

/-- One Baique receive port (R425). -/
structure RingPort where
  up     : Bool := true
  /-- µs of the last frame or beacon, or of the moment from which misses count. -/
  lastUs : Nat := 0
  /-- Consecutive valid frames or beacons since it went DOWN. -/
  valid  : Nat := 0
  deriving DecidableEq, Repr, Inhabited

/-- The time exchange of R426 in a module. -/
structure TimeEx where
  t1 : Option Int := none
  t2 : Option Int := none
  t3 : Option Int := none
  t4 : Option Int := none
  /-- Cycle of the exchange under way, and the module that started it. -/
  cycle : Nat := 0
  peer  : Nat := 0
  /-- The last completed exchange: the master's device time less this module's in ns, the master's OFFSET, its EST_ERR, and whether its state makes
  Baique valid (Table 6.1). -/
  result : Option (ℚ × ℚ × Nat × Bool) := none
  /-- Cycle in which that exchange completed. -/
  doneAt : Nat := 0
  deriving DecidableEq, Repr, Inhabited

/-- The arbiter of one module. -/
structure ArbState where
  lanes    : Vector LaneArb 2 := Vector.replicate 2 {}
  /-- The lane the Watchtower selects (R36). -/
  active   : LaneId := .A
  /-- A switchover in progress: new lane, cause, effective boundary, cycle of declaration (R403). -/
  switch   : Option (LaneId × Nat × Nat × Nat) := none
  /-- A take-back in progress: its boundary (R412). -/
  takeback : Option Nat := none
  degraded : Bool := false
  mismatchRun : Nat := 0
  matchRun : Nat := 0
  cntSwitch : Nat := 0
  cntTake  : Nat := 0
  cntModule : Nat := 0
  cntMismatch : Nat := 0
  lastChange : Nat := 0
  /-- Boundary of the last change of the selected lane. -/
  changedAt : Option Nat := none
  /-- The states TEST and FAILED of the four networks, which the Watchtower holds for the module (R329); 0 for any other. -/
  netHold  : Vector Nat 4 := Vector.replicate 4 0
  /-- LOOPBACK of a network that is held in TEST (R347). -/
  netLoop  : Vector Bool 4 := Vector.replicate 4 false
  /-- Matches and unattributed mismatches of the current long cycle (Table 15.5). -/
  longMatch : Nat := 0
  longMismatch : Nat := 0
  /-- Some lane has been ACTIVE since the last power-on reset (R397). -/
  started  : Bool := false
  votes    : Vector (Option VoteInfo) 3 := Vector.replicate 3 none
  /-- Cycle in which each module's VOTE frame was last heard. -/
  heardAt  : Vector (Option Nat) 3 := Vector.replicate 3 none
  inControl : Bool := false
  /-- A change of control at the next boundary: take, and the other module (R418). -/
  pendCtl  : Option (Bool × Nat) := none
  voteFor  : Nat := 0
  votesFor : Nat := 0
  belowRun : Nat := 0
  takeRun  : Nat := 0
  /-- Cycle of the last frame of another module that carried IN_CONTROL. -/
  lastIn   : Option Nat := none
  eligible : Bool := false
  modRun   : Nat := 0
  /-- Consecutive cycles with a STATE frame received, and the cycle of the last (R415, R460). -/
  stateRun : Nat := 0
  stateAt  : Option Nat := none
  /-- The payload of the last STATE frame received (R419, R420). -/
  stateFrame : Option Bytes := none
  /-- ARB_EXT_A and ARB_EXT_B as filtered, and whether R417 finds them invalid. -/
  extA     : Bool := false
  extB     : Bool := false
  extBad   : Nat := 0
  extInvalid : Bool := false
  /-- ARB_EXT_A and ARB_EXT_B as driven in the arbiter-only role (R417). -/
  outA     : Bool := false
  outB     : Bool := false
  originTag : Nat := 0
  conflict : Bool := false
  imageLag : Bool := false
  timeMaster : Bool := false
  /-- A running or configured module was unheard at the last vote (R425). -/
  unheard  : Bool := false
  /-- A configured module is not running (R425). -/
  modLost  : Bool := false
  /-- Receive ports: Lane A east, Lane A west, Lane B east, Lane B west. -/
  ports    : Vector RingPort 4 := Vector.replicate 4 {}
  /-- The selected lane of the east and the west neighbour. -/
  neighE   : LaneId := .A
  neighW   : LaneId := .A
  /-- Next SEQ of each frame type (Table 15.6). -/
  seqs     : Vector Nat 16 := Vector.replicate 16 0
  /-- The latest frames taken, by source, type and SEQ (R424). -/
  taken    : List (Nat × Nat × Nat) := []
  timeEx   : TimeEx := {}
  /-- IMAGE_HOLD of each module: staged, verified, installed generation (R95). -/
  holds    : Vector (Nat × Nat × Nat) 3 := Vector.replicate 3 (0, 0, 0)
  /-- The long cycle in which this module last sent IMAGE_HOLD. -/
  holdSent : Option Nat := none
  /-- Where the IMAGE_DATA frames stand: module and byte offset (R423). -/
  dataTo   : Nat × Nat := (0, 0)
  /-- The pieces of a snapshot received so far: its cycle and SSN, their number, each piece by index (R461). -/
  snapKey  : Nat × Nat × Nat := (0, 0, 0)
  snapBuf  : List (Nat × Bytes) := []
  /-- A snapshot that is adopted at the next boundary: SSN, token holder, EPOCH, settings (R461). -/
  snapIn   : Option (Nat × Nat × Nat × Bytes) := none
  deriving DecidableEq, Repr, Inhabited

def ArbState.lane (a : ArbState) (l : LaneId) : LaneArb := vget a.lanes l.num
def ArbState.modLane (a : ArbState) (l : LaneId) (f : LaneArb → LaneArb) : ArbState := { a with lanes := vmodN a.lanes l.num f }

/-- SYNCING, STANDBY or ACTIVE and not yet withdrawn (R399, R406). -/
def compared (x : LaneArb) : Bool := (x.state == 4 || x.state == 5 || x.state == 6) && x.faultAt.isNone
/-- The lane may be selected (R397, R406). -/
def selectable (a : ArbState) (l : LaneId) : Bool := (a.lane l).state == 5 && (a.lane l).faultAt.isNone
/-- No lane is STANDBY (Table 15.13). -/
def noStandby (a : ArbState) : Bool := (a.lane .A).state != 5 && (a.lane .B).state != 5
/-- The lane that is ACTIVE, if any (R397). -/
def activeLane (a : ArbState) : Option LaneId := if (a.lane .A).state = 6 then some .A else if (a.lane .B).state = 6 then some .B else none

/-- The boundary at which something found in `cycle` at `tick` takes effect (R403, R406). -/
def effBoundary (cycle tick : Nat) : Nat := if tick ≤ 19900 then cycle + 1 else cycle + 2

/-- A lane meets the fault condition with a code of Table 15.3 (R400, R403, R406, R457). -/
def laneFault (cycle tick : Nat) (l : LaneId) (code : Nat) (a : ArbState) : ArbState :=
  let x := a.lane l
  let o := l.other
  if (code = 6 ∨ code = 7) ∧ x.state ≠ 4 ∧ x.state ≠ 5 then a
  else if x.state = 0 ∨ x.state = 7 ∨ x.faultAt.isSome then a
  else
    let a1 := a.modLane l fun y => { y with cause := code, healthyRun := 0, clean := 0, condNow := true }
    let b := effBoundary cycle tick
    if x.state = 6 then
      if a.switch.isSome then a1
      else if selectable a o then
        { a1 with switch := some (o, code, min b (a.takeback.getD b), cycle), takeback := none }
      else a1.modLane l fun y => { y with unhealthy := true }
    else
      let a2 := a1.modLane l fun y => { y with faultAt := some b }
      let a3 := match a2.switch with
        | some (n, _, _, _) => if n = l then { a2.modLane o (fun y => { y with unhealthy := true }) with switch := none } else a2
        | none => a2
      if a3.takeback.isSome then { a3 with takeback := none } else a3

/-! The digest (Table 15.2). -/

/-- A lane's digest as a 64-byte frame payload. -/
def digestBytes (cycle byte4 hflags viol q10 q07 q06 q04 bank jseq gen missRun test : Nat) : Bytes :=
  padTo 64 (leBytes 4 cycle ++ leBytes 1 byte4 ++ leBytes 1 hflags ++ leBytes 2 viol ++ leBytes 4 q10 ++ leBytes 4 q07 ++ leBytes 4 q06
    ++ leBytes 4 q04 ++ leBytes 4 bank ++ leBytes 4 jseq ++ leBytes 4 gen ++ leBytes 1 missRun ++ leBytes 1 test)

def dgHeld (d : Bytes) : Bool := bitOf 0 (u8 d 5)
/-- The digest shows a bit in VIOL, OVF or HELD (R401). -/
def dgShows (d : Bytes) : Bool := u16 d 6 != 0 || bitOf 2 (u8 d 5) || dgHeld d
/-- The lane's own code of Table 15.3, from its digest (R400, R410). -/
def dgCode (d : Bytes) : Option Nat :=
  if bitOf 1 (u8 d 5) then some 2 else if bitOf 3 (u8 d 5) || (u8 d 37 % 16 != 0 && !bitOf 7 (u8 d 37)) then some 3 else none

/-- A digest arrives (R398). -/
def digestReceive (l : LaneId) (d : Bytes) (a : ArbState) : ArbState :=
  a.modLane l fun x => { x with digest := some d }

/-- The digest of a lane in the comparison of `cycle`: absent when none arrived or it names another cycle (R399). -/
def digestOf (cycle : Nat) (a : ArbState) (l : LaneId) : Option Bytes :=
  match (a.lane l).digest with
  | some d => if u32 d 0 = cycle % 2 ^ 32 then some d else none
  | none => none

/-- A compared lane's own condition at the comparison. -/
def laneCode (cycle : Nat) (a : ArbState) (l : LaneId) : Option Nat :=
  if !compared (a.lane l) then none
  else if (a.lane l).supply then some 2
  else match digestOf cycle a l with
    | none => some 1
    | some d => dgCode d

/-- A strike (R401), and code 5 when the limit is reached within 50 cycles. -/
def strike (limit cycle : Nat) (l : LaneId) (a : ArbState) : ArbState × Option Nat :=
  let st := (a.lane l).strikes.filter (fun c => decide (cycle < c + 50)) ++ [cycle]
  (a.modLane l fun x => { x with strikes := st }, if limit ≤ st.length then some 5 else none)

/-- The codes the comparison itself gives to each lane: strikes and unattributed mismatches (R399, R401, R402). Answers whether the two digests matched.
A mismatch of two HELD digests leaves the run of mismatches as it is (R400, R402; DEDUCED, log entry 79). -/
def compareTwo (img : Option Bytes) (cycle : Nat) (a : ArbState) : ArbState × Bool × (LaneId → Option Nat) :=
  let none' : LaneId → Option Nat := fun _ => none
  if !(compared (a.lane .A) && compared (a.lane .B)) then ({ a with mismatchRun := 0, matchRun := 0 }, false, none')
  else match digestOf cycle a .A, digestOf cycle a .B with
    | some da, some db =>
      if sliceB da 8 28 == sliceB db 8 28 then
        let run := a.matchRun + 1
        ({ a with mismatchRun := 0, matchRun := run, longMatch := a.longMatch + 1,
                  degraded := a.degraded && decide (run < redSyncCyc img) }, true, none')
      else
        let a1 := { a with matchRun := 0 }
        if dgHeld da && dgHeld db then
          -- unattributed, so counted (R402), but without effect on a lane's health (R400)
          ({ a1 with cntMismatch := satAdd 0xFF a1.cntMismatch 1, degraded := true, longMismatch := a1.longMismatch + 1 }, false, none')
        else if dgShows da != dgShows db then
          let l : LaneId := if dgShows da then .A else .B
          let (a2, c) := strike (redStrikeLimit img) cycle l { a1 with mismatchRun := 0 }
          (a2, false, fun k => if k = l then c else none)
        else
          let run := a1.mismatchRun + 1
          let a2 := { a1 with cntMismatch := satAdd 0xFF a1.cntMismatch 1, degraded := true, longMismatch := a1.longMismatch + 1 }
          if redMismatchCyc img ≤ run then
            ({ a2 with mismatchRun := 0 }, false, fun k => if (a.lane k).state = 6 then none else some 6)
          else ({ a2 with mismatchRun := run }, false, none')
    | _, _ => ({ a with mismatchRun := 0, matchRun := 0 }, false, none')

/-- The comparison's counts for one lane: HEALTHY_RUN, R397's declaration and R408. Answers the lane and a code 6 of R408. -/
def afterCompare (img : Option Bytes) (cycle : Nat) (ok matched seen : Bool) (x : LaneArb) : LaneArb × Option Nat :=
  if !compared x then ({ x with condNow := false }, none)
  else
    let x0 := { x with seen := seen, matched := matched, condNow := false }
    let good := ok && !x.condNow
    let x1 := if good && (x0.state == 5 || x0.state == 6) then { x0 with healthyRun := min 0xFFFF (x0.healthyRun + 1) } else x0
    let x2 := if good && x1.unhealthy then
        if redSyncCyc img ≤ x1.clean + 1 then { x1 with unhealthy := false, clean := 0 } else { x1 with clean := x1.clean + 1 }
      else if x1.unhealthy then { x1 with clean := 0 } else x1
    if x2.state = 4 then
      let run := if matched && good then x2.syncRun + 1 else 0
      if redSyncCyc img ≤ run then ({ x2 with state := 5, syncRun := 0, healthyRun := 0 }, none)
      else ({ x2 with syncRun := run }, if 10 * redSyncCyc img ≤ cycle + 1 - x2.syncFrom then some 6 else none)
    else (x2, none)

/-- The comparison of a cycle (R399 to R402, R408). Also answers the lanes declared healthy again, whose UNHEALTHY_MISS clears (R397). -/
def digestCompare (img : Option Bytes) (cycle tick : Nat) (a0 : ArbState) : ArbState × List LaneId :=
  let own : LaneId → Option Nat := laneCode cycle a0
  let (a1, matched, cmp) := compareTwo img cycle a0
  let code : LaneId → Option Nat := fun l => (own l).orElse fun _ => cmp l
  let upd (l : LaneId) (acc : ArbState × List (LaneId × Nat) × List LaneId) : ArbState × List (LaneId × Nat) × List LaneId :=
    let x := acc.1.lane l
    let r := afterCompare img cycle (code l).isNone matched (digestOf cycle a0 l).isSome x
    let healed := if x.unhealthy && !r.1.unhealthy then [l] else []
    let c := (code l).orElse fun _ => r.2
    (acc.1.modLane l fun _ => r.1, acc.2.1 ++ (match c with | some k => [(l, k)] | none => []), acc.2.2 ++ healed)
  let (a2, cs, healed) := upd .B (upd .A (a1, [], []))
  let idle := cs.filter fun p => (a2.lane p.1).state ≠ 6
  let act := cs.filter fun p => (a2.lane p.1).state = 6
  let a3 := (idle ++ act).foldl (fun a p => laneFault cycle tick p.1 p.2 a) a2
  ({ a3 with lanes := a3.lanes.map fun x => { x with digest := none } }, healed)

/-- BLF_LANE_DEV of a cycle (Table 15.3, code 4). -/
def laneDev (cycle tick : Nat) (l : LaneId) (dev : Int) (a : ArbState) : ArbState :=
  let big := decide (1000 < dev.natAbs)
  let x := a.lane l
  let run := if !big then 0 else if x.devCycle = cycle then x.devRun else if x.devCycle + 1 = cycle then x.devRun + 1 else 1
  let a1 := a.modLane l fun x => { x with devRun := run, devCycle := cycle }
  if 3 ≤ run then laneFault cycle tick l 4 a1 else a1

/-! Switchover and rejoining. -/

/-- A lane goes FAULTED and its domains go off; it may be woken 50 cycles later (R406). -/
def toFaulted (cycle : Nat) (l : LaneId) (a : ArbState) : ArbState :=
  a.modLane l fun x => { x with state := 7, faultAt := none, wakeAt := some (cycle + 50), unhealthy := false, healthyRun := 0, clean := 0,
                                syncRun := 0, digest := none, running := false, supply := false, devRun := 0 }

/-- At the boundary of `cycle` the lanes due become FAULTED; answers which (R406). -/
def faultBoundary (cycle : Nat) (a : ArbState) : ArbState × List LaneId :=
  let due := [LaneId.A, LaneId.B].filter fun l => match (a.lane l).faultAt with
    | some b => decide (b ≤ cycle)
    | none => false
  (due.foldl (fun s l => toFaulted cycle l s) a, due)

/-- The effective boundary of a switchover or take-back: the new lane, the cause, the declaring cycle, whether the old lane stays healthy. -/
def switchDue (img : Option Bytes) (cycle : Nat) (a : ArbState) : Option (LaneId × Nat × Nat × Bool) :=
  match a.switch with
  | some (n, c, b, d) => if b ≤ cycle ∧ selectable a n = true then some (n, c, d, false) else none
  | none => match a.takeback with
    | some b =>
      let n : LaneId := if redPrefLane img = 0 then .A else .B
      if b ≤ cycle ∧ selectable a n = true then some (n, 15, b - 1, true) else none
    | none => none

/-- The Watchtower selects the new lane (R403, R412): the old lane becomes FAULTED, or STANDBY at a take-back. -/
def applySwitch (cycle : Nat) (n : LaneId) (take : Bool) (a : ArbState) : ArbState :=
  let old := a.active
  let a1 := if take then a.modLane old fun x => { x with state := 5, healthyRun := 0 } else toFaulted cycle old a
  let a2 := a1.modLane n fun x => { x with state := 6 }
  { a2 with active := n, switch := none, takeback := none, lastChange := cycle % 2 ^ 32, changedAt := some cycle,
            cntSwitch := if take then a2.cntSwitch else satAdd 0xFF a2.cntSwitch 1, cntTake := if take then satAdd 0xFF a2.cntTake 1 else a2.cntTake }

/-- Tick 19,900: take-back to the preferred lane is scheduled (R412, R413). `defer` is VOTE byte 3. -/
def takebackEval (img : Option Bytes) (cycle defer : Nat) (a : ArbState) : ArbState :=
  let p : LaneId := if redPrefLane img = 0 then .A else .B
  if redTakeback img = 1 ∧ a.switch.isNone ∧ a.takeback.isNone ∧ p ≠ a.active ∧ (a.lane a.active).state = 6 ∧ selectable a p = true
      ∧ redHoldoff img ≤ (a.lane p).healthyRun ∧ defer = 0 then { a with takeback := some (cycle + 1) }
  else a

/-- Rejoins within the last 180,000 cycles (R409). -/
def recentRejoins (cycle : Nat) (x : LaneArb) : List Nat := x.rejoins.filter fun c => decide (cycle < c + 180000)

/-- A FAULTED lane that is due passes to SELFTEST, or stays OFF at the limit (R406, R409). Answers whether its domains are woken. -/
def laneWake (img : Option Bytes) (cycle : Nat) (l : LaneId) (a : ArbState) : ArbState × Bool :=
  let x := a.lane l
  match x.wakeAt with
  | none => (a, false)
  | some w =>
    if cycle < w then (a, false)
    else if x.state ≠ 7 ∧ x.state ≠ 0 then (a, false)
    else
      let r := recentRejoins cycle x
      if redRejoinMax img ≤ r.length then (a.modLane l fun y => { y with state := 0, cause := 8, limited := true, wakeAt := none, rejoins := r }, false)
      else (a.modLane l fun y => { y with state := 1, wakeAt := none, rejoins := r ++ [cycle] }, true)

/-- LANE_RESTART: the lane wakes at the next boundary and its rejoin count restarts (R409, R474). -/
def laneRestart (cycle : Nat) (l : LaneId) (a : ArbState) : ArbState :=
  a.modLane l fun x => { x with limited := false, rejoins := [], wakeAt := some (cycle + 1) }

/-- STANDBY_HEALTH's payload (Table 15.5) for the lane `l`. -/
def standbyHealth (cycle byte4 test viol late slack links gen : Nat) (l : LaneId) (a : ArbState) : Bytes :=
  let x := a.lane l
  let sb := x.state == 5
  let n (v : Nat) : Nat := if sb then v else 0
  padTo 32 (leBytes 4 (cycle - cycle % 50) ++ leBytes 1 byte4 ++ leBytes 1 test ++
    leBytes 1 (min 50 (n a.longMatch)) ++ leBytes 1 (min 50 (n a.longMismatch)) ++ leBytes 2 (n viol) ++ leBytes 2 (min 65535 (n late)) ++
    leBytes 4 (n x.healthyRun) ++ leBytes 2 slack ++ leBytes 1 links ++ leBytes 1 (min 255 (n (recentRejoins cycle x).length)) ++ leBytes 4 gen)

/-! The Baique ring (R421 to R425). -/

/-- Modules on the ring: the controllers, and the arbiter-only module (R428). -/
def ringSize (img : Option Bytes) : Nat :=
  let n := redModules img
  if n ≤ 1 then 1 else n + if redExtVote img = 1 then 1 else 0
def eastOf (n m : Nat) : Nat := m % n + 1
def westOf (n m : Nat) : Nat := (m + n - 2) % n + 1

/-- A frame of Table 15.6: header, payload, CRC-32C. -/
def ringFrame (typ src dst route seq cycle gen : Nat) (payload : Bytes) : Bytes :=
  let b := leBytes 1 typ ++ leBytes 1 src ++ leBytes 1 dst ++ leBytes 1 route ++ leBytes 2 payload.length ++ leBytes 2 seq ++ leBytes 4 cycle
    ++ leBytes 4 gen ++ payload
  b ++ leBytes 4 (crc32c b)

def rfType (f : Bytes) := u8 f 0
def rfSrc (f : Bytes) := u8 f 1 % 4
def rfLane (f : Bytes) : LaneId := if bitOf 2 (u8 f 1) then .B else .A
def rfDst (f : Bytes) := u8 f 2
def rfHops (f : Bytes) := u8 f 3 % 4
def rfSeq (f : Bytes) := u16 f 6
def rfCycle (f : Bytes) := u32 f 8
def rfGen (f : Bytes) := u32 f 12
def rfPayload (f : Bytes) : Bytes := sliceB f 16 (u16 f 4)
/-- A valid frame: lengths, zero bits and CRC hold (R422). -/
def rfValid (f : Bytes) : Bool :=
  decide (20 ≤ f.length) && decide (u16 f 4 ≤ 492) && decide (f.length = 20 + u16 f 4) && decide (u8 f 1 < 8) && decide (rfSrc f ≠ 0)
    && decide (u8 f 2 ≤ 3) && (crc32c (f.take (16 + u16 f 4)) == u32 f (16 + u16 f 4))

/-- Who this module is on the ring, for its own frames. -/
structure RingMe where
  img    : Option Bytes
  module : Nat
  cycle  : Nat
  us     : Nat
  gen    : Nat
  deriving Repr, Inhabited

/-- The module sends a frame: both ways for all or for a module that is not adjacent, else by the shorter port (R424). -/
def ringSend (me : RingMe) (typ dst : Nat) (payload : Bytes) (a : ArbState) : ArbState × List Effect :=
  let n := ringSize me.img
  if n ≤ 1 then (a, [])
  else
    let seq := vget a.seqs typ
    let src := me.module + 4 * a.active.num
    let f (west : Bool) : Bytes := ringFrame typ src dst (if west then 128 else 0) seq me.cycle me.gen payload
    let e : List Effect := [.out (.ring .east (f false))]
    let w : List Effect := [.out (.ring .west (f true))]
    let outs := if dst = 0 then e ++ w else if dst = eastOf n me.module ∧ dst = westOf n me.module then e ++ w
      else if dst = eastOf n me.module then e else if dst = westOf n me.module then w else e ++ w
    ({ a with seqs := vmodN a.seqs typ fun s => (s + 1) % 65536 }, outs)

def portIx (l : LaneId) (d : RingDir) : Nat := 2 * l.num + match d with
  | .east => 0
  | .west => 1

/-- A receive port is monitored while its neighbour has selected the lane that drives its link (R425). -/
def portMonitored (img : Option Bytes) (l : LaneId) (d : RingDir) (a : ArbState) : Bool :=
  decide (1 < ringSize img) && (match d with
    | .east => a.neighE
    | .west => a.neighW) == l

/-- A valid frame or beacon on a port (R425). -/
def portHeard (us : Nat) (l : LaneId) (d : RingDir) (a : ArbState) : ArbState :=
  { a with ports := vmodN a.ports (portIx l d) fun p =>
      let v := p.valid + 1
      if p.up then { p with lastUs := us } else if 100 ≤ v then { up := true, lastUs := us, valid := 0 } else { p with lastUs := us, valid := v } }

/-- A monitored port loses symbol lock, or has missed 4 consecutive beacon intervals of 100 µs (R425). -/
def portDown (img : Option Bytes) (us : Nat) (l : LaneId) (d : RingDir) (lockLost : Bool) (a : ArbState) : ArbState :=
  let p := vget a.ports (portIx l d)
  if portMonitored img l d a && (lockLost || decide (p.lastUs + 400 ≤ us)) then
    { a with ports := vmodN a.ports (portIx l d) fun q => { q with up := false, valid := 0 } }
  else a

/-- The neighbour's selected lane, as its own frames name it; its new link counts misses from that change (R425). -/
def learnNeighbour (me : RingMe) (f : Bytes) (a : ArbState) : ArbState :=
  let n := ringSize me.img
  let l := rfLane f
  let a1 := if rfSrc f = eastOf n me.module ∧ a.neighE ≠ l then
      { a with neighE := l, ports := vmodN a.ports (portIx l .east) fun p => { p with lastUs := me.us } } else a
  if rfSrc f = westOf n me.module ∧ a1.neighW ≠ l then
    { a1 with neighW := l, ports := vmodN a1.ports (portIx l .west) fun p => { p with lastUs := me.us } } else a1

/-- RING of Table 15.13 (R425, R428, log entry 33). -/
def ringState (img : Option Bytes) (a : ArbState) : Nat :=
  if ringSize img ≤ 1 then 0
  else if a.unheard then 3
  else
    let down (l : LaneId) (d : RingDir) : Bool := portMonitored img l d a && !(vget a.ports (portIx l d)).up
    if down .A .east || down .A .west || down .B .east || down .B .west then 2 else 1

/-- A frame that only its port counts. -/
def portHeardIf (me : RingMe) (l : LaneId) (d : RingDir) (f : Bytes) (a : ArbState) : ArbState :=
  if ringSize me.img ≤ 1 ∨ rfValid f = false then a else portHeard me.us l d a

/-- A frame arrives on a port: checked, its port counted, forwarded, and taken when it is the first copy for this module (R421, R424).
Answers whether this module takes it. -/
def ringReceive (me : RingMe) (l : LaneId) (d : RingDir) (f : Bytes) (a0 : ArbState) : ArbState × Bool × List Effect :=
  if ringSize me.img ≤ 1 ∨ rfValid f = false then (a0, false, [])
  else
    let a := learnNeighbour me f (portHeard me.us l d a0)
    if rfSrc f = me.module then (a, false, [])
    else
      let key := (rfSrc f, rfType f, rfSeq f)
      if a.taken.contains key then (a, false, [])
      else
        let a1 := { a with taken := (key :: a.taken).take 64 }
        let fwd : List Effect := if rfDst f ≠ me.module ∧ rfHops f < 2 then
            [.out (.ring (match d with | .east => .west | .west => .east)
              (ringFrame (rfType f) (u8 f 1) (rfDst f) (u8 f 3 + 1) (rfSeq f) (rfCycle f) (rfGen f) (rfPayload f)))] else []
        let prio := if rfType f = 6 ∨ rfType f = 7 ∨ rfType f = 8 ∨ rfType f = 9 then 2 else 3
        let relay : List Effect := if l = a.active then [] else [.out (.bridge l prio f)]
        (a1, rfDst f = 0 ∨ rfDst f = me.module, fwd ++ relay)

/-! Votes and control (R415 to R420). -/

/-- The module in control answers for a module of `modules` controllers: alone it is in control while a lane is ACTIVE (R428). -/
def inControl (img : Option Bytes) (ctl : Bool) (a : ArbState) : Bool :=
  if redModules img ≤ 1 then ctl && (activeLane a).isSome else a.inControl

/-- The external vote: 0 none, 1 this module, 2 the other; and whether the lines are invalid (R417). -/
def extVote (img : Option Bytes) (ctl : Bool) (a : ArbState) : Nat × Bool :=
  if ctl = false ∨ redModules img ≠ 2 ∨ redExtVote img = 0 then (0, false)
  else match a.extA, a.extB with
    | true, false => (1, false)
    | false, true => (2, false)
    | _, _ => (0, true)

/-- The VOTE frame of a module as taken from the ring (Table 15.8); `cycle` is this module's count at its arrival. -/
def voteOf (cycle : Nat) (f : Bytes) : VoteInfo :=
  let p := rfPayload f
  { cycle := cycle, voteFor := u8 p 0, vflags := u8 p 1, lanes := u8 p 2, defer := u8 p 3, run := u32 p 4, tag := u32 p 8, ext := u8 p 12, gen := rfGen f, lane := (rfLane f).num }

def VoteInfo.inControl (v : VoteInfo) : Bool := bitOf 0 v.vflags
def VoteInfo.release (v : VoteInfo) : Bool := bitOf 1 v.vflags
def VoteInfo.eligible (v : VoteInfo) : Bool := bitOf 2 v.vflags
def VoteInfo.arbOnly (v : VoteInfo) : Bool := bitOf 4 v.vflags
def VoteInfo.master (v : VoteInfo) : Bool := bitOf 5 v.vflags

/-- A VOTE frame is taken (R424). -/
def voteTake (cycle : Nat) (f : Bytes) (a : ArbState) : ArbState :=
  let v := voteOf cycle f
  let m := rfSrc f - 1
  { a with votes := vmodN a.votes m fun _ => some v, heardAt := vmodN a.heardAt m fun _ => some cycle,
           lastIn := if v.inControl then some cycle else a.lastIn }

/-- A module is running: heard in one of the last VOTE_LOSS_CYC cycles, its origin agreeing (R425, R427). -/
def running (img : Option Bytes) (module cycle : Nat) (a : ArbState) (m : Nat) : Bool :=
  if m = module then !a.conflict
  else match vget a.heardAt (m - 1), vget a.votes (m - 1) with
    | some c, some v => decide (cycle < c + redVoteLoss img) && (v.tag == a.originTag) && !bitOf 6 v.vflags
    | _, _ => false

/-- What a module needs to know of itself for its vote. -/
structure VoteIn where
  img    : Option Bytes
  module : Nat
  /-- 0 controller, 1 arbiter-only, 2 node. -/
  role   : Nat
  cycle  : Nat
  gen    : Nat
  defer  : Nat
  obsInit : Bool
  /-- Belfry is LOCKED; and bit m - 1 for each other module m that is. -/
  locked : Bool
  lockedMask : Nat
  deriving Repr, Inhabited

def VoteIn.ctl (i : VoteIn) : Bool := i.role == 0

/-- R415, but for the STATE frames. -/
def eligibleSelf (i : VoteIn) (a : ArbState) : Bool :=
  i.ctl && (match activeLane a with
    | some l => !(a.lane l).unhealthy
    | none => false) && !a.degraded && !a.imageLag && !a.conflict && !i.obsInit

def eligibleNow (i : VoteIn) (a : ArbState) : Bool :=
  eligibleSelf i a && (a.inControl || decide (redSyncCyc i.img ≤ a.stateRun))

/-- LANES of the VOTE payload. -/
def voteLanes (a : ArbState) : Nat :=
  atF 0 3 (a.lane .A).state + atF 3 3 (a.lane .B).state + at1 6 (a.lane .A).unhealthy + at1 7 (a.lane .B).unhealthy

/-- This module's own vote as its frame carries it (R416, Table 15.8). -/
def ownVote (i : VoteIn) (a : ArbState) : VoteInfo :=
  let el := eligibleNow i a
  { cycle := i.cycle, voteFor := if a.conflict then 0 else a.voteFor,
    vflags := at1 0 a.inControl + at1 1 (a.inControl && a.voteFor != 0 && a.voteFor != i.module) + at1 2 el + at1 3 a.degraded +
      at1 4 (i.role == 1) + at1 5 a.timeMaster + at1 6 a.conflict + at1 7 a.imageLag,
    lanes := voteLanes a, defer := i.defer, run := if el then a.modRun else 0, tag := a.originTag, ext := (extVote i.img i.ctl a).1, gen := i.gen, lane := a.active.num }

def votePayload (v : VoteInfo) : Bytes :=
  padTo 16 (leBytes 1 v.voteFor ++ leBytes 1 v.vflags ++ leBytes 1 v.lanes ++ leBytes 1 v.defer ++ leBytes 4 v.run ++ leBytes 4 v.tag ++ leBytes 1 v.ext)

/-- Tick 15,000: the VOTE frame is sent (R416, R423). -/
def voteSend (i : VoteIn) (us : Nat) (a : ArbState) : ArbState × List Effect :=
  if ringSize i.img ≤ 1 then (a, [])
  else
    let v := ownVote i a
    let a1 := { a with votes := vmodN a.votes (i.module - 1) fun _ => some v, heardAt := vmodN a.heardAt (i.module - 1) fun _ => some i.cycle, eligible := v.eligible }
    ringSend ⟨i.img, i.module, i.cycle, us, i.gen⟩ 1 0 (votePayload v) a1

/-- The votes heard in this cycle, by module number. -/
def heardVotes (i : VoteIn) (a : ArbState) : List (Nat × VoteInfo) :=
  [1, 2, 3].filterMap fun m => match vget a.votes (m - 1) with
    | some v => if v.cycle = i.cycle then some (m, v) else none
    | none => none

/-- The vote of R416. -/
def voteRule (i : VoteIn) (a : ArbState) (heard : List (Nat × VoteInfo)) : Nat :=
  let elig := (heard.filter (·.2.eligible)).map (·.1)
  let c := (heard.find? (·.2.inControl)).map (·.1)
  let p := redPrefModule i.img
  let runOf (m : Nat) : Nat := ((heard.find? (·.1 == m)).map (·.2.run)).getD 0
  let noDefer := match heard.find? (·.2.inControl) with
    | some v => v.2.defer == 0
    | none => true
  let due := elig.contains p && (c != some p) && decide (redHoldoff i.img ≤ runOf p) && noDefer
  if a.conflict then 0
  else match c with
    | some k => if elig.contains k && !due then k else if elig.isEmpty then 0 else if elig.contains p then p else elig.headD 0
    | none => if elig.isEmpty then 0 else if elig.contains p then p else elig.headD 0

/-- ORIGIN_CONFLICT: this module's tag differs from that of the module in control, or else of the time master; where two groups meet, the group of the
lowest-numbered LOCKED module keeps its origin (R427). -/
def originConflict (i : VoteIn) (a : ArbState) (heard : List (Nat × VoteInfo)) : Bool :=
  if a.inControl then false
  else match heard.find? fun p => p.2.inControl && p.1 != i.module with
    | some p => p.2.tag != a.originTag
    | none =>
      let locked (m : Nat) : Bool := if m = i.module then i.locked else bitOf (m - 1) i.lockedMask
      let masters := heard.filter fun p => p.2.master
      match (masters.find? fun p => locked p.1).orElse fun _ => masters.head? with
      | some p => p.2.tag != a.originTag
      | none => false

/-- The time master (R162): the lowest-numbered running module that is LOCKED, else the lowest-numbered running module. Which other modules
are LOCKED is an operand of the vote: no frame the spec lays out carries it (log entry 44). -/
def isTimeMaster (i : VoteIn) (a : ArbState) : Bool :=
  let run := [1, 2, 3].filter fun m => running i.img i.module i.cycle a m
  match run.find? fun m => if m = i.module then i.locked else bitOf (m - 1) i.lockedMask with
  | some m => m == i.module
  | none => run.headD 0 == i.module

/-- R418: the votes that name each module, and what this module does at the next boundary. -/
def countVotes (i : VoteIn) (a : ArbState) (heard : List (Nat × VoteInfo)) : ArbState :=
  let (ext, bad) := extVote i.img i.ctl a
  let other := if i.module = 1 then 2 else 1
  let named (m : Nat) : Nat := (heard.filter fun p => !p.2.arbOnly && p.2.voteFor == m && m != 0).length
    + (if ext = 1 ∧ m = i.module then 1 else 0) + (if ext = 2 ∧ m = other then 1 else 0)
  let arbVote := (heard.find? (·.2.arbOnly)).map (·.2.voteFor)
  let dis := match arbVote with
    | some v => redExtVote i.img == 1 && (if v = i.module then 1 else if v = other then 2 else 0) != ext
    | none => false
  let extBad := if arbVote.isSome then (if dis then a.extBad + 1 else 0) else a.extBad
  let mine := named i.module
  let a1 := { a with extBad := extBad, extInvalid := bad || decide (50 ≤ extBad), votesFor := min 3 mine }
  if a.inControl then
    let named2 := [1, 2, 3].find? fun m => m != i.module && decide (2 ≤ named m)
    let lower := heard.find? fun p => decide (p.1 < i.module) && p.2.inControl
    let below := if mine < 2 then a.belowRun + 1 else 0
    let leave := named2.isSome || lower.isSome || decide (redVoteLoss i.img ≤ below)
    { a1 with belowRun := below, takeRun := 0,
              pendCtl := if leave then some (false, (named2.orElse fun _ => lower.map (·.1)).getD 0) else a.pendCtl }
  else
    let run := if 2 ≤ mine then a.takeRun + 1 else 0
    let rel := heard.any fun p => p.1 != i.module && p.2.inControl && p.2.release && p.2.voteFor == i.module
    let quiet := match a.lastIn with
      | some c => decide (c + redVoteTake i.img ≤ i.cycle)
      | none => true
    let take := decide (2 ≤ mine) && !a.conflict && (rel || (decide (redVoteTake i.img ≤ run) && quiet))
    { a1 with takeRun := run, belowRun := 0,
              pendCtl := if take then some (true, ((heard.find? fun p => p.2.inControl).map (·.1)).getD 0) else a.pendCtl }

/-- Tick 19,900: eligibility, the vote and the decision to take or leave control (R415 to R418, R425, R427). -/
def voteForm (i : VoteIn) (a0 : ArbState) : ArbState :=
  if ringSize i.img ≤ 1 then { a0 with timeMaster := true, eligible := eligibleSelf i a0 }
  else
    let heard := heardVotes i a0
    let lag := match heard.find? fun p => p.2.inControl && p.1 != i.module with
      | some p => p.2.gen != i.gen
      | none => a0.imageLag && !a0.inControl
    let a1 := { a0 with conflict := originConflict i a0 heard, imageLag := lag }
    let srun := if a1.stateAt = some i.cycle then a1.stateRun + 1 else if heard.any (·.2.inControl) then 0 else a1.stateRun
    let a2 := { a1 with stateRun := srun }
    let el := eligibleNow i a2
    let members := (List.range (ringSize i.img)).map (· + 1)
    let unheardNow := members.any fun m => m != i.module && !(heard.any (·.1 == m)) &&
      (ringSize i.img == 3 || running i.img i.module i.cycle a2 m)
    let ctls := (List.range (redModules i.img)).map (· + 1)
    let a3 := { a2 with eligible := el, modRun := if el then min 0xFFFFFFFF (a2.modRun + 1) else 0, unheard := unheardNow,
                        modLost := ctls.any fun m => !running i.img i.module i.cycle a2 m }
    let a4 := { a3 with voteFor := voteRule i a3 heard, timeMaster := isTimeMaster i a3 }
    if i.ctl then countVotes i a4 heard
    else
      let lost := [1, 2].all fun m => match vget a4.heardAt (m - 1) with
        | some c => decide (c + redVoteLoss i.img ≤ i.cycle)
        | none => true
      { a4 with outA := !lost && a4.voteFor == 1, outB := !lost && a4.voteFor == 2 }

/-- The change of control at a boundary (R418): answers (took, old module, new module). -/
def controlChange (cycle module : Nat) (a : ArbState) : ArbState × Option (Bool × Nat × Nat) :=
  match a.pendCtl with
  | none => (a, none)
  | some (take, other) =>
    ({ a with pendCtl := none, inControl := take, belowRun := 0, takeRun := 0, lastChange := cycle % 2 ^ 32, cntModule := satAdd 0xFF a.cntModule 1,
              stateRun := 0 },
      some (take, if take then other else module, if take then module else other))

/-- The origin tag (R427): 1 GNSS, an adopted tag, or a start-up tag. -/
def startTag (module powerCycle : Nat) : Nat := (0x80000000 + 65536 * module + powerCycle % 65536) % 2 ^ 32

/-! Registers (Tables 15.12 to 15.14). -/

def arbStatus (img : Option Bytes) (role module defer : Nat) (a : ArbState) : Nat :=
  let ctl := role == 0
  let r := if role = 1 then 3 else if redModules img ≤ 1 then 0 else if a.inControl then 1 else 2
  atF 30 2 r + atF 28 2 module + atF 27 1 a.active.num + at1 26 a.switch.isSome + at1 25 a.takeback.isSome + at1 24 a.degraded +
    at1 23 (noStandby a) + at1 22 a.conflict + at1 21 a.imageLag + at1 20 a.eligible + at1 19 a.extInvalid + atF 17 2 (ringState img a) +
    at1 16 a.timeMaster + atF 12 4 defer + atF 10 2 a.voteFor + atF 8 2 (extVote img ctl a).1 + atF 6 2 a.votesFor

def arbLane (cycle : Nat) (x : LaneArb) : Nat :=
  atF 29 3 x.state + at1 28 x.unhealthy + at1 27 x.seen + at1 26 x.matched + atF 22 4 x.cause +
    atF 19 3 (min 7 (x.strikes.filter fun c => decide (cycle < c + 50)).length) + atF 16 3 (min 7 (recentRejoins cycle x).length) + atF 0 16 x.healthyRun

def arbCnt (a : ArbState) : Nat := atF 24 8 a.cntSwitch + atF 16 8 a.cntTake + atF 8 8 a.cntModule + atF 0 8 a.cntMismatch

def arbVotes (img : Option Bytes) (ctl : Bool) (cycle : Nat) (a : ArbState) : Nat :=
  let v (m : Nat) : Nat := match vget a.votes (m - 1) with
    | some x => if x.cycle = cycle then x.voteFor else 0
    | none => 0
  atF 0 4 (v 1) + atF 8 4 (v 2) + atF 16 4 (v 3) + atF 24 8 (extVote img ctl a).1

def arbReg (img : Option Bytes) (role module defer cycle off : Nat) (a : ArbState) : Nat :=
  match off with
  | 0x0000 => arbStatus img role module defer a
  | 0x0004 => arbLane cycle (a.lane .A)
  | 0x0008 => arbLane cycle (a.lane .B)
  | 0x000C => a.lastChange
  | 0x0010 => arbCnt a
  | 0x0014 => arbVotes img (role == 0) cycle a
  | _ => 0
def arbRegClear (off : Nat) (a : ArbState) : ArbState :=
  if off = 0x0010 then { a with cntSwitch := 0, cntTake := 0, cntModule := 0, cntMismatch := 0 } else a

end Sys2Proof.Machine
end

