-- ==== Sys2Proof/Machine/BelfryUnit.lean ====
section
/-! DEFINITION. Belfry, the time unit (chapter 06): device time's rate, origin, OFFSET, sources, holdover, the lanes' ticks, PPS, TIMEQ and PTP. -/

namespace Sys2Proof.Machine

/-- One IEEE 1588 port (R165). -/
structure PtpPort where
  /-- clockClass of the master a slave port hears; 255 before the first Announce. -/
  masterClass : Nat := 255
  /-- Sequence number of the last Sync and its receive time t2, ns of device time. -/
  syncSeq  : Nat := 0
  t2       : Int := 0
  /-- Origin time t1 of that Sync once known. -/
  t1       : Option Int := none
  /-- Send time t3 of the Delay_Req of that Sync once sent. -/
  t3       : Option Int := none
  /-- Measured offsets of the last 16 s: device time of the measurement in us, offset in ns. -/
  samples  : List (Nat × ℚ) := []
  /-- Sequence number of the next Sync that a master port sends, and µs since power-on reset before which it sends none. -/
  sendSeq  : Nat := 0
  sendAt   : Nat := 0
  deriving DecidableEq, Repr, Inhabited

/-- The state of Belfry. STATE is numbered as in Table 6.2; SOURCE 0 none, 1 Oculus, 2 Baique, 3 PTP. -/
structure BelfryState where
  state      : Nat := 0
  /-- The source steered to in LOCKED and SLEWING. -/
  source     : Nat := 0
  originGnss : Bool := false
  /-- The origin has been chosen (R153). -/
  originSet  : Bool := false
  /-- Microseconds since power-on reset at which domain 3 started and the wait began. -/
  waitFrom   : Nat := 0
  /-- Consecutive valid epochs of Oculus, Baique and PTP before the origin is fixed, and the uncertainty of each at its latest valid one, ns. -/
  originRun  : Vector Nat 4 := Vector.replicate 4 0
  originUnc  : Vector ℚ 4 := Vector.replicate 4 0
  /-- Device time at the last 400 MHz clock edge at or before the latest boundary, in units of 2⁻³² ns (R151). -/
  count      : Nat := 0
  /-- UTC less device time, ns, from the device time in ns at which each value came into force, newest first (R154). -/
  utcHist    : List (Int × Int) := []
  /-- OFFSET, ns. The register shows it rounded to a whole nanosecond (log entry 22). -/
  offset     : ℚ := 0
  /-- y_osc and y_slew, ns per second (R152). -/
  yOsc       : ℚ := 0
  ySlew      : ℚ := 0
  /-- y_osc at the latest long-cycle boundaries of the unbroken run of LOCKED or SLEWING, newest first, at most 1,000 (R159). -/
  yRing      : List ℚ := []
  /-- Sum and count of the residuals of the current long cycle (R158). -/
  resSum     : ℚ := 0
  resCount   : Nat := 0
  disc       : Nat := 0
  stepLast   : Int := 0
  leap       : Nat := 0
  leapNext   : Nat := 0
  leapPending : Bool := false
  /-- OFFSET_HI as latched by a read of OFFSET_LO (R166). -/
  hiLatch    : Nat := 0
  /-- The entry into HOLDOVER: microseconds since power-on reset, EST_ERR, y0 in 10^-12, Sky die temperature, largest change since. -/
  holdFrom   : Nat := 0
  e0         : Nat := 0xFFFFF
  y0         : ℚ := 0
  holdTemp   : ℚ := 0
  dtMax      : ℚ := 0
  skyTemp    : ℚ := 0
  /-- y_slew becomes 0 at the next long-cycle boundary (R156). -/
  slewStop   : Bool := false
  /-- Uncertainty of the source's latest valid epoch, ns (R626). -/
  unc        : ℚ := 0
  estErr     : Nat := 0xFFFFF
  qualifying : Bool := false
  /-- The source under qualification, its consecutive valid epochs and its latest measured offset. -/
  qualSource : Nat := 0
  qualCount  : Nat := 0
  qualOffset : ℚ := 0
  /-- Qualification is complete; the return takes place at the next boundary. -/
  qualified  : Bool := false
  /-- Phase errors of Lane A and Lane B, ns, and the corrections applied to their dividers, ns per cycle (R160). -/
  laneDev    : Vector Int 2 := Vector.replicate 2 0
  laneCorr   : Vector ℚ 2 := Vector.replicate 2 0
  /-- Quantisation errors of the latest edges of PPS_A and PPS_B, ns. -/
  qerr       : Vector ℚ 2 := Vector.replicate 2 0
  /-- PPS_A and PPS_B are high until this many microseconds since power-on reset. -/
  ppsUntil   : Vector Nat 2 := Vector.replicate 2 0
  timeq      : Bytes := zeroBytes 32
  /-- The Oculus time of this module differs from Baique time by more than 1,000 ns (R162). -/
  disagree   : Bool := false
  ports      : Vector PtpPort 4 := Vector.replicate 4 {}
  deriving DecidableEq, Repr, Inhabited

/-! TIME_CONFIG (Table 6.4), with its defaults when the image holds none. -/
def timeField (c : Bytes) (f : Bytes → Nat) (dflt : Nat) : Nat := if c.isEmpty then dflt else f c
def timeSrcMask (c : Bytes) := timeField c (u8 · 2) 0x07
def timePpsGate (c : Bytes) : Bool := timeField c (u8 · 3) 1 == 1
def timePpsWidth (c : Bytes) := timeField c (u32 · 4) 100000
def timePpsAdv (c : Bytes) (k : Nat) := timeField c (u16 · (8 + 2 * k)) 0
def timeWaitMs (c : Bytes) := timeField c (u16 · 12) 8000
def timeReturnS (c : Bytes) := timeField c (u16 · 14) 10
def timeStepGuard (c : Bytes) := timeField c (u32 · 16) 1000
def timeTau (c : Bytes) := timeField c (u16 · 20) 100
def timeHoldLimit (c : Bytes) := timeField c (u32 · 24) 10000
def timeY0 (c : Bytes) := timeField c (u16 · 28) 50
def timeAge (c : Bytes) := timeField c (u16 · 30) 1000
def timeTempco (c : Bytes) := timeField c (u16 · 32) 50
def timePtpDomain (c : Bytes) := timeField c (u8 · 34) 0
def timePtpPrio (c : Bytes) := timeField c (u8 · 35) 128
def timePtpMaster (c : Bytes) := timeField c (u8 · 36) 0
def timePtpSlave (c : Bytes) := timeField c (u8 · 37) 0
/-- The interval of a master port's Sync, µs: 2^PTP_SYNC_LOG s. -/
def timePtpSync (c : Bytes) : Nat := timeField c (fun c => (floorQ (1000000 * pow2 (toSigned 8 (u8 c 38)))).toNat) 1000000
def timePtpErr (c : Bytes) := timeField c (u16 · 40) 500

/-- LOCKED or SLEWING. -/
def BelfryState.steered (b : BelfryState) : Bool := b.state == 1 || b.state == 2
/-- HOLDOVER or HOLD_EXPIRED. -/
def BelfryState.held (b : BelfryState) : Bool := b.state == 3 || b.state == 4
/-- Reported time is valid (Table 6.2). -/
def BelfryState.timeValid (b : BelfryState) : Bool := b.state == 1 || b.state == 2 || b.state == 3

/-- OFFSET as a whole number of nanoseconds. -/
def BelfryState.offsetNs (b : BelfryState) : Int := roundAway b.offset

/-- UTC less device time now, ns: OFFSET less the GPS-UTC leap count (R154). -/
def BelfryState.utcNow (b : BelfryState) : Int := b.offsetNs - (b.leap : Int) * 1000000000

/-- UTC less device time as it was in force at a device time in ns (R154). -/
def BelfryState.utcAt (b : BelfryState) (ns : Int) : Int :=
  match b.utcHist.find? fun x => decide (x.1 ≤ ns) with
  | some x => x.2
  | none => (b.utcHist.getLast?.map (·.2)).getD b.utcNow

/-- GPS time less device time, ns, while reported time is valid (R154). -/
def BelfryState.gpsNow (b : BelfryState) : Option Int := if b.timeValid then some b.offsetNs else none

/-- A new value of UTC less device time is in force from a device time in ns. -/
def utcKeep (ns : Int) (b : BelfryState) : BelfryState :=
  if (b.utcHist.head?.map (·.2)) = some b.utcNow then b else { b with utcHist := (ns, b.utcNow) :: b.utcHist }

/-- What one source shows at an epoch: its number, whether it is valid (Table 6.1), the measured OFFSET, its uncertainty (R626). -/
structure SourceView where
  src      : Nat
  ok       : Bool
  measured : ℚ
  unc      : ℚ
  deriving DecidableEq, Repr, Inhabited

/-- The sources in the order in which a module tries them (R155). -/
def sourceOrder (master : Bool) : List Nat := if master then [1, 3] else [2, 1, 3]

def viewOf (vs : List SourceView) (src : Nat) : SourceView :=
  (vs.find? (·.src == src)).getD ⟨src, false, 0, 0⟩

/-- A source that SRC_MASK admits and Table 6.1 calls valid. -/
def sourceOk (cfg : Bytes) (vs : List SourceView) (src : Nat) : Bool :=
  decide (1 ≤ src) && bitOf (src - 1) (timeSrcMask cfg) && (viewOf vs src).ok

def firstSource (cfg : Bytes) (master : Bool) (vs : List SourceView) : Option Nat :=
  (sourceOrder master).find? (sourceOk cfg vs)

/-- u of R159, in 10^-12: the largest distance of 1,000 values of y_osc from their mean; none after a shorter run. -/
def freqUncertainty (ring : List ℚ) : Option ℚ :=
  if ring.length < 1000 then none
  else
    let m := sumQ ring / 1000
    some (1000 * ring.foldl (fun acc y => maxQ acc (absQ (y - m))) 0)

/-- Entry into HOLDOVER (R156): OFFSET and y_osc keep their values, y_slew ends at the next long-cycle boundary. -/
def enterHoldover (cfg : Bytes) (us : Nat) (b : BelfryState) : BelfryState :=
  { b with
    state := 3, source := 0, holdFrom := us, e0 := b.estErr,
    y0 := maxQ (timeY0 cfg : ℚ) ((freqUncertainty b.yRing).getD 0),
    holdTemp := b.skyTemp, dtMax := 0, slewStop := true, yRing := [],
    resSum := 0, resCount := 0, qualifying := false, qualSource := 0, qualCount := 0, qualified := false }

/-- e(t) of R159, ns, `t` in seconds since entry. -/
def holdError (cfg : Bytes) (b : BelfryState) (t : ℚ) : ℚ :=
  (b.e0 : ℚ) + ((b.y0 + (timeTempco cfg : ℚ) * b.dtMax) * t + (timeAge cfg : ℚ) / 86400 * t * t / 2) / 1000

/-- EST_ERR in holdover at an instant in microseconds since power-on reset, rounded up. -/
def holdErrAt (cfg : Bytes) (b : BelfryState) (us : Nat) : Nat :=
  (ceilQ (holdError cfg b (((us - b.holdFrom : Nat) : ℚ) / 1000000))).toNat

/-- BLF_EPOCH_EVAL: Belfry judges its sources at an epoch (R153, R155 to R157, R626); there is one every `div` cycles. -/
def epochEval (cfg : Bytes) (div : Nat) (master : Bool) (us : Nat) (vs : List SourceView) (b : BelfryState) : BelfryState :=
  if !b.originSet then
    { b with
      originRun := Vector.ofFn fun i => if sourceOk cfg vs i.val then b.originRun[i] + 1 else 0
      originUnc := Vector.ofFn fun i => if sourceOk cfg vs i.val then (viewOf vs i.val).unc else b.originUnc[i] }
  else if b.steered then
    let v := viewOf vs b.source
    if sourceOk cfg vs b.source && !decide ((timeStepGuard cfg : ℚ) < absQ (v.measured - b.offset)) then
      { b with resSum := b.resSum + (v.measured - b.offset), resCount := b.resCount + 1, unc := v.unc }
    else enterHoldover cfg us b
  else
    let start := fun (s : Nat) =>
      let n := 1
      { b with
        qualSource := s, qualCount := n, qualOffset := (viewOf vs s).measured, unc := (viewOf vs s).unc,
        qualified := decide (timeReturnS cfg * 50 / div ≤ n), qualifying := !decide (timeReturnS cfg * 50 / div ≤ n) }
    if b.qualSource ≠ 0 ∧ sourceOk cfg vs b.qualSource = true then
      let v := viewOf vs b.qualSource
      let n := b.qualCount + 1
      let done := decide (timeReturnS cfg * 50 / div ≤ n)
      { b with qualCount := n, qualOffset := v.measured, unc := v.unc, qualified := done, qualifying := !done }
    else
      match firstSource cfg master vs with
      | some s => start s
      | none => { b with qualSource := 0, qualCount := 0, qualified := false, qualifying := false }

/-- Saturate to a signed 32-bit number. -/
def sat32 (i : Int) : Int := clampI (-(2 : Int) ^ 31) ((2 : Int) ^ 31 - 1) i

/-- The return at the boundary after qualification (R157, R626). -/
def belfryReturn (b : BelfryState) : BelfryState :=
  let slew := b.originGnss && decide (20 ≤ absQ b.qualOffset)
  { b with
    offset := b.qualOffset, disc := (b.disc + 1) % 2 ^ 32, stepLast := sat32 (roundAway (b.qualOffset - b.offset)),
    state := if slew then 2 else 1, source := b.qualSource, estErr := (ceilQ b.unc).toNat,
    qualifying := false, qualSource := 0, qualCount := 0, qualified := false, resSum := 0, resCount := 0, yRing := [] }

/-- Payload of TIME_STEP: BLF_STEP_LAST, BLF_DISC, boundary cycle. -/
def timeStepNote (cycle : Nat) (b : BelfryState) : Effect :=
  .note 0xF01A none (leSigned 4 b.stepLast ++ leBytes 4 b.disc ++ leBytes 4 cycle)

/-- The slew of R157, ns per second: 100 toward zero OFFSET, the remainder in the final second. -/
def slewRate (offset : ℚ) : ℚ := signQ offset * minQ 100 (absQ offset)

/-- BLF_LONG_CYCLE_UPDATE, after the pulse edge of a long-cycle boundary (R152, R156 to R158).
`dev` is the master's device time less this module's for a Baique source without a GNSS origin. -/
def longCycleUpdate (cfg : Bytes) (dev : Option ℚ) (b0 : BelfryState) : BelfryState :=
  let b1 := if b0.slewStop then { b0 with ySlew := 0, slewStop := false } else b0
  if !b1.steered then b1
  else
    let rho : ℚ := if b1.originGnss ∧ b1.resCount ≠ 0 then b1.resSum / (b1.resCount : ℚ) else 0
    let b2 := { b1 with offset := b1.offset + rho, resSum := 0, resCount := 0 }
    let b3 := if b2.state = 2 ∧ absQ b2.offset < 20 then { b2 with state := 1 } else b2
    let tau : ℚ := (timeTau cfg : ℚ)
    let err : Option ℚ := if b3.originGnss then some b3.offset else if b3.source = 2 then dev else none
    let b4 :=
      if b3.state = 2 then { b3 with ySlew := slewRate b3.offset }
      else match err with
        | some e => { b3 with ySlew := clampQ (-100) 100 (e / tau), yOsc := b3.yOsc + e / (4 * tau * tau) }
        | none => { b3 with ySlew := 0 }
    { b4 with yRing := (b4.yOsc :: b4.yRing).take 1000 }

/-- BLF_BOUNDARY_UPDATE: EST_ERR at a boundary (R159, R626). `temp` is the Sky die temperature in degrees Celsius. -/
def boundaryUpdate (cfg : Bytes) (us : Nat) (temp : ℚ) (b0 : BelfryState) : BelfryState :=
  let b := { b0 with skyTemp := temp, dtMax := if b0.held then maxQ b0.dtMax (absQ (temp - b0.holdTemp)) else b0.dtMax }
  if b.steered then { b with estErr := (ceilQ b.unc).toNat }
  else if b.held then
    let e := holdErrAt cfg b us
    { b with estErr := e, state := if timeHoldLimit cfg < e then 4 else b.state }
  else { b with estErr := 0xFFFFF }

/-- The frequency word of R151 and R152 in units of 2⁻³² ns: what each 2.5 ns clock adds to device time. -/
def freqInc (b : BelfryState) : Nat := (roundAway ((5 / 2) * (1 + (b.yOsc + b.ySlew) / 1000000000) * pow2 32)).toNat
/-- The same in ns. -/
def freqWord (b : BelfryState) : ℚ := (freqInc b : ℚ) * pow2 (-32)

/-- Device time runs on to the last clock edge at or before a boundary, given in ns (R151). -/
def runTo (ns : Nat) (b : BelfryState) : BelfryState :=
  { b with count := b.count + (ns * 2 ^ 32 - b.count) / max 1 (freqInc b) * freqInc b }

/-- The clock edge nearest an instant `t` of the current second, both as ns after its boundary; a tie takes the earlier edge (R163). -/
def nearestEdge (grid w t : ℚ) : ℚ := grid + (ceilQ ((t - grid) / w - 1 / 2) : ℚ) * w

/-- The quantisation error of the edge at the end of the second that began at the device time `start`, ns (R163). -/
def edgeError (cfg : Bytes) (start : Nat) (k : Nat) (b : BelfryState) : ℚ :=
  let t : ℚ := 1000000000 - (timePpsAdv cfg k : ℚ)
  nearestEdge ((b.count : ℚ) * pow2 (-32) - (start : ℚ)) (freqWord b) t - t

/-- One cycle of device time ends at the boundary of `cycle`: y_slew moves OFFSET (R158), device time runs on, and at a long-cycle boundary the pulse edges
of that boundary are fixed. -/
def belfryCycle (cfg : Bytes) (cycle : Nat) (b : BelfryState) : BelfryState :=
  let b1 := if b.steered && b.originGnss then { b with offset := b.offset - b.ySlew / 50 } else b
  let b2 := if cycle % 50 = 0 then { b1 with qerr := Vector.ofFn fun i => edgeError cfg (cycle * 20000000 - 1000000000) i.val b1 } else b1
  utcKeep (cycle * 20000000 : Nat) (runTo (cycle * 20000000) b2)

/-- PPS outputs run (R159, R163). -/
def ppsOpen (cfg : Bytes) (b : BelfryState) : Bool := !timePpsGate cfg || (b.originGnss && b.timeValid)

/-- BLF_STATUS with a given STATE, EST_ERR and REISSUE (Table 6.6). -/
def statusWordOf (b : BelfryState) (st est : Nat) (reissue : Bool) : Nat :=
  let src := if st == 1 || st == 2 then b.source else if b.qualifying then b.qualSource else 0
  atF 29 3 st + atF 27 2 src + at1 26 reissue + at1 25 b.originGnss + at1 24 b.qualifying + at1 23 b.leapPending
    + atF 20 3 b.disc + min est 0xFFFFF

/-- BLF_STATUS (R167). -/
def blfStatus (b : BelfryState) : Nat := statusWordOf b b.state b.estErr false

/-- Nearest integer, a tie toward zero. -/
def roundTowardTie (q : ℚ) : Int := if 0 ≤ q then ceilQ (q - 1 / 2) else -(ceilQ (-q - 1 / 2))

/-- The TIMEQ message for the next edge (R164, Table 6.3). STATUS is laid out with bit 31 in byte 28 (log entry 21). -/
def timeqBytes (cfg : Bytes) (cycle us : Nat) (reissue : Bool) (b : BelfryState) : Bytes :=
  let left := 50 - cycle % 50
  let edge := cycle + left
  let off := if b.steered && b.originGnss then b.offset - b.ySlew * (left : ℚ) / 50 else b.offset
  let est := if b.held then holdErrAt cfg b (us + 20000 * left) else b.estErr
  let st := if b.state = 3 ∧ timeHoldLimit cfg < est then 4
    else if b.state = 2 ∧ absQ off < 20 then 1 else b.state
  leBytes 8 edge ++ leSigned 8 (20000000 * edge + roundAway off)
    ++ leSigned 2 (roundTowardTie (10 * edgeError cfg (cycle / 50 * 1000000000) 0 b)) ++ leSigned 2 (roundTowardTie (10 * edgeError cfg (cycle / 50 * 1000000000) 1 b))
    ++ (if b.originGnss then leSigned 4 (sat32 (roundAway off)) else leBytes 4 0x80000000)
    ++ leBytes 4 (min est (2 ^ 32 - 1)) ++ (leBytes 4 (statusWordOf b st est reissue)).reverse

/-- TIMEQ is computed, kept in BLF_TIMEQ and sent (R164). -/
def timeqSend (cfg : Bytes) (cycle us : Nat) (reissue : Bool) (b : BelfryState) : BelfryState × List Effect :=
  let m := timeqBytes cfg cycle us reissue b
  ({ b with timeq := m }, [.note 0xF030 none m])

/-- LANE_TICK_MARKER: the phase error of a lane and the correction of its divider (R160). -/
def laneMarker (lane : LaneId) (e : Int) (b : BelfryState) : BelfryState :=
  { b with
    laneDev := vmodN b.laneDev lane.num fun _ => clampI (-32768) 32767 e,
    laneCorr := vmodN b.laneCorr lane.num fun _ => clampQ (-2000) 2000 (-(e : ℚ) / 4) }

/-- LEAP_SECOND: the announced leap count takes effect at the end of the announced UTC day (R154). -/
def leapSecond (b : BelfryState) : BelfryState :=
  if b.leapPending then { b with leap := b.leapNext, leapPending := false } else b

/-- A leap second announced in the navigation message (R154). -/
def leapAnnounce (count : Nat) (b : BelfryState) : BelfryState :=
  { b with leapNext := count % 256, leapPending := decide (count % 256 ≠ b.leap) }

/-- The registers of Table 6.5 at their offsets; BLF_OFFSET_HI as latched. -/
def blfRead (us off : Nat) (b : BelfryState) : Nat :=
  if off = 0x00 then blfStatus b
  else if off = 0x04 then b.disc
  else if off = 0x08 then ofSigned 64 b.offsetNs % 2 ^ 32
  else if off = 0x0C then b.hiLatch
  else if off = 0x10 then ofSigned 32 b.stepLast
  else if off = 0x14 then atF 0 8 b.leap + atF 8 8 b.leapNext + at1 16 b.leapPending
  else if off = 0x18 then (if b.held then (us - b.holdFrom) / 1000000 else 0)
  else if off = 0x1C then ofSigned 16 (vget b.laneDev 1) * 65536 + ofSigned 16 (vget b.laneDev 0)
  else if 0x40 ≤ off ∧ off < 0x60 then u32 b.timeq (off - 0x40)
  else 0

/-- A read of BLF_OFFSET_LO latches BLF_OFFSET_HI (R166, as R49). -/
def offsetLatch (b : BelfryState) : BelfryState := { b with hiLatch := ofSigned 64 b.offsetNs / 2 ^ 32 }

/-- TIME_READ reply: the Belfry registers and BLF_TIMEQ (R474). -/
def timeReadReply (us : Nat) (b : BelfryState) : Bytes :=
  [0x00, 0x04, 0x08, 0x0C, 0x10, 0x14, 0x18, 0x1C].flatMap (fun o => leBytes 4 (blfRead us o b)) ++ b.timeq

/-! IEEE 1588 (R165). Ports are numbered in Table 4.4 order: ETH_LA_0, ETH_LA_1, ETH_LB_0, ETH_LB_1. -/

def ethIdx (p : EthPort) : Nat := 2 * p.lane.num + p.num.val

/-- The clockClass a master port announces. -/
def ptpClass (b : BelfryState) : Nat := if b.steered then 6 else if b.state = 3 then 7 else 248

/-- One offset measurement of a slave port: ((t2 - t1) - (t4 - t3)) / 2 is this clock less the master, so OFFSET is its negative
(IEEE 1588-2019, log entry 23). Measurements older than 16 s are dropped. -/
def ptpSample (us : Nat) (t1 t2 t3 t4 : Int) (p : PtpPort) : PtpPort :=
  let m : ℚ := -((((t2 - t1) - (t4 - t3) : Int) : ℚ) / 2)
  { p with samples := (us, m) :: p.samples.filter (fun x => decide (us < x.1 + 16000000)) }

def meanQ (l : List ℚ) : ℚ := if l.isEmpty then 0 else sumQ l / (l.length : ℚ)

/-- Standard deviation of the measured offset over 16 s (Table 6.1). -/
def ptpStd (p : PtpPort) : ℚ :=
  let m := meanQ (p.samples.map (·.2))
  fsqrt (meanQ (p.samples.map fun x => (x.2 - m) * (x.2 - m)))

/-- A port with the measurements of the last 16 s alone. -/
def recent16 (us : Nat) (p : PtpPort) : PtpPort := { p with samples := p.samples.filter fun x => decide (us < x.1 + 16000000) }

/-- The PTP source as Table 6.1 sees it at an instant in µs through the active lane's slave ports. -/
def ptpView (cfg : Bytes) (active : LaneId) (us : Nat) (b : BelfryState) : SourceView :=
  let port (k : Nat) : PtpPort := recent16 us (vget b.ports k)
  let ports := [2 * active.num, 2 * active.num + 1].filter fun k =>
    let p := port k
    bitOf k (timePtpSlave cfg) && (p.masterClass == 6 || p.masterClass == 7) && !p.samples.isEmpty
      && !decide ((timePtpErr cfg : ℚ) < ptpStd p)
  match ports with
  | k :: _ => ⟨3, true, ((port k).samples.head?.map (·.2)).getD 0, ptpStd (port k)⟩
  | [] => ⟨3, false, 0, 0⟩

/-- A PTP message at a port: message type of IEEE 1588 (0 Sync, 1 Delay_Req, 8 Follow_Up, 9 Delay_Resp, 11 Announce), sequence
number, the time it carries, its hardware receive timestamp (4 ns steps), the one-step flag, the clockClass of an Announce. A message of another domain
than PTP_DOMAIN is ignored by its receiver. A master port's times are device time plus OFFSET, in Follow_Up and in Delay_Resp alike. -/
def ptpMessage (cfg : Bytes) (port : EthPort) (us typ seq : Nat) (carried rx : Int) (oneStep : Bool) (cls : Nat)
    (b : BelfryState) : BelfryState × List Effect :=
  let k := ethIdx port
  let p := vget b.ports k
  let put := fun (q : PtpPort) => { b with ports := vmodN b.ports k fun _ => q }
  let rx4 : Int := rx / 4 * 4
  let ask := fun (q : PtpPort) => { q with t3 := some rx4 }
  let req : Effect := .out (.ptp port 1 (leBytes 2 seq))
  if bitOf k (timePtpSlave cfg) then
    if typ = 11 then (put { p with masterClass := cls }, [])
    else if typ = 0 then
      if oneStep then (put (ask { p with syncSeq := seq, t2 := rx4, t1 := some carried, t3 := none }), [req])
      else (put { p with syncSeq := seq, t2 := rx4, t1 := none, t3 := none }, [])
    else if typ = 8 ∧ seq = p.syncSeq then (put (ask { p with t1 := some carried }), [req])
    else if typ = 9 ∧ seq = p.syncSeq then
      match p.t1, p.t3 with
      | some a, some c => (put (ptpSample us a p.t2 c carried p), [])
      | _, _ => (b, [])
    else (b, [])
  else if bitOf k (timePtpMaster cfg) then
    if typ = 1 then (b, [.out (.ptp port 9 (leBytes 2 seq ++ leSigned 8 (rx4 + b.offsetNs)))]) else (b, [])
  else (b, [])

/-- PTP_SYNC_SEND: a master port sends Announce, two-step Sync and Follow_Up, once in 2^PTP_SYNC_LOG s (R165). -/
def ptpSync (cfg : Bytes) (port : EthPort) (us : Nat) (ns : Int) (b : BelfryState) : BelfryState × List Effect :=
  let k := ethIdx port
  if bitOf k (timePtpMaster cfg) && decide ((vget b.ports k).sendAt ≤ us) then
    let q := (vget b.ports k).sendSeq
    ({ b with ports := vmodN b.ports k fun p => { p with sendSeq := (q + 1) % 65536, sendAt := us + timePtpSync cfg } },
      [.out (.ptp port 11 (leBytes 1 (ptpClass b) ++ leBytes 1 (timePtpPrio cfg) ++ leBytes 1 (timePtpDomain cfg))),
       .out (.ptp port 0 (leBytes 2 q)),
       .out (.ptp port 8 (leBytes 2 q ++ leSigned 8 (ns / 4 * 4 + b.offsetNs)))])
  else (b, [])

/-! The origin (R153). -/

/-- The source with 10 consecutive valid epochs that comes first in the order of R155. -/
def originSource (master : Bool) (b : BelfryState) : Option Nat :=
  (sourceOrder master).find? fun s => decide (10 ≤ vget b.originRun s)

/-- Case 1: the device time and origin flag of a running module are adopted, with the uncertainty of Baique time (R626). -/
def originAdopt (gnss : Bool) (unc : ℚ) (b : BelfryState) : BelfryState :=
  { b with originSet := true, originGnss := gnss, state := 1, source := 2, unc := unc }
/-- Case 2: device time is set equal to GPS time. -/
def originFromSource (src : Nat) (b : BelfryState) : BelfryState :=
  { b with originSet := true, originGnss := true, offset := 0, state := 1, source := src, unc := vget b.originUnc src }
/-- Case 3: the origin is the start-up instant. -/
def originFree (b : BelfryState) : BelfryState :=
  { b with originSet := true, originGnss := false, state := 5, source := 0 }

end Sys2Proof.Machine
end

