-- ==== Sys2Proof/Machine/Counters.lean ====
section
/-! DEFINITION. The counter set and the bandwidth windows of one lane (chapter 20): state and pure functions. -/

namespace Sys2Proof.Machine

/-- One counter (Tables 20.1 to 20.3). -/
structure Counter where
  value  : Nat := 0
  ovf    : Bool := false
  enable : Bool := false
  mode   : Bool := false
  chain  : Bool := false
  gate   : Nat := 0
  any    : Bool := true
  qual   : Nat := 0
  event  : Nat := 0
  /-- CNT_VALUE as latched by a read of the low counter of its pair (R521). -/
  latch  : Option Nat := none
  deriving DecidableEq, Repr, Inhabited

/-- The privileged counters at every wake of their lane (Table 20.5, R522). -/
def privCounter (k : Nat) : Counter :=
  match k with
  | 56 => { enable := true, event := 0x0A01 }
  | 57 => { enable := true, event := 0x0101 }
  | 58 => { enable := true, event := 0x0A01, any := false, qual := 4 }
  | 59 => { enable := true, event := 0x0303 }
  | 60 => { enable := true, event := 0x0802 }
  | 61 => { enable := true, event := 0x0901 }
  | 62 => { enable := true, event := 0x0902 }
  | 63 => { enable := true, event := 0x0102 }
  | _ => {}

/-- The 64 counters at reset. -/
def countersReset : Vector Counter 64 := Vector.ofFn fun i => privCounter i.val

/-- The registers of one bandwidth window (R526), and the sums of the current long cycle and cycle. -/
structure BwWindow where
  bwIn   : Nat := 0
  bwOut  : Nat := 0
  peak   : Nat := 0
  frames : Nat := 0
  drops  : Nat := 0
  curIn  : Nat := 0
  curOut : Nat := 0
  curFrames : Nat := 0
  curDrops : Nat := 0
  /-- Bytes received in the current control cycle. -/
  cycIn  : Nat := 0
  /-- Bytes have come in through the port; ETH_LINK shows it (Table 4.13, log entry 70). -/
  heard  : Bool := false
  deriving DecidableEq, Repr, Inhabited

/-- The highest qualifier of an event (Table 20.4); none for an event without one, and none outside the table. -/
def eventQual (ev : Nat) : Option (Option Nat) :=
  if ev % 256 = 0xF0 ∧ 1 ≤ ev / 256 ∧ ev / 256 ≤ 0x0C then some none
  else match ev with
    | 0x0101 | 0x0102 => some none
    | 0x0103 | 0x0104 | 0x0105 | 0x0106 => some (some 3)
    | 0x0201 => some (some 31)
    | 0x0202 | 0x0203 | 0x0204 => some none
    | 0x0301 => some (some 8)
    | 0x0302 => some none
    | 0x0303 => some (some 13)
    | 0x0304 | 0x0305 => some none
    | 0x0401 | 0x0402 | 0x0403 | 0x0404 => some none
    | 0x0501 | 0x0502 => some (some 11)
    | 0x0503 => some none
    | 0x0601 | 0x0602 | 0x0603 | 0x0604 | 0x0605 | 0x0606 | 0x0607 | 0x0608 | 0x0609 | 0x060A | 0x060B => some (some 3)
    | 0x0701 | 0x0702 | 0x0703 | 0x0704 | 0x0705 => some (some 255)
    | 0x0706 | 0x0707 | 0x0708 => some (some 9)
    | 0x0801 | 0x0802 => some none
    | 0x0901 | 0x0902 => some none
    | 0x0903 => some (some 2)
    | 0x0A01 => some (some 5)
    | 0x0A02 | 0x0A03 => some none
    | 0x0B01 | 0x0B02 => some none
    | 0x0B03 => some (some 3)
    | 0x0B04 => some none
    | 0x0C01 => some none
    | 0x0C02 => some (some 1)
    | 0x0C03 | 0x0C04 | 0x0C05 | 0x0C06 => some none
    | _ => none

/-- GATE admits counting in the present lane state (Table 20.2). The reserved value 3 admits none (log entry 9). -/
def gateOpen (g : Nat) (active : Bool) : Bool :=
  match g with
  | 0 => true
  | 1 => active
  | 2 => !active
  | _ => false

/-- Whether counter `k` wraps: privileged, the low one of a chained pair, or MODE 1 (Table 20.2). -/
def wraps (cs : Vector Counter 64) (k : Nat) : Bool :=
  decide (56 ≤ k) || (decide (k % 2 = 0) && (vget cs (k + 1)).chain) || (vget cs k).mode

/-- Add `n` to counter `k`; answers the counter and its carries. A wrap of the low counter of a chained pair sets no OVF (R521). -/
def bump (cs : Vector Counter 64) (k n : Nat) : Counter × Nat :=
  let c := vget cs k
  let v := c.value + n
  if v < 2 ^ 32 then ({ c with value := v }, 0)
  else if wraps cs k then
    let low := decide (k % 2 = 0) && (vget cs (k + 1)).chain
    ({ c with value := v % 2 ^ 32, ovf := c.ovf || !low }, v / 2 ^ 32)
  else ({ c with value := 2 ^ 32 - 1, ovf := true }, 0)

/-- Whether counter `k` counts event `ev` with qualifier `q` (R517, R519). -/
def matchesEvent (c : Counter) (active : Bool) (ev q : Nat) : Bool :=
  c.enable && gateOpen c.gate active && !c.chain && c.event == ev &&
  (c.any || c.qual == q || (eventQual ev == some none))

/-- One step of R519 to R521 at counter `k`: its increments, then the carry into a chained partner. -/
def countAt (active : Bool) (ev q n : Nat) (cs : Vector Counter 64) (k : Nat) : Vector Counter 64 :=
  if matchesEvent (vget cs k) active ev q then
    let (c, carry) := bump cs k n
    let cs1 := vmodN cs k fun _ => c
    let p := vget cs1 (k + 1)
    if k % 2 = 0 ∧ p.chain ∧ p.enable ∧ gateOpen p.gate active ∧ 0 < carry then
      vmodN cs1 (k + 1) fun _ => (bump cs1 (k + 1) carry).1
    else cs1
  else cs

/-- `n` occurrences of an event, into every counter that watches it (R519). -/
def countEvent (active : Bool) (ev q n : Nat) (cs : Vector Counter 64) : Vector Counter 64 :=
  (List.range 64).foldl (countAt active ev q n) cs

/-- CNT_CONFIG_k as read (Table 20.2). -/
def cntConfigWord (cs : Vector Counter 64) (k : Nat) : Nat :=
  let c := vget cs k
  at1 31 c.enable + at1 30 (wraps cs k) + at1 29 c.chain + atF 27 2 c.gate + at1 24 c.any + atF 16 8 c.qual + atF 0 16 c.event

/-- CNT_STATUS_k (Table 20.3). -/
def cntStatusWord (cs : Vector Counter 64) (active : Bool) (k : Nat) : Nat :=
  let c := vget cs k
  at1 31 c.ovf + at1 30 (decide (56 ≤ k)) + at1 29 c.chain + at1 28 (c.enable && gateOpen c.gate active) + atF 0 16 c.event

/-- A write of CNT_CONFIG_k (R517): a change of EVENT, QUAL or CHAIN clears the value and OVF. -/
def cntConfigWrite (k w : Nat) (cs : Vector Counter 64) : Vector Counter 64 :=
  vmodN cs k fun c =>
    let chain := decide (k % 2 = 1) && decide (k ≤ 55) && bitOf 29 w
    let ev := bitsOf 15 0 w
    let q := bitsOf 23 16 w
    let fresh := decide (ev ≠ c.event) || decide (q ≠ c.qual) || (chain != c.chain)
    { c with
      enable := bitOf 31 w, mode := bitOf 30 w, chain := chain, gate := bitsOf 28 27 w, any := bitOf 24 w,
      qual := q, event := ev,
      value := if fresh then 0 else c.value, ovf := if fresh then false else c.ovf }

/-- The configuration names an event of Table 20.4 and a qualifier in its range (R517); the EVENT of a chained counter is not looked at. -/
def cntConfigOk (k w : Nat) : Bool :=
  (decide (k % 2 = 1) && decide (k ≤ 55) && bitOf 29 w) || match eventQual (bitsOf 15 0 w) with
  | none => false
  | some none => true
  | some (some m) => bitOf 24 w || decide (bitsOf 23 16 w ≤ m)

/-- Clear the counters named in a 64-bit mask (R516). -/
def cntClear (mask : Nat) (cs : Vector Counter 64) : Vector Counter 64 :=
  Vector.ofFn fun i => if bitOf i.val mask then { cs[i] with value := 0, ovf := false } else cs[i]

/-- A read of CNT_VALUE_k: the latched value of the high counter of a pair once, and a low read latches its partner (R521). -/
def cntValueRead (k : Nat) (cs : Vector Counter 64) : Nat × Vector Counter 64 :=
  let c := vget cs k
  if k % 2 = 0 ∧ (vget cs (k + 1)).chain then
    (c.value, vmodN cs (k + 1) fun p => { p with latch := some p.value })
  else
    match c.latch with
    | some v => (v, vmodN cs k fun p => { p with latch := none })
    | none => (c.value, cs)

/-- Read a run of counters, low ones first (R521): value word then status word of each. -/
def cntRead (active : Bool) : Nat → Nat → Vector Counter 64 → Bytes × Vector Counter 64
  | 0, _, cs => ([], cs)
  | n + 1, k, cs =>
    let (v, cs1) := cntValueRead k cs
    let (rest, cs2) := cntRead active n (k + 1) cs1
    (leBytes 4 v ++ leBytes 4 (cntStatusWord cs1 active k) ++ rest, cs2)

/-- Traffic of one frame through a port (R526). -/
def bwFrame (inBytes outBytes frames drops : Nat) (w : BwWindow) : BwWindow :=
  { w with curIn := w.curIn + inBytes, curOut := w.curOut + outBytes, curFrames := w.curFrames + frames,
           curDrops := w.curDrops + drops, cycIn := w.cycIn + inBytes, heard := w.heard || decide (0 < inBytes) }

/-- The end of a control cycle: BW_PEAK (R526). -/
def bwCycleEnd (w : BwWindow) : BwWindow := { w with peak := max w.peak w.cycIn, cycIn := 0 }

/-- The long-cycle boundary: the windows change (R526). -/
def bwLongEnd (w : BwWindow) : BwWindow :=
  { w with bwIn := w.curIn % 2 ^ 32, bwOut := w.curOut % 2 ^ 32, frames := min 0xFFFF w.curFrames, drops := min 0xFFFF w.curDrops,
           curIn := 0, curOut := 0, curFrames := 0, curDrops := 0 }

/-- BW_FRAMES (R526). -/
def bwFramesWord (w : BwWindow) : Nat := atF 16 16 w.frames + atF 0 16 w.drops

/-- The index of a port in the window lists: 0 to 18 own, 32 to 50 remote (R527). -/
def bwIndex (port : Nat) : Option (Bool × Nat) :=
  if port ≤ 18 then some (false, port) else if 32 ≤ port ∧ port ≤ 50 then some (true, port - 32) else none

end Sys2Proof.Machine
end

