-- ==== Sys2Proof/Machine/HostUnit.lean ====
section
/-! DEFINITION. Command packets, channels, sessions, token, journal and notifications (chapter 16): state and pure functions. -/

namespace Sys2Proof.Machine

/-- A received command packet, with where and when it arrived (R433, R435). -/
structure Packet where
  raw   : Bytes
  src   : Source
  /-- The Ethernet port, or none on the service port. -/
  port  : Option EthPort
  cycle : Nat
  tick  : Nat
  deriving DecidableEq, Repr, Inhabited

def Packet.flags (p : Packet) : Nat := u8 p.raw 3
def Packet.opcode (p : Packet) : Nat := u16 p.raw 4
def Packet.tag (p : Packet) : Nat := u16 p.raw 6
def Packet.seq (p : Packet) : Nat := u32 p.raw 8
def Packet.paramLen (p : Packet) : Nat := u16 p.raw 12
def Packet.station (p : Packet) : Nat := u16 p.raw 16
def Packet.epoch (p : Packet) : Nat := u16 p.raw 18
def Packet.validUntil (p : Packet) : Nat := u32 p.raw 20
def Packet.params (p : Packet) : Bytes := sliceB p.raw 24 p.paramLen
/-- The trailing CRC-32C. -/
def Packet.crc (p : Packet) : Nat := u32 p.raw (24 + p.paramLen)
/-- VU: VALID_UNTIL is in force (Table 16.2). -/
def Packet.vu (p : Packet) : Bool := bitOf 0 p.flags
/-- RESUB (Table 16.2). -/
def Packet.resub (p : Packet) : Bool := bitOf 1 p.flags

/-- The checks of R436 that discard a packet without a reply. -/
def packetSound (raw : Bytes) : Bool :=
  decide (28 ≤ raw.length) && u16 raw 0 == 0xA960 && decide (raw.length = 28 + u16 raw 12) && decide (u16 raw 12 ≤ 1024) &&
  (crc32c (raw.take (24 + u16 raw 12)) == u32 raw (24 + u16 raw 12)) &&
  decide (u16 raw 16 ≠ 0) && decide (u16 raw 16 ≠ 0xFFFF) && !bitOf 2 (u8 raw 3) && !bitOf 15 (u16 raw 4)

/-- A session of a channel (R437). -/
structure Session where
  src       : Source
  /-- The Ethernet port on which it was opened: its notifications leave by it (log entry 55). -/
  port      : EthPort
  station   : Nat
  timeoutMs : Nat
  mask      : Nat
  eng       : Bool
  /-- µs of the last valid packet (R438). -/
  lastUs    : Nat
  /-- The SESSION_OPEN packet that opened it, byte for byte. -/
  openRaw   : Bytes
  /-- A command has arrived on the session since. -/
  anyCmd    : Bool
  deriving DecidableEq, Repr, Inhabited

/-- A reply in the cache of a channel (R439). -/
structure CachedReply where
  seq : Nat
  crc : Nat
  raw : Bytes
  deriving DecidableEq, Repr, Inhabited

/-- A notification held in a channel's ring (R452, R454). -/
structure HeldNote where
  num     : Nat
  code    : Nat
  tag     : Nat
  payload : Bytes
  cycle   : Nat
  epoch   : Nat
  deriving DecidableEq, Repr, Inhabited

/-- What becomes of a command after its journal entry (Table 16.5). -/
inductive CmdKind where
  | boundary | laneAction | watchtower | read | session | refusal
  deriving DecidableEq, Repr, Inhabited

/-- A command that is journalled and not yet answered. -/
structure InFlight where
  pkt     : Packet
  kind    : CmdKind
  jsn     : Nat
  ssn     : Nat
  status  : Nat
  reply   : Bytes
  /-- The boundary the entry names, for a boundary setting. -/
  boundary : Option Nat
  waitMirror : Bool
  waitHold   : Bool
  /-- A Watchtower action that has been forwarded and awaits its result (R449). -/
  forwarded  : Bool
  /-- The answer of the Watchtower, or of Oculus, is there. -/
  result     : Bool
  /-- The reply is one sent again (R461). -/
  replay     : Bool
  /-- µs at which the JOURNAL frame left both ports (R460). -/
  sentUs     : Nat
  deriving DecidableEq, Repr, Inhabited

/-- One host channel, or the service port (R437, R439). -/
structure Channel where
  session   : Option Session := none
  base      : Nat := 1
  buf       : List Packet := []
  inFlight  : Option InFlight := none
  cache     : List CachedReply := []
  flowDrop  : Nat := 0
  seqConflict : Nat := 0
  dup       : Nat := 0
  discards  : Nat := 0
  nextNote  : Nat := 1
  notes     : List HeldNote := []
  /-- The TOKEN_REQUEST at the head has been held and may be decided (R443). -/
  tokenReady : Bool := false
  /-- The head waits until tick 0 of a later cycle (R447). -/
  heldUntil : Option Nat := none
  deriving DecidableEq, Repr, Inhabited

/-- A journal entry (Table 16.6). -/
structure JournalEntry where
  jsn     : Nat
  ssn     : Nat
  kind    : Nat
  done    : Bool
  chan    : Nat
  seq     : Nat
  station : Nat
  opcode  : Nat
  tag     : Nat
  status  : Nat
  cycle   : Nat
  tick    : Nat
  params  : Bytes
  boundary : Nat
  crc     : Nat
  reply   : Bytes
  epoch   : Nat
  /-- The packet's return path, kept for the replay of R456 (log entry 20). -/
  src     : Source
  port    : Option EthPort
  deriving DecidableEq, Repr, Inhabited

/-- The bytes an entry holds in the ring (R450, Table 16.6). -/
def JournalEntry.size (e : JournalEntry) : Nat := 64 + (padMul 8 e.params).length + (padMul 8 (e.reply.take 256)).length

/-- A system entry as every module keeps it for 500 cycles (R461). -/
structure SysEntry where
  ssn     : Nat
  station : Nat
  opcode  : Nat
  tag     : Nat
  crc     : Nat
  status  : Nat
  boundary : Nat
  reply   : Bytes
  cycle   : Nat
  deriving DecidableEq, Repr, Inhabited

/-- A recorded result of a Watchtower action, keyed by STATION, channel and SEQ (R449). -/
structure WtRecord where
  station : Nat
  chan    : Nat
  seq     : Nat
  status  : Nat
  reply   : Bytes
  deriving DecidableEq, Repr, Inhabited

/-- A Watchtower action on its way from a lane's mailbox or the service port (R440). -/
structure WtAction where
  /-- The sending lane; none for the service port. -/
  lane    : Option LaneId
  port    : HostPort
  pkt     : Packet
  deriving DecidableEq, Repr, Inhabited

/-- A setting staged for a boundary (R57 step 5), in acceptance order. A lane keeps one list of them: each island's staging bank (R54) holds those that
concern it, and the copies of one setting change at one boundary (DESIGN CHOICE, log entry 78). -/
structure Staged where
  boundary : Nat
  jsn     : Nat
  ssn     : Nat
  opcode  : Nat
  params  : Bytes
  station : Nat
  chan    : Nat
  tag     : Nat
  eng     : Bool
  deriving DecidableEq, Repr, Inhabited

/-- The token (R442). -/
structure TokenState where
  holder : Nat := 0
  epoch  : Nat := 0
  /-- µs since which the holder has had no open session. -/
  lostUs : Option Nat := none
  deriving DecidableEq, Repr, Inhabited

/-- The host side of one module (chapter 16). -/
structure HostState where
  chans   : Vector Channel 4 := Vector.replicate 4 {}
  svc     : Channel := {}
  svcReply : Option Bytes := none
  /-- SESSION_OPEN packets that wait, in arrival order (R440), and refused ones whose reply waits for the mirror. -/
  opens   : List Packet := []
  openWait : List InFlight := []
  token   : TokenState := {}
  jsn     : Nat := 0
  ssn     : Nat := 0
  /-- Journal bytes and COMMAND entries written in the current cycle (R447). -/
  bytes   : Nat := 0
  cmds    : Nat := 0
  /-- The tick whose round is under way and how many channels of it have been visited (R440). -/
  roundTick : Nat := 0
  roundPos  : Nat := 0
  /-- Results of the last 32 commands the Watchtower executed for each lane, oldest first (R449). -/
  recA    : List WtRecord := []
  recB    : List WtRecord := []
  /-- Forwarded Watchtower actions in arrival order. -/
  wtQueue : List WtAction := []
  sys     : List SysEntry := []
  /-- Boundaries held by an engineering write (R60, R447). -/
  engBoundaries : List Nat := []
  /-- Each GNSS_NOISE_REF that awaits its 100 ms average: channel, mask, action and µs of acceptance (R141). -/
  noiseWait : List (HostPort × Nat × Nat × Nat) := []
  deriving DecidableEq, Repr, Inhabited

/-- The next SEQ after `n`, wrapping from 2^32 - 1 to 1 (R439). -/
def nextSeq (n : Nat) : Nat := if 2 ^ 32 - 1 ≤ n then 1 else n + 1

/-- SEQ - BASE modulo 2^32 (R439). -/
def seqDist (seq base : Nat) : Nat := (seq + 2 ^ 32 - base % 2 ^ 32) % 2 ^ 32

/-- The command at the head of a channel, in SEQ order, not yet examined (R439). -/
def Channel.head (c : Channel) : Option Packet :=
  match c.inFlight with
  | some _ => none
  | none => c.buf.find? (fun p => p.seq == c.base)

/-- The channel has a ready command in `cycle` (R440, R447). -/
def Channel.ready (c : Channel) (cycle : Nat) : Bool :=
  c.head.isSome && (match c.heldUntil with
    | none => true
    | some n => decide (n ≤ cycle))

/-- Position of channel `c` in the round of tick `t` (R440). -/
def roundPosOf (t : Nat) (c : Fin 4) : Nat := (c.val + 4 - t % 4) % 4

/-- How many channels of the present round are already visited. -/
def HostState.visited (h : HostState) (tick : Nat) : Nat := if h.roundTick = tick then h.roundPos else 0

/-- The ready channels at position `k` or later in the round. -/
def HostState.readyFrom (h : HostState) (cycle tick k : Nat) : List (Fin 4) :=
  [0, 1, 2, 3].filter fun c => h.chans[c].ready cycle && decide (k ≤ roundPosOf tick c)

/-- Channel `c` is the next one a visit serves (R440). -/
def HostState.atTurn (h : HostState) (cycle tick : Nat) (c : Fin 4) : Bool :=
  let k := h.visited tick
  let rest := h.readyFrom cycle tick k
  let pool := if rest.isEmpty && h.opens.isEmpty then h.readyFrom cycle tick 0 else rest
  h.chans[c].ready cycle && pool.contains c && pool.all (fun d => decide (roundPosOf tick c ≤ roundPosOf tick d))

/-- A waiting SESSION_OPEN is served after the channels of a round (R440). -/
def HostState.openTurn (h : HostState) (cycle tick : Nat) : Bool :=
  !h.opens.isEmpty && (h.readyFrom cycle tick (h.visited tick)).isEmpty

/-- The visit of channel `c` is over. -/
def HostState.visit (h : HostState) (tick : Nat) (c : Fin 4) : HostState :=
  { h with roundTick := tick, roundPos := roundPosOf tick c + 1 }

/-- The size of an entry as R447 takes it before step 1. -/
def heldSize (p : Packet) : Nat := 64 + (padMul 8 p.params).length + 256

/-- FLAGS of a reply or notification (Table 16.2). -/
def outFlags (replay : Bool) (lane : LaneId) (module : Nat) (notify : Bool) : Nat :=
  at1 6 replay + atF 5 1 lane.num + atF 3 2 module + at1 2 notify

/-- A packet from its fields, with its trailing CRC-32C (Table 16.1). -/
def packetBytes (flags opcode tag seq status station epoch vu : Nat) (params : Bytes) : Bytes :=
  let body := leBytes 2 0xA960 ++ [1, BitVec.ofNat 8 flags] ++ leBytes 2 opcode ++ leBytes 2 tag ++ leBytes 4 seq ++
    leBytes 2 params.length ++ leBytes 2 status ++ leBytes 2 station ++ leBytes 2 epoch ++ leBytes 4 vu ++ params
  body ++ leBytes 4 (crc32c body)

/-- The reply to a packet (R435, Table 16.1). -/
def replyBytes (p : Packet) (flags status epoch cycle : Nat) (params : Bytes) : Bytes :=
  packetBytes flags (p.opcode + 0x8000) p.tag p.seq status p.station epoch (cycle % 2 ^ 32) params

/-- A packet sent again with REPLAY set (Table 16.2): FLAGS bit 6 and a fresh trailing CRC. -/
def withReplay (raw : Bytes) : Bytes :=
  let body := patchB (raw.take (raw.length - 4)) 3 [BitVec.ofNat 8 (u8 raw 3 ||| 64)]
  body ++ leBytes 4 (crc32c body)

/-- The class of a notification code (Table 17.14). -/
def noteClass (code : Nat) : Nat :=
  if code = 0xF001 then 0
  else if 0xF010 ≤ code ∧ code ≤ 0xF01F then 1
  else if 0xF020 ≤ code ∧ code ≤ 0xF02F then 2
  else if code = 0xF030 then 3
  else 4

/-- The subscription mask selects a class; class 0 is always on (R453). -/
def subscribed (mask cls : Nat) : Bool := decide (cls = 0) || bitOf cls mask

/-- Put a packet of an open session in its place (R439): the reply that is sent again, and the channel. -/
def channelTake (p : Packet) (us : Nat) (c : Channel) : Option Bytes × Channel :=
  let touched := { c with session := c.session.map fun s => { s with lastUs := us, anyCmd := true } }
  match c.cache.find? (fun r => r.seq == p.seq) with
  | some r =>
    if r.crc == p.crc then (some (withReplay r.raw), touched)
    else (none, { touched with seqConflict := (c.seqConflict + 1) % 2 ^ 32 })
  | none =>
    if 64 ≤ seqDist p.seq c.base ∨ p.seq = 0 then (none, { touched with flowDrop := (c.flowDrop + 1) % 2 ^ 32 })
    else if c.buf.any (fun q => q.seq == p.seq) ∨ (c.inFlight.map (fun f => f.pkt.seq)) = some p.seq then
      (none, { touched with dup := (c.dup + 1) % 2 ^ 32 })
    else (none, { touched with buf := c.buf ++ [p] })

/-- The head of a channel is answered: BASE moves on and the reply is cached, the last 64 SEQ values (R439). -/
def channelAnswer (p : Packet) (raw : Bytes) (c : Channel) : Channel :=
  { c with
    base := nextSeq c.base
    buf := c.buf.filter (fun q => q.seq != p.seq)
    inFlight := none
    tokenReady := false
    heldUntil := none
    cache := (c.cache ++ [(⟨p.seq, p.crc, raw⟩ : CachedReply)]).drop (c.cache.length + 1 - 64) }

/-- Notifications up to `n` are freed (R454). -/
def channelAck (n : Nat) (c : Channel) : Channel :=
  { c with notes := c.notes.filter fun h => !(h.num == n || later32 n h.num) }

/-- Append entries to a journal ring of 512 KiB: the oldest ones leave (R450). -/
def trimJournal : Nat → List JournalEntry → List JournalEntry
  | 0, j => j
  | n + 1, j => if 524288 < (j.map JournalEntry.size).sum then trimJournal n (j.drop 1) else j

def journalAdd (e : JournalEntry) (j : List JournalEntry) : List JournalEntry :=
  trimJournal (j.length + 1) (j ++ [e])

/-- Replace the entry of the same JSN, or add it. -/
def journalSet (e : JournalEntry) (j : List JournalEntry) : List JournalEntry :=
  if j.any (fun x => x.jsn == e.jsn) then j.map (fun x => if x.jsn == e.jsn then e else x) else journalAdd e j

/-- The next EPOCH, wrapping from 0xFFFF to 1 (R442). -/
def nextEpoch (n : Nat) : Nat := if 0xFFFF ≤ n then 1 else n + 1

/-- The record of an earlier execution of a command (R449). -/
def HostState.recorded (h : HostState) (station chan seq : Nat) : Option WtRecord :=
  (h.recA ++ h.recB).find? fun r => r.station == station && r.chan == chan && r.seq == seq

/-- Keep a result for a lane, the last 32 (R449). -/
def HostState.record (h : HostState) (lane : LaneId) (r : WtRecord) : HostState :=
  match lane with
  | .A => { h with recA := (h.recA ++ [r]).drop (h.recA.length + 1 - 32) }
  | .B => { h with recB := (h.recB ++ [r]).drop (h.recB.length + 1 - 32) }

/-- Update a channel or the service port. -/
def HostState.modPort (h : HostState) (p : HostPort) (f : Channel → Channel) : HostState :=
  match p with
  | .chan c => { h with chans := vmod h.chans c f }
  | .svc => { h with svc := f h.svc }

/-- The channel behind a port. -/
def HostState.port (h : HostState) (p : HostPort) : Channel :=
  match p with
  | .chan c => h.chans[c]
  | .svc => h.svc

/-- A station has an open session on a host channel. -/
def HostState.hasSession (h : HostState) (station : Nat) : Bool :=
  h.chans.toList.any fun c => (c.session.map Session.station) == some station

/-- Since when the holder has had no open session (R442). -/
def HostState.syncToken (us : Nat) (h : HostState) : HostState :=
  { h with token := { h.token with lostUs :=
      if h.token.holder = 0 ∨ h.hasSession h.token.holder = true then none else h.token.lostUs.orElse fun _ => some us } }

end Sys2Proof.Machine
end

