-- ==== Sys2Proof/Machine/FilterUnit.lean ====
section
/-! DEFINITION. The filter island of one lane (chapter 7): resampler, decimators, conversion, cross-fade, detectors, summaries, sea-state band. -/

namespace Sys2Proof.Machine

/-! The FILTER_COEFFS section (Tables 7.5 to 7.7). -/
def fcExcMv (c : Bytes) : Nat := u16 c 4
def fcExcPhase (c : Bytes) : Nat := u16 c 6
/-- Input entry of AIN_A_01 = 1 to AIN_B_12 = 24. -/
def fcInput (c : Bytes) (k : Nat) : Bytes := sliceB c (64 + 16 * (k - 1)) 16
def inMode (e : Bytes) : Nat := u8 e 0
def inShunt (e : Bytes) : Nat := u16 e 2
def inResNom (e : Bytes) : Nat := u16 e 4
/-- Configuration `n`: header and coefficient words (Table 7.6). -/
def fcConfig (c : Bytes) (n : Nat) : Bytes :=
  let o := u32 c (576 + 4 * n)
  if o = 0 then [] else sliceB c o (64 + 4 * ((u16 c (o + 6) + 1) / 2))
/-- Prototype `p`: 513 words (Table 7.5). -/
def fcProto (c : Bytes) (p : Nat) : Bytes := sliceB c (832 + 2112 * p) 2112
def cfOutput (e : Bytes) := u8 e 0
def cfDest (e : Bytes) := u8 e 1
def cfDc (e : Bytes) := u8 e 2
def cfProtoNum (e : Bytes) := u8 e 3
def cfDf (e : Bytes) := u16 e 4
def cfTaps (e : Bytes) := u16 e 6
def cfPhase (e : Bytes) := u16 e 8
def cfPubDiv (e : Bytes) := u8 e 10
def cfXfade (e : Bytes) := u8 e 11
def cfDcShift (e : Bytes) := u8 e 12
def cfEnvShift (e : Bytes) := u8 e 13
def cfWin (e : Bytes) := u16 e 14
def cfScale (e : Bytes) : ℚ := q16 e 16
def cfAdd (e : Bytes) : ℚ := q16 e 20
def cfDelayNs (e : Bytes) := u32 e 24
/-- D = DC x DF, grid points per output (R174). -/
def cfD (e : Bytes) := cfDc e * cfDf e

/-- One coefficient plane of an input with the memories of its chain from stage 3 on; `gridB` and `decB` are the RES_COS partner's. -/
structure FiltPlane where
  entry : Bytes := []
  /-- The channels fed, each with its configuration and that one's index; `conf` is the first channel's, empty while no channel is fed. -/
  alts  : List (Nat × Nat × Bytes) := []
  conf  : Bytes := []
  proto : Bytes := []
  /-- Stage 3 outputs, newest first. -/
  grid  : List Int := []
  gridB : List Int := []
  /-- Stage 4a outputs, newest first. -/
  dec   : List Int := []
  decB  : List Int := []
  /-- Grid points processed since the plane was loaded (R179), and the latest one, counted from device time 0. -/
  fed   : Nat := 0
  upTo  : Option Nat := none
  deriving DecidableEq, Repr, Inhabited

/-- The memories of stages 0 to 2 of one input (Table 7.3). -/
structure FrontEnd where
  /-- Modulator bits, newest first. -/
  bits   : List Bool := []
  /-- Stage 1 and stage 1r outputs, newest first. -/
  dec    : List Int := []
  demod  : List Int := []
  /-- Stage 1 samples formed, modulo 5: the phase of the excitation. -/
  step   : Nat := 0
  /-- Stage 2 outputs with their device time in 10 ns, oldest first (R172): those of the chain without stage 1r, and of the one with it. -/
  s2     : List (Nat × Int) := []
  s2r    : List (Nat × Int) := []
  /-- Consecutive stage 1 outputs at or above 0.98 and below 0.95 of full scale, and OVER_RANGE as they leave it (Table 7.2). -/
  high   : Nat := 0
  low    : Nat := 0
  overR  : Bool := false
  deriving DecidableEq, Repr, Inhabited

/-- Partial sums of one cycle of an input's outputs (R181). -/
structure CyclePart where
  count : Nat := 0
  max   : Int := 0
  min   : Int := 0
  sumSq : Nat := 0
  env   : Int := 0
  faulted : Bool := false
  deriving DecidableEq, Repr, Inhabited

/-- The window of one input (R181, R183), in Q16.16. -/
structure InSummary where
  max : Int := 0
  min : Int := 0
  rms : Int := 0
  env : Int := 0
  valid : Bool := false
  deriving DecidableEq, Repr, Inhabited

/-- One analogue input. -/
structure FiltInput where
  front   : FrontEnd := {}
  plane   : FiltPlane := {}
  /-- The inactive plane, loaded during installation (R179). -/
  next    : Option FiltPlane := none
  /-- The plane in force before the last commit, which a cross-fade leaves, the weight at which the fade began, its output count and its XFADE (R180). -/
  old     : Option FiltPlane := none
  fadeFrom : ℚ := 0
  fadeK   : Nat := 0
  fadeLen : Nat := 0
  /-- Faults of Table 7.2: OVER_RANGE, LOOP_LOW, LOOP_HIGH, RES_AMPL. -/
  faults  : Vector Bool 4 := Vector.replicate 4 false
  /-- The same as the conditions of Table 7.2 stand: raised and not yet cleared by the samples. -/
  cond    : Vector Bool 4 := Vector.replicate 4 false
  /-- Microseconds for which q has been below 3.6 mA, above 21.0 mA, and from 3.8 to 20.5 mA; stage 4 outputs with the amplitude out and within. -/
  lowUs   : Nat := 0
  highUs  : Nat := 0
  loopUs  : Nat := 0
  ampOut  : Nat := 0
  ampIn   : Nat := 0
  sat     : Bool := false
  last    : Int := 0
  mean    : Int := 0
  env     : Int := 0
  cur     : CyclePart := {}
  /-- Partial sums of past cycles, newest first, at most 3,000. -/
  ring    : List CyclePart := []
  sum     : InSummary := {}
  faultCount : Nat := 0
  deriving DecidableEq, Repr, Inhabited

/-- The filter island of one lane. -/
structure FilterState where
  inputs  : Vector FiltInput 12 := Vector.replicate 12 {}
  /-- Cycle and summaries of the other lane (R183). -/
  remote  : Option (Nat × List InSummary) := none
  /-- A summary that waits on Q16 for the queue forwarder. -/
  q16     : Option (Nat × List InSummary) := none
  localCycle : Nat := 0
  seaS    : Int := 0
  band    : Nat := 0
  /-- A handoff has set the band (R186). -/
  started : Bool := false
  rise    : Nat := 0
  fall    : Nat := 0
  bandDefault : Bool := false
  validCount : Nat := 0
  remoteMissing : Bool := false
  /-- The 8 entries of Q08 and their held marker (R187, R65). -/
  q08     : List Nat := List.replicate 8 0
  q08Held : Bool := false
  excFault : Bool := false
  /-- The excitation output: amplitude in mV RMS and lag of the reference in 0.1 degree (R168). -/
  excMv   : Nat := 0
  excPhase : Nat := 0
  deriving DecidableEq, Repr, Inhabited

/-- Round an exact value to Q1.23 (R171); the flag says that it saturated. -/
def roundQ23 (q : ℚ) : Int × Bool :=
  let r := roundAway (q * 8388608)
  let c := clampI (-8388608) 8388607 r
  (c, decide (c ≠ r))

/-! Stages 0 to 2 (R170). -/

/-- Binomial coefficient of a number over 3. -/
def choose3 (n : Nat) : Nat := n * (n - 1) * (n - 2) / 6

/-- Weight `j` of 0 to 496 of the sinc⁴ decimator of ratio 125: the boxcar of length 125 convolved with itself three times. -/
def sinc4Weight (j : Nat) : Int :=
  let t (i : Nat) : Int := if 125 * i ≤ j then (choose3 (j - 125 * i + 3) : Int) else 0
  t 0 - 4 * t 1 + 6 * t 2 - 4 * t 3 + t 4

/-- Stage 1 over the newest modulator bits; a bit that has not come counts as 0. -/
def sinc4 (bits : List Bool) : Int × Bool :=
  let acc : Int := ((bits.take 497).zipIdx.map fun b => if b.1 then sinc4Weight b.2 else -sinc4Weight b.2).sum
  roundQ23 ((acc : ℚ) / ((125 ^ 4 : Nat) : ℚ))

/-- The demodulation reference at stage 1 sample `n` of a period of 5: it lags the excitation by EXC_PHASE (R168). -/
def demodRef (phase n : Nat) : ℚ := Config.sin (Config.pi * (2 * (n : ℚ) / 5 - (phase : ℚ) / 1800))

/-- Stage 1r: the product sum of the newest 5 stage 1 outputs, the last of which is sample `n`. -/
def demodOut (phase n : Nat) (dec : List Int) : Int × Bool :=
  roundQ23 (Config.demodGain * sumQ ((dec.take 5).zipIdx.map fun x => (x.1 : ℚ) * demodRef phase (n + 5 - x.2)) / 8388608)

/-- Stage 2 over its newest 31 inputs. -/
def halfBand (x : List Int) : Int × Bool := roundQ23 (sumQ ((x.take 31).zipIdx.map fun y => (y.1 : ℚ) * Config.halfBandTap y.2) / 8388608)

/-- OVER_RANGE by Table 7.2 after a stage 1 output. -/
def overRange (was : Bool) (high low : Nat) : Bool := if 8 ≤ high then true else if 2500 ≤ low then false else was

/-- Saturations of stages 0 to 2: in the chain without stage 1r, and in the one with it. -/
structure FrontSat where
  plain : Bool := false
  res   : Bool := false
  deriving DecidableEq, Repr, Inhabited

/-- 125 modulator bits, oldest first, give one output of stage 1, which OVER_RANGE judges, and one of stage 1r. -/
def stage1 (phase : Nat) (chunk : List Bool) (f : FrontEnd) : FrontEnd × FrontSat :=
  let bits := (chunk.reverse ++ f.bits).take 497
  let (v, s1) := sinc4 bits
  let dec := (v :: f.dec).take 31
  let n := (f.step + 1) % 5
  let (w, s2) := demodOut phase n dec
  let high := if 98 * 8388608 ≤ 100 * v.natAbs then f.high + 1 else 0
  let low := if 100 * v.natAbs < 95 * 8388608 then f.low + 1 else 0
  ({ f with bits := bits, dec := dec, demod := (w :: f.demod).take 31, step := n, high := high, low := low, overR := overRange f.overR high low }, ⟨s1, s1 || s2⟩)

/-- One stage 2 output of either chain and its stamp from the 250 modulator bits before it. -/
def frontStep (phase : Nat) (f : FrontEnd) (x : Nat × List Bool) : FrontEnd × FrontSat :=
  let (f1, sa) := stage1 phase (x.2.take 125) f
  let (f2, sb) := stage1 phase (x.2.drop 125) f1
  let (v, sc) := halfBand f2.dec
  let (w, sd) := halfBand f2.demod
  ({ f2 with s2 := f2.s2 ++ [(x.1, v)], s2r := f2.s2r ++ [(x.1, w)] }, ⟨sa.plain || sb.plain || sc, sa.res || sb.res || sd⟩)

/-- A resolver mode. -/
def resolverEntry (e : Bytes) : Bool := inMode e == 3 || inMode e == 4

/-- The modulator periods of an input that is not OFF pass through stages 0 to 2 (R170), also while only the plane being installed needs them (R179).
A period that the input has taken before does not pass again. -/
def frontRun (phase : Nat) (xs : List (Nat × List Bool)) (i : FiltInput) : FiltInput :=
  let on := inMode i.plane.entry != 0
  if !on && (i.next.map fun p => inMode p.entry).getD 0 == 0 then i
  else xs.foldl (fun i x =>
    if (i.front.s2.getLast?.map fun y => decide (x.1 ≤ y.1)).getD false then i
    else
      let r := frontStep phase i.front x
      { i with front := r.1, sat := i.sat || (on && if resolverEntry i.plane.entry then r.2.res else r.2.plain), cond := vmodN i.cond 0 fun _ => on && r.1.overR }) i

/-- Prototype tap h[m] in units of 2^-22, by the symmetry of R172. -/
def protoTap (p : Bytes) (m : Nat) : Int :=
  if 1024 < m then 0 else if 512 < m then s32 p (4 * (1024 - m)) else s32 p (4 * m)

/-- Index of the last stage 2 output at or before an instant. -/
def lastBefore (s : List (Nat × Int)) (u : Int) : Nat := (s.takeWhile fun x => decide ((x.1 : Int) ≤ u)).length

/-- Stage 3 at a grid point of device time `tns` in ns (R172). A stage 2 output that has not been formed counts as 0. -/
def resample (p : Bytes) (s : List (Nat × Int)) (tns : Nat) : Int × Bool :=
  let u : Int := ((tns : Int) - 200000) / 10
  let n := lastBefore s u
  let x (j : Int) : Int := if j < 0 then 0 else (s.getD j.toNat (0, 0)).2
  let i : Int := (n : Int) - 1
  let ti : Int := (s.getD (n - 1) (0, 0)).1
  let tj : Int := (s.getD n (0, 0)).1
  let mu : Int := if n = 0 ∨ tj ≤ ti then 0 else (u - ti) * 65536 / (tj - ti)
  let y : ℚ := ([-3, -2, -1, 0, 1, 2, 3, 4] : List Int).foldl (fun acc k =>
    -- m in units of 2^-9: 512 + 128 (mu - k) with mu in 2^-16
    let m9 : Int := 512 * 512 + mu - 128 * k * 512
    let q := (m9 / 512).toNat
    let a : ℚ := ((m9 % 512 : Int) : ℚ) / 512
    let c : ℚ := (protoTap p q : ℚ) + a * ((protoTap p (q + 1) : ℚ) - (protoTap p q : ℚ))
    acc + c * (x (i + k) : ℚ)) 0
  roundQ23 (y / 4194304 / 8388608)

/-- The weights of a sinc³ decimator of ratio `dc`: the boxcar of length dc convolved with itself twice. -/
def sinc3Weight (dc j : Nat) : Nat :=
  ((List.range dc).flatMap fun a => (List.range dc).filter fun b => decide (a + b ≤ j) && decide (j - (a + b) < dc)).length

/-- Stage 4a over the newest grid samples (Table 7.3). -/
def sinc3 (dc : Nat) (g : List Int) : Int × Bool :=
  if dc ≤ 1 then (g.headD 0, false)
  else
    let acc : Int := ((List.range (3 * dc - 2)).map fun j => (sinc3Weight dc j : Int) * g.getD j 0).sum
    roundQ23 ((acc : ℚ) / ((dc * dc * dc : Nat) : ℚ) / 8388608)

/-- Coefficient `j` of the symmetric FIR, 0 the newest sample. -/
def firTap (conf : Bytes) (j : Nat) : Int :=
  let n := cfTaps conf
  s32 conf (64 + 4 * (if 2 * j < n then j else n - 1 - j))

/-- Stage 4b over the newest stage 4a outputs. -/
def firOut (conf : Bytes) (d : List Int) : Int × Bool :=
  let acc : Int := ((List.range (cfTaps conf)).map fun j => firTap conf j * d.getD j 0).sum
  roundQ23 ((acc : ℚ) / 8388608 / 8388608)

/-- One grid point through stages 3 and 4a of one stream. -/
def gridStep (conf proto : Bytes) (s : List (Nat × Int)) (g tns : Nat) (st : List Int × List Int × Bool) : List Int × List Int × Bool :=
  let (v, sat) := resample proto s tns
  let grid := (v :: st.1).take (3 * cfDc conf)
  if cfDc conf ≠ 0 ∧ (g + 500 - cfPhase conf % 500) % cfDc conf = 0 then
    let (w, sat2) := sinc3 (cfDc conf) grid
    (grid, (w :: st.2.1).take (cfTaps conf), st.2.2 || sat || sat2)
  else (grid, st.2.1, st.2.2 || sat)

/-- Table 7.1: the physical quantity q of a stage 4 output, with its RES_COS partner's. -/
def quantity (entry : Bytes) (x xc : Int) : ℚ :=
  let v : ℚ := (x : ℚ) / 8388608 * (1024 / 100)
  match inMode entry with
  | 2 => v * 10000 / (inShunt entry : ℚ)
  | 3 => wrap360 (Config.atan2 (x : ℚ) (xc : ℚ) * 180 / Config.pi)
  | _ => v

/-- Stage 5: scaling in the order of R113 (Table 7.3). -/
def stage5 (conf : Bytes) (q : ℚ) : Int × Bool :=
  let r := roundAway (q * cfScale conf * 65536) + roundAway (cfAdd conf * 65536)
  let c := clampI (-(2 : Int) ^ 31) ((2 : Int) ^ 31 - 1) r
  (c, decide (c ≠ r))

/-- The configuration that a channel names in a plane. -/
def FiltPlane.confOf (p : FiltPlane) (ch : Nat) : Bytes := ((p.alts.find? fun a => a.1 == ch).map (·.2.2)).getD p.conf

/-- The stage 2 outputs that a plane reads: those of the chain that its mode has. -/
def FiltPlane.stream (p : FiltPlane) (f : FrontEnd) : List (Nat × Int) := if resolverEntry p.entry then f.s2r else f.s2

/-- The grid points that a plane has not processed yet, up to point `abs` of device time; a plane that has run at none takes those of one output. -/
def FiltPlane.span (p : FiltPlane) (abs : Nat) : Nat := match p.upTo with
  | some u => abs - u
  | none => min (abs + 1) (cfD p.conf)

/-- Grid points up to point `abs`, counted from device time 0, pass through stages 3 and 4a of a plane that has a configuration; the flags say whether a
stage of this input or of its partner saturated. -/
def planeRun (f fB : FrontEnd) (abs : Nat) (p : FiltPlane) : FiltPlane × Bool × Bool :=
  if p.conf.isEmpty then ({ p with upTo := some abs }, false, false)
  else
    let pts := p.span abs
    let run (s : List (Nat × Int)) (st : List Int × List Int × Bool) :=
      (List.range pts).foldl (fun st j => let k := abs + 1 - pts + j; gridStep p.conf p.proto s (k % 500) (40000 * k) st) st
    let (ga, da, sa) := run (p.stream f) (p.grid, p.dec, false)
    let (gb, db, sb) := if inMode p.entry = 3 then run (p.stream fB) (p.gridB, p.decB, false) else (p.gridB, p.decB, false)
    ({ p with grid := ga, gridB := gb, dec := da, decB := db, fed := p.fed + pts, upTo := some abs }, sa, sb)

/-- What a plane gives at an output: the stage 4 outputs of the input and of its partner, with their saturations. -/
structure PlaneOut where
  x  : Int
  xc : Int
  sat  : Bool
  satB : Bool
  deriving DecidableEq, Repr, Inhabited

def planeFir (p : FiltPlane) : PlaneOut :=
  let (x, s1) := firOut p.conf p.dec
  let (xc, s2) := if inMode p.entry = 3 then firOut p.conf p.decB else (0, false)
  ⟨x, xc, s1, s2⟩

/-- The value of an output by a configuration. -/
def planeValue (p : FiltPlane) (o : PlaneOut) (conf : Bytes) : Int × Bool := stage5 conf (quantity p.entry o.x o.xc)

/-- A channel keeps the configuration index of its parser entry from one plane to the other (the list before R179). -/
def keepsIndex (a b : FiltPlane) (ch : Nat) : Bool :=
  match a.alts.find? (fun x => x.1 == ch), b.alts.find? (fun x => x.1 == ch) with
  | some x, some y => x.2.1 == y.2.1
  | _, _ => false

/-- The input keeps its parser entry across a commit (the list before R179): MODE, DC, DF, OUT_PHASE and GROUP_DELAY_NS are the same, and where it feeds
channels one of them keeps its configuration index. A channel that does not has no fade. -/
def keepsEntry (a b : FiltPlane) : Bool :=
  inMode a.entry == inMode b.entry && cfDc a.conf == cfDc b.conf && cfDf a.conf == cfDf b.conf
    && cfPhase a.conf == cfPhase b.conf && cfDelayNs a.conf == cfDelayNs b.conf
    && if b.alts.isEmpty then a.alts.isEmpty else b.alts.any fun x => keepsIndex a b x.1

/-- The weight of the new plane at output `k` of a fade (R180). -/
def fadeWeight (i : FiltInput) (k : Nat) : ℚ :=
  if k ≤ i.fadeLen then i.fadeFrom + (1 - i.fadeFrom) * (k : ℚ) / ((i.fadeLen + 1 : Nat) : ℚ) else 1

/-- The two inputs of a resolver pair fault together (R169); `exc` faults every resolver input (Table 7.9). -/
def FiltInput.ownFault (i : FiltInput) : Bool := i.faults.any id || i.cond.any id
def FiltInput.resolver (i : FiltInput) : Bool := resolverEntry i.plane.entry

/-- The detectors take one stage 5 output (R181). -/
def detect (v : Int) (i : FiltInput) : FiltInput :=
  let sh := cfDcShift i.plane.conf
  let mean := if sh = 0 then i.mean else i.mean + (v - i.mean) / 2 ^ sh
  let d := if sh = 0 then v else v - mean
  let env := max |d| (i.env - i.env / 2 ^ cfEnvShift i.plane.conf)
  let c := i.cur
  let cur := { c with
    count := c.count + 1, max := if c.count = 0 then v else max c.max v, min := if c.count = 0 then v else min c.min v,
    sumSq := c.sumSq + d.natAbs * d.natAbs, env := env }
  { i with mean := mean, env := env, cur := cur, last := v }

/-- The loop faults of Table 7.2 after one output of `us` microseconds. -/
def loopFaults (q : ℚ) (us : Nat) (i : FiltInput) : FiltInput :=
  if inMode i.plane.entry ≠ 2 then i
  else
    let run (b : Bool) (n : Nat) : Nat := if b then n + us else 0
    let low := run (decide (q < 36 / 10)) i.lowUs
    let high := run (decide (21 < q)) i.highUs
    let ok := run (decide (38 / 10 ≤ q) && decide (q ≤ 205 / 10)) i.loopUs
    let next (up : Nat) (was : Bool) : Bool := if 100000 ≤ up then true else if 100000 ≤ ok then false else was
    { i with lowUs := low, highUs := high, loopUs := ok, cond := vmodN (vmodN i.cond 1 (next low)) 2 (next high) }

/-- RES_AMPL of Table 7.2 after one stage 4 output of a resolver pair. -/
def amplFault (o : PlaneOut) (i : FiltInput) : FiltInput :=
  if inMode i.plane.entry ≠ 3 then i
  else
    -- the square of the amplitude in mV
    let a2 : ℚ := ((o.x * o.x + o.xc * o.xc : Int) : ℚ) * (10240 * 10240) / (8388608 * 8388608)
    let nom : ℚ := (inResNom i.plane.entry : ℚ)
    let beyond (lo hi : ℚ) : Bool := decide (a2 < lo * nom * (lo * nom)) || decide (hi * nom * (hi * nom) < a2)
    let out := if beyond (1 / 2) (3 / 2) then i.ampOut + 1 else 0
    let inn := if beyond (6 / 10) (14 / 10) then 0 else i.ampIn + 1
    { i with ampOut := out, ampIn := inn, cond := vmodN i.cond 3 fun was => if 10 ≤ out then true else if 50 ≤ inn then false else was }

/-- A cross-fade is running on an input (R180). -/
def FiltInput.fading (i : FiltInput) : Bool := i.old.isSome && decide (i.fadeK < i.fadeLen)

/-- What an output hands on: the value of each channel. -/
structure FiltOut where
  input   : FiltInput
  partner : FiltInput
  value   : Nat → Int × Bool

/-- The mixture of a fade at weight `w` of the new plane's value (R180). -/
def fadeMix (w : ℚ) (u v : Int × Bool) : Int × Bool := if w = 1 then v else (roundAway ((1 - w) * (u.1 : ℚ) + w * (v.1 : ℚ)), u.2 || v.2)

/-- FILTER_OUTPUT of one input and its RES_COS partner at grid point `abs` of device time: the new modulator periods enter the chain, every plane runs over
the points that it has not processed, the active one gives its output, the fade mixes it with the old one's, faults are judged and the detectors run.
The samples kept are those the next outputs can still read. The detectors take the value by the first channel's configuration (log entry 24). An input
without a configuration passes stages 0 to 2 only. -/
def filterOutput (phase abs : Nat) (new newB : List (Nat × List Bool)) (i0 p0 : FiltInput) : FiltOut :=
  let iA := frontRun phase new i0
  let pA := frontRun phase newB p0
  let last64 (l : List (Nat × Int)) := l.drop (l.length - 64)
  let keep (x : FiltInput) : FiltInput := { x with front := { x.front with s2 := last64 x.front.s2, s2r := last64 x.front.s2r } }
  let run := planeRun iA.front pA.front abs
  let (p, sa, sb) := run i0.plane
  let old := i0.old.map run
  let nx := i0.next.map fun q => (run q).1
  let o := planeFir p
  let k := i0.fadeK + 1
  let w := fadeWeight i0 k
  let mixed (fades : FiltPlane → Bool) (conf : FiltPlane → Bytes) : Int × Bool :=
    let v := planeValue p o (conf p)
    match old with
    | some (q, _, _) => if fades q then fadeMix w (planeValue q (planeFir q) (conf q)) v else v
    | none => v
  let value (ch : Nat) : Int × Bool := mixed (fun q => keepsIndex q p ch) fun q => q.confOf ch
  let main := mixed (fun q => keepsEntry q p) FiltPlane.conf
  let oldSat := (old.map fun q => (q.2.1 || (planeFir q.1).sat, q.2.2 || (planeFir q.1).satB)).getD (false, false)
  let iB := { keep iA with plane := p, next := nx, old := old.map (·.1) }
  let pB := keep pA
  if p.conf.isEmpty then ⟨iB, pB, value⟩
  else
    let iC := { iB with fadeK := if i0.old.isSome then min k 256 else 0, sat := iB.sat || sa || o.sat || oldSat.1 || main.2 || p.alts.any fun a => (value a.1).2 }
    let iD := detect main.1 (amplFault o (loopFaults (quantity p.entry o.x o.xc) (40 * cfD p.conf) iC))
    let bad := iD.ownFault || (inMode p.entry == 3 && pB.ownFault)
    ⟨{ iD with cur := { iD.cur with faulted := iD.cur.faulted || bad } }, { pB with sat := pB.sat || sb || o.satB || oldSat.2 }, value⟩

/-- Grid point `g` is an output instant of the input (R174). -/
def isOutputPoint (i : FiltInput) (g : Nat) : Bool :=
  decide (cfD i.plane.conf ≠ 0) && g % cfD i.plane.conf == cfPhase i.plane.conf

/-- The output at grid point `g` is published: every PUB_DIV-th one, the first output of the cycle among them (R175, log entry 24). -/
def isPublished (i : FiltInput) (g : Nat) : Bool :=
  let d := cfD i.plane.conf
  decide (d ≠ 0) && decide (cfPubDiv i.plane.conf ≠ 0) && (g / d) % cfPubDiv i.plane.conf == 0

/-- The channels that an analogue input 1 to 24 feeds. -/
def analogChannels (table : Bytes) (input : Nat) : List Nat :=
  (List.range 256).filter fun ch =>
    let e := chanEntry table ch
    decide (chType e ≠ 0) && chKind e == 3 && chSource e == input

/-- A channel update of an analogue input: value word DEST carries `v` (R175, R182). Its place in R116's order is the number
of the input (DESIGN CHOICE, log entry 78). -/
def analogUpdate (table coeffs : Bytes) (lane : LaneId) (input ch captureNs : Nat) (v : Int) (sat : Bool) : ChanUpdate :=
  let e := chanEntry table ch
  let conf := fcConfig coeffs (chParser e)
  let m := (measTime e (cfDelayNs conf) none none captureNs).getD (0, false)
  { chan := ch, value := vmodN (Vector.replicate 8 0) (cfDest conf) fun _ => ofSigned 32 v, quality := 0, meas := m.1,
    capture := captureNs, stampNs := captureNs, srcTime := false, saturated := sat, lane := lane.num, port := 21, pos := input }

/-- The updates that a filtered output publishes: each channel by its own value. -/
def outputUpdates (table coeffs : Bytes) (lane : LaneId) (input captureNs : Nat) (value : Nat → Int × Bool) : List ChanUpdate :=
  ((analogChannels table input).filter fun ch => cfOutput (fcConfig coeffs (chParser (chanEntry table ch))) == 0).map fun ch =>
    analogUpdate table coeffs lane input ch captureNs (value ch).1 (value ch).2

/-- The window that ends at a boundary (R181, R182). -/
def windowOf (i : FiltInput) : InSummary :=
  let n := cfWin i.plane.conf
  let w := i.ring.take n
  let used := w.filter fun c => decide (c.count ≠ 0)
  match used with
  | [] => { valid := false }
  | c :: rest =>
    let cnt := (used.map (·.count)).sum
    let ss := (used.map (·.sumSq)).sum
    { max := rest.foldl (fun m x => max m x.max) c.max
      min := rest.foldl (fun m x => min m x.min) c.min
      rms := (isqrt (ss / cnt) : Nat)
      env := c.env
      valid := decide (n ≤ i.ring.length) && !(w.any (·.faulted)) }

/-- A boundary on one input: the cycle's partial sums enter the ring and the window slides (R181). A fault that stands marks the new cycle too (R182). -/
def ringStep (bad : Bool) (i : FiltInput) : FiltInput :=
  { i with ring := ({ i.cur with faulted := i.cur.faulted || bad } :: i.ring).take 3000, cur := { faulted := bad } }

/-- FILTER_SUMMARY for one input: the window that ends at the boundary (R181, R183). -/
def summarise (i : FiltInput) : FiltInput := { i with sum := windowOf i }

/-- The detector that OUTPUT or KIND names: 1 MAX, 2 MIN, 3 RMS, 4 ENV. -/
def detectorOf (k : Nat) (s : InSummary) : Int := match k with
  | 1 => s.max
  | 2 => s.min
  | 3 => s.rms
  | 4 => s.env
  | _ => 0

/-- The updates that the detector channels publish at a boundary (R182). -/
def detectorUpdates (table coeffs : Bytes) (lane : LaneId) (input captureNs : Nat) (s : InSummary) : List ChanUpdate :=
  if !s.valid then []
  else ((analogChannels table input).filter fun ch => cfOutput (fcConfig coeffs (chParser (chanEntry table ch))) != 0).map fun ch =>
    analogUpdate table coeffs lane input ch captureNs (detectorOf (cfOutput (fcConfig coeffs (chParser (chanEntry table ch)))) s) false

/-! The sea-state band (R184 to R187). -/
def seaBlock (c : Bytes) : Bytes := sliceB c 448 128
def seaCount (b : Bytes) := u8 b 0
def seaDefault (b : Bytes) := u8 b 1
def seaRise (b : Bytes) := u16 b 2
def seaFall (b : Bytes) := u16 b 4
/-- Source `k`: input, kind, K in 2^-16. -/
def seaSource (b : Bytes) (k : Nat) : Nat × Nat × Int := (u8 b (8 + 8 * k), u8 b (9 + 8 * k), s32 b (12 + 8 * k))
/-- UP[j] and DOWN[j], j from 1 to 7, in 2^-16. -/
def seaUp (b : Bytes) (j : Nat) : Int := s32 b (40 + 4 * (j - 1))
def seaDown (b : Bytes) (j : Nat) : Int := s32 b (68 + 4 * (j - 1))
/-- FWD entry `k`: input and KIND. -/
def seaFwd (b : Bytes) (k : Nat) : Nat × Nat := (u8 b (96 + 2 * k), u8 b (97 + 2 * k))

/-- The summaries of all 24 inputs as one lane sees them at its handoff. -/
def allSummaries (lane : LaneId) (f : FilterState) : List InSummary :=
  let own := f.inputs.toList.map (·.sum)
  let far := match f.remote with
    | some (c, l) => if c = f.localCycle then l else List.replicate 12 {}
    | none => List.replicate 12 {}
  match lane with
  | .A => own ++ far
  | .B => far ++ own

/-- Median of a list of Q16.16 numbers, the mean of the middle two rounded down. -/
def medianDown (l : List Int) : Int :=
  let s := l.mergeSort (fun a b => decide (a ≤ b))
  if s.length % 2 = 1 then s.getD (s.length / 2) 0 else (s.getD (s.length / 2 - 1) 0 + s.getD (s.length / 2) 0) / 2

/-- The value of a FWD or SOURCES kind: 1 RMS, 2 ENV, 3 MAX, 4 MIN. -/
def kindValue (k : Nat) (s : InSummary) : Int := match k with
  | 1 => s.rms
  | 2 => s.env
  | 3 => s.max
  | 4 => s.min
  | _ => 0

/-- One move of the band (R186). -/
def bandStep (b : Bytes) (s : Int) (f : FilterState) : FilterState :=
  let cur := f.band
  let rise := if cur < 7 ∧ seaUp b (cur + 1) ≤ s then f.rise + 1 else 0
  let fall := if 0 < cur ∧ s < seaDown b cur then f.fall + 1 else 0
  if seaRise b ≤ rise then
    { f with band := (([7, 6, 5, 4, 3, 2, 1] : List Nat).find? fun j => decide (seaUp b j ≤ s)).getD cur, rise := 0, fall := 0 }
  else if seaFall b ≤ fall then { f with band := cur - 1, rise := 0, fall := 0 }
  else { f with rise := rise, fall := fall }

/-- FILTER_HANDOFF (R184 to R187). `selected` says whether a channel fed by the input 1 to 24 is selected (R117). -/
def filterHandoff (lane : LaneId) (coeffs : Bytes) (selected : Nat → Bool) (f0 : FilterState) : FilterState × List Effect :=
  let missing := match f0.remote with
    | some (c, _) => decide (c ≠ f0.localCycle)
    | none => true
  let f := { f0 with remoteMissing := f0.remoteMissing || missing }
  let b := seaBlock coeffs
  let sums := allSummaries lane f
  let vals := (List.range (seaCount b)).filterMap fun k =>
    let (inp, kind, kk) := seaSource b k
    let s := sums.getD (inp - 1) {}
    if s.valid ∧ selected inp = true then some (kk * kindValue kind s / 65536) else none
  let f1 := if f.started then f else { f with band := seaDefault b }
  let f2 :=
    if vals.isEmpty then { f1 with band := seaDefault b, bandDefault := true, rise := 0, fall := 0, validCount := 0 }
    else
      let s := medianDown vals
      bandStep b s { f1 with seaS := s, bandDefault := false, validCount := vals.length, started := true }
  let fwd := (List.range 7).map fun k =>
    let (inp, kind) := seaFwd b k
    if kind = 0 then 0
    else
      let s := sums.getD (inp - 1) {}
      ofSigned 32 (kindValue kind s) * 2 ^ 32 + atF 27 5 inp + atF 24 3 kind + at1 23 s.valid
  let e0 := ofSigned 32 f2.seaS * 2 ^ 32 + atF 29 3 f2.band + atF 26 3 f2.validCount + at1 25 f2.bandDefault + at1 24 missing
  ({ f2 with q08 := e0 :: fwd, q08Held := false }, if missing then [.count 0x0503 0xFF 1, .count 0x0902 0xFF 1] else [])

/-- The resolver partner of local input 0 to 11, if it has one. -/
def resPartner (f : FilterState) (i : Nat) : Option Nat :=
  match inMode (vget f.inputs i).plane.entry with
  | 3 => some (i + 1)
  | 4 => some (i - 1)
  | _ => none

/-- Local input `i` is faulted: by its own faults, its partner's, or the excitation's (R169, Table 7.9). -/
def inFault (f : FilterState) (i : Nat) : Bool :=
  (vget f.inputs i).ownFault || (f.excFault && (vget f.inputs i).resolver) ||
    match resPartner f i with
    | some j => (vget f.inputs j).ownFault
    | none => false

/-- Whether Table 7.2 gives the fault to the mode of the input. -/
def faultApplies (mode k : Nat) : Bool := match k with
  | 0 => mode != 0
  | 1 => mode == 2
  | 2 => mode == 2
  | 3 => mode == 3 || mode == 4
  | _ => false

/-- Fault `k` of an input follows its condition of Table 7.2: it is raised while that stands, or cleared once it has ended. -/
def setFault (k : Nat) (on : Bool) (i : FiltInput) : FiltInput :=
  if vget i.cond k = on ∧ vget i.faults k ≠ on then
    { i with
      faults := vmodN i.faults k fun _ => on, faultCount := if on then satAdd 0xFFFF i.faultCount 1 else i.faultCount
      cur := { i.cur with faulted := true } }
  else i

/-- INPUT_FAULT_RAISE and INPUT_FAULT_CLEAR on local input `i` (R169). The cycle in which a fault stood, on either input of a pair, is marked (R182). -/
def faultInput (i k : Nat) (on : Bool) (f : FilterState) : FilterState :=
  if !faultApplies (inMode (vget f.inputs i).plane.entry) k then f
  else
    let f1 := { f with inputs := vmodN f.inputs i (setFault k on) }
    match resPartner f i with
    | some j => { f1 with inputs := vmodN f1.inputs j fun p => { p with cur := { p.cur with faulted := p.cur.faulted || (vget f1.inputs i).cur.faulted } } }
    | none => f1

/-- The boundary of a cycle in the filter island. -/
def filterBoundary (f : FilterState) : FilterState := { f with inputs := Vector.ofFn fun i => ringStep (inFault f i.val) f.inputs[i] }

/-- The plane that an image gives local input `i` of a lane. -/
def planeFor (img : Bytes) (lane : LaneId) (i : Nat) : FiltPlane :=
  let c := imgSection img secFilter
  let t := imgSection img secChannels
  let inp := 12 * lane.num + i + 1
  let alts := (analogChannels t inp).map fun ch => let n := chParser (chanEntry t ch); (ch, n, fcConfig c n)
  let conf := (alts.head?.map (·.2.2)).getD []
  { entry := fcInput c inp, conf := conf, alts := alts, proto := fcProto c (cfProtoNum conf) }

/-- Installation loads the new coefficients into the inactive planes, which no rollback can use from then on, after grid point `abs` of device time; a fade
that runs keeps its old plane (R179). -/
def filterInstall (img : Bytes) (lane : LaneId) (abs : Nat) (f : FilterState) : FilterState :=
  { f with inputs := Vector.ofFn fun i => { f.inputs[i] with next := some { planeFor img lane i.val with upTo := some abs }, old := if f.inputs[i].fading then f.inputs[i].old else none } }

/-- The new chain of an input has processed at least 2 × G since it was loaded (R179); an input that is OFF or feeds no channel has none. -/
def FiltInput.warm (i : FiltInput) : Bool := match i.next with
  | some p => p.conf.isEmpty || inMode p.entry == 0 || decide (2 * cfDelayNs p.conf ≤ 40000 * p.fed)
  | none => true

/-- New chains are loaded and not yet warm (Table 7.9). -/
def FilterState.warming (f : FilterState) : Bool := f.inputs.any fun i => !i.warm
/-- A cross-fade is running (R180). -/
def fading (f : FilterState) : Bool := f.inputs.any FiltInput.fading

/-- The commit boundary for one input: its inactive plane comes into force, with a fade where it keeps its entry (R179, R180). A rollback takes the plane in
force before, and inside a fade it starts from the mixture in force. An input whose entry changes begins its detectors anew, and keeps no fault that
its new mode does not have. -/
def planeCommit (fresh : FiltPlane) (rollback : Bool) (i : FiltInput) : FiltInput :=
  let n := (if rollback then i.old else i.next).getD fresh
  if keepsEntry i.plane n then
    if n.conf.isEmpty then { i with plane := n, next := none, old := none, fadeFrom := 0, fadeK := 0, fadeLen := 0 }
    else
      let w0 := if i.fading then fadeWeight i i.fadeK else 1
      { i with plane := n, next := none, old := some i.plane, fadeFrom := if rollback then 1 - w0 else 0, fadeK := 0, fadeLen := cfXfade n.conf }
  else
    let ok (k : Nat) : Bool := faultApplies (inMode n.entry) k
    { i with
      plane := n, front := if inMode n.entry = 0 then {} else i.front, next := none, old := if rollback then none else some i.plane, fadeFrom := 0, fadeK := 0, fadeLen := 0, ring := [], cur := {}, mean := 0, env := 0
      sum := {}, faults := Vector.ofFn fun k => i.faults[k] && ok k.val, cond := Vector.ofFn fun k => i.cond[k] && ok k.val, lowUs := 0, highUs := 0, loopUs := 0
      ampOut := 0, ampIn := 0 }

def filterCommit (img : Bytes) (lane : LaneId) (rollback : Bool) (f : FilterState) : FilterState :=
  let c := imgSection img secFilter
  { f with inputs := Vector.ofFn fun i => planeCommit (planeFor img lane i.val) rollback f.inputs[i], excMv := fcExcMv c, excPhase := fcExcPhase c }

/-- FLT_STATUS, the common low byte apart (Table 7.9). -/
def fltStatusHigh (f : FilterState) : Nat :=
  at1 27 f.remoteMissing + at1 26 f.bandDefault + atF 23 3 f.band + at1 22 (fading f) + at1 21 f.warming + at1 20 f.excFault
    + ((List.range 12).map fun i => at1 (8 + i) (inFault f i)).sum

/-- FLT_IN_STATUS (Table 7.10). -/
def fltInStatus (i : FiltInput) : Nat :=
  at1 27 (vget i.faults 0) + at1 26 (vget i.faults 1) + at1 25 (vget i.faults 2) + at1 24 (vget i.faults 3) + at1 23 i.sat
    + at1 22 i.sum.valid + i.faultCount % 65536

end Sys2Proof.Machine
end

