-- ==== Sys2Proof/Machine/LanternUnit.lean ====
section
/-! DEFINITION. Lantern, the status panel (chapter 19): waveform tables, the DC-balance book, updates, power loss and registers. -/

namespace Sys2Proof.Machine

/-! LANTERN_WAVEFORMS (Table 19.3, R506). -/
def lwWidth (s : Bytes) := u16 s 2
def lwHeight (s : Bytes) := u16 s 4
def lwBands (s : Bytes) := u8 s 6
def lwQuantum (s : Bytes) := u8 s 7
def lwNetMax (s : Bytes) := u8 s 8
def lwFrameUs (s : Bytes) := u16 s 10
def lwCommonUs (s : Bytes) := u16 s 12
def lwLow (s : Bytes) (k : Nat) : Int := s8 s (16 + k)
def lwTop (s : Bytes) : Int := s8 s 24
def lwOff (s : Bytes) (k : Nat) := u32 s (32 + 4 * k)
/-- The lower bound of the band above `k`, or BAND_TOP. -/
def lwHigh (s : Bytes) (k : Nat) : Int := if k + 1 < lwBands s then lwLow s (k + 1) else lwTop s

/-- Offset of the frame data and FRAMES of an entry of a band block. -/
def lwEntry (s : Bytes) (band ix : Nat) : Nat × Nat :=
  let o := lwOff s band + 4 * ix
  (u16 s o + 65536 * u8 s (o + 2), u8 s (o + 3))
/-- The drive code of frame `f` of frame data at `o` (R506). -/
def lwCode (s : Bytes) (o f : Nat) : Nat := u8 s (o + f / 4) / 4 ^ (f % 4) % 4
/-- The net of an entry: code 1 frames less code 2 frames (R507). -/
def lwNet (s : Bytes) (e : Nat × Nat) : Int :=
  ((List.range e.2).map fun f => if lwCode s e.1 f = 1 then (1 : Int) else if lwCode s e.1 f = 2 then -1 else 0).foldl (· + ·) 0

/-- What an update leads to. -/
structure Target where
  /-- 0 status, 1 to 63 LANTERN_SCREENS, 0x7F check value. -/
  screen : Nat
  /-- A full clear: every pixel gets the clear entry for its balance (R514). -/
  clear  : Bool
  /-- Grey level of each pixel, row by row; empty for a clear. -/
  pixels : List Nat
  deriving DecidableEq, Repr, Inhabited

/-- The update that runs (R510). -/
structure LtnRun where
  target : Target
  band   : Nat
  frames : Nat
  /-- The book as the end of the update leaves it (R508). -/
  book   : List Nat
  /-- Every rail is in range and frames are driven (R505). -/
  driven : Bool := false
  /-- µs of the first frame, and FRAME_US of the table fixed for the update. -/
  fromUs : Nat := 0
  frameUs : Nat := 1
  deriving DecidableEq, Repr, Inhabited

structure LanternState where
  /-- 0 OFF, 1 CLEARING, 2 IDLE, 3 UPDATING, 4 NO_TABLE, 5 PFAIL (Table 19.6). -/
  st       : Nat := 0
  mode     : Nat := 0
  reserved : Bool := false
  pumpOn   : Bool := false
  pumpFault : Bool := false
  tempOut  : Bool := false
  /-- Panel temperature, Q8.8, and whether it has been read. -/
  temp     : Int := 0
  tempRead : Bool := false
  band     : Nat := 0
  bandRun  : Nat := 0
  screen   : Nat := 0
  imageId  : Nat := 0
  targetId : Nat := 0
  updates  : Nat := 0
  bookSeq  : Nat := 0
  interrupted : Nat := 0
  bookMissing : Bool := false
  /-- LANTERN_WAVEFORMS and LANTERN_SCREENS in use (R507). -/
  table    : Bytes := []
  screens  : Bytes := []
  book     : List Nat := []
  pending  : Option Target := none
  /-- A request made before the clear of start-up has begun (R514). -/
  next     : Option Target := none
  run      : Option LtnRun := none
  /-- µs of the start of the last update. -/
  lastStart : Option Nat := none
  /-- Content of the status screen as last rendered. -/
  lastStatus : Option Bytes := none
  /-- The sequence of R513 is complete. -/
  pfDone   : Bool := false
  lastSave : Nat := 0
  deriving DecidableEq, Repr, Inhabited

/-- Pixels of the panel. -/
def ltnPixels (s : Bytes) : Nat := lwWidth s * lwHeight s

/-- A screen rendered by the Watchtower from its content: its glyphs are opaque (R512, log entry 48). -/
def renderScreen (s : Bytes) (screen : Nat) (content : Bytes) : Target :=
  ⟨screen, false, (List.range (ltnPixels s)).map fun k => Config.render content (lwWidth s) (lwHeight s) k % 16⟩

/-- The runs of a LANTERN_SCREENS entry, decoded until the panel is full (R512). -/
def decodeRuns : Nat → Bytes → List Nat
  | _, [] => []
  | need, b :: bs =>
    if need = 0 then []
    else
      let n := b.toNat % 16 + 1
      List.replicate n (b.toNat / 16) ++ decodeRuns (need - n) bs

def screenCount (c : Bytes) : Nat := if c.isEmpty then 0 else u16 c 0
def screenOffset (c : Bytes) (k : Nat) : Nat := u32 c (64 + 4 * (k - 1))
/-- Screen `k`, 1 to 63, of LANTERN_SCREENS. -/
def screenTarget (s c : Bytes) (k : Nat) : Target :=
  ⟨k, false, (decodeRuns (ltnPixels s) (c.drop (screenOffset c k))).take (ltnPixels s)⟩

/-- The identifier of an image: CRC-32C of its 4-bit pixels in row-major order (R510, log entry 49); 0 for a clear (Table 19.5). -/
def imageIdOf (t : Target) : Nat :=
  let rec pack : List Nat → Bytes
    | a :: b :: l => BitVec.ofNat 8 (a % 16 * 16 + b % 16) :: pack l
    | [a] => [BitVec.ofNat 8 (a % 16 * 16)]
    | [] => []
  if t.clear then 0 else crc32c (pack t.pixels)

def bookLevel (w : Nat) : Nat := w / 16 % 16
def bookBal (w : Nat) : Int := toSigned 4 (w % 16)
def bookByte (level : Nat) (b : Int) : Nat := level * 16 + ofSigned 4 b

/-- One pixel: the frames of its waveform and its book byte after the update (R508, R514). -/
def pixelStep (s : Bytes) (band : Nat) (clear : Bool) (w goal : Nat) : Nat × Nat :=
  let b := bookBal w
  if clear then
    let e := lwEntry s band (512 + (b + 8).toNat)
    (e.2, bookByte 15 0)
  else if bookLevel w = goal then (0, w)
  else
    let e := lwEntry s band (2 * (16 * bookLevel w + goal) + if 0 < b then 1 else 0)
    (e.2, bookByte goal (b + lwNet s e / (lwQuantum s : Int)))

/-- The band of a temperature in Q8.8, if it lies in one (R511). -/
def bandOf (s : Bytes) (t : Int) : Option Nat :=
  (List.range (lwBands s)).find? fun k => decide (lwLow s k * 256 ≤ t) && decide (t < lwHigh s k * 256)

/-- The panel temperature is read (R511). -/
def tempSample (t : Int) (l : LanternState) : LanternState :=
  let s := l.table
  let hold := l.tempRead && decide (t < lwLow s l.band * 256) && decide ((lwLow s l.band - 1) * 256 < t)
  let b := bandOf s t
  { l with temp := t, tempRead := true, tempOut := b.isNone, band := if hold then l.band else b.getD l.band }

/-- A request replaces the pending target; a check-value screen is replaced only by a newer one (R510). -/
def ltnRequest (t : Target) (l : LanternState) : LanternState :=
  if l.st = 0 ∨ l.st = 4 ∨ l.st = 5 then l
  else if l.st = 1 ∧ l.run.isNone then
    match l.next with
    | some p => if p.screen = 0x7F ∧ t.screen ≠ 0x7F then l else { l with next := some t }
    | none => { l with next := some t }
  else match l.pending with
    | some p => if p.screen = 0x7F ∧ t.screen ≠ 0x7F then l else { l with pending := some t }
    | none => { l with pending := some t }

/-- An update starts (R510): no update runs, 1,000 ms have passed since the last start, and the temperature lies in a band. -/
def ltnStart (us : Nat) (l : LanternState) : LanternState × Bool :=
  match l.pending, l.run with
  | some t, none =>
    let late := match l.lastStart with
      | some u => decide (u + 1000000 ≤ us)
      | none => true
    if (l.st = 1 ∨ l.st = 2) ∧ late = true ∧ l.tempRead = true ∧ l.tempOut = false then
      let px := (List.range (ltnPixels l.table)).map fun k => pixelStep l.table l.band t.clear (l.book.getD k 0xF0) (t.pixels.getD k 15)
      let frames := (px.map (·.1)).foldl max 0
      ({ l with run := some { target := t, band := l.band, frames := frames, book := px.map (·.2), frameUs := lwFrameUs l.table }, pending := l.next, next := none, bandRun := l.band,
                targetId := imageIdOf t, lastStart := some us, pumpOn := true, st := if l.st = 1 then 1 else 3 }, true)
    else (l, false)
  | _, _ => (l, false)

/-- All rails are in range: the first frame is driven (R505). -/
def ltnRails (us : Nat) (l : LanternState) : LanternState × Bool :=
  match l.run with
  | some r => if r.driven then (l, false) else ({ l with run := some { r with driven := true, fromUs := us } }, true)
  | none => (l, false)

/-- The update ends without completing: pump off, book as before the update (R505, R513). -/
def ltnAbort (l : LanternState) : LanternState :=
  { l with run := none, pumpOn := false, targetId := 0, interrupted := satAdd 0xFFFFFFFF l.interrupted 1 }

/-- The state that the end of an update leaves: IDLE, or OFF or NO_TABLE when the table is gone since it began (R507). -/
def idleSt (st : Nat) : Nat := if st = 0 ∨ st = 4 then st else 2

/-- A rail left its range during an update (R505). -/
def ltnRailFault (l : LanternState) : LanternState :=
  match l.run with
  | some _ => { ltnAbort l with pumpFault := true, st := idleSt l.st }
  | none => l

/-- The last frame ends (R508, R510). Answers whether the check-value screen is now shown. -/
def ltnEnd (status : Target) (l : LanternState) : LanternState × Bool :=
  match l.run with
  | some r =>
    if !r.driven then (l, false)
    else
      let first := l.st == 1
      let l1 := { l with run := none, pumpOn := false, book := r.book, imageId := imageIdOf r.target, targetId := 0, updates := (l.updates + 1) % 2 ^ 32,
                         screen := r.target.screen, st := idleSt l.st }
      (if first ∧ l1.pending.isNone then { l1 with pending := some status } else l1, r.target.screen == 0x7F)
  | none => (l, false)

/-- PFAIL_N is recognised (R513). Answers the identifier of the target of an update it ended. -/
def ltnPowerFail (l : LanternState) : LanternState × Option Nat :=
  match l.run with
  | some _ => ({ ltnAbort l with st := 5, pfDone := true, pending := none, next := none }, some l.targetId)
  | none => ({ l with st := 5, pfDone := true, pending := none, next := none }, none)

/-- The table of an image comes into use at a commit or rollback boundary, or at start-up (R507). A running update keeps its own. -/
def ltnTables (w sc : Bytes) (l : LanternState) : LanternState :=
  if l.st = 5 then l
  else
    let fresh := l.table.isEmpty || lwWidth l.table != lwWidth w || lwHeight l.table != lwHeight w
    let l1 := { l with table := w, screens := sc, band := if l.tempRead then (bandOf w l.temp).getD 0 else l.band }
    if w.isEmpty then { l1 with st := 4 }
    else if lwWidth w = 0 then { l1 with st := 0 }
    else if l.st = 0 ∨ l.st = 4 then { l1 with st := 1, pending := some ⟨0, true, []⟩, book := List.replicate (ltnPixels w) 0xF0, bookMissing := true }
    else if fresh then { l1 with book := List.replicate (ltnPixels w) 0xF0, bookMissing := true }
    else l1

/-- The book of the newest LANTERN slot is loaded when its size and quantum match (R509). -/
def ltnLoadBook (slot : Option Bytes) (l : LanternState) : LanternState :=
  match slot with
  | some b =>
    if u16 b 8 = lwWidth l.table ∧ u16 b 10 = lwHeight l.table ∧ u8 b 12 = lwQuantum l.table ∧ b.length = 64 + ltnPixels l.table
        ∧ crc32c (b.take 60 ++ b.drop 64) = u32 b 60 then
      { l with book := (b.drop 64).map (·.toNat), bookSeq := u32 b 0, bookMissing := false }
    else l
  | none => l

/-- The LANTERN slot that holds the book (R509). -/
def ltnSlot (secs : Nat) (l : LanternState) : Bytes :=
  let body : Bytes := l.book.map (BitVec.ofNat 8 ·)
  let h := padTo 60 (leBytes 4 (l.bookSeq + 1) ++ leBytes 4 secs ++ leBytes 2 (lwWidth l.table) ++ leBytes 2 (lwHeight l.table) ++ leBytes 1 (lwQuantum l.table))
  h ++ leBytes 4 (crc32c (h ++ body)) ++ body

/-- Frames left in the running update, its frames following each other from the first one (R510, Table 19.6). -/
def framesLeft (us : Nat) (l : LanternState) : Nat :=
  match l.run with
  | some r => if r.driven then r.frames - (us - r.fromUs) / r.frameUs else r.frames
  | none => 0

/-- LTN_STATUS (Table 19.6). -/
def ltnStatusWord (us : Nat) (l : LanternState) : Nat :=
  atF 29 3 l.st + at1 28 (l.mode == 1) + at1 27 l.reserved + at1 26 l.pumpOn + at1 25 l.pumpFault + at1 24 l.tempOut + at1 23 l.pending.isSome +
    at1 22 l.bookMissing + atF 19 3 l.band + atF 16 3 l.bandRun + atF 8 8 (min 255 (framesLeft us l)) + atF 0 7 l.screen

def ltnReg (us off : Nat) (l : LanternState) : Nat :=
  match off with
  | 0x0000 => ltnStatusWord us l
  | 0x0004 => l.imageId
  | 0x0008 => l.targetId
  | 0x000C => l.updates
  | 0x0010 => ofSigned 32 l.temp
  | 0x0014 => l.bookSeq
  | 0x0018 => l.interrupted
  | _ => 0
def ltnRegClear (off : Nat) (l : LanternState) : LanternState := if off = 0x0018 then { l with interrupted := 0 } else l

/-- LTN_STATUS reply (Table 17.11). -/
def ltnReply (us : Nat) (l : LanternState) : Bytes :=
  leBytes 4 (ltnStatusWord us l) ++ leBytes 2 l.screen ++ zeroBytes 2 ++ leBytes 4 l.imageId ++ leBytes 4 l.updates

end Sys2Proof.Machine
end

