-- ==== Sys2Proof/Machine/BusUnit.lean ====
section
/-! DEFINITION. The four CAN FD controllers of one lane (chapter 13): matrix, transmit banks, filters, mailboxes, network states, error confinement, event queue, registers. -/

namespace Sys2Proof.Machine

/-! CAN_MATRIX (Table 13.4) and CAN_FILTERS (Table 13.9). -/
def cmId (m : Bytes) := u16 m 2
def cmNet (m : Bytes) (n : Nat) : Bytes := sliceB m (64 + 8512 * n) 8512
def nhMode (b : Bytes) := u8 b 0
def nhNom (b : Bytes) := u8 b 1
def nhData (b : Bytes) := u8 b 2
def nhTdc (b : Bytes) := u8 b 3
def nhCycles (b : Bytes) := u8 b 12
def nhColumns (b : Bytes) := u8 b 13
def nhNopeer (b : Bytes) := u8 b 14
def nhReturn (b : Bytes) := 12 * u8 b 15
def nhGuard (b : Bytes) := u8 b 16
def nhXtd (b : Bytes) : Bool := bitOf 0 (u8 b 17)
def nhRef (b : Bytes) := u32 b 18
def nhCmd (b : Bytes) := u32 b 22
def nhFb (b : Bytes) := u32 b 26
def nhDiag (b : Bytes) := u32 b 30
def colStart (b : Bytes) (c : Nat) := u16 b (64 + 8 * c)
def colEnd (b : Bytes) (c : Nat) := u16 b (66 + 8 * c)

structure Cell where
  kind : Nat
  arg  : Nat
  id   : Nat
  /-- The identifier of its frame has 29 bits: a built-in one of a network whose IDFLAGS say so. -/
  xtd  : Bool
  deriving DecidableEq, Repr, Inhabited

/-- The cell of basic cycle `b` and column `c` (R335). An IDENT of its own is an 11-bit identifier. -/
def cellAt (blk : Bytes) (b c : Nat) : Cell :=
  let o := 320 + 4 * (32 * b + c)
  ⟨u8 blk o, u8 blk (o + 1), u16 blk (o + 2), u16 blk (o + 2) == 0 && nhXtd blk⟩
/-- The basic cycle (R334). -/
def basicOf (blk : Bytes) (cycle : Nat) : Nat := cycle % max 1 (nhCycles blk)
/-- The identifier of a cell: its IDENT, or the built-in one. -/
def cellIdent (blk : Bytes) (c : Cell) : Nat :=
  if c.id ≠ 0 then c.id
  else match c.kind with
    | 1 => nhRef blk
    | 2 => nhCmd blk + c.arg
    | 3 => nhFb blk + c.arg
    | 4 => nhDiag blk + c.arg
    | _ => 0
/-- A matrix from the side of the node of thruster `k` (R570): what it receives is kind 6, its own feedback and diagnostic frames are kinds 8 and 9 of
the model, every other cell is FREE. -/
def nodeCell (blk : Bytes) (k : Nat) (c : Cell) : Cell :=
  match c.kind with
  | 1 => ⟨6, 0, cellIdent blk c, c.xtd⟩
  | 2 => if c.arg = k then ⟨6, 0, cellIdent blk c, c.xtd⟩ else default
  | 3 => if c.arg = k then ⟨8, k, cellIdent blk c, c.xtd⟩ else default
  | 4 => if c.arg = k then ⟨9, k, cellIdent blk c, c.xtd⟩ else default
  | _ => default
/-- The cell as this module reads it; `node` is the thruster of a node. -/
def viewCell (node : Option Nat) (blk : Bytes) (b c : Nat) : Cell :=
  let x := cellAt blk b c
  match node with
  | some k => nodeCell blk k x
  | none => x
/-- A cell whose frame this module sends. -/
def ownKind (k : Nat) : Bool := k == 1 || k == 2 || k == 5 || k == 8 || k == 9

/-- The identifier of a cell's frame with its format, 29 bits or 11: a TX_BUFFER cell without IDENT has its buffer's (`buf`). -/
def cellName (blk : Bytes) (buf : Vector (Bool × Nat) 32) (c : Cell) : Bool × Nat :=
  if c.kind = 5 ∧ c.id = 0 then vget buf c.arg else (c.xtd, cellIdent blk c)

/-- The first command column of a thruster network. -/
def firstCommandTick (blk : Bytes) (cycle : Nat) : Option Nat :=
  ((List.range (nhColumns blk)).find? fun c => (cellAt blk (basicOf blk cycle) c).kind == 2).map (colStart blk)
/-- The column that holds a tick. -/
def colOf (blk : Bytes) (tick : Nat) : Option Nat := (List.range (nhColumns blk)).find? fun c => decide (colStart blk c ≤ tick) && decide (tick < colEnd blk c)

/-- Bit rates in kbit/s. -/
def nomRate (n : Nat) : Nat := if n = 0 then 500 else 1000
def dataRate (n d : Nat) : Nat := [nomRate n, 1000, 2000, 4000, 5000, 8000].getD d (nomRate n)

/-- Transmitter delay compensation is on (R332). -/
def tdcOn (blk : Bytes) : Bool := nhTdc blk == 0 && decide (1000 < dataRate (nhNom blk) (nhData blk))

/-- The worst-case bus time of a frame, µs (R333). -/
def frameBound (blk : Bytes) (xtd fd brs : Bool) (n : Nat) : ℚ :=
  let fn : ℚ := nomRate (nhNom blk)
  let fdd : ℚ := dataRate (nhNom blk) (nhData blk)
  if fd then
    let a : Nat := if xtd then 44 else 21
    let c : Nat := if n ≤ 16 then 17 else 21
    let d : Nat := 10 + 8 * n + (4 + 8 * n) / 4 + c + (c + 3) / 4
    1000 * ((a + 13 : Nat) / fn + (d : ℚ) / (if brs then fdd else fn))
  else
    let bits : Nat := 8 * n + 47 + (33 + 8 * n) / 4 + (if xtd then 25 else 0)
    1000 * ((bits : ℚ) / fn)

/-- E2E of a built-in frame: over the identifier and all payload bytes before it (R338). -/
def crcE2E (ident : Nat) (body : Bytes) : Nat := binCheck 4 (leBytes 4 ident ++ body)

structure CanFilter where
  ftype  : Nat
  flags  : Nat
  action : Nat
  layout : Nat
  id1    : Nat
  id2    : Nat
  chan   : Nat
  mbx    : Nat
  deriving DecidableEq, Repr, Inhabited

def filterAt (f : Bytes) (n k : Nat) : CanFilter :=
  let o := 64 + 2048 * n + 16 * k
  ⟨u8 f o, u8 f (o + 1), u8 f (o + 2), u8 f (o + 3), u32 f (o + 4) % 2 ^ 29, u32 f (o + 8) % 2 ^ 29, u16 f (o + 12), u8 f (o + 14)⟩

/-- Whether a filter entry matches a frame (R342). -/
def CanFilter.hits (f : CanFilter) (fr : CanFrame) : Bool :=
  (f.ftype != 0) && (bitOf 0 f.flags == fr.xtd) && !(bitOf 1 f.flags && !fr.fd) && !(bitOf 2 f.flags && fr.fd) &&
  match f.ftype with
  | 1 => decide (f.id1 ≤ fr.ident) && decide (fr.ident ≤ f.id2)
  | 2 => fr.ident == f.id1 || fr.ident == f.id2
  | 3 => (fr.ident &&& f.id2) == (f.id1 &&& f.id2)
  | _ => false

def twinOf (n : Nat) : Nat := if n % 2 = 0 then n + 1 else n - 1

/-- The first matching entry: its list, its index, the entry (R342, R343). -/
def findFilter (f : Bytes) (n : Nat) (fr : CanFrame) : Option (Nat × Nat × CanFilter) :=
  let own := (List.range 128).find? fun k => (filterAt f n k).hits fr
  match own with
  | some k => some (n, k, filterAt f n k)
  | none =>
    if n % 2 = 1 then
      ((List.range 128).find? fun k => bitOf 3 (filterAt f (n - 1) k).flags && (filterAt f (n - 1) k).hits fr).map fun k => (n - 1, k, filterAt f (n - 1) k)
    else none

/-! State. -/

/-- A mailbox (Table 13.11). -/
structure Mailbox where
  brs  : Bool := false
  fdf  : Bool := false
  xtd  : Bool := false
  ident : Nat := 0
  lost : Bool := false
  fresh : Bool := false
  esi  : Bool := false
  filter : Nat := 0
  seq  : Nat := 0
  cycle : Nat := 0
  tick : Nat := 0
  data : Bytes := []
  deriving DecidableEq, Repr, Inhabited

/-- A first copy of a TWIN entry that waits for its second (R343). -/
structure TwinCopy where
  net   : Nat
  ident : Nat
  xtd   : Bool
  data  : Bytes
  /-- Cycle and column, or none for an event window. -/
  place : Option (Nat × Nat)
  ns    : Nat
  deriving DecidableEq, Repr, Inhabited

/-- One entry of the controller's error log of 32 entries (R357): kind of error, identifier, cycle, tick. -/
structure BusError where
  kind  : Nat
  ident : Nat
  cycle : Nat
  tick  : Nat
  deriving DecidableEq, Repr, Inhabited

/-- One CAN FD controller. -/
structure NetState where
  state : Nat := 0
  tec   : Nat := 0
  rec_  : Nat := 0
  restricted : Bool := true
  noPeer : Bool := false
  idClash : Bool := false
  evtSuspended : Bool := false
  lostAny : Bool := false
  pxe   : Bool := false
  /-- After a protocol exception: no part in the traffic until 11 recessive bits (R331). -/
  integrating : Bool := false
  /-- LOOPBACK of a test (R347). -/
  loopback : Bool := false
  /-- Cycles in which bus-offs began. -/
  busoffs : List Nat := []
  suspended : List (Bool × Nat) := []
  ackErr : Nat := 0
  bitErr : Nat := 0
  formErr : Nat := 0
  txAbort : Nat := 0
  missed : Nat := 0
  rxMissing : Nat := 0
  rxForeign : Nat := 0
  repeats : Nat := 0
  tdcFault : Bool := false
  tdcDelay : Nat := 0
  mbxLost : Nat := 0
  unmatched : Nat := 0
  twinDiff : Nat := 0
  lateQ10 : Nat := 0
  /-- Transmit banks: payloads by buffer. -/
  active : Vector Bytes 32 := Vector.replicate 32 []
  staging : Vector Bytes 32 := Vector.replicate 32 []
  /-- Q10 entries present in the staging bank, one bit each, the cycle of entry 0, complete and free of overflow. -/
  got   : Nat := 0
  gotCycle : Nat := 0
  /-- TX_BUFFER frames written by management (R339): format and identifier of buffers 17 to 31. No command writes them: the bus window maps only the
  mailboxes and the event queue (R357), and no rule says what management sends there (DESIGN CHOICE, log entry 78). -/
  bufId : Vector (Bool × Nat) 32 := Vector.replicate 32 (false, 0)
  /-- The banks were exchanged or judged in this cycle. -/
  exchanged : Bool := false
  repeating : Bool := false
  /-- Run of clashes without a clean transmission, by format and identifier (R355). -/
  clashes : List ((Bool × Nat) × Nat) := []
  events : List CanFrame := []
  /-- Attempts of the front frame that failed by acknowledgement error in a row. -/
  attempts : Nat := 0
  mailboxes : Vector Mailbox 64 := Vector.replicate 64 {}
  acked : Bool := false
  unackRun : Nat := 0
  ackRun : Nat := 0
  /-- A receive cell that runs: its format and identifier. -/
  expect : Option (Bool × Nat) := none
  copies : List TwinCopy := []
  /-- Error log, newest first, 32 entries. -/
  errors : List BusError := []
  deriving DecidableEq, Repr, Inhabited

/-- The bus island's networks of one lane. -/
structure BusState where
  nets : Vector NetState 4 := Vector.replicate 4 {}
  repeat_ : Bool := false
  schedErr : Bool := false
  twinDiff : Bool := false
  /-- Q10 entries on their way from Spire: entry number and words. -/
  q10 : List (Nat × List Nat) := []
  /-- The words of the doorbell entry apertures. -/
  evtEntry : Vector Bytes 4 := Vector.replicate 4 []
  deriving DecidableEq, Repr, Inhabited

def sat8 (n : Nat) : Nat := min 0xFF n

/-! Error confinement (R349 to R351). The counts are those of ISO 11898-1:2015 (log entry 39). -/

/-- A bus-off: BUS_OFF, or FAILED at the fourth within 50 cycles (R350). -/
def netBusOff (cycle : Nat) (n : NetState) : NetState :=
  let hist := (cycle :: n.busoffs).filter fun c => decide (cycle < c + 50)
  { n with busoffs := hist, state := if 4 ≤ hist.length then 6 else 5, expect := none }

def netTxError (cycle : Nat) (n : NetState) : NetState :=
  let n1 := { n with tec := n.tec + 8 }
  if 255 < n1.tec then netBusOff cycle n1 else n1

/-- An acknowledgement error: no rise of TEC once error passive, by TEC or REC (R349, R351). -/
def netAckError (cycle : Nat) (n : NetState) : NetState :=
  let n1 := { n with ackErr := satAdd 0xFF n.ackErr 1 }
  if 128 ≤ n.tec ∨ 128 ≤ n.rec_ then n1 else netTxError cycle n1

def netTxOk (n : NetState) : NetState := { n with tec := n.tec - 1 }
def netRxOk (n : NetState) : NetState := { n with rec_ := if 127 < n.rec_ then 127 else n.rec_ - 1 }

def logBusError (kind ident cycle tick : Nat) (n : NetState) : NetState :=
  { n with errors := (⟨kind, ident, cycle % 2 ^ 32, tick⟩ :: n.errors).take 32 }

/-- CONF (Table 13.14). -/
def netConf (n : NetState) : Nat := if n.state = 5 ∨ n.state = 6 then 3 else if 128 ≤ n.tec ∨ 128 ≤ n.rec_ then 2 else if 96 ≤ n.tec ∨ 96 ≤ n.rec_ then 1 else 0

/-- A clean transmission of an identifier ends its clash run. -/
def clashClear (name : Bool × Nat) (n : NetState) : NetState := { n with clashes := n.clashes.filter (·.1 != name) }
/-- The run of clashes of an identifier (R355). -/
def clashRun (name : Bool × Nat) (n : NetState) : Nat := ((n.clashes.find? (·.1 == name)).map (·.2)).getD 0
/-- A clash: the new run (R354). -/
def clashAdd (name : Bool × Nat) (n : NetState) : NetState × Nat :=
  let r := clashRun name n + 1
  ({ n with clashes := (name, r) :: n.clashes.filter (·.1 != name) }, r)

/-- Suspension of an event identifier (R355). -/
def suspendId (xtd : Bool) (ident : Nat) (n : NetState) : NetState :=
  let gone := n.events.filter fun e => e.ident == ident && e.xtd == xtd
  let rest := n.events.filter fun e => !(e.ident == ident && e.xtd == xtd)
  let n1 := { n with events := rest, attempts := 0, txAbort := satAdd 0xFF n.txAbort gone.length }
  if n.suspended.contains (xtd, ident) then n1
  else if 8 ≤ n.suspended.length then { n1 with evtSuspended := true }
  else { n1 with suspended := n.suspended ++ [(xtd, ident)] }

/-- Bytes and frames a transmission or reception adds to the port's window: ports 10 to 13 (Table 20.6). -/
def busBw (net : Nat) (inB outB drops : Nat) : Effect := .bw (10 + net) inB outB (if drops = 0 then 1 else 0) drops

/-- The loop delay of a frame sent with bit-rate switching, in quanta: measured within 0 to 127, else TDC_FAULT (R332). -/
def tdcMeasure (blk : Bytes) (brs : Bool) (loop : Nat) (n : NetState) : NetState :=
  if brs && tdcOn blk then (if loop ≤ 127 then { n with tdcDelay := loop } else { n with tdcFault := true }) else n

/-- An auxiliary network that was ABANDONED returns at its first acknowledged or valid received frame (R353). -/
def auxReturn (net : Nat) (n : NetState) : NetState := if 2 ≤ net ∧ n.state = 3 then { n with state := 2 } else n

/-- Cells run in a state. -/
def cellsRun (n : NetState) : Bool := n.state == 2 || n.state == 3

/-- A transmission that took the controller to bus-off counts BUS_OFF (Table 20.4). -/
def busOffCount (net : Nat) (n : NetState) : List Effect := if n.state = 5 ∨ n.state = 6 then [.count 0x060A net 1] else []

/-- The outcome of a frame this module sent in a cell (R337, R349, R351, R354, R355). -/
def cellOutcome (cycle tick net : Nat) (name : Bool × Nat) (size : Nat) (peer : Bool) (r : TxResult) (n : NetState) : NetState × List Effect :=
  match r with
  | .acked =>
    let n1 := auxReturn net (clashClear name (netTxOk n))
    ({ n1 with acked := n1.acked || peer }, [.count 0x0602 net 1, busBw net 0 size 0])
  | .noAck =>
    let n1 := logBusError 1 name.2 cycle tick (netAckError cycle n)
    (n1, [.count 0x0603 net 1, busBw net 0 0 1] ++ busOffCount net n1)
  | .bitError =>
    let (n1, run) := clashAdd name { n with bitErr := satAdd 0xFF n.bitErr 1 }
    let n2 := logBusError 2 name.2 cycle tick (netTxError cycle n1)
    ({ n2 with idClash := n2.idClash || decide (2 ≤ run) }, [.count 0x0604 net 1, .count 0x060B net 1, busBw net 0 0 1] ++ busOffCount net n2)
  | .startError =>
    let n1 := logBusError 2 name.2 cycle tick (netTxError cycle { n with bitErr := satAdd 0xFF n.bitErr 1 })
    (n1, [.count 0x0604 net 1, busBw net 0 0 1] ++ busOffCount net n1)
  | .frameError =>
    let n1 := logBusError 3 name.2 cycle tick (netTxError cycle { n with formErr := satAdd 0xFF n.formErr 1 })
    (n1, [busBw net 0 0 1] ++ busOffCount net n1)
  | .busy => ({ n with missed := satAdd 0xFF n.missed 1 }, [.count 0x0605 net 1])

/-- Settle the receive cell that has ended, in restricted operation too (log entry 77). -/
def settleExpect (net : Nat) (n : NetState) : NetState × List Effect :=
  match n.expect with
  | none => (n, [])
  | some _ => ({ n with expect := none, rxMissing := satAdd 0xFF n.rxMissing 1 }, [.count 0x0606 net 1])

/-- The payload of a cell's frame: from the active bank, or the node's own frame (R576, R577). A command has E2E over the identifier that its cell gives
it, and REPEAT when it is sent again (R338 to R340). -/
def cellData (c : Cell) (id : Nat) (nodeData : Bytes) (n : NetState) : Bytes :=
  match c.kind with
  | 8 | 9 => nodeData
  | 1 => vget n.active 0
  | 2 =>
    let body := sliceB (vget n.active c.arg) 0 14
    let b := if n.repeating then patchB body 2 [BitVec.ofNat 8 (setBit (u8 body 2) 0 true)] else body
    b ++ leBytes 2 (crcE2E id b)
  | _ => vget n.active c.arg

/-- CELL_START in one lane. A node that is not LOCKED has no `nodeData` and sends nothing in its cells (R569). `loop` is the loop delay of the
transceiver; after TDC_FAULT no frame with bit-rate switching leaves until the next boundary (R332). A controller that waits for 11 recessive bits
finds the bus busy (R331). -/
def cellStart (lane : LaneId) (m : Bytes) (node : Option Nat) (nodeData : Option Bytes) (cycle tick net col : Nat) (result : TxResult) (loop : Nat) (s : BusState) :
    BusState × List Effect × List Output :=
  let brs := nhData (cmNet m net) != 0
  let r := if (vget s.nets net).integrating then .busy else result
  let blk := cmNet m net
  let n := vget s.nets net
  let (n0, ev0) := settleExpect net n
  let c := viewCell node blk (basicOf blk cycle) col
  let name := cellName blk n0.bufId c
  let put (x : NetState) : BusState := { s with nets := vmodN s.nets net fun _ => x }
  if !cellsRun n0 then (put n0, ev0, [])
  else if c.kind = 3 ∨ c.kind = 4 ∨ c.kind = 6 then (put { n0 with expect := some name }, ev0, [])
  else if !ownKind c.kind || n0.restricted || (node.isSome && nodeData.isNone) || (n0.tdcFault && brs) then (put n0, ev0, [])
  else
    let data := cellData c name.2 (nodeData.getD []) n0
    let (n1, ev) := cellOutcome cycle tick net name data.length (c.kind == 1 || c.kind == 2) r (if r == .busy then n0 else tdcMeasure blk brs loop n0)
    let s1 := put n1
    ({ s1 with schedErr := s.schedErr || (r == .busy) }, ev0 ++ ev, if r == .acked || r == .noAck then [.can lane net name.2 name.1 data] else [])

/-- The reference frame (Table 13.6), formed at tick 100 in both thruster networks' transmit bank (R339). -/
def refFrame (m : Bytes) (net cycle module lane : Nat) (timeLost : Bool) : Bytes :=
  leBytes 4 cycle ++ leBytes 1 (basicOf (cmNet m net) cycle) ++ leBytes 1 (atF 0 2 module + atF 2 1 lane + at1 3 timeLost) ++ leBytes 2 (cmId m)

def refForm (m : Bytes) (cycle module lane : Nat) (timeLost : Bool) (s : BusState) : BusState :=
  { s with nets := Vector.ofFn fun i =>
      if i.val < 2 then
        let f := refFrame m i.val cycle module lane timeLost
        { s.nets[i] with active := vmodN s.nets[i].active 0 (fun _ => f), staging := vmodN s.nets[i].staging 0 (fun _ => f) }
      else s.nets[i] }

/-- The command frame of thruster k from the words of Q10 entries 0 and k (Table 13.7). -/
def commandFrame (ident k : Nat) (e0 e : List Nat) : Bytes :=
  let f := e0.getD 1 0
  let w0 := e.getD 0 0
  let w1 := e.getD 1 0
  let w2 := e.getD 2 0
  let cf := at1 1 (bitOf 5 f) + at1 2 (bitOf 6 f) + at1 3 (bitOf 4 f) + at1 4 (bitOf 16 w2) + at1 5 (bitOf 17 w2) + at1 6 (bitOf 18 w2)
  let b := leBytes 2 (e0.getD 0 0) ++ leBytes 1 cf ++ leBytes 1 k ++ leBytes 4 w0 ++ leBytes 4 w1 ++ leBytes 2 w2
  b ++ leBytes 2 (crcE2E ident b)

/-- Q10_RECEIVE: the front entry goes to both staging banks, or is counted late. Entry 0 stands in buffer 0's place until the exchange. -/
def q10Receive (m : Bytes) (s : BusState) : BusState :=
  match s.q10 with
  | [] => s
  | (k, w) :: rest =>
    { s with
      q10 := rest
      nets := Vector.ofFn fun i =>
        if i.val < 2 then
          let n := s.nets[i]
          if n.exchanged then { n with lateQ10 := satAdd 0xFFFF n.lateQ10 1 }
          else if k = 0 then { n with got := 1, gotCycle := w.getD 0 0, staging := vmodN n.staging 0 fun _ => w.flatMap (leBytes 4) }
          else
            let e0 := vget n.staging 0
            let words := [u32 e0 0, u32 e0 4, u32 e0 8, 0]
            { n with got := n.got ||| 2 ^ k, staging := vmodN n.staging k fun _ => commandFrame (nhCmd (cmNet m i.val) + k) k words w }
        else s.nets[i] }

/-- TX_BANK_EXCHANGE (R339, R340): `thr` is THRUSTERS. -/
def bankExchange (cycle thr : Nat) (s : BusState) : BusState × List Effect :=
  let all := 2 ^ (thr + 1) - 1
  let ok (n : NetState) : Bool := (n.got &&& all) == all && n.gotCycle == cycle % 2 ^ 32
  let step (i : Nat) (n : NetState) : NetState :=
    if 2 ≤ i ∨ n.exchanged then n
    else if ok n then
      { n with active := (Vector.ofFn fun k => if k.val = 0 then n.active[0] else n.staging[k]), staging := n.active, got := 0, exchanged := true, repeating := false }
    else { n with got := 0, exchanged := true, repeating := true, repeats := satAdd 0xFF n.repeats 1 }
  let nets : Vector NetState 4 := Vector.ofFn fun i => step i.val s.nets[i]
  let rep := [0, 1].filter fun i => !(vget s.nets i).exchanged && (vget nets i).repeating
  ({ s with nets := nets, repeat_ := !rep.isEmpty || s.repeat_ }, rep.map fun i => .count 0x0607 i 1)

/-! Reception (R341 to R344, R354). -/

/-- Whether the matrix gives an identifier to a cell that this module sends, in any basic cycle. -/
def ownCellName (node : Option Nat) (blk : Bytes) (n : NetState) (name : Bool × Nat) : Bool :=
  (List.range (nhCycles blk)).any fun b => (List.range (nhColumns blk)).any fun c =>
    let x := viewCell node blk b c; ownKind x.kind && cellName blk n.bufId x == name

/-- Fields of a frame by its layout; layout 0 is the feedback frame (R341, Table 13.8). -/
def layoutFields (f : Bytes) (layout : Nat) (fr : CanFrame) : Parsed :=
  let zero : Parsed := ⟨#v[0, 0, 0, 0, 0, 0, 0, 0], 0, false, none, true⟩
  if layout = 0 then
    let d := fr.data
    let okE := decide (16 ≤ d.length) && crcE2E fr.ident (sliceB d 0 14) == u16 d 14
    let th := s16 d 4 * 2
    let az := roundAway ((u16 d 6 : ℚ) * 360 / 65536 * 65536)
    let kw := (u16 d 8 : Int) * 65536
    { zero with
      value := #v[ofSigned 32 th, ofSigned 32 (clampI (-2147483648) 2147483647 az), ofSigned 32 (clampI (-2147483648) 2147483647 kw), u8 d 3, 0, 0, 0, 0],
      saturated := decide (2147483647 < kw), ok := okE }
  else
    let l := sliceB f (8256 + 128 * layout) 128
    (List.range 8).foldl (fun p j => let d := sliceB l (16 * j) 16; if u8 d 1 = 0 then p else putField d false false (decodeBin d fr.data) p) zero

/-- Store a frame in a mailbox (R344). -/
def mailboxStore (fr : CanFrame) (filter cycle tick : Nat) (mbx net : Nat) (n : NetState) : NetState × List Effect :=
  let old := vget n.mailboxes mbx
  let lost := old.fresh
  let b : Mailbox :=
    { brs := fr.brs, fdf := fr.fd, xtd := fr.xtd, ident := fr.ident, lost := old.lost || lost, fresh := true, esi := fr.esi, filter := filter,
      seq := (old.seq + 1) % 2 ^ 32, cycle := cycle % 65536, tick := tick, data := fr.data }
  ({ n with mailboxes := vmodN n.mailboxes mbx (fun _ => b), lostAny := n.lostAny || lost, mbxLost := if lost then satAdd 0xFFFF n.mbxLost 1 else n.mbxLost },
    if lost then [.count 0x0609 net 1] else [])

/-- What a reception leads to. -/
structure RxOut where
  bus     : BusState
  updates : List ChanUpdate := []
  rejects : List Nat := []
  effects : List Effect := []
  /-- The controller takes part and the frame is a valid one. -/
  took : Bool := true

/-- A frame that is not valid: a restricted controller changes no error counter (R329); REC rises by 1, and by 8 as often as the line gives cause (R349). -/
def rxError (ident cycle tick : Nat) (rec8 : Nat) (n : NetState) : NetState :=
  logBusError 3 ident cycle tick (if n.restricted then n else { n with formErr := satAdd 0xFF n.formErr 1, rec_ := n.rec_ + 1 + 8 * rec8 })

/-- CAN_FRAME_RECEIVE in one lane. `sofNs` and `validNs` are device times; `forms` when this lane forms updates (R330). The cell and what is stored
belong to the cycle of the start-of-frame edge (R344). -/
def canReceive (m f table : Bytes) (node : Option Nat) (sofNs validNs lane net : Nat) (forms : Bool) (fr : CanFrame) (s : BusState) : RxOut :=
  let n := vget s.nets net
  let cycle := sofNs / 20000000
  let name := (fr.xtd, fr.ident)
  let blk := cmNet m net
  let put (x : NetState) : BusState := { s with nets := vmodN s.nets net fun _ => x }
  let tick := sofNs / 1000 % 20000
  if n.state = 0 ∨ n.state = 5 ∨ n.state = 6 then { bus := s, took := false }
  else if n.integrating then { bus := s, took := false }
  else if fr.fd && fr.res then { bus := put { n with pxe := true, integrating := true }, took := false }
  else if fr.bad then
    { bus := put (rxError fr.ident cycle tick fr.rec8 n), effects := [busBw net 0 0 1], took := false }
  else
    let n0 := if n.restricted then n else netRxOk n
    let n0 := auxReturn net n0
    let rx : List Effect := [.count 0x0601 net 1, busBw net fr.data.length 0 0]
    if fr.remote then { bus := put { n0 with unmatched := satAdd 0xFFFF n0.unmatched 1 }, effects := rx }
    else
      let col := if nhMode blk = 2 then colOf blk tick else none
      let b := basicOf blk cycle
      let cell := match col with
        | some c => viewCell node blk b c
        | none => default
      let excl := col.isSome && cell.kind != 0 && cell.kind != 7
      let foreign := excl && cellName blk n0.bufId cell != name && cellsRun n0
      let inOwn := col.isSome && ownKind cell.kind && cellName blk n0.bufId cell == name
      let clash := nhMode blk == 2 && cellsRun n0 && ownCellName node blk n0 name && !inOwn
      let n1 := if foreign then { n0 with rxForeign := satAdd 0xFF n0.rxForeign 1 } else n0
      let (n2, run) := if clash then clashAdd name n1 else (n1, 0)
      let n3 := { n2 with idClash := n2.idClash || decide (2 ≤ run), expect := if n2.expect = some name then none else n2.expect }
      let ev := rx ++ (if clash then [.count 0x060B net 1] else [])
      let s1 : BusState := { s with schedErr := s.schedErr || foreign }
      let put1 (x : NetState) : BusState := { s1 with nets := vmodN s1.nets net fun _ => x }
      match findFilter f net fr with
      | none => { bus := put1 { n3 with unmatched := satAdd 0xFFFF n3.unmatched 1 }, effects := ev }
      | some (lst, k, flt) =>
        let toMbx : Bool := (flt.action == 2 || (flt.action == 1 && (n3.state == 1 || n3.state == 4))) && decide (flt.mbx < 64)
        if toMbx then
          let (n4, e2) := mailboxStore fr k cycle tick flt.mbx net n3
          { bus := put1 n4, effects := ev ++ e2 }
        else if flt.action = 1 ∧ cellsRun n3 then
          let twin := bitOf 3 flt.flags
          let place : Option (Nat × Nat) := match col with
            | some c => if cell.kind = 7 then none else some (cycle, c)
            | none => none
          let other := vget s1.nets (twinOf net)
          let same (t : TwinCopy) : Bool := t.ident == fr.ident && t.xtd == fr.xtd &&
            (if place.isSome then t.place == place else t.place.isNone && decide (sofNs ≤ t.ns + 1000000) && decide (t.ns ≤ sofNs + 1000000))
          match (if twin then other.copies.find? same else none) with
          | some t =>
            let diff := t.data != fr.data
            let s2 := put1 { n3 with twinDiff := if diff then satAdd 0xFFFF n3.twinDiff 1 else n3.twinDiff }
            { bus := { s2 with nets := vmodN s2.nets (twinOf net) (fun o => { o with copies := o.copies.filter (· != t) }), twinDiff := s2.twinDiff || diff },
              effects := ev ++ (if diff then [.count 0x0608 net 1] else []) }
          | none =>
            let p := layoutFields f flt.layout fr
            -- only a valid first copy stands for both: one that forms no update leaves the second to form it
            let n4 := if twin && p.ok then { n3 with copies := ((⟨net, fr.ident, fr.xtd, fr.data, place, sofNs⟩ : TwinCopy) :: n3.copies).take 32 } else n3
            let e := chanEntry table flt.chan
            if !forms ∨ chKind e ≠ 4 ∨ chSource e ≠ lst + 1 then { bus := put1 n4, effects := ev }
            else if !p.ok then { bus := put1 n4, rejects := [flt.chan], effects := ev }
            else
              match measTime e 0 none none sofNs with
              | none => { bus := put1 n4, rejects := [flt.chan], effects := ev }
              | some (mt, src) =>
                { bus := put1 n4, updates := [⟨flt.chan, p.value, p.quality, mt, sofNs, validNs, src, p.saturated, lane, 22 + net, 0⟩], effects := ev }
        else { bus := put1 n3, effects := ev }

/-- MAILBOX_ACK: clears NEW and LOST (R344). -/
def mailboxAck (net mbx : Nat) (s : BusState) : BusState :=
  { s with nets := vmodN s.nets net fun n => { n with mailboxes := vmodN n.mailboxes mbx fun b => { b with fresh := false, lost := false } } }

/-- A write of the header word that holds NEW and LOST: a 1 in NEW clears both, a 1 in LOST clears LOST (Table 13.11). -/
def mailboxW1C (w net mbx : Nat) (s : BusState) : BusState :=
  if bitOf 9 w then mailboxAck net mbx s
  else { s with nets := vmodN s.nets net fun n => { n with mailboxes := vmodN n.mailboxes mbx fun b => { b with lost := b.lost && !bitOf 10 w } } }

/-! Event frames (R353, R355, R356). -/

/-- The frame in an event-queue entry aperture (Table 13.11 bytes 0 to 3, LENGTH, payload). -/
def entryFrame (e : Bytes) : CanFrame :=
  let w := u32 e 0
  { ident := w % 2 ^ 29, xtd := bitOf 29 w, fd := bitOf 30 w, brs := bitOf 31 w, esi := false, remote := false, res := false, bad := false, rec8 := 0,
    data := sliceB e 8 (min 64 (u8 e 4)) }

/-- The frame offered next: the lowest identifier, frames of equal identifier in queue order. -/
def nextEvent (n : NetState) : Option (CanFrame × Nat) :=
  n.events.zipIdx.foldl (fun b x => match b with
    | none => some x
    | some y => if x.1.ident < y.1.ident then some x else some y) none

/-- BUS_EVT_DOORBELL: append a frame; a suspended identifier or a full queue refuses it. Attempts count for the frame that is offered: another one
starts at 0 (R353, log entry 76). -/
def doorbell (net : Nat) (fr : CanFrame) (s : BusState) : BusState :=
  { s with nets := vmodN s.nets net fun n =>
      if n.suspended.contains (fr.xtd, fr.ident) ∨ 16 ≤ n.events.length then n
      else
        let m := { n with events := n.events ++ [fr] }
        { m with attempts := if nextEvent m == nextEvent n then n.attempts else 0 } }

/-- Whether an event frame may start at a tick: an ARBITRATING cell, the whole cycle in MODE 1 and in MAILBOX and TEST, with room for its bound. -/
def eventFits (m : Bytes) (node : Option Nat) (cycle tick net : Nat) (fr : CanFrame) (n : NetState) : Bool :=
  let blk := cmNet m net
  let need := frameBound blk fr.xtd fr.fd fr.brs fr.data.length + (nhGuard blk : ℚ)
  if n.state = 4 then true
  else if n.state = 0 ∨ n.state = 5 ∨ n.state = 6 then false
  else if nhMode blk = 2 ∧ cellsRun n then
    match colOf blk tick with
    | some c => (viewCell node blk (basicOf blk cycle) c).kind == 7 && decide ((tick : ℚ) + need ≤ (colEnd blk c : ℚ))
    | none => false
  else decide (100 ≤ tick) && decide ((tick : ℚ) + need ≤ 19900)

/-- EVENT_FRAME_SEND: the offered frame ends with a result. -/
def eventSend (lane : LaneId) (m : Bytes) (node : Option Nat) (cycle tick net : Nat) (r : TxResult) (loop : Nat) (s : BusState) :
    BusState × List Effect × List Output :=
  let x := vget s.nets net
  match nextEvent x with
  | none => (s, [], [])
  | some (fr, pos) =>
    if x.restricted || x.evtSuspended || x.integrating || (x.tdcFault && fr.brs) || !eventFits m node cycle tick net fr x then (s, [], [])
    else
      let n := tdcMeasure (cmNet m net) fr.brs loop x
      let name := (fr.xtd, fr.ident)
      let drop (x : NetState) : NetState := { x with events := x.events.take pos ++ x.events.drop (pos + 1), attempts := 0 }
      let put (x : NetState) : BusState := { s with nets := vmodN s.nets net fun _ => x }
      let o : List Output := if x.loopback then [] else [.can lane net fr.ident fr.xtd fr.data]
      match r with
      | .acked =>
        let n1 := drop (clashClear name (netTxOk n))
        (put (auxReturn net n1), [.count 0x0602 net 1, busBw net 0 fr.data.length 0], o)
      | .noAck =>
        let n1 := logBusError 1 fr.ident cycle tick (netAckError cycle n)
        let k := n1.attempts + 1
        if 16 ≤ k then
          let n2 := drop { n1 with txAbort := satAdd 0xFF n1.txAbort 1, noPeer := true }
          (put { n2 with state := if 2 ≤ net ∧ n2.state = 2 then 3 else n2.state }, [.count 0x0603 net 1, busBw net 0 0 1] ++ busOffCount net n1, o)
        else (put { n1 with attempts := k }, [.count 0x0603 net 1, busBw net 0 0 1] ++ busOffCount net n1, o)
      | .bitError =>
        let (n1, run) := clashAdd name { n with bitErr := satAdd 0xFF n.bitErr 1, attempts := 0 }
        let n2 := logBusError 2 fr.ident cycle tick (netTxError cycle n1)
        -- an identifier of a cell of this module is never suspended (R355)
        let n3 := if nhMode (cmNet m net) = 2 ∧ ownCellName node (cmNet m net) n2 name = true then { n2 with idClash := n2.idClash || decide (2 ≤ run) }
          else if 3 ≤ run then suspendId fr.xtd fr.ident n2 else n2
        (put n3, [.count 0x0604 net 1, .count 0x060B net 1, busBw net 0 0 1] ++ busOffCount net n2, [])
      | .startError =>
        let n1 := logBusError 2 fr.ident cycle tick (netTxError cycle { n with bitErr := satAdd 0xFF n.bitErr 1, attempts := 0 })
        (put n1, [.count 0x0604 net 1, busBw net 0 0 1] ++ busOffCount net n1, [])
      | .frameError =>
        let n1 := logBusError 3 fr.ident cycle tick (netTxError cycle { n with formErr := satAdd 0xFF n.formErr 1, attempts := 0 })
        (put n1, [busBw net 0 0 1] ++ busOffCount net n1, [])
      | .busy => (s, [], [])

/-! States (R345 to R353). -/

/-- NET_PEER_COUNT at tick 19,900 (R352). -/
def peerCount (m : Bytes) (net : Nat) (s : BusState) : BusState × List Effect :=
  let blk := cmNet m net
  let (n, ev) := settleExpect net (vget s.nets net)
  let n1 : NetState :=
    if 2 ≤ net ∨ n.restricted then n
    else if n.state = 2 then
      let r := if n.acked then 0 else n.unackRun + 1
      if nhNopeer blk ≤ r then { n with state := 3, noPeer := true, unackRun := 0, ackRun := 0 } else { n with unackRun := r }
    else if n.state = 3 then
      let r := if n.acked then n.ackRun + 1 else 0
      if nhReturn blk ≤ r then { n with state := 2, ackRun := 0, unackRun := 0 } else { n with ackRun := r }
    else n
  ({ s with nets := vmodN s.nets net fun _ => { n1 with acked := false } }, ev)

/-- BUS_IDLE_DETECT: 11 recessive bits take a network with a MODE from OFF to MAILBOX (R346). -/
def busIdle (m : Bytes) (installed : Bool) (net : Nat) (s : BusState) : BusState :=
  { s with nets := vmodN s.nets net fun n => 
      let x := { n with integrating := false }
      if n.state = 0 ∧ nhMode (cmNet m net) ≠ 0 ∧ installed then { x with state := 1 } else x }

/-- BUS_OFF_RECOVERY (R349): the counters start again at 0. -/
def busRecover (net : Nat) (s : BusState) : BusState :=
  { s with nets := vmodN s.nets net fun n => if n.state = 5 then { n with state := 1, tec := 0, rec_ := 0, loopback := false } else n }

/-- The boundary (R346): MAILBOX networks become SCHEDULED; the cycle's flags start again. -/
def busBoundary (active settled : Bool) (s : BusState) : BusState :=
  { s with
    repeat_ := false
    nets := s.nets.map fun n => { n with state := if n.state = 1 ∧ active ∧ settled then 2 else n.state, exchanged := false, repeating := false, tdcFault := false,
                                         unackRun := if n.state = 1 then 0 else n.unackRun } }

/-- A change of the selected lane (R329): the new lane starts clean and SCHEDULED, except networks in TEST or FAILED; one of MODE 0 stays OFF. -/
def busSelect (m : Bytes) (on : Bool) (s : BusState) : BusState :=
  { s with nets := Vector.ofFn fun k =>
      let n := s.nets[k]
      if on then { n with restricted := false, tec := 0, rec_ := 0, unackRun := 0, ackRun := 0, attempts := 0,
                          state := if n.state = 4 ∨ n.state = 6 then n.state else if nhMode (cmNet m k.val) = 0 then 0 else 2 }
      else { n with restricted := true, attempts := 0 } }

/-- NET_TEST at tick 19,900 (R347). A network that is OFF, BUS_OFF or FAILED stays so: Table 13.10 has them left by start-up, recovery and the restart
command only (DEDUCED, log entry 79). -/
def netTest (net action : Nat) (s : BusState) : BusState :=
  { s with nets := vmodN s.nets net fun n =>
      if action = 0 then (if n.state = 4 then { n with state := 1, loopback := false } else n)
      else if n.state = 0 ∨ n.state = 5 ∨ n.state = 6 then n
      else { n with state := 4, loopback := action == 2, expect := none } }

/-- NET_RESTART at tick 19,900 (R347); a network that is OFF has no restart to make. -/
def netRestart (net : Nat) (s : BusState) : BusState :=
  { s with nets := vmodN s.nets net fun n => { n with state := if n.state = 0 then 0 else 1, tec := 0, rec_ := 0, busoffs := [], unackRun := 0, ackRun := 0, loopback := false } }

/-- ID_CLEAR (R355). -/
def idClear (net : Nat) (all xtd : Bool) (ident : Nat) (s : BusState) : BusState :=
  { s with nets := vmodN s.nets net fun n =>
      let rest := if all then [] else n.suspended.filter (· != (xtd, ident))
      { n with suspended := rest, evtSuspended := n.evtSuspended && !rest.isEmpty } }

/-- Both thruster networks are ABANDONED, BUS_OFF or FAILED (R352). -/
def bothLost (s : BusState) : Bool := [0, 1].all fun i => let st := (vget s.nets i).state; st == 3 || st == 5 || st == 6

/-! Registers (Tables 13.12 to 13.14). -/
def busStatusHigh (s : BusState) : Nat :=
  ((List.range 4).map fun n => at1 (28 + n) ((vget s.nets n).state == 2)).sum +
  ((List.range 4).map fun n => let st := (vget s.nets n).state; at1 (24 + n) (st == 3 || st == 5 || st == 6 || st == 4)).sum +
  at1 23 s.repeat_ + at1 22 s.schedErr + at1 21 s.twinDiff + at1 20 (bothLost s)

def netStateWord (cycle : Nat) (n : NetState) : Nat :=
  atF 29 3 n.state + atF 27 2 (netConf n) + at1 26 n.restricted + at1 25 n.noPeer + at1 24 n.idClash + at1 23 n.evtSuspended + at1 22 n.lostAny
    + at1 21 n.pxe + atF 18 3 (min 7 (n.busoffs.filter fun c => decide (cycle < c + 50)).length) + atF 8 8 (sat8 n.tec) + atF 0 8 (sat8 n.rec_)

def suspWord (n : NetState) (k : Nat) : Nat := match n.suspended[k]? with
  | some (x, i) => at1 31 true + at1 29 x + atF 0 29 i
  | none => 0

/-- The 80 bytes of a mailbox. -/
def mailboxBytes (b : Mailbox) : Bytes :=
  leBytes 4 (at1 31 b.brs + at1 30 b.fdf + at1 29 b.xtd + atF 0 29 b.ident) ++ leBytes 1 b.data.length ++ leBytes 1 (at1 2 b.lost + at1 1 b.fresh + at1 0 b.esi)
    ++ leBytes 2 b.filter ++ leBytes 4 b.seq ++ leBytes 4 (atF 16 16 b.cycle + atF 0 16 b.tick) ++ padTo 64 (b.data.take 64)

/-- A network register at offset 0x40 × n + `o`. -/
def netReg (cycle : Nat) (n : NetState) (o : Nat) : Nat :=
  match o with
  | 0x00 => netStateWord cycle n
  | 0x04 => atF 24 8 n.ackErr + atF 16 8 n.bitErr + atF 8 8 n.formErr + atF 0 8 n.txAbort
  | 0x08 => atF 24 8 n.missed + atF 16 8 n.rxMissing + atF 8 8 n.rxForeign + atF 0 8 n.repeats
  | 0x0C => at1 31 n.tdcFault + atF 0 7 n.tdcDelay
  | 0x10 => atF 16 16 n.mbxLost + atF 0 16 n.unmatched
  | 0x14 => atF 16 16 n.twinDiff + atF 0 16 n.lateQ10
  | _ => if 0x20 ≤ o ∧ o < 0x40 then suspWord n ((o - 0x20) / 4) else 0

/-- A read of an RC network register clears it. -/
def netRegClear (o : Nat) (n : NetState) : NetState :=
  match o with
  | 0x04 => { n with ackErr := 0, bitErr := 0, formErr := 0, txAbort := 0 }
  | 0x08 => { n with missed := 0, rxMissing := 0, rxForeign := 0, repeats := 0 }
  | 0x10 => { n with mbxLost := 0, unmatched := 0 }
  | 0x14 => { n with twinDiff := 0, lateQ10 := 0 }
  | _ => n

/-- W1C of BUS_NET_STATE. -/
def netStateW1C (w : Nat) (n : NetState) : NetState :=
  { n with noPeer := n.noPeer && !bitOf 25 w, idClash := n.idClash && !bitOf 24 w, lostAny := n.lostAny && !bitOf 22 w, pxe := n.pxe && !bitOf 21 w }

/-- A commit of a new matrix (R345, R348): expectations and twin copies of the old one end, a network whose new MODE is 0 is OFF, and a controller that
loads a new block waits for 11 recessive bits. -/
def busCommit (old m : Bytes) (s : BusState) : BusState :=
  { s with nets := Vector.ofFn fun i => { s.nets[i] with
      integrating := s.nets[i].integrating || (cmNet old i.val != cmNet m i.val && s.nets[i].state != 0)
      expect := none, copies := [], clashes := [], state := if nhMode (cmNet m i.val) = 0 then 0 else s.nets[i].state } }

/-- What every node of a thruster network must change at one boundary: bit timing, REF_ID, and each COMMAND and FEEDBACK cell with its column and
identifier (R348). -/
def nodeFacts (b : Bytes) (rows : Nat) : Bytes × Nat × List (Nat × Nat × Nat × Cell × Nat) :=
  (sliceB b 1 11, nhRef b,
   (List.range rows).flatMap fun r => (List.range (nhColumns b)).filterMap fun c =>
     let x := cellAt b (r % max 1 (nhCycles b)) c
     if nhMode b = 2 ∧ (x.kind = 2 ∨ x.kind = 3) then some (r, colStart b c, colEnd b c, x, cellIdent b x) else none)

/-- A new matrix that R348 allows in STANDBY only. -/
def matrixBreaks (old m : Bytes) : Bool :=
  (List.range 2).any fun n =>
    let rows := max 1 (nhCycles (cmNet old n)) * max 1 (nhCycles (cmNet m n))
    nodeFacts (cmNet old n) rows != nodeFacts (cmNet m n) rows

end Sys2Proof.Machine
end

