-- ==== Sys2Proof/Machine/NodeUnit.lean ====
section
/-! DEFINITION. The thruster-node role (chapter 23): steering to the reference frame, commands, hold and ramp, feedback and diagnostics, registers. -/

namespace Sys2Proof.Machine

/-! The node block (Table 23.1). -/
def nbThruster (c : Bytes) := u8 c 2
def nbAction (c : Bytes) := u8 c 3
def nbHoldMs (c : Bytes) := u16 c 4
def nbRepeatMax (c : Bytes) := u8 c 6
def nbLinks (c : Bytes) := u8 c 7
def nbRamp (c : Bytes) := u16 c 8
def nbFbCh (c : Bytes) := u16 c 10
def nbDriveId (c : Bytes) := u32 c 12 % 2 ^ 29
def nbDriveXtd (c : Bytes) : Bool := u8 c 16 == 1
def nbHoldover (c : Bytes) := u8 c 17

/-- The last applied command (Table 13.7). -/
structure NodeCmd where
  cycle : Nat
  flags : Nat
  thrust : Int
  az    : Nat
  drive : Int
  step1 : Int
  kw    : Nat
  deriving DecidableEq, Repr, Inhabited

/-- State of a thruster node's lane. -/
structure NodeState where
  locked : Bool := false
  /-- Phase error of the latest reference frame, ns, and the divider correction, ns per cycle (R568). -/
  e      : Int := 0
  steer  : Int := 0
  lastRef : Option Nat := none
  refThis : Bool := false
  cmd    : Option NodeCmd := none
  /-- A command was applied in this cycle. -/
  appliedThis : Bool := false
  applied : Nat := 0
  repeatRun : Nat := 0
  stale  : Nat := 0
  cmdDiff : Nat := 0
  diffThis : Bool := false
  diffRun : Nat := 0
  /-- CMD_DIFF of BUS_NODE_STATUS and the diagnostic byte (R572). -/
  diffFlag : Bool := false
  /-- First copy in this cycle: network, payload. -/
  first  : Option (Nat × Bytes) := none
  timeout : Bool := false
  /-- Device microsecond of the last refresh of the hold (R574). -/
  refreshed : Nat := 0
  /-- Output thrust in 2^-15, exact, and azimuth. -/
  out    : ℚ := 0
  outAz  : Nat := 0
  /-- A ramp runs; its next step. -/
  ramp   : Option Nat := none
  /-- CMD_DIFF and stale counts shown in BUS_NODE_CNT since the last read. -/
  cntDiff : Nat := 0
  cntStale : Nat := 0
  strapMismatch : Bool := false
  /-- MATRIX_ID of the pending image; 0 when none (R571). -/
  pending : Nat := 0
  /-- Receivers run on the pending bit timing, since this many cycles. -/
  altTiming : Option Nat := none
  noRefRun : Nat := 0
  /-- MATRIX_ID of the last valid reference frame (R571). -/
  refMatrix : Option Nat := none
  deriving DecidableEq, Repr, Inhabited

/-- Round away from zero to a stored Q1.15: the output as sent (R574, log entry 40). -/
def outRound (q : ℚ) : Int := clampI (-32768) 32767 (if 0 ≤ q then ceilQ q else -(ceilQ (-q)))

/-- One step of R574 and R575 in 2^-15. -/
def rampUnit (c : Bytes) : ℚ := (nbRamp c : ℚ) * 32768 * 20 / 1000000

/-- NODE_REFERENCE_RECEIVE (R568): the steered state, the tick correction in µs when |e| exceeds 20 µs, and the cycle count taken. -/
def nodeReference (start : Nat) (cycle : Nat) (sofNs : Int) (frame : Bytes) (n : NodeState) : NodeState × Option Int × Nat :=
  if n.refThis then (n, none, cycle)
  else
    let e := sofNs - (start : Int) * 1000
    let big := decide (20000 < |e|)
    let cyc := u32 frame 0
    ({ n with
        e := e, steer := if big then n.steer else n.steer + clampI (-2000) 2000 (roundAway (-(e : ℚ) / 4)),
        refThis := true, refMatrix := some (u16 frame 6), lastRef := some cyc, noRefRun := 0, locked := decide (|e| ≤ 2000) },
      if big then some (-(e / 1000)) else none, cyc)

/-- NODE_HOLDOVER_EXPIRE (R569). -/
def nodeHoldover (c : Bytes) (cycle : Nat) (n : NodeState) : NodeState :=
  match n.lastRef with
  | some r => if r + nbHoldover c < cycle then { n with locked := false } else n
  | none => { n with locked := false }

/-- NODE_TIMING_FALLBACK at tick 19,900 (R571): `changes` when the pending matrix changes the bit timing. -/
def nodeTiming (changes : Bool) (n : NodeState) : NodeState :=
  let run := if n.refThis then 0 else n.noRefRun + 1
  match n.altTiming with
  | none => if n.pending ≠ 0 ∧ changes ∧ 2 ≤ run then { n with altTiming := some 0, noRefRun := 0 } else { n with noRefRun := run }
  | some k => if n.pending = 0 then { n with altTiming := none, noRefRun := 0 }
    else if 2 ≤ k + 1 then { n with altTiming := none, noRefRun := 0 } else { n with altTiming := some (k + 1), noRefRun := run }

/-- The drive command frame (R573). -/
def driveFrame (c : Bytes) (n : NodeState) : Option Bytes :=
  n.cmd.map fun k =>
    let t := outRound n.out
    let same := t == k.thrust
    let d : Int := if same then k.drive else if k.thrust = 0 then 0 else clampI (-32768) 32767 (roundAway ((k.drive : ℚ) * t / k.thrust))
    let s1 := if same then k.step1 else t
    let b := leBytes 2 k.cycle ++ leBytes 1 k.flags ++ leBytes 1 (nbThruster c) ++ leSigned 2 t ++ leBytes 2 n.outAz ++ leSigned 2 d ++ leSigned 2 s1 ++ leBytes 2 k.kw
    b ++ leBytes 2 (crcE2E (nbDriveId c) b)

/-- The drive frame in the event queues of the drive links. -/
def driveQueue (c : Bytes) (n : NodeState) (s : BusState) : BusState :=
  match driveFrame c n with
  | none => s
  | some d =>
    let fr : CanFrame := ⟨nbDriveId c, nbDriveXtd c, true, true, false, false, false, false, d, 0⟩
    let s1 := if bitOf 0 (nbLinks c) then doorbell 2 fr s else s
    if bitOf 1 (nbLinks c) then doorbell 3 fr s1 else s1

/-- One ramp step toward a target; the ramp ends when the output reaches it. -/
def rampOnce (c : Bytes) (us : Nat) (target : ℚ) (n : NodeState) : NodeState :=
  let u := rampUnit c
  let d := target - n.out
  let o := if absQ d ≤ u then target else if 0 < d then n.out + u else n.out - u
  { n with out := o, ramp := if o = target then none else some (us + 20000) }

/-- Where the output moves: zero under CMD_TIMEOUT with action 0, else the command. -/
def rampTarget (n : NodeState) : ℚ := if n.timeout then 0 else match n.cmd with
  | some k => (k.thrust : ℚ)
  | none => 0

/-- RAMP_STEP: acts when its instant has come. -/
def nodeRamp (c : Bytes) (us : Nat) (n : NodeState) : NodeState :=
  match n.ramp with
  | some t => if t ≤ us then rampOnce c t (rampTarget n) n else n
  | none => n

/-- CYCLE of a command is newer than that of the last applied one (R572). -/
def nodeNewer (d : Bytes) (n : NodeState) : Bool :=
  match n.cmd with
  | none => true
  | some k => let x := (u16 d 0 + 65536 - k.cycle) % 65536; decide (1 ≤ x) && decide (x ≤ 32767)

/-- A command repeats the last applied one (R572). -/
def nodeRepeats (d : Bytes) (n : NodeState) : Bool :=
  match n.cmd with
  | none => false
  | some k => u16 d 0 == k.cycle && bitOf 0 (u8 d 2)

/-- A copy is applied (R572, R574, R575). -/
def nodeApply (c : Bytes) (us : Nat) (d : Bytes) (newer rep : Bool) (n0 : NodeState) : NodeState :=
  let k : NodeCmd := ⟨u16 d 0, u8 d 2, s16 d 4, u16 d 6, s16 d 8, s16 d 10, u16 d 12⟩
  let run := if rep then n0.repeatRun + 1 else 0
  let fresh := !rep || decide (run ≤ nbRepeatMax c)
  let n1 := { n0 with cmd := some k, applied := (n0.applied + 1) % 65536, appliedThis := true, repeatRun := run,
                      refreshed := if fresh then us else n0.refreshed }
  if newer && n1.timeout then rampOnce c us (k.thrust : ℚ) { n1 with timeout := false, outAz := k.az, ramp := none }
  else if n1.timeout then n1
  else
    let n2 := { n1 with outAz := k.az }
    if n2.ramp.isSome then n2 else { n2 with out := (k.thrust : ℚ) }

/-- NODE_COMMAND_RECEIVE (R572, R574, R575): the state, and whether a command was applied. The first copy in a cycle that is newer is applied, the
twin's too where the first one was not; else the second copy is only compared. -/
def nodeCommand (c : Bytes) (us net : Nat) (ident : Nat) (d : Bytes) (n : NodeState) : NodeState × Bool :=
  if d.length < 16 ∨ crcE2E ident (sliceB d 0 14) ≠ u16 d 14 then (n, false)
  else
    match n.first with
    | some (m, p) =>
      if m = net then (n, false)
      else if p = d then ({ n with first := none }, false)
      else
        let n1 := { n with first := none, cmdDiff := satAdd 0xFFFF n.cmdDiff 1, cntDiff := satAdd 0xFFFF n.cntDiff 1, diffThis := true }
        if nodeNewer d n && !n.appliedThis then (nodeApply c us d true false n1, true) else (n1, false)
    | none =>
      let n0 := { n with first := some (net, d) }
      if !nodeNewer d n && !nodeRepeats d n then ({ n0 with stale := satAdd 0xFFFF n0.stale 1, cntStale := satAdd 0xFFFF n0.cntStale 1 }, false)
      else (nodeApply c us d (nodeNewer d n) (nodeRepeats d n) n0, true)

/-- CMD_HOLD_TIMEOUT (R574): acts when CMD_HOLD_MS has passed without a refresh. -/
def nodeHoldTimeout (c : Bytes) (us : Nat) (n : NodeState) : NodeState :=
  if n.timeout ∨ us < n.refreshed + 1000 * nbHoldMs c then n
  else
    let n1 := { n with timeout := true, ramp := none }
    match nbAction c with
    | 0 => rampOnce c (n.refreshed + 1000 * nbHoldMs c) 0 n1
    | 2 => { n1 with out := 0 }
    | _ => n1

/-- A cycle boundary on the node: CMD_DIFF of 3 consecutive cycles sets the flag (R572). -/
def nodeBoundary (n : NodeState) : NodeState :=
  let run := if n.diffThis then n.diffRun + 1 else 0
  { n with diffThis := false, diffRun := run, diffFlag := decide (3 ≤ run) || (n.diffFlag && n.diffThis), appliedThis := false, refThis := false, first := none }

/-- NSTATUS (Table 23.3). -/
def nodeStatusByte (netSingle safeState linkLost : Bool) (n : NodeState) : Nat :=
  at1 7 netSingle + at1 6 n.strapMismatch + at1 5 safeState + at1 4 linkLost + at1 3 n.diffFlag + at1 2 n.timeout + at1 1 (n.pending != 0) + at1 0 n.locked

/-- The feedback frame (R576): `e` is the store entry of DRIVE_FB_CH, `stale` judged now, `sto` the output pair's state. -/
def nodeFeedback (c : Bytes) (ident : Nat) (e : StoreEntry) (stale netSingle sto : Bool) (n : NodeState) : Bytes :=
  let w3 := vget e.value 3
  let st := at1 0 (bitOf 0 w3) + at1 1 (bitOf 1 w3) + at1 2 (bitOf 2 w3 || stale) + at1 3 (sto || bitOf 3 w3) + at1 4 n.timeout + at1 5 netSingle
  let f15 (q : ℚ) : Int := clampI (-32768) 32767 (roundAway (q * 32768))
  let b := leBytes 2 ((n.cmd.map (·.cycle)).getD 0) ++ leBytes 1 (nbThruster c) ++ leBytes 1 st ++ leSigned 2 (f15 (chWord e 0))
    ++ leBytes 2 (roundAway (chWord e 1 * 65536 / 360) % 65536).toNat ++ leBytes 2 (clampI 0 65535 (roundAway (chWord e 2))).toNat
    ++ leSigned 2 (f15 (chWord e 4)) ++ zeroBytes 2
  b ++ leBytes 2 (crcE2E ident b)

/-- The diagnostic frame (Table 23.2). -/
def nodeDiag (c : Bytes) (ident matrix tec rec_ timeouts safeStatus live drive gen tempLane tempWt powerCycle nstatus : Nat) (n : NodeState) : Bytes :=
  let b := leBytes 1 (nbThruster c) ++ leBytes 1 nstatus ++ leBytes 2 matrix ++ leBytes 2 n.pending ++ leBytes 1 (sat8 tec) ++ leBytes 1 (sat8 rec_)
    ++ leBytes 2 (min 65535 n.repeatRun) ++ leBytes 2 n.applied ++ leBytes 2 n.cmdDiff ++ leBytes 2 (min 65535 timeouts) ++ leBytes 2 safeStatus
    ++ leBytes 1 live ++ leBytes 1 drive ++ leBytes 4 gen ++ leSigned 2 (clampI (-32768) 32767 (n.e / 10)) ++ leBytes 1 tempLane ++ leBytes 1 tempWt ++ leBytes 2 powerCycle
  b ++ leBytes 2 (crcE2E ident b)

/-- Output differs from the command (Table 23.6). -/
def nodeRamping (n : NodeState) : Bool := match n.cmd with
  | some k => outRound n.out != k.thrust
  | none => false

/-- BUS_NODE_STATUS above its low byte (Table 23.6). -/
def nodeStatusHigh (c : Bytes) (nstatus : Nat) (n : NodeState) : Nat :=
  atF 24 8 nstatus + at1 23 (!n.refThis) + at1 22 (nodeRamping n) + atF 20 2 (nbAction c) + atF 8 8 (sat8 n.repeatRun)
def nodeReg (off : Nat) (n : NodeState) : Nat :=
  match off with
  | 0x0044 => match n.cmd with
    | some k => atF 16 16 k.cycle + atF 0 16 (ofSigned 16 k.thrust)
    | none => 0
  | 0x0048 => atF 16 16 n.outAz + atF 0 16 (ofSigned 16 (outRound n.out))
  | 0x004C => atF 16 16 n.cntDiff + atF 0 16 n.cntStale
  | _ => 0

end Sys2Proof.Machine
end

