-- ==== Sys2Proof/Machine/Corrections.lean ====
section
/-! DEFINITION. What satellite measurements are formed from (R122, R126, R134, R136 to R138): signals, combinations, geometry, RTCM 3 frames and messages, differential corrections. -/

namespace Sys2Proof.Machine

/-- The speed of light, m/s. -/
def lightSpeed : ℚ := 299792458

/-! Signals and combinations (R122, R126). -/

/-- Centre of band 0 or 1, Hz (Table 5.1). -/
def bandHz (b : Nat) : ℚ := if b = 0 then 1575420000 else 1176450000
/-- Wavelength of a band, m. -/
def waveOf (b : Nat) : ℚ := lightSpeed / bandHz b
/-- The ionosphere-free coefficients f₁²/(f₁² - f₂²) and f₂²/(f₁² - f₂²) (R126). -/
def ionoK (b : Nat) : ℚ := bandHz b * bandHz b / (bandHz 0 * bandHz 0 - bandHz 1 * bandHz 1)

/-- A quantity of the two bands by measurement mode: 0 the ionosphere-free combination, 1 band 1, 2 band 2 (R126). -/
def byMode (m : Nat) (v : Nat → ℚ) : ℚ := if m = 0 then ionoK 0 * v 0 - ionoK 1 * v 1 else v (m - 1)

/-- The signal code of a satellite on a band; 0 where Table 5.1 has none. -/
def signalCode (o : SatObs) (b : Nat) : Nat :=
  if b = 0 then (match o.sys with
    | 1 => if o.l1c then 2 else 1
    | 2 => 3
    | 3 => 4
    | 4 => 5
    | _ => 0)
  else match o.sys with
    | 1 => 6
    | 2 => 7
    | 3 => 8
    | _ => 0

/-- A satellite whose signals Table 5.1 lists. -/
def listedSignals (o : SatObs) : Bool := decide (1 ≤ o.sys) && decide (o.sys ≤ 4) && (o.sys != 3 || o.bds3)

/-! Geometry. -/

/-- A vector of three components of a function of the axis. -/
def v3Of (f : Nat → ℚ) : V3 := ⟨f 0, f 1, f 2⟩
def V3.norm (a : V3) : ℚ := fsqrt (a.x * a.x + a.y * a.y + a.z * a.z)

/-- Earth-fixed WGS 84 coordinates of a latitude and longitude in 10^-9 degree and a height, m (log entry 11). -/
def ecefOf (p : Int × Int × ℚ) : V3 :=
  let lat : ℚ := (p.1 : ℚ) / 1000000000
  let lon : ℚ := (p.2.1 : ℚ) / 1000000000
  let f : ℚ := 1 / (298257223563 / 1000000000)
  let n := (wgsRadii lat).2
  ⟨(n + p.2.2) * cosd lat * cosd lon, (n + p.2.2) * cosd lat * sind lon, (n * (1 - f) * (1 - f) + p.2.2) * sind lat⟩

/-- An earth-fixed vector as north, east, down at a place. -/
def nedOf (p : Int × Int × ℚ) (v : V3) : V3 :=
  let lat : ℚ := (p.1 : ℚ) / 1000000000
  let lon : ℚ := (p.2.1 : ℚ) / 1000000000
  let out := cosd lon * v.x + sind lon * v.y
  ⟨-sind lat * out + cosd lat * v.z, -sind lon * v.x + cosd lon * v.y, -(cosd lat * out + sind lat * v.z)⟩

/-- The correction for the turn of the earth while the signal travels, m (R134, log entry 11). -/
def sagnac (sat place : V3) : ℚ := 72921151467 / 1000000000000000 * (sat.x * place.y - sat.y * place.x) / lightSpeed

def satPosAt (o : SatObs) (t : ℚ) : V3 := v3Of (Config.satPos o.sys o.prn t)
def satVelAt (o : SatObs) (t : ℚ) : V3 := v3Of (Config.satVel o.sys o.prn t)
/-- norm(sat_pos(t) - place). -/
def satRange (o : SatObs) (t : ℚ) (place : V3) : ℚ := ((satPosAt o t).sub place).norm

/-! Measurements of one satellite on one antenna (R126, R134). -/

/-- Pseudorange and carrier phase of a band, m. -/
def codeM (o : SatObs) (a b : Nat) : ℚ := ((vget o.range (2 * a + b) : Nat) : ℚ) / 10000
def phaseM (o : SatObs) (a b : Nat) : ℚ := waveOf b * vget o.phase (2 * a + b)
/-- The ionospheric delay that a single-band mode removes: by the SBAS grid where it is valid, otherwise by the broadcast model (R126). -/
def ionoM (o : SatObs) (a b : Nat) : ℚ := match vget o.ionoGrid a with
  | some g => vget g b
  | none => vget (vget o.iono a) b

/-- p_if, or the code of a single band less its ionospheric delay (R126, R134). -/
def codeIf (o : SatObs) (a m : Nat) : ℚ := byMode m fun b => codeM o a b - (if m = 0 then 0 else ionoM o a b)
/-- The instant of transmission, ns of device time: the epoch instant less the pseudorange (log entry 11). -/
def txTime (o : SatObs) (a m : Nat) (meas : Int) : ℚ := (meas : ℚ) - codeIf o a m / lightSpeed * 1000000000
/-- rho of R134 with a correction. -/
def rhoOf (o : SatObs) (a m : Nat) (meas : Int) (corr : ℚ) : ℚ :=
  codeIf o a m + lightSpeed * Config.satClock o.sys o.prn (txTime o a m meas) - vget o.tropo a - (byMode m fun b => vget o.groupDelay b) + corr
/-- geo of R134 for a linearisation point. -/
def geoOf (o : SatObs) (a m : Nat) (meas : Int) (lin : V3) : ℚ :=
  let t := txTime o a m meas
  satRange o t lin + sagnac (satPosAt o t) lin
/-- range_rate_doppler(sat), m/s: a range rate is the negative of the Doppler frequency times the wavelength (log entry 11). -/
def rangeRate (o : SatObs) (a m : Nat) : ℚ := byMode m fun b => -(waveOf b * vget o.doppler (2 * a + b))

/-! RTCM 3 frames (R136). -/

/-- CRC-24Q of a byte string. -/
def crc24q (b : Bytes) : Nat :=
  (b.foldl (fun (c : BitVec 24) x =>
    (List.range 8).foldl (fun (c : BitVec 24) _ => if c.getLsbD 23 then (c <<< 1) ^^^ 0x864CFB#24 else c <<< 1)
      (c ^^^ ((BitVec.setWidth 24 x) <<< (16 : Nat)))) 0#24).toNat

/-- The messages Oculus uses (Table 5.8). -/
def rtcmUsed (n : Nat) : Bool :=
  [1005, 1006, 1019, 1042, 1045, 1046, 1074, 1075, 1077, 1094, 1095, 1097, 1124, 1125, 1127].contains n

/-- The message number: the first 12 bits of the message. -/
def rtcmNumber (frame : Bytes) : Nat := u8 frame 3 * 16 + u8 frame 4 / 16

/-- The framer's form: preamble, reserved bits, length (R136). Six reserved bits that are not all 0 make no frame (DESIGN CHOICE, log entry 78). -/
def rtcmFramed (frame : Bytes) : Bool :=
  u8 frame 0 == 0xD3 && decide (u8 frame 1 < 4) && decide (frame.length = 6 + (u8 frame 1 * 256 + u8 frame 2))

/-! RTCM 10403.3 messages (R137): the places of the fields are the standard's, which the spec names (PRESUMED, log entry 74). -/

/-- A message as one number, its first bit the most significant, with its length in bits. -/
structure RtcmMsg where
  num  : Nat
  bits : Nat
  deriving DecidableEq, Repr

def rtcmMsg (frame : Bytes) : RtcmMsg :=
  let body := (frame.drop 3).take (frame.length - 6)
  ⟨body.foldl (fun n b => n * 256 + b.toNat) 0, 8 * body.length⟩

/-- Bits `pos` to `pos + n - 1`, unsigned and signed; past the end of the message they read as zero. -/
def RtcmMsg.u (m : RtcmMsg) (pos n : Nat) : Nat := if m.bits < pos + n then 0 else m.num / 2 ^ (m.bits - pos - n) % 2 ^ n
def RtcmMsg.s (m : RtcmMsg) (pos n : Nat) : Int := toSigned n (m.u pos n)

/-- The antenna reference point of messages 1005 and 1006, m. -/
def refPoint (m : RtcmMsg) : V3 := ⟨(m.s 34 38 : ℚ) / 10000, (m.s 74 38 : ℚ) / 10000, (m.s 114 38 : ℚ) / 10000⟩

/-- System, PRN and issue of an ephemeris message. -/
def ephemOf (num : Nat) (m : RtcmMsg) : Option (Nat × Nat × Nat) :=
  if num = 1019 then some (1, m.u 12 6, m.u 48 8)
  else if num = 1042 then some (3, m.u 12 6, m.u 49 5)
  else if num = 1045 ∨ num = 1046 then some (2, m.u 12 6, m.u 30 10)
  else none

/-- What an MSM message says of one satellite and signal: its code of Table 5.1, the reference pseudorange in m and the phase-range rate in m/s. -/
structure MsmCell where
  sys  : Nat
  prn  : Nat
  sig  : Nat
  code : ℚ
  rate : Option ℚ
  deriving DecidableEq, Repr, Inhabited

/-- The system of an MSM message; none for another message. -/
def msmSystem (num : Nat) : Option Nat :=
  if [1074, 1075, 1077].contains num then some 1 else if [1094, 1095, 1097].contains num then some 2
  else if [1124, 1125, 1127].contains num then some 3 else none

/-- The code of Table 5.1 of an entry of the signal mask; 0 for another signal (Table 5.8). -/
def msmSignal (sys k : Nat) : Nat :=
  if sys = 1 then (if k = 2 then 1 else if 30 ≤ k ∧ k ≤ 32 then 2 else if 22 ≤ k ∧ k ≤ 24 then 6 else 0)
  else if sys = 2 then (if 2 ≤ k ∧ k ≤ 6 then 3 else if 22 ≤ k ∧ k ≤ 24 then 7 else 0)
  else if 30 ≤ k ∧ k ≤ 32 then 4 else if 22 ≤ k ∧ k ≤ 24 then 8 else 0

/-- The cells of an MSM4, MSM5 or MSM7 message whose pseudorange is given. -/
def msmCells (num sys : Nat) (m : RtcmMsg) : List MsmCell :=
  let kind := num % 10
  let sats := (List.range 64).filter fun k => m.u (73 + k) 1 == 1
  let sigs := (List.range 32).filter fun k => m.u (137 + k) 1 == 1
  let ns := sats.length
  let mask := 169
  let pairs := ((List.range ns).map fun i => (List.range sigs.length).map fun j => (i, j)).flatten
  let cells := pairs.filter fun p => m.u (mask + p.1 * sigs.length + p.2) 1 == 1
  let nc := cells.length
  let p0 := mask + ns * sigs.length
  let mod0 := if kind = 4 then p0 + 8 * ns else p0 + 12 * ns
  let p1 := if kind = 4 then mod0 + 10 * ns else mod0 + 24 * ns
  let w := if kind = 7 then 20 else 15
  let rate0 := if kind = 7 then p1 + (20 + 24 + 10 + 1 + 10) * nc else p1 + (15 + 22 + 4 + 1 + 6) * nc
  ((cells.zip (List.range nc)).filterMap fun x =>
    let ((i, j), c) := x
    let ms := m.u (p0 + 8 * i) 8
    let fine := m.s (p1 + w * c) w
    let rough := m.s (mod0 + 10 * ns + 14 * i) 14
    let dr := m.s (rate0 + 15 * c) 15
    let sig := msmSignal sys (sigs.getD j 0 + 1)
    if ms = 255 ∨ fine = -(2 : Int) ^ (w - 1) ∨ sig = 0 then none
    else
      let frac : ℚ := (m.u (mod0 + 10 * i) 10 : ℚ) / 1024 + (fine : ℚ) / (if kind = 7 then 2 ^ 29 else 2 ^ 24)
      some { sys := sys, prn := sats.getD i 0 + 1, sig := sig, code := lightSpeed / 1000 * (ms + frac)
             rate := if kind = 4 ∨ rough = -8192 ∨ dr = -16384 then none else some ((rough : ℚ) + (dr : ℚ) / 10000) })

/-! Differential corrections (R138). -/

/-- The instant of an MSM message's epoch in ns of device time: the one nearest to its reception at `ns` whose time of week the message gives, BeiDou's 14 s
behind that of GPS (log entry 74). While no GPS time is known it is the reception (log entry 71). -/
def msmInstant (gps : Option Int) (ns : Int) (sys : Nat) (m : RtcmMsg) : Int :=
  match gps with
  | none => ns
  | some off =>
    let week : Int := 604800000000000
    let tow : Int := (m.u 24 30 : Int) * 1000000 + (if sys = 3 then 14000000000 else 0)
    ns + ((tow - (ns + off) + week / 2) % week - week / 2)

/-- The latest reference measurement of a satellite and signal, the instant of its epoch in ns of device time, and the one before it. -/
structure RefMeas where
  cell : MsmCell
  ns   : Int
  prev : Option (ℚ × Int)
  deriving DecidableEq, Repr, Inhabited

/-- A new message of the reference station of the epoch at `ns`. -/
def takeCells (ns : Int) (cells : List MsmCell) (l : List RefMeas) : List RefMeas :=
  cells.foldl (fun l c =>
    let same (r : RefMeas) : Bool := r.cell.sys == c.sys && r.cell.prn == c.prn && r.cell.sig == c.sig
    match l.find? same with
    | some r => l.map fun x => if same x then ⟨c, ns, if r.ns = ns then r.prev else some (r.cell.code, r.ns)⟩ else x
    | none => l ++ [⟨c, ns, none⟩]) l

/-- The instant of transmission of a reference measurement of pseudorange `code` at the epoch `t`, ns, as that of an own one (log entry 11). -/
def refTx (code : ℚ) (t : ℚ) : ℚ := t - code / lightSpeed * 1000000000

/-- The computed range from the reference position at transmission, with the satellite's clock, which R134 adds to the measurement by itself (log
entry 71). -/
def refRange (place : V3) (c : MsmCell) (code t : ℚ) : ℚ :=
  let tx := refTx code t
  let p := v3Of (Config.satPos c.sys c.prn tx)
  (p.sub place).norm + sagnac p place - lightSpeed * Config.satClock c.sys c.prn tx

/-- The computed range less the reference pseudorange, carried to an epoch with its rate of change, which is taken from the phase-range rate, or
otherwise from the two latest epochs of the message; none without a rate (R138, log entry 71). -/
def carriedCorr (place : V3) (meas : Int) (r : RefMeas) : Option ℚ :=
  let raw := refRange place r.cell r.cell.code r.ns - r.cell.code
  let tx := refTx r.cell.code r.ns
  let rate : Option ℚ := match r.cell.rate, r.prev with
    | some pr, _ =>
      let d := (v3Of (Config.satPos r.cell.sys r.cell.prn tx)).sub place
      some ((d.dot (v3Of (Config.satVel r.cell.sys r.cell.prn tx))) / d.norm - lightSpeed * Config.satDrift r.cell.sys r.cell.prn tx - pr)
    | none, some (code, ns) =>
      some ((raw - (refRange place r.cell code ns - code)) / (((r.ns - ns : Int) : ℚ) / 1000000000))
    | none, none => none
  rate.map fun v => raw + v * (((meas - r.ns : Int) : ℚ) / 1000000000)

end Sys2Proof.Machine
end

