-- ==== Sys2Proof/Machine/Spectrum.lean ====
section
/-! DEFINITION. The sample-rate side of Oculus (R139 to R141): decibels as exact comparisons, the averaged spectrum of a chain, its floor and peaks, and the notch filter. -/

namespace Sys2Proof.Machine

/-! Decibels: 10 log10 (p / q), compared with quarters of a decibel by powers of ten. -/

/-- `p` is at least `k` / 4 dB above `q`. -/
def atLeastDb (k : Int) (p q : ℚ) : Bool := decide (q ^ 40 * 10 ^ k.toNat ≤ p ^ 40 * 10 ^ (-k).toNat)
/-- `p` is at most `k` / 4 dB above `q`. -/
def atMostDb (k : Int) (p q : ℚ) : Bool := decide (p ^ 40 * 10 ^ (-k).toNat ≤ q ^ 40 * 10 ^ k.toNat)

/-- The largest `m` with 10^m at or below `n`, by `fuel` steps. -/
def log10Nat : Nat → Nat → Nat
  | 0, _ => 0
  | f + 1, n => if n < 10 then 0 else 1 + log10Nat f (n / 10)

/-- The largest integer at or below log10 of a positive rational. -/
def floorLog10 (q : ℚ) : Int :=
  if 1 ≤ q then let n := (floorQ q).toNat; (log10Nat (Nat.log2 n + 1) n : Int)
  else let n := (ceilQ (1 / q)).toNat - 1; -((log10Nat (Nat.log2 n + 1) n : Int) + 1)

/-- 10 log10 of a power ratio in units of 0.5 dB, rounded down, from 0 to `top` (Table 5.4). -/
def halfDb (top : Nat) (p q : ℚ) : Nat := (List.range top).countP fun m => decide (q ^ 20 * 10 ^ (m + 1) ≤ p ^ 20)
/-- The same in units of 0.1 dB, rounded to nearest; a power of 0 is the lowest value. -/
def tenthDb (p : ℚ) : Int := if p ≤ 0 then -32768 else clampI (-32768) 32767 ((floorLog10 (p ^ 200) + 1) / 2)

/-! Complex numbers as pairs. -/
def cadd (a b : ℚ × ℚ) : ℚ × ℚ := (a.1 + b.1, a.2 + b.2)
def csub (a b : ℚ × ℚ) : ℚ × ℚ := (a.1 - b.1, a.2 - b.2)
def cmul (a b : ℚ × ℚ) : ℚ × ℚ := (a.1 * b.1 - a.2 * b.2, a.1 * b.2 + a.2 * b.1)
def cscale (k : ℚ) (a : ℚ × ℚ) : ℚ × ℚ := (k * a.1, k * a.2)
def cnorm2 (a : ℚ × ℚ) : ℚ := a.1 * a.1 + a.2 * a.2
/-- e^(jω) for ω of `f` bins of 1/1,024 of the sample rate. -/
def cexp (f : ℚ) : ℚ × ℚ := (Config.cos (2 * Config.pi * f / 1024), Config.sin (2 * Config.pi * f / 1024))

/-- A sample as a fraction of full scale. -/
def sampleOf (x : Int × Int) : ℚ × ℚ := ((x.1 : ℚ) / 32, (x.2 : ℚ) / 32)

/-- The power in one bin of one 1,024-point transform. -/
def dftPower (x : List (ℚ × ℚ)) (k : Int) : ℚ :=
  cnorm2 ((x.zip (List.range x.length)).foldl (fun acc y => cadd acc (cmul y.1 (cexp (-(k * (y.2 : Int)) : ℚ)))) (0, 0))

/-- The averaged power of bin `i` of 0 to 1,023, which stands for a frequency of i - 512 bins, over 96 consecutive transforms (R139): those of the
first 98,304 samples of the period. -/
def binPower (samples : List (Int × Int)) (i : Nat) : ℚ :=
  let x := samples.map sampleOf
  sumQ ((List.range 96).map fun t => dftPower ((x.drop (1024 * t)).take 1024) ((i : Int) - 512)) / 96

/-- The averaged spectrum of a monitor period (R139). -/
def spectrum (samples : List (Int × Int)) : List ℚ := (List.range 1024).map (binPower samples)

/-- The middle one of a list of odd length; of two middle ones their mean. -/
def middleQ (l : List ℚ) : ℚ :=
  let s := l.mergeSort fun a b => decide (a ≤ b)
  (s.getD ((s.length - 1) / 2) 0 + s.getD (s.length / 2) 0) / 2

/-- The floor: the median of the 205 bins within ±10 MHz of the band centre (R139). -/
def spectrumFloor (spec : List ℚ) : ℚ := middleQ ((spec.drop 410).take 205)

/-- A peak: its first and last bin, its strongest bin and the power there (R139). -/
structure SpectralPeak where
  lo    : Nat
  hi    : Nat
  bin   : Nat
  power : ℚ
  deriving DecidableEq, Repr, Inhabited

def SpectralPeak.width (p : SpectralPeak) : Nat := p.hi + 1 - p.lo

/-- The peaks of a spectrum: runs of adjacent bins at least `on` / 4 dB above the floor (R139). -/
def peaksOf (on : Nat) (spec : List ℚ) (floor : ℚ) : List SpectralPeak :=
  let step (acc : List SpectralPeak) (x : ℚ × Nat) : List SpectralPeak :=
    if !(decide (0 < x.1) && atLeastDb on x.1 floor) then acc
    else match acc with
      | p :: rest =>
        if p.hi + 1 = x.2 then (if p.power < x.1 then { p with hi := x.2, bin := x.2, power := x.1 } else { p with hi := x.2 }) :: rest
        else ⟨x.2, x.2, x.2, x.1⟩ :: acc
      | [] => [⟨x.2, x.2, x.2, x.1⟩]
  ((spec.zip (List.range spec.length)).foldl step []).reverse

/-! The notch filter (R140). -/

/-- A notch of a chain (R139, R140). -/
structure Notch where
  /-- ω₀ in bins of 1/1,024 of the sample rate, from -512 up. -/
  freq   : ℚ
  /-- Power at its frequency in the last monitor period. -/
  power  : ℚ
  /-- Consecutive milliseconds below NOTCH_OFF. -/
  lowMs  : Nat := 0
  /-- The filter's memories: the last input, the last output, and the output's derivative by ω₀. -/
  x1     : ℚ × ℚ := (0, 0)
  y1     : ℚ × ℚ := (0, 0)
  g1     : ℚ × ℚ := (0, 0)
  deriving DecidableEq, Repr, Inhabited

/-- The pole radius ρ by NOTCH_RHO (R140). -/
def notchRho (n : Nat) : ℚ := 1 - ((n + 1 : Nat) : ℚ) / 1024

/-- One sample through a notch (R140): H(z) = (1 - e^(jω₀) z⁻¹) / (1 - ρ e^(jω₀) z⁻¹), then the gradient update of 2⁻¹² on the output power. -/
def notchSample (rho : ℚ) (x : ℚ × ℚ) (n : Notch) : Notch × (ℚ × ℚ) :=
  let w := cexp n.freq
  let jw := cmul (0, 1) w
  let y := cadd (csub x (cmul w n.x1)) (cscale rho (cmul w n.y1))
  let g := cadd (csub (cscale rho (cmul jw n.y1)) (cmul jw n.x1)) (cscale rho (cmul w n.g1))
  let grad := 2 * (y.1 * g.1 + y.2 * g.2)
  ({ n with freq := n.freq - grad / 4096 * 512 / Config.pi, x1 := x, y1 := y, g1 := g }, y)

/-- One sample through the notches of a chain, one after the other, before the correlators. -/
def notchBank (rho : ℚ) : List Notch → ℚ × ℚ → List Notch
  | [], _ => []
  | n :: ns, x => let r := notchSample rho x n; r.1 :: notchBank rho ns r.2

/-- The samples of a monitor period through the notches of a chain. -/
def notchRun (rho : ℚ) (samples : List (Int × Int)) (ns : List Notch) : List Notch :=
  samples.foldl (fun acc x => notchBank rho acc (sampleOf x)) ns

@[simp] theorem notchBank_length (rho : ℚ) (ns : List Notch) (x : ℚ × ℚ) : (notchBank rho ns x).length = ns.length := by
  induction ns generalizing x with
  | nil => rfl
  | cons n ns ih => simp [notchBank, ih]

@[simp] theorem notchRun_length (rho : ℚ) (samples : List (Int × Int)) (ns : List Notch) : (notchRun rho samples ns).length = ns.length := by
  unfold notchRun
  induction samples generalizing ns with
  | nil => rfl
  | cons x xs ih => simp [ih]

/-- The bin of the spectrum at a notch's frequency. -/
def Notch.bin (n : Notch) : Nat := (clampI 0 1023 (roundAway n.freq + 512)).toNat

end Sys2Proof.Machine
end

