-- ==== Sys2Proof/Machine/OculusUnit.lean ====
section
/-! DEFINITION. Oculus, the satellite navigation baseband (chapter 5): slots, spoofing tests, heading fix, corrections, notches, jamming state and records, as state and pure functions. -/

namespace Sys2Proof.Machine

/-- The spoofing counts of one satellite (R143, R144). -/
structure SatState where
  sys         : Nat
  prn         : Nat
  clusterRun  : Nat := 0
  clusterOff  : Nat := 0
  clusterExcl : Bool := false
  clusterWatch : Bool := false
  geomFail    : Nat := 0
  geomPass    : Nat := 0
  geomExcl    : Bool := false
  geomWatch   : Bool := false
  /-- Left out of the baseline solution since it was WATCH by the geometry test (R147). -/
  left        : Bool := false
  deriving DecidableEq, Repr, Inhabited

/-- The interference state of one chain (R139 to R141). -/
structure ChainState where
  notches : List Notch := []
  /-- Peaks of the last period, first and last bin, with the number of consecutive periods each was seen. -/
  seen    : List (Nat × Nat × Nat) := []
  /-- 0 CLEAR, 1 INTERFERENCE, 2 JAMMED. -/
  jam     : Nat := 0
  /-- Milliseconds for which the leave condition of the state has held. -/
  leaveMs : Nat := 0
  /-- Power of the last 100 ms, one reading a millisecond, newest first, relative to the factory reference. -/
  powers  : List ℚ := []
  /-- P_ref relative to the factory value. -/
  pref    : ℚ := 1
  /-- Mean C/N0 of the satellites tracked on the chain at the epochs of the last 60 s, newest first: µs, 0.01 dB-Hz. -/
  cn0     : List (Nat × ℚ) := []
  desel   : Bool := false
  clip    : Bool := false
  fault   : Bool := false
  deriving DecidableEq, Repr, Inhabited

/-- An aiding frame from a lane (R135). -/
structure AidFrame where
  cycle  : Nat
  active : Bool
  /-- Phase-centre latitude and longitude (ndeg) of both antennas, their height, and their velocity, m/s (R201). -/
  lat    : Vector Int 2
  lon    : Vector Int 2
  hgt    : Vector (Option ℚ) 2
  vel    : Vector V3 2
  deriving DecidableEq, Repr, Inhabited

/-- One record of an epoch on its way to a lane (Tables 5.4 to 5.7). -/
structure OcuRecord where
  source : Nat
  words  : Vector Nat 8
  meas   : Nat
  deriving DecidableEq, Repr, Inhabited

/-- What a slot holds from one epoch to the next (R133, R134): its satellite, the epoch instant, and the carrier phase and the ionospheric delay of each band. -/
structure SlotHold where
  key  : Nat × Nat
  ns   : Int
  phi  : Vector (Option ℚ) 2
  iono : Vector ℚ 2
  deriving DecidableEq, Repr, Inhabited

/-- A baseline: north, east, down in m, the ratio of R147 and the standard deviation of its azimuth (Table 5.6). -/
structure Baseline where
  n     : ℚ := 0
  e     : ℚ := 0
  d     : ℚ := 0
  ratio : ℚ := 0
  sdAz  : ℚ := 0
  deriving DecidableEq, Repr, Inhabited

/-- A navigation solution of one antenna (Table 5.5). -/
structure NavSol where
  sats    : Nat := 0
  /-- 0 none, 1 autonomous, 2 SBAS, 3 RTCM differential. -/
  mode    : Nat := 0
  sd      : ℚ := 0
  hdop100 : Nat := 0
  deriving DecidableEq, Repr, Inhabited

/-- A block of the raw-measurement ring (R150). -/
structure RawBlock where
  cycle   : Nat := 0
  entries : List Bytes := []
  seq     : Nat := 0
  deriving DecidableEq, Repr, Inhabited

/-- Oculus. -/
structure OculusState where
  sats     : List SatState := []
  /-- The satellite of each channel pair (R124). -/
  pairs    : Vector (Option (Nat × Nat)) 96 := Vector.replicate 96 none
  /-- The satellites of each antenna's navigation solution, and those solutions. -/
  navKeys  : Vector (List (Nat × Nat)) 2 := Vector.replicate 2 []
  nav      : Vector NavSol 2 := Vector.replicate 2 {}
  /-- The receiver clock in GPS time, m and m/s, and the inter-system biases of Galileo and BeiDou, m (R127). -/
  clk      : ℚ := 0
  drift    : ℚ := 0
  isb      : Vector ℚ 2 := Vector.replicate 2 0
  chains   : Vector ChainState 4 := Vector.replicate 4 {}
  antDesel : Vector Bool 2 := Vector.replicate 2 false
  /-- The slots of each antenna (R133). -/
  slots    : Vector (Vector (Option SlotHold) 16) 2 := Vector.replicate 2 (Vector.replicate 16 none)
  hdgFixed : Bool := false
  /-- Satellites used in the heading fix, the integer ambiguities of each band, and the baseline (R147). -/
  fixSats  : List (Nat × Nat) := []
  amb      : List ((Nat × Nat) × Vector (Option Int) 2) := []
  base     : Baseline := {}
  spoof    : Nat := 0
  posValid : Vector Bool 2 := Vector.replicate 2 false
  corr     : Nat := 0
  epochs   : Nat := 0
  recordLate : Bool := false
  jamWord  : Nat := 0
  spoofWord : Nat := 0
  rtcmOk   : Nat := 0
  rtcmBad  : Nat := 0
  rtcmIgn  : Nat := 0
  rtcmDup  : Nat := 0
  recLate  : Nat := 0
  /-- RTCM frames of the last second: length, CRC, µs. -/
  rtcmSeen : List (Nat × Nat × Nat) := []
  /-- The reference station's position and its latest measurements, and the ephemerides it sent: system, PRN, issue (R137). -/
  refPos   : Option V3 := none
  msm      : List RefMeas := []
  ephem    : List (Nat × Nat × Nat) := []
  /-- Age in µs of the oldest correction applied at the latest epoch (Table 5.4). -/
  corrAge  : Option Nat := none
  aidA     : Option AidFrame := none
  aidB     : Option AidFrame := none
  /-- Linearisation point of each antenna: latitude, longitude, height. -/
  lin      : Vector (Int × Int × ℚ) 2 := Vector.replicate 2 (0, 0, 0)
  /-- Velocity of each antenna's last solution, m/s north, east and down, and the epoch instant of the linearisation points (R135). -/
  vel      : Vector V3 2 := Vector.replicate 2 {}
  linNs    : Nat := 0
  ring     : Vector RawBlock 8 := Vector.replicate 8 {}
  ringSeq  : Nat := 0
  /-- Records handed to the Sky links and not yet received by each lane. -/
  toA      : List OcuRecord := []
  toB      : List OcuRecord := []
  /-- Satellites of the time solution, all of them non-excluded, and its standard deviation, ns (Table 6.1). -/
  timeSats : Nat := 0
  timeSd   : ℚ := 0
  deriving DecidableEq, Repr, Inhabited

/-! OCULUS_CONFIG (Table 5.9), with its defaults when the image has none (R131). -/
def ocuField (c : Bytes) (f : Bytes → Nat) (dflt : Nat) : Nat := if c.isEmpty then dflt else f c
def ocuRateDiv (c : Bytes) := ocuField c (u8 · 2) 1
def ocuElevMask (c : Bytes) : Int := (ocuField c (u8 · 4) 10 : Int)
def ocuSlots (c : Bytes) := ocuField c (u8 · 5) 16
def ocuStampTick (c : Bytes) := ocuField c (u16 · 6) 1392
def ocuBaseTol (c : Bytes) := ocuField c (u8 · 32) 20
def ocuSpoofMin (c : Bytes) := ocuField c (u8 · 33) 4
def ocuSpoofWin (c : Bytes) := ocuField c (u8 · 34) 5
def ocuSpoofEpochs (c : Bytes) := ocuField c (u8 · 35) 25
def ocuSpoofClear (c : Bytes) := ocuField c (u16 · 36) 30
def ocuGeomTol (c : Bytes) := ocuField c (u8 · 38) 15
def ocuGeomEpochs (c : Bytes) := ocuField c (u8 · 39) 10
def ocuJamWarn (c : Bytes) := ocuField c (u8 · 40) 12
def ocuJamAlarm (c : Bytes) := ocuField c (u8 · 41) 40
def ocuCn0Drop (c : Bytes) := ocuField c (u8 · 42) 8
def ocuNotchOn (c : Bytes) := ocuField c (u8 · 43) 40
def ocuNotchOff (c : Bytes) := ocuField c (u8 · 44) 24
def ocuNotchBins (c : Bytes) := ocuField c (u8 · 45) 4
def ocuNotchRho (c : Bytes) := ocuField c (u8 · 46) 1
/-- The SBAS satellites named in OCULUS_CONFIG (Table 5.9). -/
def ocuSbas (c : Bytes) (prn : Nat) : Bool := decide (prn ≠ 0) && (List.range 16).any fun k => u8 c (128 + k) == prn
def ocuCorrSource (c : Bytes) := ocuField c (u8 · 48) 0
def ocuCorrUdp (c : Bytes) := ocuField c (u16 · 50) 0
def ocuCorrMaxAge (c : Bytes) := ocuField c (u16 · 52) 30
/-- Phase centre of an antenna in the body frame, m. -/
def ocuAnt (c : Bytes) (a : Nat) : ℚ × ℚ × ℚ :=
  let o := 8 + 12 * a
  ((s32 c o : ℚ) / 1000, (s32 c (o + 4) : ℚ) / 1000, (s32 c (o + 8) : ℚ) / 1000)

/-- Exclusion list of OCULUS_CONFIG (R125). -/
def ocuListed (c : Bytes) (sys prn : Nat) : Bool :=
  (List.range 32).any fun k => u8 c (64 + 2 * k) == sys && decide (sys ≠ 0) && u8 c (65 + 2 * k) == prn

/-- A satellite Oculus may track (R122, R125). -/
def ocuMayTrack (c : Bytes) (o : SatObs) : Bool :=
  listedSignals o && bitOf (o.sys - 1) (ocuField c (u8 · 3) 0x0F) && !ocuListed c o.sys o.prn

def satKey (o : SatObs) : Nat × Nat := (o.sys, o.prn)

/-- The counts held for a satellite. -/
def OculusState.sat (s : OculusState) (k : Nat × Nat) : SatState :=
  (s.sats.find? fun x => x.sys == k.1 && x.prn == k.2).getD { sys := k.1, prn := k.2 }

/-- Excluded by either test (R144). -/
def SatState.excluded (x : SatState) : Bool := x.clusterExcl || x.geomExcl

/-- wrap() to [-0.5, 0.5) (R143). -/
def wrapHalf (q : ℚ) : ℚ := q - ((floorQ (q + 1 / 2) : Int) : ℚ)

/-- Band `b` of a satellite is locked on both antennas (R143). -/
def bothLocked (o : SatObs) (b : Nat) : Bool := vget o.lock b && vget o.lock (2 + b)
/-- The inter-antenna phase difference of a band, cycles (R143). -/
def sdOf (o : SatObs) (b : Nat) : ℚ := vget o.phase (2 + b) - vget o.phase b

/-- close(s, t) of R143. -/
def closeSats (c : Bytes) (s t : SatObs) : Bool :=
  let shared := [0, 1].filter fun b => bothLocked s b && bothLocked t b
  let win : ℚ := (ocuSpoofWin c : ℚ) / 100 / (if shared.length = 1 then 2 else 1)
  !shared.isEmpty && shared.all fun b => decide (absQ (wrapHalf (sdOf s b - sdOf t b)) ≤ win)

/-- Order of satellites by system and PRN. -/
def keyBefore (a b : SatObs) : Bool := decide (a.sys < b.sys) || (a.sys == b.sys && decide (a.prn ≤ b.prn))

/-- The largest set of pairwise close satellites; of two as large, the one that holds the lowest system and PRN (R143). The list is in
that order, so the set that takes the earlier satellite is preferred. -/
def largestClique (c : Bytes) : Nat → List SatObs → List SatObs
  | 0, _ => []
  | _, [] => []
  | n + 1, s :: rest =>
    let a := s :: largestClique c n (rest.filter (closeSats c s))
    let b := largestClique c n rest
    if a.length < b.length then b else a

/-- All qualifying clusters of an epoch, as satellites, and the size of the largest (R143). -/
def clusters (c : Bytes) : Nat → List SatObs → List (Nat × Nat) × Nat
  | 0, _ => ([], 0)
  | n + 1, cand =>
    let q := largestClique c cand.length cand
    if q.length < ocuSpoofMin c ∨ q = [] then ([], q.length)
    else
      let (more, _) := clusters c n (cand.filter fun x => !q.contains x)
      (q.map satKey ++ more, q.length)

/-- One epoch of the cluster test for one satellite (R143). -/
def clusterStep (c : Bytes) (inCluster testable : Bool) (x : SatState) : SatState :=
  if !testable then { x with clusterWatch := false }
  else if inCluster then
    let run := x.clusterRun + 1
    { x with clusterRun := run, clusterOff := 0, clusterWatch := true, clusterExcl := x.clusterExcl || decide (ocuSpoofEpochs c ≤ run) }
  else
    let off := x.clusterOff + 1
    let clear := decide (ocuSpoofClear c * 50 / ocuRateDiv c ≤ off)
    { x with clusterRun := 0, clusterOff := off, clusterWatch := false, clusterExcl := x.clusterExcl && !clear }

/-- One epoch of the geometry test for one satellite (R144): `fails` is none when the satellite has no measurement. While the test is unavailable the
counts stand (R145). -/
def geomStep (c : Bytes) (fails : Option Bool) (testable : Bool) (x : SatState) : SatState :=
  if !testable then { x with geomWatch := fails == some true }
  else match fails with
  | none => { x with geomFail := 0, geomPass := 0, geomWatch := false }
  | some true =>
    let n := x.geomFail + 1
    { x with geomFail := n, geomPass := 0, geomWatch := true, geomExcl := x.geomExcl || decide (ocuGeomEpochs c ≤ n) }
  | some false =>
    let n := x.geomPass + 1
    { x with geomFail := 0, geomPass := n, geomWatch := false, geomExcl := x.geomExcl && !decide (ocuGeomEpochs c ≤ n) }

/-! Tracking (R124, R125). -/

/-- The class of a satellite in the order of allocation (R125); none for one that takes no pair. -/
def pairClass (s : OculusState) (c : Bytes) (o : SatObs) : Option Nat :=
  if !ocuMayTrack c o then none
  else if o.sys = 4 then (if ocuSbas c o.prn then some 2 else none)
  else if (vget s.navKeys 0 ++ vget s.navKeys 1).contains (satKey o) then some 0
  else if ocuElevMask c ≤ o.elev then some 1
  else if 0 ≤ o.elev then some 3 else none

/-- The satellites that hold the 96 channel pairs at an epoch, in the order of allocation; an observation of a satellite already listed is ignored. -/
def pairOrder (s : OculusState) (c : Bytes) (sats : List SatObs) : List SatObs :=
  let once := sats.foldl (fun acc o => if acc.any fun x => satKey x == satKey o then acc else acc ++ [o]) []
  let ranked := once.filterMap fun o => (pairClass s c o).map fun k => (k, o)
  ((ranked.mergeSort fun x y => decide (x.1 < y.1) || (x.1 == y.1 && decide (y.2.elev ≤ x.2.elev))).map (·.2)).take 96

/-- The channel pairs of an epoch (R124): a satellite that keeps its pair stays on it; the others take the lowest-numbered free pairs (log entry 71). -/
def allocPairs (old : Vector (Option (Nat × Nat)) 96) (want : List (Nat × Nat)) : Vector (Option (Nat × Nat)) 96 :=
  let kept := old.map fun x => match x with
    | some k => if want.contains k then some k else none
    | none => none
  let fresh := want.filter fun k => !kept.toList.contains (some k)
  ((List.range 96).foldl (fun (acc : Vector (Option (Nat × Nat)) 96 × List (Nat × Nat)) i =>
    match vget acc.1 i, acc.2 with
    | none, k :: ks => (vmodN acc.1 i fun _ => some k, ks)
    | _, _ => acc) (kept, fresh)).1

/-- What a channel pair tracks of a satellite: SBAS has no signal on band 2 (Table 5.1). -/
def trackedObs (o : SatObs) : SatObs := if o.sys = 4 then { o with lock := #v[vget o.lock 0, false, vget o.lock 2, false] } else o

/-- The number of the channel pair of a satellite. -/
def pairOf (s : OculusState) (k : Nat × Nat) : Nat := ((List.range 96).find? fun i => vget s.pairs i == some k).getD 0

/-- What an epoch works on: OCULUS_CONFIG, the instant in µs and in ns of device time, the number of the epoch, the satellites tracked. -/
structure EpochCtx where
  c     : Bytes
  us    : Nat
  meas  : Int
  epoch : Nat
  sats  : List SatObs
  deriving DecidableEq, Repr, Inhabited

/-- DUAL mode on an antenna (R126), a deselected chain counting as unlocked. -/
def lockedOn (s : OculusState) (o : SatObs) (ch : Nat) : Bool := vget o.lock ch && !(vget s.chains ch).desel
def dualOn (s : OculusState) (o : SatObs) (a : Nat) : Bool := lockedOn s o (2 * a) && lockedOn s o (2 * a + 1)
/-- 0 DUAL, 1 B1_ONLY, 2 B2_ONLY (Table 5.7). -/
def modeOn (s : OculusState) (o : SatObs) (a : Nat) : Nat := if dualOn s o a then 0 else if lockedOn s o (2 * a) then 1 else 2

/-- A satellite that may be ranged with: not SBAS (R122), not below ELEV_MASK (R125), not excluded (R144). -/
def ranges (s : OculusState) (x : EpochCtx) (o : SatObs) : Bool :=
  decide (o.sys ≠ 4) && decide (ocuElevMask x.c ≤ o.elev) && !(s.sat (satKey o)).excluded

/-- The satellites of an antenna's navigation solution (R125, R144). -/
def navSats (s : OculusState) (x : EpochCtx) (a : Nat) : List SatObs :=
  x.sats.filter fun o => vget o.inSolution a && ranges s x o && (lockedOn s o (2 * a) || lockedOn s o (2 * a + 1))

/-- The bands of an antenna that a satellite's measurement uses. -/
def usedBands (s : OculusState) (o : SatObs) (a : Nat) : List Nat := [0, 1].filter fun b => lockedOn s o (2 * a + b)

/-! Corrections at an epoch (R138). -/

/-- The carried corrections of a system on a band, over the satellites common to reference and receiver, with the age of each, µs. A correction older than
CORR_MAX_AGE_S is not applied. A satellite below ELEV_MASK stands for nothing (R125). -/
def bandCorrs (s : OculusState) (x : EpochCtx) (sys b : Nat) : List (Nat × ℚ × Nat) :=
  match s.refPos with
  | none => []
  | some place =>
    x.sats.filterMap fun o =>
      if o.sys ≠ sys ∨ o.elev < ocuElevMask x.c ∨ !(vget o.lock b || vget o.lock (2 + b)) then none
      else
        (s.msm.find? fun r => r.cell.sys == sys && r.cell.prn == o.prn && r.cell.sig == signalCode o b &&
            decide (x.meas ≤ r.ns + (ocuCorrMaxAge x.c : Int) * 1000000000)).bind fun r =>
          (carriedCorr place x.meas r).map fun v => (o.prn, v, ((x.meas - r.ns) / 1000).toNat)

/-- The correction of a satellite on a band, less the common term of its system, with its age. The common term is one mean a system and band
(DESIGN CHOICE, log entry 78). -/
def rtcmCorr (s : OculusState) (x : EpochCtx) (o : SatObs) (b : Nat) : Option (ℚ × Nat) :=
  let l := bandCorrs s x o.sys b
  (l.find? fun y => y.1 == o.prn).map fun y => (y.2.1 - sumQ (l.map (·.2.1)) / (l.length : Nat), y.2.2)

/-- The RTCM correction of a satellite's measurement on an antenna: it needs one on every band used (log entry 71). -/
def rtcmOn (s : OculusState) (x : EpochCtx) (o : SatObs) (a : Nat) : Option (ℚ × Nat) :=
  let bs := usedBands s o a
  if bs = [] ∨ bs.any (fun b => (rtcmCorr s x o b).isNone) then none
  else
    let v (b : Nat) : ℚ × Nat := (rtcmCorr s x o b).getD (0, 0)
    some (byMode (modeOn s o a) fun b => (v b).1, (bs.map fun b => (v b).2).foldl max 0)

/-- The kind of corrections an epoch applies: 2 valid RTCM corrections, otherwise 1 valid SBAS corrections while an SBAS satellite is tracked, otherwise 0. -/
def corrKind (s : OculusState) (x : EpochCtx) : Nat :=
  let nav := (List.range 2).flatMap fun a => (navSats s x a).map fun o => (o, a)
  if nav.any fun y => (rtcmOn s x y.1 y.2).isSome then 2
  else if (x.sats.any fun o => o.sys == 4 && decide (ocuElevMask x.c ≤ o.elev) && (vget o.lock 0 || vget o.lock 2)) && nav.any fun y => y.1.sbas.isSome then 1 else 0

/-- The correction of a measurement and the age of an RTCM one, by the kind of the epoch. -/
def corrOn (s : OculusState) (x : EpochCtx) (kind : Nat) (o : SatObs) (a : Nat) : Option (ℚ × Nat) :=
  if kind = 2 then rtcmOn s x o a else if kind = 1 then o.sbas.map fun v => (v, 0) else none

/-- What the solvers take of a satellite on an antenna: system, PRN, rho, range rate, place and speed of the satellite, clock drift, standard deviation. -/
def solverRow (s : OculusState) (x : EpochCtx) (kind : Nat) (a : Nat) (o : SatObs) : List ℚ :=
  let m := modeOn s o a
  let t := txTime o a m x.meas
  let p := satPosAt o t
  let v := satVelAt o t
  [(o.sys : ℚ), (o.prn : ℚ), rhoOf o a m x.meas (((corrOn s x kind o a).map (·.1)).getD 0), rangeRate o a m, p.x, p.y, p.z, v.x, v.y, v.z,
    Config.satDrift o.sys o.prn t, ((vget o.sigma a).1 : ℚ)]

/-- Preference for a slot: DUAL first, then higher elevation (R133). -/
def slotBefore (s : OculusState) (a : Nat) (x y : SatObs) : Bool :=
  if dualOn s x a != dualOn s y a then dualOn s x a else decide (y.elev ≤ x.elev)

/-- The satellites of the slots of one antenna after an epoch: one that stays selected keeps its index (R133). -/
def fillSlots (old : Vector (Option (Nat × Nat)) 16) (chosen : List (Nat × Nat)) (n : Nat) : Vector (Option (Nat × Nat)) 16 :=
  let kept := Vector.ofFn fun i : Fin 16 => match old[i] with
    | some k => if i.val < n ∧ chosen.contains k = true then some k else none
    | none => none
  let fresh := chosen.filter fun k => !kept.toList.contains (some k)
  (List.range n).foldl (fun (acc : Vector (Option (Nat × Nat)) 16 × List (Nat × Nat)) i =>
    match vget acc.1 i, acc.2 with
    | none, k :: ks => (vmodN acc.1 i fun _ => some k, ks)
    | _, _ => acc) (kept, fresh) |>.1

/-- What a slot holds of its satellite after an epoch. -/
def slotHold (s : OculusState) (x : EpochCtx) (a : Nat) (o : SatObs) : SlotHold :=
  ⟨satKey o, x.meas, Vector.ofFn fun b => if lockedOn s o (2 * a + b.val) then some (phaseM o a b.val) else none, Vector.ofFn fun b => ionoM o a b.val⟩

/-- phi_if of R134 from held phases: in a single-band mode the ionospheric delay, which advances the phase, is removed. -/
def phiIf (m : Nat) (h : SlotHold) : Option ℚ :=
  if m = 0 then match vget h.phi 0, vget h.phi 1 with
    | some p, some q => some (byMode 0 fun b => if b = 0 then p else q)
    | _, _ => none
  else (vget h.phi (m - 1)).map fun p => p + vget h.iono (m - 1)

/-- A word of a record from a value in Q16.16 and whether it saturated. -/
def w16 (q : ℚ) : Nat := ofSigned 32 (toQ16 q)
def sat16 (q : ℚ) : Bool := decide ((toQ16 q : ℚ) ≠ (roundAway (q * 65536) : ℚ))

/-- Unit vector from a place to a satellite at an instant, north, east, down. -/
def losOf (place : Int × Int × ℚ) (o : SatObs) (t : ℚ) : V3 :=
  let d := (satPosAt o t).sub (ecefOf place)
  nedOf place (V3.scale (if d.norm = 0 then 0 else 1 / d.norm) d)

/-- The three residuals of R134 on an antenna, with what its slot held at its previous epoch; the delta range is 0 without it (R133). -/
def residuals (s : OculusState) (x : EpochCtx) (kind a : Nat) (o : SatObs) (prev : Option SlotHold) : ℚ × ℚ × ℚ :=
  let m := modeOn s o a
  let lin := vget s.lin a
  let place := ecefOf lin
  let t := txTime o a m x.meas
  let isb := if o.sys = 2 then vget s.isb 0 else if o.sys = 3 then vget s.isb 1 else 0
  let w0 := rhoOf o a m x.meas (((corrOn s x kind o a).map (·.1)).getD 0) - geoOf o a m x.meas place - s.clk - isb
  let w1 := match prev with
    | none => 0
    | some h => match phiIf m (slotHold s x a o), phiIf m h with
      | some p, some q =>
        (p - q) - (satRange o x.meas place - satRange o h.ns place) + lightSpeed * (Config.satClock o.sys o.prn x.meas - Config.satClock o.sys o.prn h.ns)
      | _, _ => Config.deltaRange o.sys o.prn x.epoch
  let w2 := rangeRate o a m - (losOf lin o t).dot (nedOf lin (satVelAt o t)) + lightSpeed * Config.satDrift o.sys o.prn t
  (w0, w1, w2)

/-- The SLOT record of a slot (Table 5.7), from what the slot held before the epoch and the satellite it holds now. -/
def slotRecord (s : OculusState) (x : EpochCtx) (kind a i : Nat) (before : Option SlotHold) (o : Option SatObs) : OcuRecord :=
  let src := 3 * 32 + a * 16 + i
  match o with
  | none => ⟨src, Vector.replicate 8 0, x.meas.toNat⟩
  | some o =>
    let bs := usedBands s o a
    let slip := bs.any fun b => vget o.slip (2 * a + b)
    let first := slip || !((before.map (·.key)) == some (satKey o))
    let (r0, r1, r2) := residuals s x kind a o (if first then none else before)
    let st := s.sat (satKey o)
    let m := modeOn s o a
    let cn := (bs.map fun b => vget o.cn0 (2 * a + b) / 100).foldl min 127
    let lockMs := (bs.map fun b => vget o.lockTime (2 * a + b)).foldl min 40950
    let jam := bs.any fun b => (vget s.chains (2 * a + b)).jam == 2
    let (sp, sd) := vget o.sigma a
    let w6 := atF 29 3 o.sys + atF 21 8 o.prn + atF 19 2 m + atF 12 7 cn + atF 0 12 (min 4095 (lockMs / 10))
    let w7 := atF 16 16 (min 65535 sp) + atF 8 8 (min 255 sd) + at1 7 slip + at1 6 (st.clusterWatch || st.geomWatch) + at1 5 first +
      at1 4 jam + at1 3 (m != 0) + at1 2 (corrOn s x kind o a).isSome + at1 1 (sat16 r0 || sat16 r1 || sat16 r2)
    let u := losOf (vget s.lin a) o (txTime o a m x.meas)
    let los (q : ℚ) : Nat := ofSigned 32 (toQ 2 30 q)
    ⟨src, #v[w16 r0, w16 r1, w16 r2, los u.x, los u.y, los u.z, w6, w7], x.meas.toNat⟩

/-- The aiding frame an epoch of `cycle` uses (R135). -/
def aidFor (s : OculusState) (cycle : Nat) : Option AidFrame :=
  let fresh := [s.aidA, s.aidB].filterMap fun f => match f with
    | some x => if cycle ≤ x.cycle + 5 then some x else none
    | none => none
  match fresh.filter (·.active) with
  | [] => fresh.foldl (fun b x => match b with
      | none => some x
      | some y => if y.cycle < x.cycle then some x else some y) none
  | x :: xs => some (xs.foldl (fun b y => if b.cycle < y.cycle then y else b) x)

/-- Age of the applied corrections in seconds, Q16.16, or 0x7FFF_FFFF (Table 5.4). -/
def corrAge (s : OculusState) : Nat := match s.corrAge with
  | some us => w16 ((us : ℚ) / 1000000)
  | none => 0x7FFFFFFF

/-- P of R141: the mean power of the last 100 ms. -/
def ChainState.power (ch : ChainState) : ℚ := sumQ ch.powers / (max 1 ch.powers.length : Nat)

/-- The jamming byte of a chain (Table 5.4). -/
def jamByte (ch : ChainState) : Nat :=
  let st := if ch.desel then 3 else ch.jam
  atF 6 2 st + atF 0 6 (halfDb 63 ch.power ch.pref)

/-- EPOCH word 2 (Table 5.4). -/
def jamWordOf (s : OculusState) : Nat :=
  ((List.range 4).map fun i => jamByte (vget s.chains i) * 2 ^ (8 * i)).sum

/-- EPOCH word 6: clipping and notch occupancy (Table 5.4). -/
def clipNotchWord (s : OculusState) (ob : EpochObs) : Nat :=
  ((List.range 4).map fun i => at1 (16 + i) (vget ob.clip i) + (2 ^ min 4 (vget s.chains i).notches.length - 1) * 2 ^ (4 * i)).sum

/-- The uncompensated heading of a baseline (R147). -/
def baseHeading (c : Bytes) (b : Baseline) : ℚ :=
  let (x1, y1, _) := ocuAnt c 0
  let (x2, y2, _) := ocuAnt c 1
  wrap360 ((Config.atan2 b.e b.n - Config.atan2 (y2 - y1) (x2 - x1)) * 180 / Config.pi)

/-- The configured length of the baseline (R146). -/
def baseLength (c : Bytes) : ℚ :=
  let (x1, y1, z1) := ocuAnt c 0
  let (x2, y2, z2) := ocuAnt c 1
  fsqrt ((x2 - x1) * (x2 - x1) + (y2 - y1) * (y2 - y1) + (z2 - z1) * (z2 - z1))

/-- The measured length of a baseline. -/
def obsLength (b : Baseline) : ℚ := fsqrt (b.n * b.n + b.e * b.e + b.d * b.d)

/-! The heading fix (R144, R147). -/

/-- The satellites that may stand in a heading fix: DUAL on both antennas and not excluded (R125, R147). -/
def fixCandidates (s : OculusState) (x : EpochCtx) : List SatObs :=
  x.sats.filter fun o => ranges s x o && dualOn s o 0 && dualOn s o 1

/-- A band locked on both antennas, a deselected chain counting as unlocked (R148). -/
def bothOn (s : OculusState) (o : SatObs) (b : Nat) : Bool := lockedOn s o b && lockedOn s o (2 + b)

/-- The ambiguity of a satellite on a band that the fix still holds: a slip or a loss of lock ends it (R147). -/
def heldAmb (s : OculusState) (o : SatObs) (b : Nat) : Option Int :=
  if bothOn s o b && !(vget o.slip b || vget o.slip (2 + b)) then ((s.amb.find? fun y => y.1 == satKey o).bind fun y => vget y.2 b) else none

/-- The double difference of two satellites on a band, cycles, less its prediction from a baseline: what is left is their ambiguity and the residual. -/
def ddOf (u : SatObs → V3) (v : Baseline) (o r : SatObs) (b : Nat) : ℚ :=
  sdOf o b - sdOf r b + ((u o).sub (u r)).dot ⟨v.n, v.e, v.d⟩ / waveOf b

/-- What the solver of a baseline takes of a satellite: system, PRN, direction, and for each band with an integer 1 and the single difference after it. -/
def baseRow (u : SatObs → V3) (amb : SatObs → Nat → Option Int) (o : SatObs) : List ℚ :=
  [(o.sys : ℚ), (o.prn : ℚ), (u o).x, (u o).y, (u o).z] ++ ([0, 1].flatMap fun b => match amb o b with
    | some n => [1, sdOf o b - (n : ℚ)]
    | none => [0, 0])

/-- The baseline solved from satellites and their ambiguities; the solver is open (log entry 11). -/
def solveBase (epoch : Nat) (fixed : Bool) (u : SatObs → V3) (amb : SatObs → Nat → Option Int) (l : List SatObs) : Baseline :=
  let rows := l.map (baseRow u amb)
  let f := Config.baseline epoch fixed rows
  ⟨f 0, f 1, f 2, f 3, f 4⟩

/-- The satellite of highest elevation of a list. -/
def highest (l : List SatObs) : Option SatObs := l.foldl (fun b o => match b with
  | none => some o
  | some r => if r.elev < o.elev then some o else some r) none

/-- The ambiguities of an epoch on one band: the held ones, and those of the other satellites locked on it, each resolved alone against the highest
satellite of `l`, those that the fix may rest on, that holds one. -/
def resolveAmb (on : SatObs → Nat → Bool) (u : SatObs → V3) (v : Baseline) (held : SatObs → Nat → Option Int) (l : List SatObs) (o : SatObs) (b : Nat) :
    Option Int :=
  match held o b with
  | some n => some n
  | none => if !on o b then none else match highest (l.filter fun q => (held q b).isSome) with
    | some q => some ((held q b).getD 0 + roundAway (ddOf u v o q b))
    | none => none

/-- The double-difference residuals of a satellite against the reference, after its fixed ambiguity, on the bands on which both have one. -/
def geomResid (u : SatObs → V3) (v : Baseline) (amb : SatObs → Nat → Option Int) (r o : SatObs) : List ℚ :=
  [0, 1].filterMap fun b => match amb o b, amb r b with
    | some n, some k => some (ddOf u v o r b - ((n - k : Int) : ℚ))
    | _, _ => none

/-- A double-difference residual beyond GEOM_TOL on any band (R144); none for a satellite without a residual, which the epoch does not test. -/
def geomFails (c : Bytes) (u : SatObs → V3) (v : Baseline) (amb : SatObs → Nat → Option Int) (r o : SatObs) : Option Bool :=
  let l := geomResid u v amb r o
  if l.isEmpty then none else some (l.any fun q => decide ((ocuGeomTol c : ℚ) / 100 < absQ q))

/-- Whether a candidate baseline is a fix (R147). -/
def declareFix (c : Bytes) (cands : List SatObs) (v : Baseline) : Bool :=
  !c.isEmpty && decide (5 ≤ cands.length) && decide (3 ≤ v.ratio) &&
    decide (absQ (obsLength v - baseLength c) ≤ (ocuBaseTol c : ℚ) / 1000 + baseLength c / 1000)

/-- Update or add the counts of a satellite. -/
def setSat (x : SatState) (l : List SatState) : List SatState :=
  if l.any (fun y => y.sys == x.sys && y.prn == x.prn) then l.map (fun y => if y.sys == x.sys && y.prn == x.prn then x else y) else l ++ [x]

/-- Satellites tracked on both antennas (R143). -/
def trackedBoth (o : SatObs) : Bool := bothLocked o 0 || bothLocked o 1

/-- One entry of the raw ring for a satellite on one chain (Table 5.12). -/
def rawEntry (s : OculusState) (used : Bool) (o : SatObs) (ch : Nat) (c : Bytes) : Bytes :=
  let x := s.sat (satKey o)
  leBytes 6 (vget o.range ch) ++ leSigned 6 (roundAway (vget o.phase ch * 65536)) ++ leQ16 (vget o.doppler ch) ++
  leBytes 2 (vget o.cn0 ch) ++ leBytes 2 (min 65535 (vget o.lockTime ch)) ++
  [BitVec.ofNat 8 o.sys, BitVec.ofNat 8 o.prn,
   BitVec.ofNat 8 (at1 7 (decide (2 ≤ ch)) + at1 6 (decide (ch % 2 = 1)) + atF 0 6 (signalCode o (ch % 2))),
   BitVec.ofNat 8 (at1 7 (vget o.slip ch) + at1 6 (vget o.halfCycle ch) + at1 5 (decide (o.elev < ocuElevMask c)) +
     at1 4 (x.clusterWatch || x.geomWatch) + at1 3 x.clusterExcl + at1 2 x.geomExcl + at1 1 ((vget s.chains ch).jam == 2) + at1 0 used)] ++
  leBytes 2 (pairOf s (satKey o)) ++ [BitVec.ofNat 8 (ofSigned 8 o.elev), 0] ++ leBytes 2 o.azim ++ zeroBytes 2

/-- The two tests of an epoch over all tracked satellites (R143 to R145): the counts after it, the size of the largest cluster, whether the test is
unavailable. `fails` is the geometry test of a satellite while the heading is fixed. -/
def spoofTests (x : EpochCtx) (fails : Option (SatObs → Option Bool)) (s : OculusState) : OculusState × Nat :=
  let c := x.c
  let cand := (x.sats.filter trackedBoth).mergeSort keyBefore
  let unavailable := c.isEmpty || vget s.antDesel 0 || vget s.antDesel 1 || decide (cand.length < ocuSpoofMin c)
  let (inCl, biggest) := if unavailable then ([], 0) else clusters c cand.length cand
  let known := (s.sats.map fun y => (y.sys, y.prn)) ++ (cand.map satKey).filter fun k => !(s.sats.any fun y => y.sys == k.1 && y.prn == k.2)
  let step (k : Nat × Nat) : SatState :=
    let x1 := clusterStep c (inCl.contains k) (!unavailable) (s.sat k)
    let x2 := match fails with
      | none => { x1 with geomWatch := false }
      | some f => geomStep c ((cand.find? fun o => satKey o == k).bind f) (!unavailable) x1
    { x2 with left := x2.geomWatch || x2.excluded || (x2.left && x2.clusterWatch) }
  let sats := known.map step
  let spoof := if unavailable then 3
    else if sats.any (·.clusterExcl) then 2
    else if sats.any (fun y => y.clusterWatch || y.geomWatch) then 1 else 0
  ({ s with sats := sats, spoof := spoof }, biggest)

/-- The tests of an epoch: cluster, geometry, spoofing state and heading fix (R143 to R147). The baseline that the residuals are tested against is solved
from the satellites that stood in the solution before the epoch, the one reported from those that stand in it after the tests; the satellites of a fix
are those with an integer from before (log entry 71). The reference satellite of the geometry test passes it (DESIGN CHOICE, log entry 78). -/
def epochTests (x : EpochCtx) (s : OculusState) : OculusState × Nat :=
  let u (o : SatObs) : V3 := losOf (vget s.lin 0) o x.meas
  let antOk := !(vget s.antDesel 0 || vget s.antDesel 1) && !x.c.isEmpty
  let cand := x.sats.filter trackedBoth
  let was := s.hdgFixed && antOk
  let held := heldAmb s
  let inFix (t : OculusState) (o : SatObs) : Bool := ranges t x o && !(t.sat (satKey o)).left
  let some2 (f : SatObs → Nat → Option Int) (o : SatObs) : Bool := (f o 0).isSome || (f o 1).isSome
  let v0 := solveBase x.epoch true u held (cand.filter fun o => inFix s o && some2 held o)
  let amb := resolveAmb (bothOn s) u v0 held (cand.filter (inFix s))
  let ref := highest (cand.filter fun o => ranges s x o && some2 amb o)
  let fails (o : SatObs) : Option Bool := ref.bind fun r => if satKey r = satKey o then some false else geomFails x.c u v0 amb r o
  let (s1, biggest) := spoofTests x (if was then some fails else none) s
  let own (o : SatObs) : Bool := (s.amb.find? fun y => y.1 == satKey o).any fun y => (vget y.2 0).isSome || (vget y.2 1).isSome
  let holders := cand.filter fun o => ranges s1 x o && own o && fails o == some false
  let keepFix := was && decide (5 ≤ holders.length)
  let cands := fixCandidates s1 x
  let v1 := solveBase x.epoch false u (fun _ _ => none) cands
  let newFix := !keepFix && antOk && declareFix x.c cands v1
  let used := cand.filter fun o => inFix s1 o && some2 amb o
  let zero (o : SatObs) (b : Nat) : Option Int := if (cands.head?.map satKey) == some (satKey o) && bothOn s o b then some 0 else none
  let amb1 : SatObs → Nat → Option Int := if keepFix then amb else resolveAmb (bothOn s) u v1 zero cands
  let fixed := keepFix || newFix
  ({ s1 with
    hdgFixed := fixed
    fixSats := if keepFix then used.map satKey else if newFix then cands.map satKey else []
    amb := if fixed then cand.map fun o => (satKey o, Vector.ofFn fun b => amb1 o b.val) else []
    base := if keepFix then solveBase x.epoch true u amb used else v1 }, biggest)

/-! Records (R132). -/

/-- The POSITION record of an antenna (Table 5.5). -/
def posRecord (s : OculusState) (x : EpochCtx) (a : Nat) (linAided : Bool) : OcuRecord :=
  let nav := vget s.nav a
  let (lat, lon, h) := vget s.lin a
  let jam := (navSats s x a).any fun o => (usedBands s o a).any fun b => (vget s.chains (2 * a + b)).jam == 2
  let exclAny := x.sats.any fun o => vget o.inSolution a && (s.sat (satKey o)).excluded
  let la := ofSigned 64 lat
  let lo := ofSigned 64 lon
  let w7 := atF 24 8 nav.sats + atF 20 4 nav.mode + at1 19 linAided + at1 18 exclAny + at1 17 jam + at1 16 (vget s.posValid a) +
    atF 0 16 (min 65535 nav.hdop100)
  ⟨32 + 16 * a, #v[la % 2 ^ 32, la / 2 ^ 32, lo % 2 ^ 32, lo / 2 ^ 32, w16 h, w16 nav.sd, corrAge s, w7], x.meas.toNat⟩

/-- The HEADING record (Table 5.6). -/
def hdgRecord (s : OculusState) (x : EpochCtx) : OcuRecord :=
  let b := s.base
  let w5 := atF 24 8 s.fixSats.length + atF 16 8 (clampI 0 255 (floorQ (b.ratio * 10))).toNat + at1 0 s.hdgFixed
  ⟨64, #v[w16 b.n, w16 b.e, w16 b.d, ofSigned 32 (degQ16 (baseHeading x.c b)), w16 b.sdAz, w5, w16 (obsLength b - baseLength x.c), 0], x.meas.toNat⟩

/-- The EPOCH record (Table 5.4). -/
def epochRecord (s : OculusState) (x : EpochCtx) (ob : EpochObs) (biggest : Nat) (timeWord : Nat) : OcuRecord :=
  let cnt (f : SatState → Bool) : Nat := (s.sats.filter f).length
  let w3 := atF 30 2 s.spoof + atF 24 6 (cnt (·.clusterExcl)) + atF 18 6 (cnt (·.geomExcl)) + atF 12 6 biggest
  let tracked (a : Nat) : Nat := (x.sats.filter fun o => vget o.lock (2 * a) || vget o.lock (2 * a + 1)).length
  let filled := ((vget s.slots 0).toList ++ (vget s.slots 1).toList).countP (·.isSome)
  let w4 := atF 24 8 (tracked 0) + atF 16 8 (tracked 1) + atF 8 8 s.fixSats.length + atF 0 8 filled
  ⟨0, #v[w16 s.clk, w16 s.drift, jamWordOf s, w3, w4, corrAge s, clipNotchWord s ob, timeWord], x.meas.toNat⟩

/-! The navigation solution (R126, R127, R135, R138). -/

/-- The solutions, the receiver clock and the linearisation points of an epoch. POSITION is VALID from an own solution, or from the aided position while a
frame is usable (R135, log entry 71); with neither the last solution is carried on at its last velocity. -/
def navigate (x : EpochCtx) (cycle : Nat) (s : OculusState) : OculusState :=
  let kind := corrKind s x
  let ns (a : Nat) : List SatObs := navSats s x a
  let row (a : Nat) := solverRow s x kind a
  let all := (List.range 2).flatMap fun a => (ns a).map (row a)
  let sol (a : Nat) : Bool := decide (4 ≤ (ns a).length)
  let fix (a : Nat) : Nat → ℚ := Config.navSolution x.epoch a ((ns a).map (row a))
  let aid := aidFor s cycle
  let clock := Config.receiverClock x.epoch all
  let dt : ℚ := ((x.meas - (s.linNs : Int) : Int) : ℚ) / 1000000000
  let lin := Vector.ofFn fun a : Fin 2 =>
    if sol a.val then (roundAway (fix a.val 0), roundAway (fix a.val 1), fix a.val 2)
    else match aid with
      | some f => (f.lat[a], f.lon[a], f.hgt[a].getD s.lin[a].2.2)
      | none =>
        let p := unproject (s.lin[a].1, s.lin[a].2.1) (s.vel[a].x * dt) (s.vel[a].y * dt)
        (p.1, p.2, s.lin[a].2.2 - s.vel[a].z * dt)
  let nav := Vector.ofFn fun a : Fin 2 =>
    if sol a.val then ({ sats := (ns a.val).length, mode := kind + 1, sd := fix a.val 6, hdop100 := (roundAway (fix a.val 7)).toNat } : NavSol)
    else { sats := (ns a.val).length, mode := 0, sd := fix a.val 6, hdop100 := (roundAway (fix a.val 7)).toNat }
  let ages := (List.range 2).flatMap fun a => (ns a).filterMap fun o => if kind = 2 then (corrOn s x kind o a).map (·.2) else none
  let keys := (List.range 2).flatMap fun a => (ns a).map satKey
  { s with
    nav := nav, lin := lin, linNs := x.meas.toNat, corr := kind
    vel := Vector.ofFn fun a : Fin 2 => if sol a.val then ⟨fix a.val 3, fix a.val 4, fix a.val 5⟩ else match aid with
      | some f => f.vel[a]
      | none => s.vel[a]
    posValid := Vector.ofFn fun a : Fin 2 => (sol a.val || aid.isSome) && !s.antDesel[a]
    navKeys := Vector.ofFn fun a : Fin 2 => (ns a.val).map satKey
    clk := clock 0, drift := clock 1, isb := #v[clock 2, clock 3], timeSd := clock 4, timeSats := keys.eraseDups.length
    corrAge := if ages.isEmpty then none else some (ages.foldl max 0) }

/-- The slots of the antennas after an epoch (R133). -/
def slotStep (x : EpochCtx) (s : OculusState) : OculusState :=
  let n := min 16 (ocuSlots x.c)
  { s with slots := Vector.ofFn fun a : Fin 2 =>
      if s.antDesel[a] then Vector.replicate 16 none
      else
        let keep := ((navSats s x a.val).mergeSort (slotBefore s a.val)).take n
        (fillSlots (s.slots[a].map fun h => h.map (·.key)) (keep.map satKey) n).map fun k => k.bind fun key =>
          (keep.find? fun o => satKey o == key).map (slotHold s x a.val) }

/-- Mean C/N0 of the satellites tracked on each chain, kept for 60 s (R141). -/
def cn0Step (x : EpochCtx) (s : OculusState) : OculusState :=
  { s with chains := Vector.ofFn fun i : Fin 4 =>
      let l := (x.sats.filter fun o => vget o.lock i.val).map fun o => ((vget o.cn0 i.val : Nat) : ℚ)
      let old := s.chains[i].cn0.filter fun y => decide (x.us < y.1 + 60000000)
      { s.chains[i] with cn0 := if l.isEmpty then old else (x.us, sumQ l / (l.length : Nat)) :: old } }

/-- One measurement epoch (R124 to R135, R143 to R150): the state after it, with the records handed to both Sky links, and how many were dropped. An
ephemeris decoded from a signal takes the place of one received by RTCM (R137). -/
def measureEpoch (c : Bytes) (cycle us meas timeWord : Nat) (ob : EpochObs) (s0 : OculusState) : OculusState × Nat :=
  let sats := (pairOrder s0 c ob.sats).map trackedObs
  let x : EpochCtx := ⟨c, us, meas, s0.ringSeq, sats⟩
  let sA := { s0 with
    pairs := allocPairs s0.pairs (sats.map satKey)
    ephem := s0.ephem.filter fun e => !(sats.any fun o => satKey o == (e.1, e.2.1) && o.issue.isSome) }
  let (s1, biggest) := epochTests x sA
  let s2 := slotStep x (cn0Step x (navigate x cycle s1))
  let s3 := { s2 with
    epochs := (s1.epochs + 1) % 4096
    chains := Vector.ofFn fun i => { s2.chains[i] with clip := s2.chains[i].clip || vget ob.clip i.val } }
  let nslots := min 16 (ocuSlots c)
  let slotRecs := (List.range 2).flatMap fun a => (List.range nslots).map fun i =>
    slotRecord s3 x s3.corr a i (vget (vget s1.slots a) i) ((vget (vget s3.slots a) i).bind fun h => sats.find? fun o => satKey o == h.key)
  let er := epochRecord s3 x ob biggest timeWord
  let aided (a : Nat) : Bool := decide ((navSats s1 x a).length < 4) && (aidFor s1 cycle).isSome
  let recs := [er, posRecord s3 x 0 (aided 0), posRecord s3 x 1 (aided 1)] ++ (if c.isEmpty then [] else hdgRecord s3 x :: slotRecs)
  let ready := recs.filter fun r => !ob.late.contains r.source
  let dropped := recs.length - ready.length
  let seq := s3.ringSeq + 1
  let entries := sats.flatMap fun o => ((List.range 4).filter fun ch => vget o.lock ch).map fun ch =>
    rawEntry s3 ((navSats s3 x (ch / 2)).any (satKey · == satKey o) && lockedOn s3 o ch) o ch c
  ({ s3 with
    jamWord := vget er.words 2, spoofWord := vget er.words 3
    recLate := satAdd 0xFFFFFFFF s3.recLate dropped, recordLate := s3.recordLate || decide (0 < dropped)
    toA := ready, toB := ready
    ringSeq := seq, ring := vmodN s3.ring (seq % 8) fun _ => ⟨cycle, entries.take 384, seq % 65536⟩ }, dropped)

/-! Interference (R139 to R141). -/

/-- The notches of a chain after one monitor period (R139, R140): with how many were placed, and whether a further peak persists. The period's samples pass
through the notches that stood during it. A peak is the one of the period before when the two share a bin (log entry 71). -/
def notchStep (c : Bytes) (m : MonitorObs) (ch : ChainState) : ChainState × Nat × Bool :=
  let spec := spectrum m.samples
  let floor := spectrumFloor spec
  let aged := (notchRun (notchRho (ocuNotchRho c)) m.samples ch.notches).map fun n =>
    let p := spec.getD n.bin 0
    { n with lowMs := if decide (0 < p) && atLeastDb (ocuNotchOff c) p floor then 0 else n.lowMs + 1, power := p }
  let kept := aged.filter fun n => decide (n.lowMs < 100)
  let peaks := peaksOf (ocuNotchOn c) spec floor
  let count (p : SpectralPeak) : Nat := 1 + ((ch.seen.filter fun y => decide (y.1 ≤ p.hi) && decide (p.lo ≤ y.2.1)).map (·.2.2)).foldl max 0
  let notched (ns : List Notch) (p : SpectralPeak) : Bool := ns.any fun n => decide (p.lo ≤ n.bin) && decide (n.bin ≤ p.hi)
  let due := peaks.filter fun p => decide (p.width ≤ ocuNotchBins c) && decide (3 ≤ count p) && !notched kept p
  let fresh (p : SpectralPeak) : Notch := { freq := (p.bin : ℚ) - 512, power := p.power }
  let place (acc : List Notch × Nat) (p : SpectralPeak) : List Notch × Nat :=
    if acc.1.length < 4 then (acc.1 ++ [fresh p], acc.2 + 1)
    else
      let weak := acc.1.foldl (fun b y => if y.power < b.power then y else b) (acc.1.headD default)
      if atLeastDb 12 p.power weak.power then (acc.1.map (fun y => if y == weak then fresh p else y), acc.2 + 1) else acc
  let placed := due.foldl place (kept, 0)
  let further := decide (4 ≤ placed.1.length) && peaks.any fun p => decide (3 ≤ count p) && !notched placed.1 p
  ({ ch with notches := placed.1, seen := peaks.map fun p => (p.lo, p.hi, count p) }, placed.2, further)

/-- The mean C/N0 of a chain has fallen more than CN0_DROP below its median of the last 60 s (R141). -/
def cn0Fallen (c : Bytes) (ch : ChainState) : Bool := match ch.cn0 with
  | [] => false
  | x :: _ => decide (x.2 + 100 * (ocuCn0Drop c : ℚ) < middleQ (ch.cn0.map (·.2)))

/-- The conditions for JAMMED and for INTERFERENCE hold on a chain (R141). -/
def jammedNow (c : Bytes) (further : Bool) (ch : ChainState) : Bool :=
  atLeastDb (ocuJamAlarm c) ch.power ch.pref || cn0Fallen c ch || (decide (4 ≤ ch.notches.length) && further)
def warnNow (c : Bytes) (ch : ChainState) : Bool := atLeastDb (ocuJamWarn c) ch.power ch.pref

/-- The jamming state of a chain after one millisecond (R141): a state is left after its entry condition has been absent for 1 s with J at
least 1.5 dB below its threshold. -/
def jamStep (c : Bytes) (m : MonitorObs) (further : Bool) (ch0 : ChainState) : ChainState :=
  let ch := { ch0 with powers := (m.power :: ch0.powers).take 100 }
  let want := if jammedNow c further ch then 2 else if warnNow c ch then 1 else 0
  let thr : Int := (if ch.jam = 2 then ocuJamAlarm c else ocuJamWarn c : Nat)
  if ch.jam ≤ want then { ch with jam := want, leaveMs := 0 }
  else
    let ms := if atMostDb (thr - 6) ch.power ch.pref then ch.leaveMs + 1 else 0
    if 1000 ≤ ms then { ch with jam := want, leaveMs := 0 } else { ch with leaveMs := ms }

/-! Corrections (R136 to R138). -/

/-- What Oculus keeps of a message it uses (R137): the reference position, an ephemeris, or the reference measurements. -/
def rtcmKeep (gps : Option Int) (ns : Int) (frame : Bytes) (s : OculusState) : OculusState :=
  let num := rtcmNumber frame
  let m := rtcmMsg frame
  match msmSystem num, ephemOf num m with
  | some sys, _ => { s with msm := takeCells (msmInstant gps ns sys m) (msmCells num sys m) s.msm }
  | none, some e => { s with ephem := s.ephem.filter (fun y => !(y.1 == e.1 && y.2.1 == e.2.1)) ++ [e] }
  | none, none => { s with refPos := some (refPoint m) }

/-- Oculus takes an RTCM frame at an instant in µs and in ns of device time, with GPS time less device time (R136, R137). A duplicate was received too: it stands in the second after it. -/
def rtcmTake (us : Nat) (ns : Int) (gps : Option Int) (frame : Bytes) (s : OculusState) : OculusState × List Effect :=
  let n := frame.length
  let crc := (u8 frame (n - 3) * 256 + u8 frame (n - 2)) * 256 + u8 frame (n - 1)
  if crc24q (frame.take (n - 3)) ≠ crc then ({ s with rtcmBad := satAdd 0xFFFFFFFF s.rtcmBad 1 }, [.count 0x0B02 0 1])
  else
    let recent := s.rtcmSeen.filter fun x => decide (us ≤ x.2.2 + 1000000)
    let t := { s with rtcmSeen := recent ++ [(n, crc, us)] }
    if recent.any (fun x => x.1 == n && x.2.1 == crc) then ({ t with rtcmDup := satAdd 0xFFFFFFFF s.rtcmDup 1 }, [])
    else if rtcmUsed (rtcmNumber frame) then (rtcmKeep gps ns frame { t with rtcmOk := (s.rtcmOk + 1) % 2 ^ 32 }, [])
    else ({ t with rtcmIgn := satAdd 0xFFFFFFFF s.rtcmIgn 1 }, [])

/-- OCU_STATUS (Table 5.11). -/
def ocuStatusWord (s : OculusState) : Nat :=
  ((List.range 4).map fun i => at1 (28 + i) (vget s.chains i).desel + at1 (24 + i) (vget s.chains i).clip + at1 (20 + i) (vget s.chains i).fault).sum +
  at1 19 s.recordLate + at1 18 s.hdgFixed + atF 16 2 s.spoof + at1 14 (vget s.posValid 0) + at1 15 (vget s.posValid 1) + atF 12 2 s.corr +
  atF 0 12 s.epochs

/-- Select or deselect a chain (0 to 3) or an antenna (4, 5) (R148, Table 17.4). -/
def gnssSelect (target : Nat) (desel : Bool) (s : OculusState) : OculusState :=
  if target < 4 then { s with chains := vmodN s.chains target fun c => { c with desel := desel } }
  else { s with antDesel := vmodN s.antDesel (target - 4) fun _ => desel }

end Sys2Proof.Machine
end

