-- ==== Sys2Proof/Machine/VerifyUnit.lean ====
section
/-! DEFINITION. What the device checks of a schedule image: the results of Table 3.9 in their order, with each chapter's own TABLE, CAPACITY and ORDER rules. -/

namespace Sys2Proof.Machine

/-- A verification result (R81): the code of Table 3.9, section type and instance, slot or entry index, DETAIL. -/
structure VerResult where
  code   : Nat := 0
  typ    : Nat := 0
  inst   : Nat := 0
  index  : Nat := 0
  detail : Nat := 0
  deriving DecidableEq, Repr, Inhabited

/-- What a lane compares an image with (R81 to R84, R91). -/
structure VerIn where
  /-- ROLE pins: 0 controller, 2 node. -/
  role     : Nat
  nx       : Bool
  stepping : Nat
  /-- The image whose generation and vessel the image is held against (R91): the one in force, or none. -/
  active   : Option Bytes
  /-- The lane already runs an image (R84). -/
  running  : Bool
  engineering : Bool
  commissionEn : Bool
  /-- Measured clock of each island over the last long cycle, kHz; 0 while none is measured. -/
  measured : Vector Nat 9
  tier     : Nat
  /-- The tiers for which the planner reports margin (R84). -/
  margin   : Nat
  /-- Byte 128 of the active safety block, when there is one (R567). -/
  safetyThruster : Option Nat
  deriving DecidableEq, Repr, Inhabited

/-- A check that failed with a result, or none. -/
abbrev Check := Option VerResult

/-- The result when a condition does not hold. -/
def need (ok : Bool) (r : VerResult) : Check := if ok then none else some r
/-- The first check of a list that fails. -/
def firstFail (l : List Check) : Check := l.findSome? id
/-- A lazy chain: the next check runs only when the first passed. -/
def andThen (a : Check) (b : Unit → Check) : Check := match a with
  | some r => some r
  | none => b ()

/-- `lo ≤ n ≤ hi`. -/
def inR (lo hi n : Nat) : Bool := decide (lo ≤ n) && decide (n ≤ hi)
def inQ (lo hi q : ℚ) : Bool := decide (lo ≤ q) && decide (q ≤ hi)
/-- The binary32 field is a number above 0, or at or above 0. -/
def posF (b : Bytes) (o : Nat) : Bool := decide (0 < fl32 b o) && (ofBits32 (u32 b o)).isSome
def nonnegF (b : Bytes) (o : Nat) : Bool := decide (0 ≤ fl32 b o) && (ofBits32 (u32 b o)).isSome
def rangeF (b : Bytes) (o : Nat) (lo hi : ℚ) : Bool := inQ lo hi (fl32 b o) && (ofBits32 (u32 b o)).isSome
/-- Every listed run of bytes is zero. -/
def zerosIn (b : Bytes) (l : List (Nat × Nat)) : Bool := l.all fun p => allZero b p.1 p.2
/-- The TABLE result of Table 3.9 at an entry of a section. -/
def tbl (ok : Bool) (typ ix : Nat) : Check := need ok ⟨9, typ, 0xFF, ix, ix⟩
/-- The CAPACITY result with the offending value. -/
def cap (limit v typ : Nat) : Check := need (decide (v ≤ limit)) ⟨8, typ, 0xFF, 0, v⟩

/-! Code 2, FORMAT (R75 to R77). -/

/-- Table 3.5: per tier, required in the controller role, maximum length. -/
def secInfo (typ : Nat) : Option (Bool × Bool × Nat) :=
  match typ with
  | 0x0001 => some (false, true, 128)
  | 0x0002 => some (true, true, 16384)
  | 0x0003 => some (true, true, 6144)
  | 0x0004 => some (false, true, 64)
  | 0x0005 => some (false, true, 2097152)
  | 0x0010 => some (false, true, 32768)
  | 0x0011 => some (false, true, 262144)
  | 0x0018 => some (false, false, 16384)
  | 0x0019 => some (false, true, 1024)
  | 0x0020 => some (false, true, 262144)
  | 0x0028 => some (false, true, 131072)
  | 0x0030 => some (false, true, 65536)
  | 0x0031 => some (false, true, 8192)
  | 0x0038 => some (false, true, 32768)
  | 0x0039 => some (false, true, 65536)
  | 0x003A => some (false, true, 8192)
  | 0x0040 => some (false, true, 262144)
  | 0x0041 => some (false, true, 524288)
  | 0x0042 => some (false, true, 4096)
  | 0x0043 => some (false, true, 4096)
  | 0x0048 => some (false, true, 65536)
  | 0x0049 => some (false, true, 32768)
  | 0x0050 => some (false, true, 16384)
  | 0x0058 => some (false, true, 262144)
  | 0x0059 => some (false, false, 1048576)
  | 0x0060 => some (false, true, 4096)
  | 0x8000 => some (false, false, 262144)
  | _ => none

/-- The types of Table 3.5 below 0x8000. -/
def secTypes : List Nat := [0x0001, 0x0002, 0x0003, 0x0004, 0x0005, 0x0010, 0x0011, 0x0018, 0x0019, 0x0020, 0x0028, 0x0030, 0x0031,
  0x0038, 0x0039, 0x003A, 0x0040, 0x0041, 0x0042, 0x0043, 0x0048, 0x0049, 0x0050, 0x0058, 0x0059, 0x0060]

/-- The sections a node image must hold (R566). -/
def nodeSecs : List Nat := [0x0010, 0x0011, 0x0048, 0x0049, 0x0050, 0x0060]

/-- The image is one for the node role (Table 3.3). -/
def isNodeImage (i : Bytes) : Bool := bitOf 2 (imgTarget i)

/-- Whether the sections of `e` and its successor stand apart and in order. -/
def dirOrdered : List DirEntry → Bool
  | a :: b :: l => decide (a.offset < b.offset) && decide (a.offset + a.length ≤ b.offset) && dirOrdered (b :: l)
  | _ => true

/-- The first entry that repeats the TYPE and INSTANCE of an earlier one. -/
def dirUnique : List DirEntry → Bool
  | [] => true
  | e :: l => l.all (fun x => !(x.typ == e.typ && x.inst == e.inst)) && dirUnique l

/-- Bytes outside header, directory, sections and trailing CRC are zero. -/
def gapsZero (i : Bytes) : Nat → List DirEntry → Bool
  | at_, [] => allZero i at_ (imgSize i - 4 - at_)
  | at_, e :: l => allZero i at_ (e.offset - at_) && gapsZero i (e.offset + e.length) l

/-- FORMAT: the container rules, with the byte offset of the field that breaks one (log entry 50). -/
def chkFormat (size : Nat) (i : Bytes) : Check :=
  let f (ok : Bool) (o : Nat) : Check := need ok ⟨2, 0, 0, 0, o⟩
  andThen (firstFail [
    f (u32 i 0 == 0x09605C1E) 0, f (u16 i 4 == 1) 4, f (u16 i 6 == 128) 6,
    f (imgSize i == size && imgSize i % 64 == 0 && decide (imgSize i ≤ 0x600000) && decide (256 ≤ imgSize i)) 8,
    f (inR 1 0xFFFFFFFE (imgGen i)) 12, f (inR 1 64 (imgSections i)) 24, f (inR 1 15 (imgTierMask i)) 26,
    f (decide (u8 i 27 < 8)) 27, f (inR 1 3600 (imgProbation i)) 28, f (decide (u8 i 33 = 0) && !bitOf 3 (u8 i 32)) 32,
    f (allZero i 34 2) 34, f (allZero i 52 72) 52]) fun _ =>
  let d := imgDir i
  let dirEnd := 128 + 16 * imgSections i
  andThen (firstFail ((List.range d.length).map fun k =>
    let e := d.getD k default
    let o := 128 + 16 * k
    let per := ((secInfo e.typ).map (·.1)).getD false
    firstFail [f (e.rsvd == 0) (o + 3), f (e.offset % 64 == 0) (o + 4),
      f (decide (dirEnd ≤ e.offset) && decide (e.offset + e.length ≤ imgSize i - 4)) (o + 4),
      f ((secInfo e.typ).isSome || decide (0x8000 ≤ e.typ)) o,
      f (if decide (0x8000 ≤ e.typ) then true else if per then imgTierPresent i e.inst else e.inst == 0xFF) (o + 2)])) fun _ =>
  firstFail [f (dirOrdered d) 128, f (dirUnique d) 128, f (gapsZero i dirEnd d) dirEnd]

/-- CRC: header, sections in directory order, image. -/
def chkCrc (i : Bytes) : Check :=
  andThen (need (crc32c (i.take 124) == u32 i 124) ⟨3, 0, 0, 0, 0⟩) fun _ =>
  andThen ((imgDir i).findSome? fun e => need (crc32c (sliceB i e.offset e.length) == e.crc) ⟨3, e.typ, e.inst, 0, 1⟩) fun _ =>
  need (crc32c (i.take (imgSize i - 4)) == u32 i (imgSize i - 4)) ⟨3, 0, 0, 0, 2⟩

/-- MISSING_SECTION (R77, R566); the instance is the first tier without its per-tier section. -/
def chkMissing (i : Bytes) : Check :=
  let has (t : Nat) : Bool :=
    if ((secInfo t).map (·.1)).getD false then (imgTiers i).all fun k => (imgDir i).any fun e => e.typ == t && e.inst == k
    else imgHas i t
  let req := if isNodeImage i then nodeSecs else secTypes.filter fun t => ((secInfo t).map (·.2.1)).getD false
  let inst (t : Nat) : Nat :=
    if ((secInfo t).map (·.1)).getD false then ((imgTiers i).find? fun k => !((imgDir i).any fun e => e.typ == t && e.inst == k)).getD 0xFF else 0xFF
  req.findSome? fun t => need (has t) ⟨4, t, inst t, 0, t⟩

/-- GENERATION and VESSEL_ID (R91). -/
def chkGeneration (v : VerIn) (i : Bytes) : Check :=
  match v.active with
  | none => none
  | some a =>
    let g := imgGen a
    firstFail [need (decide (g < imgGen i) || (v.engineering && decide (imgGen i < g))) ⟨5, 0, 0, 0, g⟩,
      need (imgVessel i == imgVessel a || v.commissionEn) ⟨6, 0, 0, 0, imgVessel a⟩]

/-- A lane's own TARGET value: its stepping, and its role's bit (Table 3.3). -/
def ownTarget (v : VerIn) : Nat := 16 * v.stepping + 2 ^ v.role

/-- TARGET: role, stepping, ordering code (Table 3.3). -/
def chkTarget (v : VerIn) (i : Bytes) : Check :=
  need (bitOf v.role (imgTarget i % 16) && decide (imgTarget i / 16 % 16 ≤ v.stepping) && (!v.nx || isNodeImage i)) ⟨7, 0, 0, 0, ownTarget v⟩

/-! Code 8, CAPACITY. -/

/-- The limits of Table 11.2 on one structure. -/
def chkSprCap (sec : Bytes) (b : Nat) (cq : Bool) : Check :=
  let t := secAlloc
  firstFail [cap 256 (u16 sec (b + 2)) t, cap 192 (u16 sec (b + 4)) t, cap 831 (u16 sec (b + 6)) t, cap 512 (u16 sec (b + 8)) t,
    cap (if cq then 512 else 1024) (u16 sec (b + 10)) t, cap (if cq then 8192 else 32768) (u32 sec (b + 12)) t,
    cap (if cq then 16384 else 64512) (u32 sec (b + 16)) t, cap 7680 (u32 sec (b + 20)) t, cap 16 (u8 sec (b + 44)) t]

def chkCapacity (i : Bytes) : Check :=
  andThen ((imgDir i).findSome? fun e => match secInfo e.typ with
    | some (_, _, mx) => need (decide (e.length ≤ mx)) ⟨8, e.typ, e.inst, 0, e.length⟩
    | none => none) fun _ =>
  let fu := imgSection i secFusion
  let al := imgSection i secAlloc
  let cm := imgSection i secMatrix
  let mat := firstFail ((List.range 4).map fun n => let b := cmNet cm n; firstFail [cap 64 (nhCycles b) secMatrix, cap 32 (nhColumns b) secMatrix])
  if isNodeImage i then mat
  else firstFail [cap 512 (imgSlots i (imgSlowest i)).length secSlotTable,
    cap 8 (u8 fu 2) secFusion, cap 6 (u8 fu 3) secFusion, cap 6 (u8 fu 4) secFusion, cap 4 (u8 fu 5) secFusion, cap 8 (u8 fu 6) secFusion,
    cap 32 (u8 fu 2 + u8 fu 3 + u8 fu 4 + u8 fu 5 + u8 fu 6) secFusion,
    cap 16 (tmCount (imgSection i secThrusters)) secThrusters, cap 8 (u8 (imgSection i secGroups) 2) secGroups, cap 8 (imgGroupCount i) secCertHeader,
    cap 65536 (min (Config.spireProgram (imgSection i secPrograms)) (imgSection i secPrograms).length) secPrograms, chkSprCap al 0 false,
    if sprConseqOffset al = 0 then none else chkSprCap al (sprConseqOffset al) true, mat]

/-! Code 9, TABLE: each chapter's own rules. -/

/-- The class that Table 2.4 gives the work of a PURPOSE (R52): the allocation is iterative, consequence steps and self-test segments are spare,
housekeeping and write grants background, the rest fixed and complete. -/
def classOk (s : Slot) : Bool :=
  match s.purpose with
  | 7 => s.cls == 1
  | 9 | 10 => s.cls == 3
  | 11 | 12 | 13 => s.cls == 2
  | _ => s.cls == 0

/-- One SLOT_TABLE entry by Table 3.7 (R78); `b` is its 32 bytes. -/
def slotOk (b : Bytes) (s : Slot) : Bool :=
  inR 1 512 s.slot && decide (s.island ≤ 8) && decide (s.cls ≤ 3) && inR 1 13 s.purpose && classOk s && decide (s.cores < 16)
    && (s.island == 0 || s.cores == 0) && (s.cls == 1 || s.iter == 0) && (s.cls != 2 || s.clocks == 0) && allZero b 20 12

/-- Entries are sorted by START_TICK and then by SLOT (R79). -/
def slotsSorted (a b : Slot) : Bool := decide (a.start < b.start) || (a.start == b.start && decide (a.slot ≤ b.slot))

/-- A slot number denotes the same work at every tier; only its ticks and its clock budget differ (R79). -/
def slotAgrees (a b : Slot) : Bool :=
  a.slot != b.slot || (a.work == b.work && a.purpose == b.purpose && a.island == b.island && a.cls == b.cls && a.cores == b.cores)

/-- SLOT_TABLE of every tier (R78, R79); DETAIL is the index of the entry (Table 3.9). -/
def tblSlots (i : Bytes) : Check :=
  (imgTiers i).findSome? fun k =>
    let l := imgSlots i k
    let bad (n : Nat) : VerResult := ⟨9, secSlotTable, k, n, n⟩
    andThen (need ((imgSectionAt i secSlotTable k).length % 32 == 0) ⟨9, secSlotTable, k, 0, 0⟩) fun _ =>
    andThen (l.zipIdx.findSome? fun p => need (slotOk (sliceB (imgSectionAt i secSlotTable k) (32 * p.2) 32) p.1) (bad p.2)) fun _ =>
    andThen ((l.zip l.tail).zipIdx.findSome? fun p => need (slotsSorted p.1.1 p.1.2) (bad (p.2 + 1))) fun _ =>
    l.zipIdx.findSome? fun p => need ((imgTiers i).all fun j => (imgSlots i j).all (slotAgrees p.1)) (bad p.2)

/-- The transfers that every schedule makes on Q01 to Q10 (R25, R45, Table 1.9): queue, PURPOSE of the producer, PURPOSE of the consumer, 0 for a
network slot of CAN_MATRIX. The slots of the schedule make none on Q02 and Q03. -/
def transfers : List (Nat × Nat × Nat) := [(1, 2, 3), (4, 3, 4), (5, 4, 3), (6, 4, 5), (7, 5, 7), (8, 1, 5), (9, 3, 5), (10, 8, 0)]

/-- The tick of the first command slot of CAN_MATRIX (Table 3.8), among the columns that hold a command cell. -/
def firstCommand (i : Bytes) : Option Nat :=
  let cm := imgSection i secMatrix
  let starts := (List.range 4).flatMap fun n =>
    let b := cmNet cm n
    if nhMode b = 0 then [] else (List.range (nhColumns b)).filterMap fun c =>
      if (List.range (nhCycles b)).any fun r => (cellAt b r c).kind == 2 then some (colStart b c) else none
  starts.foldl (fun m t => some (match m with | some x => min x t | none => t)) none

/-- One CERT_CROSSINGS entry names a queue, slots that exist and the tick of its reader (Table 3.8); `b` is its 12 bytes. -/
def crossingOk (i : Bytes) (tier : Nat) (b : Bytes) (x : Crossing) : Bool :=
  inR 1 10 x.queue && (imgSlotNum i tier x.producer).isSome && allZero b 9 3
    && (if x.consumer = 0 then firstCommand i == some x.tick else ((imgSlotNum i tier x.consumer).map (·.start)) == some x.tick)

/-- The slots that write a transfer of a PURPOSE: Cupola and the output stage at the end of their last slot (R189, R398), each slot of another one. -/
def writers (i : Bytes) (tier p : Nat) : List Slot :=
  if p = 3 ∨ p = 8 then (imgLastSlotFor i tier p).toList else (imgSlots i tier).filter (·.purpose == p)

/-- The slots that may read a transfer: of Cupola's slots the first for the snapshot stream (Table 2.8), any for the predictions, which the image
places; the first slot of another PURPOSE. -/
def readers (i : Bytes) (tier q p : Nat) : List Slot :=
  if q = 5 then (imgSlots i tier).filter (·.purpose == p) else (imgSlotFor i tier p).toList

/-- The entries of a tier that carry the transfer of a writing slot. -/
def crossingsOf (i : Bytes) (tier : Nat) (t : Nat × Nat × Nat) (w : Slot) : List Crossing :=
  (imgCrossings i tier).filter fun x => x.queue == t.1 && x.producer == w.slot
    && (if t.2.2 = 0 then x.consumer == 0 else (readers i tier t.1 t.2.2).any (·.slot == x.consumer))

/-- The slots of a tier read a transfer. -/
def transferRead (i : Bytes) (tier : Nat) (t : Nat × Nat × Nat) : Bool :=
  if t.2.2 = 0 then (firstCommand i).isSome else !(readers i tier t.1 t.2.2).isEmpty

/-- An entry names a transfer that its slots make. -/
def crossingMade (i : Bytes) (tier : Nat) (x : Crossing) : Bool :=
  transfers.any fun t => transferRead i tier t && (writers i tier t.2.1).any fun w => (crossingsOf i tier t w).contains x

/-- CERT_CROSSINGS of every tier: each entry names what exists (R78), and every transfer of every writing slot has exactly one (R80). -/
def tblCrossings (i : Bytes) : Check :=
  (imgTiers i).findSome? fun k =>
    let sec := imgSectionAt i secCrossings k
    andThen (need (sec.length % 12 == 0) ⟨9, secCrossings, k, 0, 0⟩) fun _ =>
    andThen ((imgCrossings i k).zipIdx.findSome? fun p => need (crossingOk i k (sliceB sec (12 * p.2) 12) p.1) ⟨9, secCrossings, k, p.2, p.2⟩) fun _ =>
    andThen ((imgCrossings i k).zipIdx.findSome? fun p => need (crossingMade i k p.1) ⟨9, secCrossings, k, p.2, p.2⟩) fun _ =>
    transfers.findSome? fun t => need (!transferRead i k t || (writers i k t.2.1).all fun w => (crossingsOf i k t w).length == 1)
      ⟨9, secCrossings, k, (imgCrossings i k).length, (imgCrossings i k).length⟩

/-- Table 3.6 and the plan (R70, R78). -/
def tblCert (i : Bytes) : Check :=
  let c := imgSection i secCertHeader
  let p := imgSection i secPlan
  let t := secCertHeader
  firstFail [tbl (c.length == 128 && u16 c 0 == 1) t 0, tbl (decide (3 ≤ u8 c 2)) t 2, tbl (decide (2 ≤ u8 c 3)) t 3, tbl (decide (3 ≤ u8 c 4)) t 4,
    tbl (u8 c 5 == 8) t 5, tbl (inR 1 64 (u16 c 6)) t 6, tbl (inR 1 6 (u8 c 12)) t 12, tbl (zerosIn c [(24, 4), (112, 16)]) t 24,
    tbl (p.length == 64 && allZero p 50 14 && (List.range 50).all fun k => decide (u8 p k ≤ 8)) secPlan 0,
    (List.range 4).findSome? fun k => tbl (imgTierPresent i k || allZero c (28 + 16 * k) 16) t (28 + 16 * k), tblSlots i, tblCrossings i]

/-- The configured ports of Tables 4.3 and 4.4. -/
def tblPorts (t : Bytes) : Check :=
  firstFail ([tbl (t.length == 16960 && u16 t 0 == 1 && allZero t 2 62) secChannels 0] ++
    ((List.range 16).map fun k =>
      let e := serialEntry t (k + 1)
      tbl (zerosIn e [(5, 3), (12, 4)] && (u8 e 0 == 0xFF || (decide (u8 e 0 ≤ 1) && inR 7 8 (u8 e 1) && decide (u8 e 2 ≤ 2) && inR 1 2 (u8 e 3)
        && decide (u8 e 4 ≤ 1) && inR 1200 921600 (u32 e 8)))) secChannels (k + 1)) ++
    ((List.range 4).map fun k =>
      let e := ethEntry t k
      tbl (decide (u8 e 0 ≤ 1) && u16 e 16 != 47960 && zerosIn e [(1, 3), (18, 2), (62, 2)]) secChannels (k + 1)))

/-- The breakpoints of INFLATION (R105). -/
def inflOk (e : Bytes) : Bool :=
  let p := (List.range 8).map (inflBreak e)
  let step (a b : Nat × Nat) : Bool := (decide (a.1 < b.1) && decide (a.2 ≤ b.2)) || a == b
  let rec run : List (Nat × Nat) → Bool
    | a :: b :: l => step a b && (a != b || l.all (· == b)) && run (b :: l)
    | _ => true
  run p && decide (256 ≤ (p.headD (0, 0)).2) && decide ((p.getLastD (0, 0)).1 ≤ chStaleMs e)

/-- The network and list index of the filter entry that a CAN FD channel names, as the table numbers them. -/
def canParserOk (cf : Bytes) (e : Bytes) (ch : Nat) : Bool :=
  let f := filterAt cf (chSource e - 1) (chParser e)
  decide (chParser e < 128) && f.ftype != 0 && f.action == 1 && f.chan == ch

/-- One channel entry (R105, R131, R178, R343). -/
def chanOk (i : Bytes) (ch : Nat) : Bool :=
  let t := imgSection i secChannels
  let pt := imgSection i secParser
  let fc := imgSection i secFilter
  let cf := imgSection i secCanFilters
  let cm := imgSection i secMatrix
  let e := chanEntry t ch
  let kind := chKind e
  let src := chSource e
  let pe := parserEntry pt (chParser e)
  let ports : List Nat := if kind = 0 then [src] else (List.range 4).filter fun p => bitOf p src
  let shared (p : Nat) : Nat := (channelsFed t kind (fun s => if kind = 0 then s == p else bitOf p s) (chParser e)).length
  let parserOk (framing : Nat) : Bool := decide (chParser e < u16 pt 0) && u8 pe 0 == framing
  if chType e = 0 then zerosIn e [(18, 6), (56, 8)]
  else decide (chType e ≤ 12) && decide (kind ≤ 5) && decide (u8 e 3 < 4) && inR 1 60000 (chStaleMs e) && decide (chLatencyNs e ≤ 1000000000)
    && decide (chSrcTolUs e ≤ 1000000) && zerosIn e [(18, 6), (56, 8)] && inflOk e && ((kind == 5) == (chType e == 11))
    && (!chTimeFromSource e || (decide (kind ≤ 2) && u8 pe 28 != 0xFF && !isNodeImage i))
    && (match kind with
      | 0 => inR 1 16 src && u8 (serialEntry t src) 0 != 0xFF && decide (chParser e < u16 pt 0)
      | 1 => inR 1 15 src && ports.all (fun p => u8 (ethEntry t p) 0 == 1) && parserOk 0
      | 2 => inR 1 15 src && ports.all (fun p => u8 (ethEntry t p) 0 == 1 && u16 (ethEntry t p) 16 != 0) && parserOk 1
      | 3 => inR 1 24 src && !isNodeImage i && inMode (fcInput fc src) != 0 && inMode (fcInput fc src) != 4 && decide (chParser e < u8 fc 2)
          && u32 fc (576 + 4 * chParser e) != 0
      | 4 => inR 1 4 src && nhMode (cmNet cm (src - 1)) != 0 && canParserOk cf e ch
      | _ => chLatencyNs e == 0 && !chTimeFromSource e && chParser e == 0
          && (match bitsOf 7 5 src with
            | 0 => src == 0
            | 1 => src % 16 == 0
            | 2 => src % 32 == 0 && imgHas i secOculus
            | 3 => imgHas i secOculus
            | _ => false)
          && (List.range 256).all fun c => c == ch || chType (chanEntry t c) == 0 || chKind (chanEntry t c) != 5 || chSource (chanEntry t c) != src)
    && (!(kind == 1 || kind == 2) || decide (ports.length ≤ 1) || chTimeFromSource e)
    && (!(decide (kind ≤ 2)) || ports.all fun p => decide (shared p ≤ 4))

def tblChannels (i : Bytes) : Check := (List.range 256).findSome? fun ch => tbl (chanOk i ch) secChannels ch

/-- One field descriptor (Table 4.8, R624); `can` for a CAN layout (R341). -/
def descOk (can : Bool) (framing : Nat) (d : Bytes) : Bool :=
  let dec := u8 d 1
  let dst := u8 d 4
  decide (u8 d 5 < 8) && allZero d 6 2
    && (inR 1 5 dec || inR 16 24 dec) && (decide (dst ≤ 7) || inR 0xF0 0xF2 dst)
    && (!can || (inR 16 23 dec && (decide (dst ≤ 7) || dst == 0xF0)))
    && (can || framing != 0 || (dec != 22 && dec != 24)) && (can || framing == 0 || decide (16 ≤ dec))
    && (!(dec == 2 || dec == 3) || decide (dst ≤ 6)) && (!(dec == 4 || dec == 24) || dst == 0xF2)

/-- One parser entry (Table 4.7). -/
def parserOk (e : Bytes) : Bool :=
  let fr := u8 e 0
  let n := u8 e 26
  decide (fr ≤ 1) && decide (u8 e 1 < 4) && (if fr = 0 then decide (u16 e 2 ≤ 82) && u8 e 9 == 0 else inR 8 1024 (u16 e 2) && inR 1 4 (u8 e 9) && allZero e 4 5)
    && decide (u8 e 14 ≤ 5) && decide (u8 e 15 ≤ 1) && (u8 e 15 == 0 || inR 1 2 (u8 e 18 % 4)) && decide (u8 e 19 ≤ 1) && inR 1 14 n
    && (u8 e 27 == 0xFF || decide (u8 e 27 < n)) && (u8 e 28 == 0xFF || decide (u8 e 28 < n)) && allZero e 29 3
    && (List.range n).all fun k => descOk false fr (peField e k)

def tblParsers (i : Bytes) : Check :=
  let p := imgSection i secParser
  let n := u16 p 0
  andThen (tbl (decide (n ≤ 512) && decide (64 + 256 * n ≤ p.length) && allZero p 2 62) secParser 0) fun _ =>
  (List.range n).findSome? fun k => tbl (parserOk (parserEntry p k)) secParser k

/-- OCULUS_CONFIG (R136, R146, R149). -/
def tblOculus (i : Bytes) : Check :=
  let c := imgSection i secOculus
  let t := imgSection i secChannels
  let f (ok : Bool) (o : Nat) := tbl ok secOculus o
  let len := baseLength c
  let ant (o : Nat) : Bool := [0, 4, 8].all fun k => decide (-200000 ≤ s32 c (o + k)) && decide (s32 c (o + k) ≤ 200000)
  let corr := u8 c 48
  if !imgHas i secOculus then none
  else firstFail [f (u16 c 0 == 1) 0, f ([1, 2, 5, 10, 50].contains (u8 c 2)) 2, f (inR 1 15 (u8 c 3)) 3, f (decide (u8 c 4 ≤ 30)) 4,
    f (decide (u8 c 5 ≤ 16)) 5, f (inR 1260 19000 (u16 c 6)) 6, f (ant 8) 8, f (ant 20) 20, f (inR 5 100 (u8 c 32)) 32, f (inR 3 16 (u8 c 33)) 33,
    f (inR 2 15 (u8 c 34)) 34, f (inR 1 250 (u8 c 35)) 35, f (inR 1 600 (u16 c 36)) 36, f (inR 5 40 (u8 c 38)) 38, f (inR 1 100 (u8 c 39)) 39,
    f (inR 4 80 (u8 c 40)) 40, f (inR 8 120 (u8 c 41) && decide (u8 c 40 < u8 c 41)) 41, f (inR 3 20 (u8 c 42)) 42, f (inR 24 80 (u8 c 43)) 43,
    f (inR 8 60 (u8 c 44) && decide (u8 c 44 < u8 c 43)) 44, f (inR 1 8 (u8 c 45)) 45, f (decide (u8 c 46 ≤ 7)) 46, f (decide (corr ≤ 17)) 48,
    f (corr != 17 || (u16 c 50 != 0 && u16 c 50 != 47960)) 50, f (inR 1 120 (u16 c 52)) 52,
    f ((sliceB c 128 16).all fun b => b == 0 || inR 120 158 b.toNat) 128, f (inQ 2 200 len) 8,
    f ((List.range 256).all fun ch => let e := chanEntry t ch
        chType e == 0 || !(chKind e == 0 && inR 1 16 corr && chSource e == corr)) 48,
    f (corr != 17 || (List.range 4).all fun p => let e := ethEntry t p
        let feeds (kind : Nat) : Bool := (List.range 256).any fun ch => let x := chanEntry t ch
          chType x != 0 && chKind x == kind && bitOf p (chSource x)
        !(u16 e 16 == u16 c 50 && feeds 2)
          && !((List.range 7).any (fun g => u16 e (24 + 6 * g) == u16 c 50 && u32 e (20 + 6 * g) != 0) && feeds 1)) 50,
    f (zerosIn c [(47, 1), (49, 1), (54, 10)]) 47, f (decide (144 ≤ c.length) && allZero c 144 (c.length - 144)) 144]

/-- TIME_CONFIG (R166). -/
def tblTime (i : Bytes) : Check :=
  let c := imgSection i secTime
  let f (ok : Bool) (o : Nat) := tbl ok secTime o
  firstFail [f (c.length == 64 && u16 c 0 == 1) 0, f (decide (u8 c 2 ≤ 7)) 2, f (decide (u8 c 3 ≤ 1)) 3, f (inR 1 500000 (u32 c 4)) 4,
    f (decide (u16 c 8 ≤ 10000)) 8, f (decide (u16 c 10 ≤ 10000)) 10, f (decide (u16 c 12 ≤ 60000)) 12, f (inR 1 600 (u16 c 14)) 14,
    f (inR 100 100000 (u32 c 16)) 16, f (inR 10 1000 (u16 c 20)) 20, f (inR 100 1000000 (u32 c 24)) 24, f (inR 1 10000 (u16 c 28)) 28,
    f (decide (u16 c 30 ≤ 50000)) 30, f (decide (u16 c 32 ≤ 10000)) 32, f (decide (u8 c 34 ≤ 127)) 34, f (decide (u8 c 36 ≤ 15)) 36,
    f (decide (u8 c 37 ≤ 15)) 37, f (decide (-3 ≤ s8 c 38) && decide (s8 c 38 ≤ 1)) 38, f (inR 10 10000 (u16 c 40)) 40,
    f (zerosIn c [(22, 2), (39, 1), (42, 22)]) 22]

/-- `n` words from byte `o` are 24-bit values, sign-extended to 32 bits (R177). -/
def words24 (c : Bytes) (o n : Nat) : Bool := (List.range n).all fun k => decide (-8388608 ≤ s32 c (o + 4 * k)) && decide (s32 c (o + 4 * k) ≤ 8388607)

/-- One filter configuration (Table 7.6, R178) but for the input's own conditions. -/
def filtConfOk (fc : Bytes) (n : Nat) : Bool :=
  let e := sliceB fc (u32 fc (576 + 4 * n)) 64
  let d := cfD e
  decide (cfOutput e ≤ 4) && decide (cfDest e ≤ 7) && [1, 5, 25].contains (cfDc e) && decide (cfProtoNum e < u8 fc 3) && inR 1 500 (cfDf e)
    && inR 1 1023 (cfTaps e) && cfTaps e % 2 == 1 && decide (cfPhase e < d) && inR 1 255 (cfPubDiv e) && decide (cfDcShift e ≤ 20)
    && inR 1 20 (cfEnvShift e) && inR 1 3000 (cfWin e) && 500 % d == 0
    && 500 % (d * cfPubDiv e) == 0 && inR 1 20 (500 / (d * cfPubDiv e)) && words24 (fcConfig fc n) 64 ((cfTaps e + 1) / 2)

/-- The words of every prototype lie in Q2.22 (R177, R178). -/
def protosOk (c : Bytes) : Bool := (List.range (u8 c 3)).all fun p => words24 c (832 + 2112 * p) 513

/-- G of R173 in ns. -/
def groupDelayNs (e : Bytes) (mode : Nat) : Nat :=
  1000 * (541 + 60 * (cfDc e - 1) + 20 * cfDc e * (cfTaps e - 1) + if mode = 3 ∨ mode = 4 then 40 else 0)

/-- Where the configurations begin: after the prototypes (Table 7.5). -/
def fcConfBase (c : Bytes) : Nat := 832 + 2112 * u8 c 3

/-- Bytes of FILTER_COEFFS that no field holds (R177): in the header, the input entries, the sea-state block, after each prototype's words and in a
configuration's header. -/
def filterZeros (c : Bytes) : Bool :=
  let seaZeros := [(448 + 6, 2), (448 + 110, 18)] ++ (List.range 4).map fun k => (448 + 8 + 8 * k + 2, 2)
  zerosIn c ([(8, 56)] ++ seaZeros ++ ((List.range 24).flatMap fun k => [(64 + 16 * k + 1, 1), (64 + 16 * k + 6, 10)])
    ++ (List.range (u8 c 3)).map fun p => (832 + 2112 * p + 2052, 60))
    && (List.range 64).all fun n => u32 c (576 + 4 * n) == 0 || (decide (n < u8 c 2) && zerosIn (fcConfig c n) [(28, 36)])

/-- The configurations stand at multiples of 64 after the prototypes, inside the section, and every byte that none of them covers is zero (R177). -/
def filterLayout (c : Bytes) : Bool :=
  let spans := (List.range (u8 c 2)).filterMap fun n => let o := u32 c (576 + 4 * n)
    if o = 0 then none else some (o, o + (fcConfig c n).length)
  spans.all (fun p => p.1 % 64 == 0 && decide (fcConfBase c ≤ p.1) && decide (p.1 + 64 ≤ c.length)
      && decide (p.1 + 64 + 4 * ((u16 c (p.1 + 6) + 1) / 2) ≤ c.length))
    && (List.range (c.length / 64 + 1)).all fun k =>
      let a := fcConfBase c + 64 * k
      let from_ := (spans.find? fun p => decide (p.1 ≤ a) && decide (a < p.2)).elim a fun p => min p.2 (a + 64)
      allZero c from_ (min (a + 64) c.length - from_)

/-- FILTER_COEFFS (R177, R178, R186). -/
def tblFilter (i : Bytes) : Check :=
  let c := imgSection i secFilter
  let t := imgSection i secChannels
  let f (ok : Bool) (o : Nat) := tbl ok secFilter o
  let chans (k : Nat) : List Nat := analogChannels t k
  let conf (ch : Nat) : Bytes := fcConfig c (chParser (chanEntry t ch))
  let b := seaBlock c
  let up := (List.range 7).map fun j => seaUp b (j + 1)
  let down := (List.range 7).map fun j => seaDown b (j + 1)
  let rises (l : List Int) : Bool := (l.zip l.tail).all fun p => decide (p.1 < p.2)
  andThen (firstFail [f (u16 c 0 == 1) 0, f (inR 1 64 (u8 c 2)) 2, f (inR 1 4 (u8 c 3)) 3, f (u16 c 4 == 0 || inR 1000 7000 (u16 c 4)) 4,
    f (decide (u16 c 6 ≤ 3599)) 6, f (filterZeros c) 8, f (filterLayout c) 576, f (protosOk c) 832]) fun _ =>
  andThen ((List.range (u8 c 2)).findSome? fun n => f (u32 c (576 + 4 * n) == 0 || filtConfOk c n) n) fun _ =>
  andThen ((List.range 24).findSome? fun k0 =>
    let k := k0 + 1
    let e := fcInput c k
    let m := inMode e
    let l := chans k
    f (decide (m ≤ 4) && (m != 2 || inR 100 5000 (inShunt e))
      && decide (l.length ≤ 4) && (m != 3 || (k % 2 == 1 && inMode (fcInput c (k + 1)) == 4)) && (m != 4 || (k % 2 == 0 && inMode (fcInput c (k - 1)) == 3 && l.isEmpty))
      && (m != 0 || l.isEmpty) && (!(m == 3 || m == 4) || u16 c 4 != 0)
      && l.all (fun ch => cfDelayNs (conf ch) == groupDelayNs (conf ch) m)
      && l.all (fun ch => sliceB (conf ch) 2 14 == sliceB (conf (l.headD 0)) 2 14 && (conf ch).drop 64 == (conf (l.headD 0)).drop 64)) k) fun _ =>
  firstFail [f (decide (seaCount b ≤ 4)) 448, f (decide (seaDefault b ≤ 7)) 449, f (inR 1 3000 (seaRise b)) 450, f (inR 1 30000 (seaFall b)) 452,
    f ((List.range (min 4 (seaCount b))).all fun k => let s := seaSource b k; inR 1 24 s.1 && inR 1 2 s.2.1) 456,
    f (rises up && rises down && (up.zip down).all fun p => decide (p.2 < p.1)) 488,
    f ((List.range 7).all fun k => let s := seaFwd b k; decide (s.2 ≤ 4) && (s.2 == 0 || inR 1 24 s.1)) 544]

/-- The channel type and Oculus record KIND that Table 8.2 asks of a reference. -/
def refChanOk (t : Bytes) (e : Bytes) : Bool :=
  let ce := chanEntry t (reChan e)
  let ty := chType ce
  let ocu (k a : Nat) : Bool := chKind ce == 5 && bitsOf 7 5 (chSource ce) == k && b2n (bitOf 4 (chSource ce)) == a
  decide (reChan e ≤ 255) && match reClass e, reKind e with
  | 1, 1 => ty == 1
  | 1, 2 => ty == 11 && ocu 1 (reAnt e)
  | 1, 3 => ty == 2
  | 1, 4 => ty == 3
  | 2, 1 => ty == 4
  | 2, 2 => ty == 11 && ocu 2 0
  | 3, 1 => ty == 5
  | 4, 1 => ty == 6
  | 5, 0 => ty != 0
  | _, _ => false

/-- FUSION_CONFIG (R218). -/
def tblFusion (i : Bytes) : Check :=
  let c := imgSection i secFusion
  let t := imgSection i secChannels
  let o := imgSection i secOculus
  let f (ok : Bool) (k : Nat) := tbl ok secFusion k
  let cls : List Nat := [1, 2, 3, 4]
  let conf (k : Nat) : Bool := reClass (fuEntry c k) != 0
  let refOk (k : Nat) : Bool :=
    let e := fuEntry c k
    !conf k || (trackOf (reClass e) (reRef e) == some k && refChanOk t e && decide (u8 e 3 < 2) && decide (reAnt e ≤ 1) && decide (reGroup e ≤ 8)
      && inR 1 3000 (reNoiseTau e) && allZero e 64 32
      && (!(reClass e == 1 && reKind e == 2) || sliceB e 8 12 == sliceB o (8 + 12 * reAnt e) 12))
  let count (k : Nat) : Nat := ((classTracks k).filter conf).length
  firstFail [f (c.length == 3328 && u16 c 0 == 1) 0, f (zerosIn c [(224, 32)]) 224, f (decide (u8 c 7 ≤ 1)) 7, f (inR 1 3000 (fuAdmit c)) 8, f (inR 1 3000 (fuClear c)) 10,
    f (inR 1 50 (u8 c 12)) 12, f (inR 1 50 (u8 c 13)) 13, f (inR 1 50 (u8 c 14)) 14, f (decide (u8 c 15 ≤ 10)) 15,
    f (decide (1 ≤ u16 c 16)) 16, f (decide (1 ≤ u16 c 18)) 18, f (decide (1 ≤ u16 c 20)) 20, f (decide (u16 c 22 ≤ 0x8000)) 22,
    f (inQ 4 100 (fuSatGate c)) 24, f (inQ 2 10 (fuRaim c)) 28, f (inQ 1 255 (fuWatchMult c)) 32, f (inQ 1 255 (fuJamMult c)) 34, f (decide (u16 c 36 ≤ 60)) 36,
    f ([1, 2].all fun k => decide (fuPredWarn c k ≤ fuPredGate c k)) 96, f ([3, 4].all fun k => fuPredGate c k == 0 && fuPredWarn c k == 0) 160,
    f (cls.all fun k => (fuPrefer c k).all fun r => match trackOf k r with
      | some q => conf q
      | none => false) 64,
    f ([1, 2, 3, 4, 5].all fun k => count k == u8 c (1 + k)) 2,
    (List.range 32).findSome? fun k => f (refOk k) k]

/-- OBSERVER_CONFIG and VESSEL (R236 to R238). -/
def tblObserver (i : Bytes) : Check :=
  let c := imgSection i secObserver
  let v := imgSection i secVessel
  let rg := imgSection i secRegions
  let f (ok : Bool) (o : Nat) := tbl ok secObserver o
  let g (ok : Bool) (o : Nat) := tbl ok secVessel o
  let n := u8 c 4
  let tune (k : Nat) : Bool :=
    let o := 128 + 64 * k
    rangeF c o (3 / 10) (16 / 10) && rangeF c (o + 4) (3 / 10) (16 / 10) && rangeF c (o + 8) (5 / 100) 1 && rangeF c (o + 12) 10 10000
      && [16, 20, 24, 28, 32, 36].all (fun x => posF c (o + x)) && nonnegF c (o + 40) && allZero c (o + 44) 20
  let need' := 142000 + (obNx c) ^ 2 * (110 * obSub c + 150 * (5 + b2n (obRoll c)))
  firstFail [f (u16 c 0 == 1) 0, f (decide (u8 c 2 ≤ 1)) 2, f (inR 1 20 (obSub c)) 3, f (inR 1 16 n) 4, f (decide (obInitSet c < n)) 5,
    f (inR 1 250 (obPosGap c)) 6, f (inR 1 250 (obHdgGap c)) 8, f (inR 50 15000 (obPosDr c)) 10, f (inR 50 15000 (obHdgDr c)) 12,
    f (inR 10 10000 (obReturnWarn c)) 14, f (zerosIn c [(56, 72), (128 + 64 * n, 64 * (16 - n))]) 56, f (u32 c 16 == crc32c v) 16, f ((List.range 9).all fun k => posF c (20 + 4 * k)) 20,
    f (decide (obPosGap c < obPosDr c) && decide (obHdgGap c < obHdgDr c)) 6,
    (List.range n).findSome? fun k => f (tune k) k,
    (List.range (u8 rg 4)).findSome? fun r => f (decide (rgWave rg r < n)) r,
    g (u16 v 0 == 1 && zerosIn v [(2, 2), (48, 16)]) 0, g (posF v 4 && posF v 8 && posF v 12) 4,
    g (decide (vesselF v 3 ^ 2 < vesselF v 1 * vesselF v 2)) 16, g (nonnegF v 20 && nonnegF v 24 && nonnegF v 28 && nonnegF v 32) 20,
    g (!obRoll c || (rangeF v 36 3 40 && rangeF v 40 (1 / 100) 1)) 36,
    (imgTiers i).findSome? fun k => ((imgSlots i k).filter (·.purpose == 4)).findSome? fun s => f (decide (need' ≤ s.clocks)) s.slot]

/-- MODE_MACHINE (R242, R246). -/
def tblModes (i : Bytes) : Check :=
  let c := imgSection i secModes
  let t := imgSection i secChannels
  let f (ok : Bool) (o : Nat) := tbl ok secModes o
  let tr := mmTransitions c
  let ax (m k : Nat) : Nat := mmAxis c m k
  let modeOk (m : Nat) : Bool :=
    decide (u8 c (64 + 16 * m) < 64) && decide (u8 c (65 + 16 * m) < 16) && allZero c (66 + 16 * m) 14 && (match m with
    | 0 => mmAxes c m == 0
    | 1 => [0, 1, 2].all fun k => decide (ax m k ≤ 1)
    | 2 => ax m 2 == 2 && decide (ax m 0 ≤ 1) && decide (ax m 1 ≤ 1)
    | 6 => [0, 1, 2].all fun k => decide (ax m k ≤ 2)
    | _ => [0, 1, 2].all fun k => ax m k == 2)
  let free (m dst : Nat) : Bool := tr.any fun x => !x.auto && x.dst == dst && (x.from_ == m || x.from_ == 0xFF) && x.need == 0 && x.forbid == 0
  let hasAuto (m : Nat) : Bool := [0, 1, 2].any fun k => ax m k == 2
  firstFail [f (c.length == 2224 && u16 c 0 == 1) 0, f (decide (u8 c 2 ≤ 1)) 2, f (decide (mmJoyCh c ≤ 255)) 4, f (inR 1 3000 (mmJoyTimeout c)) 6,
    f (posF c 8 && posF c 12 && posF c 16) 8, f (decide (mmTargetCh c ≤ 255) || mmTargetCh c == 0xFFFF) 20, f (inR 1 3000 (mmWindHold c)) 22,
    f (rangeF c 24 1 10000) 24, f (inR 2 256 (mmCount c)) 28, f (zerosIn c [(3, 1), (30, 34), (176 + 8 * mmCount c, 8 * (256 - mmCount c))]) 30,
    (List.range 7).findSome? fun m => f (modeOk m) m,
    f ((List.range 7).all fun m => m == 0 || free m 0) 0, f ((List.range 7).all fun m => decide (m ≤ 1) || free m 1) 1,
    (List.range tr.length).findSome? fun k =>
      let x := tr.getD k default
      f ((decide (x.from_ ≤ 6) || x.from_ == 0xFF) && decide (x.dst ≤ 6) && decide (u8 c (178 + 8 * k) ≤ 1) && u8 c (179 + 8 * k) == 0 && !bitOf 15 x.need && !bitOf 15 x.forbid
        && (x.auto || !hasAuto x.dst || bitOf 0 x.forbid) && (!x.auto || (x.from_ != 0 && x.dst != 6))
        && (x.dst != 5 || mmTargetCh c != 0xFFFF)) k,
    f (mmJoySource c == 0 || chType (chanEntry t (mmJoyCh c)) == 12) 4,
    f (mmTargetCh c == 0xFFFF || chType (chanEntry t (mmTargetCh c)) == 1) 20]

/-- REGION_TABLE and GAIN_SETS (R265, R266). -/
def tblRegions (i : Bytes) : Check :=
  let c := imgSection i secRegions
  let g := imgSection i secGains
  let f (ok : Bool) (o : Nat) := tbl ok secRegions o
  let h (ok : Bool) (o : Nat) := tbl ok secGains o
  let nc := rgClasses c
  let ng := rgRegimes c
  let nr := u8 c 4
  let js := (List.range (ng - 1)).map (· + 1)
  let gf (s k : Nat) : Nat := 512 + 128 * s + 4 * k
  firstFail [f (c.length == 864 && u16 c 0 == 1) 0, f (inR 1 8 nc) 2, f (inR 1 4 ng) 3, f (inR 1 64 nr) 4, f (decide (rgInit c < nr)) 5,
    f (inR 1 3000 (rgHold c)) 6, f ((List.range 4).all fun k => let o := rgOverride c k; decide (o.1 ≤ 7) && decide (o.2.1 ≤ 1) && decide (o.2.2.1 ≤ 7)) 32,
    f (rgRequired c (nc - 1) == 0) 64,
    f ((List.range 4).all (fun k => u8 c (35 + 8 * k) == 0) && (List.range 8).all (fun k => u16 c (66 + 4 * k) == 0) && (List.range 64).all fun r => allZero c (98 + 8 * r) 6) 35,
    f (([1, 2, 3] : List Nat).all fun j => decide (j < ng) || (u32 c (4 + 4 * j) == 0 && u32 c (16 + 4 * j) == 0)) 8,
    f (js.all fun j => decide (rgDown c j < rgUp c j) && (j == 1 || decide (rgUp c (j - 1) < rgUp c j))) 8,
    (List.range 256).findSome? fun k => f (!(decide (k / 4 % 8 < nc) && decide (k % 4 < ng)) || decide (rgLookup c k < nr)) k,
    (List.range nr).findSome? fun r => f (decide (rgGain c r < gsCount g)) r,
    h (u16 g 0 == 1 && inR 1 64 (gsCount g)) 0,
    (List.range (gsCount g)).findSome? fun s =>
      h ((List.range 11).all (fun k => nonnegF g (gf s k)) && rangeF g (gf s 11) 0 1 && rangeF g (gf s 12) 0 1 && rangeF g (gf s 13) 0 60
        && nonnegF g (gf s 14) && nonnegF g (gf s 15) && [16, 17, 18].all (fun k => posF g (gf s k)) && rangeF g (gf s 19) (5 / 100) 5
        && rangeF g (gf s 20) (1 / 1000) (1 / 2) && rangeF g (gf s 21) (1 / 10) 20 && rangeF g (gf s 22) (1 / 100) 5
        && decide (u16 g (gf s 23) ≤ 3000) && allZero g (gf s 23 + 2) 34) s]

/-- The rows of one step (R309), and those of the consequence structure (R324). -/
def stepRows (tm : Bytes) (edge : Nat) : Nat :=
  let ks := (List.range (tmCount tm)).map fun k => u8 (sliceB tm (256 + 1024 * k) 1024) 0
  5 + 3 * tmSections tm + 5 * (ks.filter (· == 1)).length + (ks.filter (· == 2)).length * (edge + 9)

/-- The direction of a turn from edge a to edge b. -/
def crossQ (a b : ℚ × ℚ) : ℚ := a.1 * b.2 - a.2 * b.1

/-- A polygon is convex, counter-clockwise and holds the origin in its interior (R321): the origin and every vertex lie to the left of every edge. -/
def polygonOk (vs : List (ℚ × ℚ)) : Bool :=
  let n := vs.length
  let v (k : Nat) := vs.getD (k % n) (0, 0)
  let e (k : Nat) : ℚ × ℚ := ((v (k + 1)).1 - (v k).1, (v (k + 1)).2 - (v k).2)
  decide (3 ≤ n) && (List.range n).all fun k => decide (0 < crossQ (v k) (v (k + 1))) &&
    (List.range n).all fun j => decide (0 ≤ crossQ (e k) ((v j).1 - (v k).1, (v j).2 - (v k).2))

/-- Sectors neither overlap nor cover the circle (R321); hundredths of a degree. -/
def sectorsOk (l : List (Nat × Nat)) : Bool :=
  let len (s : Nat × Nat) : Nat := (s.2 + 36000 - s.1) % 36000
  let apart (a b : Nat × Nat) : Bool := decide (len a ≤ (b.1 + 36000 - a.1) % 36000) && decide (len b ≤ (a.1 + 36000 - b.1) % 36000)
  let rec pairs : List (Nat × Nat) → Bool
    | [] => true
    | a :: r => r.all (apart a) && pairs r
  l.all (fun s => decide (s.1 < 36000) && decide (s.2 < 36000)) && pairs l && decide ((l.map len).sum < 36000)

def risingQ (l : List ℚ) : Bool := (l.zip l.tail).all fun p => decide (p.1 < p.2)

/-- A power curve starts at the origin, does not decrease and is convex (R321). -/
def powerCurveOk (l : List (ℚ × ℚ)) : Bool :=
  let seg := (l.zip l.tail).map fun p => (p.2.1 - p.1.1, p.2.2 - p.1.2)
  l.headD (1, 1) == (0, 0) && seg.all (fun s => decide (0 < s.1) && decide (0 ≤ s.2)) && (seg.zip seg.tail).all fun p => decide (p.1.2 * p.2.1 ≤ p.2.2 * p.1.1)

/-- One thruster entry (Table 12.6, R321). -/
def thrusterOk (t tm : Bytes) (k : Nat) : Bool :=
  let e := sliceB tm (256 + 1024 * k) 1024
  let pairF (o j : Nat) : ℚ × ℚ := (fl32 e (o + 8 * j), fl32 e (o + 8 * j + 4))
  let vc := u8 e 56
  inR 1 2 (u8 e 0) && inR 1 (tmSections tm) (u8 e 1) && decide (u8 e 2 ≤ 1) && decide (u8 e 3 ≤ 1)
    && posF e 12 && nonnegF e 16 && posF e 20 && posF e 24 && posF e 28 && posF e 40 && nonnegF e 44 && nonnegF e 48
    && decide (u8 e 57 ≤ 4) && decide (u16 e 58 ≤ 255) && chType (chanEntry t (u16 e 58)) == 8
    && (u8 e 0 != 2 || (posF e 32 && inR (tmEdgeRows tm) 16 vc && polygonOk ((List.range vc).map (pairF 64))
      && sectorsOk ((List.range (u8 e 57)).map fun j => (u16 e (192 + 4 * j), u16 e (194 + 4 * j)))))
    && risingQ ((List.range 32).map fun j => (pairF 352 j).1) && risingQ ((List.range 32).map fun j => (pairF 352 j).2)
    && (List.range 64).all (fun j => rangeF e (352 + 4 * j) (-1) 1) && (List.range 32).all (fun j => rangeF e (608 + 4 * j) 0 1)
    && powerCurveOk ((List.range 16).map (pairF 608))

/-- THRUSTER_MODELS, START_GATE and FAILURE_GROUPS (R321, R323, R326). -/
def tblThrusters (i : Bytes) : Check :=
  let c := imgSection i secThrusters
  let t := imgSection i secChannels
  let al := imgSection i secAlloc
  let sg := imgSection i secStart
  let fg := imgSection i secGroups
  let f (ok : Bool) (o : Nat) := tbl ok secThrusters o
  let h (ok : Bool) (o : Nat) := tbl ok secGroups o
  let T := tmCount c
  let H := tmHorizon c
  let S := tmSections c
  let ks := (List.range T).map fun k => sliceB c (256 + 1024 * k) 1024
  let taz := (ks.filter fun e => u8 e 0 == 2).length
  let cqo := sprConseqOffset al
  let steps := u8 fg 3
  let cqRows := stepRows c (u8 fg 4) - (S + 1)
  firstFail [f (c.length == 256 + 16384 && u16 c 0 == 1) 0, f (decide (1 ≤ T) && T == u8 al 44) 2, f (inR 1 6 H) 3, f (inR 1 8 (tmEdgeRows c)) 4, f (inR 1 8 S) 5,
    f (zerosIn c [(6, 2), (60, 4), (192, 64), (256 + 1024 * T, 1024 * (16 - T))] && (List.range 8).all fun j => zerosIn c [(66 + 16 * j, 2), (76 + 16 * j, 4)]) 6,
    f ((List.range T).all fun k => zerosIn c [(256 + 1024 * k + 60, 4), (256 + 1024 * k + 208, 144), (256 + 1024 * k + 736, 288)]) 60,
    f (posF c 8 && posF c 12 && posF c 16) 8, f (nonnegF c 20 && nonnegF c 24) 20, f (posF c 28 && posF c 32) 28, f (rangeF c 36 1 85) 36,
    f (rangeF c 40 (5 / 100) (1 / 2)) 40, f (rangeF c 44 0 (1 / 10)) 44, f (posF c 48 && posF c 52 && posF c 56) 48,
    (List.range S).findSome? fun j => f (decide (u16 c (64 + 16 * j) ≤ 255) && chType (chanEntry t (u16 c (64 + 16 * j))) == 9) j,
    (List.range T).findSome? fun k => f (thrusterOk t c k) k,
    f (u16 al 4 == 2 * T * H && u16 al 6 == H * (3 + T + taz + S) + S + 1 && u16 al 8 == H * stepRows c (tmEdgeRows c)) 0,
    tbl (sg.length == 320 && u16 sg 0 == 1 && decide (u16 sg 2 ≤ 60000) && (List.range 8).all (fun j => decide (u16 sg (4 + 2 * j) ≤ 60000))
      && (List.range 16).all (fun k => allZero sg (72 + 16 * k) 8 && nonnegF sg (64 + 16 * k) && (decide (T ≤ k) || rangeF sg (68 + 16 * k) 1 600))) secStart 0,
    h (fg.length == 128 && u16 fg 0 == 1) 0, h (u8 fg 2 == imgGroupCount i) 2, h (inR 1 6 steps) 3, h (inR 1 8 (u8 fg 4)) 4, h (inR 200 5000 (u16 fg 6)) 6,
    h (rangeF fg 8 1 2) 8, h (posF fg 12 && posF fg 16 && posF fg 20) 12,
    h ((List.range 8).all fun g => allZero fg (67 + 8 * g) 5) 67,
    (List.range (u8 fg 2)).findSome? fun g => h ((List.range T).all fun k =>
      !bitOf (u8 (ks.getD k []) 1 - 1) (u8 fg (66 + 8 * g)) || bitOf k (u16 fg (64 + 8 * g))) g,
    h ((cqo == 0 && u8 fg 2 == 0) || (cqo != 0 && u16 al (cqo + 4) == 2 * T * steps && u16 al (cqo + 6) == steps * (3 + T + taz + S)
      && u16 al (cqo + 8) == steps * cqRows && u16 al (cqo + 10) == u16 al (cqo + 4) + u16 al (cqo + 6) + u16 al (cqo + 8))) 0]

/-- The pattern of L by the elimination tree: the rows below the diagonal of each column, from the rows of K in each column (R283). -/
def symbolicL (n : Nat) (kcols : List (List Nat)) : List (List Nat) :=
  let stepCol (acc : List (List Nat)) (j : Nat) : List (List Nat) :=
    let kids := (acc.filter fun c => c.headD n == j)
    let rows := ((kcols.getD j []).filter fun r => decide (j < r)) ++ (kids.flatMap fun c => c.filter fun r => decide (j < r))
    acc ++ [(List.range n).filter fun r => rows.contains r]
  (List.range n).foldl stepCol []

/-- The byte ranges of a structure at offset `b` that a field stands in: header, parts, initial values (R282). -/
def structFields (sec : Bytes) (b : Nat) : List (Nat × Nat) :=
  (b, 128) :: (List.range 8).map (fun k => (b + u32 sec (b + 64 + 8 * k), u32 sec (b + 68 + 8 * k)))
    ++ (sprParse sec b).arrs.filterMap fun a => if a.cls = 2 then none else some (a.init, 4 * a.len)

/-- The bytes of the section that no field of its structures stands in are zero (R282). -/
def structZeros (sec : Bytes) : Bool :=
  let fs := structFields sec 0 ++ (if sprConseqOffset sec = 0 then [] else structFields sec (sprConseqOffset sec))
  sec.zipIdx.all fun x => x.1 == 0 || fs.any fun f => decide (f.1 ≤ x.2) && decide (x.2 < f.1 + f.2)

/-- The column pointers of a pattern: the first is 0, the last the number of entries, none below the one before (Table 11.3). -/
def pointersOk (part : Bytes) (dim nnz : Nat) : Bool :=
  u32 part 0 == 0 && u32 part (4 * dim) == nnz && (List.range dim).all fun c => decide (u32 part (4 * c) ≤ u32 part (4 * c + 4))

/-- The rules of R283 on one structure at offset `b`. -/
def structOk (sec : Bytes) (b : Nat) (cq : Bool) : Bool :=
  let p := sprParse sec b
  let part (k : Nat) : Bytes := sprPart sec b k
  let off (k : Nat) : Nat := b + u32 sec (b + 64 + 8 * k)
  let lens : List Nat := [16 * u16 sec (b + 2), 16 * p.dim, 16 * p.m, 2 * p.dim, 4 * (p.dim + 1) + 4 * u32 sec (b + 12), 4 * (p.dim + 1) + 2 * u32 sec (b + 16), 2 * p.n]
  let ap (arr idx : Nat) : Bool := decide (arr < p.arrs.length) && decide (idx < (p.arrs.getD arr default).len)
  let kcol (j : Nat) : List SprK := p.kk.filter (·.col == j)
  let asc (l : List Nat) : Bool := (l.zip l.tail).all fun x => decide (x.1 < x.2)
  let kl : List (List Nat) := (List.range p.dim).map fun j => (p.kk.filterMap fun e => if e.col = j then some e.row else if e.row = j then some e.col else none)
  u16 sec b == 1 && inR 1 256 (u16 sec (b + 2)) && inR 1 192 p.nPrim && inR 1 512 p.m && p.dim == p.n + p.m && inR 1 32768 (u32 sec (b + 12))
    && decide (0 < p.stepTol) && decide (0 ≤ p.lamTol) && decide (0 ≤ p.feasTol) && decide (0 < p.resTol) && decide (p.objFmt ≤ 31)
    && zerosIn sec [(b + 45, 15)] && decide (p.holdArr < p.arrs.length) && decide (p.n ≤ (p.arrs.getD p.holdArr default).len) && (if cq then inR 1 64 p.iters else p.iters == 0) && inR 1 16 p.thrusters && sprConseqOffset sec % 64 == 0
    && (List.range 8).all (fun k => decide (off k + (part k).length ≤ sec.length) && (part k).length == u32 sec (b + 68 + 8 * k))
    && (List.range 7).all (fun k => (part k).length == lens.getD k 0) && (part 7).length % 8 == 0 && decide ((part 7).length ≤ 128)
    && p.arrs.all (fun a => decide (a.fmt ≤ 31) && decide (a.cls ≤ 2) && inR 1 16384 a.len && decide (a.off + 4 * a.len ≤ 0x200000) && (a.cls == 2 || decide (a.init + 4 * a.len ≤ sec.length)))
    && p.cols.all (fun c => decide (c.lFmt ≤ 31) && decide (c.dFmt ≤ 31) && decide (c.rFmt ≤ 31) && decide (c.xFmt ≤ 31) && decide (0 < c.tiny) && decide (c.tiny ≤ c.reg))
    && (List.range p.arrs.length).all (fun k => allZero (part 0) (16 * k + 2) 2)
    && (List.range p.dim).all (fun k => u8 (part 1) (16 * k + 3) % 128 == 0 && allZero (part 1) (16 * k + 13) 3)
    && (List.range p.m).all (fun k => allZero (part 2) (16 * k + 13) 3 && (u8 (part 2) (16 * k + 2) != 0 || (u8 (part 2) (16 * k + 7) == 0 && u16 (part 2) (16 * k + 10) == 0)))
    && (List.range p.inputs.length).all (fun k => allZero (part 7) (8 * k + 3) 1 && allZero (part 7) (8 * k + 6) 2)
    && (List.range p.dim).all (fun o => p.perm.contains o)
    && (List.range p.dim).all (fun q => (p.cols.getD q default).neg == decide (p.n ≤ p.perm.getD q 0))
    && (List.range p.m).all (fun c => let k := p.cons.getD c default
        decide (k.pos < p.dim) && p.perm.getD k.pos 0 == p.n + c && decide (k.fmt ≤ 31) && (k.shiftTo == 0xFFFF || decide (k.shiftTo < p.m))
          && ap k.loA k.loI && (!k.two || ap k.hiA k.hiI) && decide (u8 (part 2) (16 * c + 2) ≤ 1) && decide (u8 (part 2) (16 * c + 12) ≤ 1))
    && pointersOk (part 4) p.dim (u32 sec (b + 12)) && pointersOk (part 5) p.dim (u32 sec (b + 16))
    && p.kk.all (fun e => decide (e.row < p.dim) && ap e.arr e.idx)
    && (List.range p.dim).all (fun j => (kcol j).head?.any (fun e => e.row == j) && asc ((kcol j).map (·.row)))
    && p.shift.all (fun s => decide (s < p.n))
    && p.inputs.all (fun x => decide (x.1 ≤ 2) && decide (x.2.1 ≤ 3) && ap x.2.2.1 x.2.2.2 && (p.arrs.getD x.2.2.1 default).cls == 1)
    && (List.range p.dim).all (fun j => p.lpat.getD j [] == (symbolicL p.dim kl).getD j [])

/-- ALLOC_STRUCTURE (R283, R302). -/
def tblAlloc (i : Bytes) : Check :=
  let sec := imgSection i secAlloc
  let cqo := sprConseqOffset sec
  let f (ok : Bool) (o : Nat) := tbl ok secAlloc o
  let p := sprParse sec 0
  andThen (f (structOk sec 0 false && structZeros sec) 0) fun _ =>
  andThen (f (cqo == 0 || (structOk sec cqo true && decide (Config.cqWorkspace sec ≤ 147456))) 1) fun _ =>
  andThen ((imgTiers i).findSome? fun k => (imgSlots i k).findSome? fun s =>
    f (match s.purpose with
      | 7 => decide (setupClocks p p.deltaMax ≤ s.clocks) && decide (iterClocks p ≤ s.iter)
      | 8 => decide (outputClocks p ≤ s.clocks)
      | _ => true) s.slot) fun _ =>
  f (cqo == 0 || decide (stepClocks (sprParse sec cqo) ≤ u32 (imgSection i secCertHeader) 8)) 2

/-- Payload bytes of the frame of a cell (R338); a TX_BUFFER or RX_EXPECT frame is taken at the largest payload (log entry 50). -/
def cellSize (kind : Nat) : Nat := match kind with
  | 1 => 8
  | 2 => 16
  | 3 => 16
  | 4 => 32
  | _ => 64

/-- One network block of CAN_MATRIX (Table 13.4, R336). -/
def netBlockOk (b : Bytes) (n : Nat) : Bool :=
  let cols := List.range (nhColumns b)
  let cells := (List.range (nhCycles b)).flatMap fun r => cols.map fun c => (c, cellAt b r c)
  let ranges : List (Nat × Nat) := [(nhRef b, nhRef b), (nhCmd b + 1, nhCmd b + 16), (nhFb b + 1, nhFb b + 16), (nhDiag b + 1, nhDiag b + 16)]
  let guard : ℚ := (nhGuard b : ℚ)
  let q (rate : Nat) : Nat := 80000 / rate
  allZero b 34 30 && (List.range 32).all (fun k => allZero b (64 + 8 * k + 4) 4) &&
  decide (nhMode b ≤ 2) && (decide (nhNom b ≤ 1) && decide (nhData b ≤ 5) && decide (nhTdc b ≤ 1) && inR 2 255 (u16 b 4) && inR 1 128 (u8 b 6) && inR 1 128 (u8 b 7)
      && 1 + u16 b 4 + u8 b 6 == q (nomRate (nhNom b)) && decide (u8 b 7 ≤ u8 b 6)
      && (decide (nhData b < 2) || (1 + u8 b 8 + u8 b 9 == q (dataRate (nhNom b) (nhData b)) && decide (u8 b 10 ≤ u8 b 9)))
      && inR 1 31 (u8 b 8) && inR 1 16 (u8 b 9) && inR 1 16 (u8 b 10) && decide (u8 b 11 ≤ 127) && inR 1 64 (nhCycles b) && inR 1 32 (nhColumns b)
      && inR 1 50 (nhNopeer b) && inR 1 250 (u8 b 15) && inR 2 255 (nhGuard b) && decide (u8 b 17 ≤ 1)
      && decide (8 * 1000 / (nomRate (nhNom b) : ℚ) + 2 ≤ guard)
      && (nhMode b != 1 || (nhColumns b == 1 && cells.all fun x => x.2.kind == 7))
      && cells.all (fun x => decide (x.2.kind ≤ 7) && (if inR 2 4 x.2.kind then inR 1 16 x.2.arg else if x.2.kind = 5 then inR 17 31 x.2.arg else x.2.arg == 0)
        && decide (x.2.id < 2048) && (x.2.kind != 6 || x.2.id != 0)
        && (decide (n < 2) || nhMode b != 2 || !inR 1 4 x.2.kind)
        && (x.2.kind == 0 || x.2.kind == 7 || decide (frameBound b (x.2.id == 0 && nhXtd b) true (nhData b != 0) (cellSize x.2.kind) + guard
          ≤ ((colEnd b x.1 - colStart b x.1 : Nat) : ℚ)))
        && (!(x.2.kind == 5 || x.2.kind == 6) || nhXtd b || ranges.all fun r => !inR r.1 r.2 x.2.id)))

/-- CAN_MATRIX, its TABLE part. -/
def tblMatrix (i : Bytes) : Check :=
  let c := imgSection i secMatrix
  andThen (tbl (c.length == 34112 && u16 c 0 == 1 && allZero c 4 60) secMatrix 0) fun _ =>
  (List.range 4).findSome? fun n => tbl (netBlockOk (cmNet c n) n) secMatrix n

/-- Whether some number of `k` bits between `lo` and `hi` has the bits of `v` under the mask `m`. -/
def maskIn : Nat → Nat → Nat → Nat → Nat → Bool
  | 0, lo, hi, _, _ => decide (lo ≤ hi)
  | k + 1, lo, hi, m, v =>
    let h := 2 ^ k
    if hi < lo then false
    else if lo = 0 ∧ 2 * h ≤ hi + 1 then true
    else ((!bitOf k m || !bitOf k v) && decide (lo < h) && maskIn k lo (min hi (h - 1)) m v)
      || ((!bitOf k m || bitOf k v) && decide (h ≤ hi) && maskIn k (lo - h) (hi - h) m v)

/-- Two filter entries match a common identifier (R343). -/
def filterClash (a b : CanFilter) : Bool :=
  let has (f : CanFilter) (d : Nat) : Bool := match f.ftype with
    | 1 => inR f.id1 f.id2 d
    | 2 => d == f.id1 || d == f.id2
    | 3 => (d &&& f.id2) == (f.id1 &&& f.id2)
    | _ => false
  a.ftype != 0 && b.ftype != 0 && bitOf 0 a.flags == bitOf 0 b.flags && (match a.ftype, b.ftype with
    | 2, _ => has b a.id1 || has b a.id2
    | _, 2 => has a b.id1 || has a b.id2
    | 1, 1 => decide (max a.id1 b.id1 ≤ min a.id2 b.id2)
    | 3, 3 => (a.id1 &&& a.id2 &&& b.id2) == (b.id1 &&& a.id2 &&& b.id2)
    | 1, _ => maskIn 29 a.id1 a.id2 b.id2 b.id1
    | _, _ => maskIn 29 b.id1 b.id2 a.id2 a.id1)

/-- CAN_FILTERS (R341 to R343). -/
def tblFilters (i : Bytes) : Check :=
  let c := imgSection i secCanFilters
  let t := imgSection i secChannels
  let f (ok : Bool) (o : Nat) := tbl ok secCanFilters o
  let fOk (n k : Nat) : Bool :=
    let e := filterAt c n k
    let raw := sliceB c (64 + 2048 * n + 16 * k) 16
    let ce := chanEntry t e.chan
    e.ftype == 0 || (decide (e.ftype ≤ 3) && decide (u8 raw 1 < 16) && decide (e.action ≤ 2) && decide (e.layout ≤ 31) && (e.action == 1 || e.layout == 0)
      && u8 raw 15 == 0 && (decide (e.mbx ≤ 63) || e.mbx == 0xFF) && (e.action != 2 || e.mbx != 0xFF)
      && (e.action != 1 || (decide (e.chan ≤ 255) && chType ce != 0 && chKind ce == 4 && chSource ce == n + 1 && chParser ce == k))
      && (!bitOf 3 e.flags || (n % 2 == 0 && (List.range 128).all fun j => !filterClash e (filterAt c (twinOf n) j))))
  let lay (k : Nat) : Bool := (List.range 8).all fun j =>
    let d := sliceB c (8256 + 128 * k + 16 * j) 16
    allZero d 0 16 || descOk true 1 d
  andThen (f (u16 c 0 == 1 && allZero c 2 62 && c.length == 8256 + 4096 && allZero c 8256 128) 0) fun _ =>
  andThen ((List.range 31).findSome? fun k => f (lay (k + 1)) (k + 1)) fun _ =>
  (List.range 4).findSome? fun n => (List.range 128).findSome? fun k => f (fOk n k) (128 * n + k)

/-- ALARM_TABLE (Table 3.12, R86). -/
def tblAlarms (i : Bytes) : Check :=
  let c := imgSection i secAlarms
  let l := imgAlarms i
  let f (ok : Bool) (o : Nat) := tbl ok secAlarms o
  let asc := (l.zip l.tail).all fun p => decide (p.1.ident < p.2.ident)
  andThen (f (decide (u16 c 0 ≤ 1023) && allZero c 2 14 && decide (16 + 16 * u16 c 0 ≤ c.length) && asc) 0) fun _ =>
  (List.range l.length).findSome? fun k =>
    let e := l.getD k default
    f (inR 1 0xFFF e.ident && decide (e.source ≤ 4) && ((e.source == 0) == decide (e.ident ≤ 0xFF)) && decide (e.severity ≤ 3)
      && (e.source != 0 || e.arg == 0) && (!inR 1 3 e.source || decide (e.arg ≤ 255)) && decide (e.raiseCyc ≤ 3000) && decide (e.clearCyc ≤ 3000)
      && decide (e.flags < 8) && (inR 1 2 e.source || e.threshold == 0)
      && (!inR 1 0x3F e.ident || (e.severity == 3 && e.raiseCyc == 0))) k

/-- LANTERN_WAVEFORMS and LANTERN_SCREENS (R506, R507, R512). -/
def tblLantern (i : Bytes) : Check :=
  let s := imgSection i secWaveforms
  let c := imgSection i secScreens
  let f (ok : Bool) (o : Nat) := tbl ok secWaveforms o
  let nb := lwBands s
  let lows := (List.range nb).map (lwLow s)
  let q : Int := (lwQuantum s : Int)
  let entry (b ix : Nat) : Nat × Nat := lwEntry s b ix
  let codes (e : Nat × Nat) : Bool := (List.range e.2).all fun k => decide (lwCode s e.1 k ≤ 2)
  let trOk (b ix : Nat) : Bool :=
    let e := entry b ix
    let n := lwNet s e
    let differ : Bool := ix / 2 / 16 != ix / 2 % 16
    codes e && decide (n % q = 0) && decide (n.natAbs ≤ lwNetMax s * lwQuantum s) && (if ix % 2 = 0 then decide (0 ≤ n) else decide (n ≤ 0)) && (!differ || e.2 != 0)
  let clOk (b k : Nat) : Bool :=
    let e := entry b (512 + k)
    codes e && e.2 != 0 && decide (lwNet s e = -(((k : Int) - 8) * q))
  if !imgHas i secWaveforms then none
  else andThen (firstFail [f (u16 s 0 == 1) 0, f (lwWidth s == 0 || inR 200 800 (lwWidth s)) 2, f (lwWidth s == 0 || inR 100 600 (lwHeight s)) 4]) fun _ =>
    if lwWidth s = 0 then none
    else andThen (firstFail [f (inR 1 8 nb) 6, f (inR 1 32 (lwQuantum s)) 7, f (decide (lwNetMax s ≤ 3)) 8, f (inR 2000 5000 (lwFrameUs s)) 10,
      f (inR 200 1000 (lwCommonUs s)) 12, f (decide (-2500 ≤ s16 s 14) && decide (s16 s 14 ≤ 0)) 14,
      f (lows.all (fun x => decide (-40 ≤ x) && decide (x ≤ 85)) && (lows.zip lows.tail).all fun p => decide (p.1 < p.2)) 16,
      f (decide (lows.getLastD 0 < lwTop s) && decide (lwTop s ≤ 85)) 24,
      f ((List.range nb).all fun k => lwOff s k != 0 && decide (lwOff s k + 2112 ≤ s.length)) 32]) fun _ =>
    andThen ((List.range nb).findSome? fun b => andThen ((List.range 512).findSome? fun ix => f (trOk b ix) ix)
      fun _ => (List.range 16).findSome? fun k => f (clOk b k) (512 + k)) fun _ =>
    if c.isEmpty then none
    else andThen (tbl (decide (screenCount c ≤ 63)) secScreens 0) fun _ =>
      (List.range (screenCount c)).findSome? fun k =>
        tbl (decide ((decodeRuns (lwWidth s * lwHeight s) (c.drop (screenOffset c (k + 1)))).length = lwWidth s * lwHeight s)) secScreens (k + 1)

/-- REDUNDANCY (R429), or the node block (R567). -/
def tblRedundancy (v : VerIn) (i : Bytes) : Check :=
  let c := imgSection i secRedundancy
  let t := imgSection i secChannels
  let cm := imgSection i secMatrix
  let f (ok : Bool) (o : Nat) := tbl ok secRedundancy o
  if isNodeImage i then
    let ce := chanEntry t (nbFbCh c)
    let hasCell (n kind : Nat) : Bool := let b := cmNet cm n
      (List.range (nhCycles b)).any fun r => (List.range (nhColumns b)).any fun k => let x := cellAt b r k; x.kind == kind && x.arg == nbThruster c
    firstFail [f (c.length == 4096 && u16 c 0 == 1) 0, f (inR 1 16 (nbThruster c)) 2, f (decide (nbAction c ≤ 2)) 3, f (inR 40 2000 (nbHoldMs c)) 4,
      f (inR 1 25 (nbRepeatMax c)) 6, f (inR 1 3 (nbLinks c)) 7, f (inR 10 1000 (nbRamp c)) 8, f (decide (nbFbCh c ≤ 255)) 10,
      f (decide (u32 c 12 < 2 ^ 29)) 12, f (decide (u8 c 16 ≤ 1)) 16, f (inR 5 250 (nbHoldover c)) 17, f (allZero c 18 4078) 18,
      f (match v.safetyThruster with
        | some k => k == nbThruster c
        | none => true) 2,
      f (chType ce == 8 && chKind ce == 4) 10,
      f ((List.range 2).all fun k => !bitOf k (nbLinks c) || nhMode (cmNet cm (2 + k)) == 1) 7,
      f ((List.range 2).all fun n => nhMode (cmNet cm n) == 0 || (hasCell n 2 && hasCell n 3 && hasCell n 4)) 2]
  else
    let m := u8 c 2
    firstFail [f (c.length == 4096 && u16 c 0 == 1) 0, f (inR 1 3 m) 2, f (decide (u8 c 3 ≤ 2)) 3, f (decide (u8 c 4 ≤ 1)) 4, f (decide (u8 c 5 ≤ 3)) 5,
      f (decide (u8 c 6 ≤ 1)) 6, f (inR 1 50 (u8 c 7)) 7, f (inR 50 30000 (u16 c 8)) 8, f (inR 10 3000 (u16 c 10)) 10, f (inR 1 10 (u8 c 12)) 12,
      f (decide (u8 c 13 ≤ 10)) 13, f (inR 1 10 (u8 c 14)) 14, f (inR 2 20 (u8 c 15)) 15, f (inR 1 100 (u16 c 16)) 16, f (allZero c 18 4078) 18,
      f (!(m == 2 && u8 c 3 == 0)) 3, f (m == 2 || u8 c 3 == 0) 3, f (decide (u8 c 14 + 1 < u8 c 15)) 15, f (imgMulti i == decide (1 < m)) 2]

/-- Code 9 over the whole image; a node image is checked in its own sections only (R566). -/
def chkTable (v : VerIn) (i : Bytes) : Check :=
  let common : List (Unit → Check) := [fun _ => tblPorts (imgSection i secChannels), fun _ => tblChannels i, fun _ => tblParsers i, fun _ => tblMatrix i,
    fun _ => tblFilters i, fun _ => tblAlarms i, fun _ => tblLantern i, fun _ => tblRedundancy v i]
  let controller : List (Unit → Check) := [fun _ => tblCert i, fun _ => tblOculus i, fun _ => tblTime i, fun _ => tblFilter i, fun _ => tblFusion i,
    fun _ => tblObserver i, fun _ => tblModes i, fun _ => tblRegions i, fun _ => tblThrusters i, fun _ => tblAlloc i]
  (if isNodeImage i then common else controller ++ common).findSome? fun c => c ()

/-! Code 10, ORDER. -/

/-- The engine of a slot: its island, and for the management complex the cores it holds. -/
def slotsClash (a b : Slot) : Bool :=
  a.island == b.island && (a.island != 0 || (a.cores &&& b.cores) != 0) && decide (a.start < b.stop) && decide (b.start < a.stop)

/-- The island whose memory a background write grant opens (PURPOSE 11 and 12). -/
def grantIsland (s : Slot) : Option Nat := if s.purpose = 11 then some 1 else if s.purpose = 12 then some 2 else none

/-- The engine on which an operation runs (R45, Table 1.9): the filter handoff on the filter island, the snapshot in ingest, fusion on Cupola, the
observer, the allocation, the output stage and consequence steps on Spire, the control law in the control engine, a self-test segment on the engine it
tests (R410), the rest in the management complex. -/
def homeIsland (purpose island : Nat) : Bool :=
  match purpose with
  | 1 => island == 4
  | 2 => island == 6
  | 3 => island == 1
  | 4 | 7 | 8 | 9 => island == 2
  | 5 => island == 3
  | 10 => inR 1 3 island
  | _ => island == 0

/-- ORDER in one tier's slot table (R45, R51, R53, R69). -/
def ordSlots (i : Bytes) (tier : Nat) : Check :=
  let l := imgSlots i tier
  let bad (s : Slot) : VerResult := ⟨10, secSlotTable, tier, s.slot, s.slot⟩
  let of (p : Nat) : List Slot := l.filter (·.purpose == p)
  let before (p q : Nat) : Check := (of q).findSome? fun s => need ((of p).all fun r => decide (r.stop ≤ s.start)) (bad s)
  let rec pairs : List Slot → Check
    | [] => none
    | a :: r => andThen (r.findSome? fun b => need (!slotsClash a b) (bad b)) fun _ => pairs r
  firstFail [[2, 3, 4, 5, 7, 8].findSome? (fun p => need (!(of p).isEmpty) ⟨10, secSlotTable, tier, 0, 0⟩),
    l.findSome? fun s => need (homeIsland s.purpose s.island) (bad s),
    l.findSome? fun s => need (decide (s.cls = 2) || (decide (10 ≤ s.start) && decide (s.start < s.stop) && decide (s.stop ≤ 19900))) (bad s),
    -- R45: the operations in their order
    before 2 3, before 3 4, before 4 5, before 5 7, before 7 8, before 7 9,
    l.findSome? fun s => match grantIsland s with
      | some e => need (l.all fun r => r.cls != 3 || r.island != e || !(decide (s.start < r.stop) && decide (r.start < s.stop))) (bad s)
      | none => none,
    pairs l,
    (of 9).findSome? fun s => need (s.cls != 3 || s.clocks == u32 (imgSection i secCertHeader) 8) (bad s)]

/-- Whether the same slot at two tiers stands on the same side of a tick. -/
def sameSide (t : Nat) (a b : Slot) : Bool :=
  decide (a.stop ≤ t) == decide (b.stop ≤ t) && decide (t ≤ a.start) == decide (t ≤ b.start)

/-- The ticks between which a slot may move from tier to tier (R69): the filter handoff, the snapshot, the end of the output stage, staging close and
the spare slots of its own engine. -/
def anchorTicks (i : Bytes) (l : List Slot) (s : Slot) : List Nat :=
  (l.filter fun r => r.purpose == 1 || r.purpose == 2 || (r.cls == 3 && r.island == s.island)).map (·.start) ++ [imgOutputEnd i, imgStagingClose i]

/-- The anchors shared by every tier (R69): the slots of the islands with one clock, the spare slots and the end of the output stage stand at the same
ticks, and every other slot of a tier-dependent island, a background slot included, moves only between them. -/
def ordAnchors (i : Bytes) : Check :=
  let out (k : Nat) : Nat := ((imgLastSlotFor i k 8).map (·.stop)).getD 0
  let still (k : Nat) : List (Nat × Nat × Nat) := ((imgSlots i k).filter fun s => s.cls == 3 || decide (4 ≤ s.island)).map fun s => (s.slot, s.start, s.stop)
  match imgTiers i with
  | [] => none
  | k0 :: r => r.findSome? fun k => andThen
      (need (out k == out k0 && still k == still k0) ⟨10, secSlotTable, k, 0, 0⟩) fun _ =>
      (imgSlots i k).findSome? fun s => (imgSlots i k0).findSome? fun s0 =>
        need (s.slot != s0.slot || (anchorTicks i (imgSlots i k0) s).all fun t => sameSide t s s0) ⟨10, secSlotTable, k, s.slot, s.slot⟩

/-- The ORDER part of R336. -/
def ordMatrix (i : Bytes) : Check :=
  let cm := imgSection i secMatrix
  let thr := u8 (imgSection i secAlloc) 44
  let node := isNodeImage i
  let netOk (n : Nat) : Bool :=
    let b := cmNet cm n
    let cols := List.range (nhColumns b)
    let cells (r : Nat) : List Cell := cols.map (cellAt b r)
    (cols.all (fun c => decide (100 ≤ colStart b c) && decide (colStart b c < colEnd b c) && decide (colEnd b c ≤ 19900)
        && (c == 0 || decide (colEnd b (c - 1) ≤ colStart b c)))
      && (node || (List.range (nhCycles b)).all (fun r => cols.all fun c => (cellAt b r c).kind != 2 || decide (imgOutputEnd i ≤ colStart b c)))
      && (node || decide (2 ≤ n) || (List.range (nhCycles b)).all (fun r => (List.range thr).all fun k =>
          ((cells r).filter fun x => x.kind == 2 && x.arg == k + 1).length == 1 && ((cells r).filter fun x => x.kind == 3 && x.arg == k + 1).length == 1)))
  let a := cmNet cm 0
  let b := cmNet cm 1
  let cf (x : Bytes) (r c : Nat) : Option Cell := let y := cellAt x r c; if y.kind = 2 ∨ y.kind = 3 then some y else none
  let twin := (nhColumns a == nhColumns b
    && (List.range (nhColumns a)).all (fun c => colStart a c == colStart b c && colEnd a c == colEnd b c)
    && (List.range (max 1 (nhCycles a) * max 1 (nhCycles b))).all (fun r => (List.range (nhColumns a)).all fun c => cf a (r % max 1 (nhCycles a)) c == cf b (r % max 1 (nhCycles b)) c))
  andThen ((List.range 4).findSome? fun n => need (netOk n) ⟨10, secMatrix, 0xFF, n, n⟩) fun _ => need twin ⟨10, secMatrix, 0xFF, 1, 1⟩

def chkOrder (i : Bytes) : Check :=
  let bad (s : Nat) : VerResult := ⟨10, secSlotTable, 0, s, s⟩
  let groups := imgGroupCount i
  let planOk := (List.range groups).all fun g => ((List.range 50).filter fun k => imgPlan i k == g + 1).length == imgStepsPerGroup i
  let planOnly := (List.range 50).all fun k => decide (imgPlan i k ≤ groups)
  andThen (need (inR 15000 19800 (imgStagingClose i)) (bad 0)) fun _ =>
  if isNodeImage i then ordMatrix i
  else andThen (need (decide (groups * imgStepsPerGroup i ≤ 48)) ⟨10, secCertHeader, 0xFF, 0, 0⟩) fun _ =>
    andThen (need (planOk && planOnly) ⟨10, secPlan, 0xFF, 0, 0⟩) fun _ =>
    andThen ((imgTiers i).findSome? (ordSlots i)) fun _ => andThen (ordAnchors i) fun _ => ordMatrix i

/-! Codes 11 to 14 (R82 to R84). -/

/-- The assumed clock of an island at a tier, kHz (Table 3.6). -/
def assumedKhz (i : Bytes) (tier island : Nat) : Nat :=
  let c := imgSection i secCertHeader
  if island < 4 then u32 c (28 + 16 * tier + 4 * island) else u32 c (92 + 4 * (island - 4))

/-- finish(s) of R83, in microseconds; none when no clock is assumed. -/
def finishUs (i : Bytes) (tier : Nat) (s : Slot) : Option ℚ :=
  let c := imgSection i secCertHeader
  let w := s.clocks + u8 c 2 + if s.cls = 1 then imgIterLimit i * s.iter else 0
  let f := assumedKhz i tier s.island
  if f = 0 then none else some ((s.start : ℚ) + (w : ℚ) * 1000 / (f : ℚ))

/-- The clock at which a slot number of a crossing runs: the reader of CAN_MATRIX is the bus island. -/
def crossIsland (i : Bytes) (tier n : Nat) : Nat := if n = 0 then 5 else ((imgSlotNum i tier n).map (·.island)).getD 0

/-- The latest arrival that R83 allows a transfer, in ticks of its producer's cycle: Cupola reads the predictions of Q05 in the next cycle (Table 1.9),
where its START_TICK counts from that cycle's boundary (DEDUCED, log entry 75). -/
def readTick (x : Crossing) : Nat := if x.queue = 5 then x.tick + 20000 else x.tick

/-- A shortfall in ns, rounded up. -/
def shortNs (us limit : ℚ) : Nat := (ceilQ ((us - limit) * 1000)).toNat

/-- FIT (R83). With an assumed clock of 0 no finish time exists; the spec states no DETAIL for it, and 0xFFFFFFFF is the model's choice
(DESIGN CHOICE, log entry 68). -/
def chkFit (i : Bytes) : Check :=
  (imgTiers i).findSome? fun k => (imgSlots i k).findSome? fun s =>
    if s.cls = 2 then none
    else match finishUs i k s with
      | some t => need (decide (t ≤ (s.stop : ℚ))) ⟨11, secSlotTable, k, s.slot, shortNs t (s.stop : ℚ)⟩
      | none => some ⟨11, secSlotTable, k, s.slot, 0xFFFFFFFF⟩

/-- Queue depths of Table 1.3, Q01 to Q10. -/
def queueDepth (q : Nat) : Nat := [16, 32, 64, 32, 16, 16, 16, 8, 8, 32].getD (q - 1) 0

/-- CROSSING (R83): QUEUE_DEPTH against Table 1.3, then each transfer's arrival and PEAK. A clock of 0 gives DETAIL 0xFFFFFFFF as in `chkFit`
(log entry 68). -/
def chkCrossing (i : Bytes) : Check :=
  let c := imgSection i secCertHeader
  let assumedDepth (q : Nat) : Nat := u8 c (13 + q)
  andThen ((List.range 10).findSome? fun q => need (decide (assumedDepth (q + 1) ≤ queueDepth (q + 1))) ⟨12, secCertHeader, 0xFF, q + 1, q + 1⟩) fun _ =>
  (imgTiers i).findSome? fun k =>
    let l := imgCrossings i k
    (List.range l.length).findSome? fun n =>
      let x := l.getD n default
      let fp := assumedKhz i k (crossIsland i k x.producer)
      let fc := assumedKhz i k (crossIsland i k x.consumer)
      match (imgSlotNum i k x.producer).bind (finishUs i k) with
      | some fin =>
        if fc = 0 then some ⟨12, secCrossings, k, n, 0xFFFFFFFF⟩
        else
          let t := fin + (u8 c 3 : ℚ) * 1000 / (fp : ℚ) + ((u8 c 4 + 1 : Nat) : ℚ) * 1000 / (fc : ℚ)
          andThen (need (decide (t ≤ (readTick x : ℚ))) ⟨12, secCrossings, k, n, shortNs t (readTick x : ℚ)⟩) fun _ =>
          need (decide (x.peak ≤ assumedDepth x.queue)) ⟨12, secCrossings, k, n, x.queue⟩
      | none => some ⟨12, secCrossings, k, n, 0xFFFFFFFF⟩

/-- R82: against the guaranteed clocks of every present tier, then against the lane's measured clocks at the tier in force. A clock not yet measured is not compared (log entry 50). -/
def chkClocks (v : VerIn) (i : Bytes) : Check :=
  andThen ((imgTiers i).findSome? fun k => (List.range 9).findSome? fun isl =>
    need (decide (assumedKhz i k isl ≤ guaranteedKhz isl k)) ⟨13, secCertHeader, 0xFF, isl, 16 * k + isl⟩) fun _ =>
  (List.range 9).findSome? fun isl =>
    need ((decide (isl < 4) && !imgTierPresent i v.tier) || vget v.measured isl == 0 || decide (assumedKhz i v.tier isl ≤ vget v.measured isl))
      ⟨13, secCertHeader, 0xFF, isl, 0x100 + 16 * v.tier + isl⟩

/-- USABLE_TIERS of an image on a lane (R84). -/
def usableTiers (margin : Nat) (i : Bytes) : Nat := imgTierMask i &&& margin

/-- The entry tier of R84; a lane that runs no image enters at the fastest usable tier. -/
def entryTier (running : Bool) (tier margin : Nat) (i : Bytes) : Option Nat :=
  let u := usableTiers margin i
  [0, 1, 2, 3].find? fun k => bitOf k u && (!running || decide (tier ≤ k))

def chkTier (v : VerIn) (i : Bytes) : Check :=
  need (entryTier v.running v.tier v.margin i).isSome ⟨14, 0, 0, 0, usableTiers v.margin i⟩

/-- R81: the checks of Table 3.9 in order, the first failure deciding. `missing` is the first byte never written, `size` the size of IMAGE_BEGIN. -/
def verifyImage (v : VerIn) (missing : Option Nat) (size : Nat) (i : Bytes) : VerResult :=
  let node := isNodeImage i
  let skip (c : Check) : Check := if node then none else c
  let steps : List (Unit → Check) := [
    fun _ => missing.map fun o => ⟨1, 0, 0, 0, o⟩, fun _ => chkFormat size i, fun _ => chkCrc i, fun _ => chkMissing i, fun _ => chkGeneration v i,
    fun _ => chkTarget v i, fun _ => chkCapacity i, fun _ => chkTable v i, fun _ => chkOrder i, fun _ => skip (chkFit i), fun _ => skip (chkCrossing i),
    fun _ => skip (chkClocks v i), fun _ => skip (chkTier v i)]
  (steps.findSome? fun c => c ()).getD {}

/-- The combined result of both lanes (R81). While only one lane has a result the spec states no combination: that lane's code stands (DESIGN CHOICE, log
entry 68). -/
def combinedCode (a b : Option VerResult) : Nat :=
  match a, b with
  | some x, some y => if x.code = y.code then x.code else 15
  | some x, none => x.code
  | none, some y => y.code
  | none, none => 0

end Sys2Proof.Machine
end

