-- ==== Sys2Proof/Machine/ImgUnit.lean ====
section
/-! DEFINITION. The life of an image in one lane: staged store, verification, installation, commit, probation, rollback (R88 to R100), and PMU_IMG_STATE (Table 3.15). -/

namespace Sys2Proof.Machine

/-- An accepted IMAGE_COMMIT or IMAGE_ROLLBACK that has not reached its boundary. -/
structure CommitReq where
  rollback : Bool := false
  /-- Earliest cycle named in the command; 0 for none. -/
  earliest : Nat := 0
  /-- Cycle of acceptance (R94). -/
  accepted : Nat := 0
  /-- Channel and TAG of the command, for its notification. -/
  tag      : Option (Nat × Nat) := none
  /-- The rollback is the automatic one of R99. -/
  auto     : Bool := false
  /-- The boundary that a multi-module commit has agreed (R95). -/
  agreed   : Option Nat := none
  deriving DecidableEq, Repr, Inhabited

/-- The image state of one lane. -/
structure ImgState where
  /-- The staged store: its bytes, the runs never written, the size and generation of IMAGE_BEGIN. -/
  data    : Bytes := []
  gaps    : List (Nat × Nat) := []
  size    : Nat := 0
  gen     : Nat := 0
  /-- The station that sent IMAGE_BEGIN. -/
  loader  : Nat := 0
  /-- STAGED of Table 3.15. -/
  staged  : Nat := 0
  /-- The result of verifying the staged image, and the last verification code of the lane, of whatever image (Table 3.15). -/
  result   : VerResult := {}
  lastCode : Nat := 0
  active  : Option Bytes := none
  /-- ACTIVE: 0 none, 1 probation, 2 confirmed, 3 probation failed. -/
  state   : Nat := 0
  /-- The image in the inactive planes, and whether it is a confirmed previous generation. -/
  prev     : Option Bytes := none
  prevHeld : Bool := false
  rolledBack : Bool := false
  probFail   : Bool := false
  probLeft   : Nat := 0
  /-- Generations marked rejected (R98). -/
  rejected : List Nat := []
  commit   : Option CommitReq := none
  /-- Cycle and tick at which this lane reported installation complete. -/
  installed : Option (Nat × Nat) := none
  /-- Boundary of the automatic rollback of R99. -/
  rollbackAt : Option Nat := none
  /-- The last commit boundary (Table 17.6). -/
  boundary : Nat := 0
  /-- A probation violation stands in this cycle (R99). -/
  violated : Bool := false
  /-- Image bytes that have come over the lane bridge for the IMAGE_DATA under way, and how often their check has failed (R89). -/
  rx    : Bytes := []
  rxTry : Nat := 0
  /-- The channel and TAG of the IMAGE_VERIFY under way (R453). -/
  verTag : Option (Nat × Nat) := none
  deriving DecidableEq, Repr, Inhabited

/-- R88: the staged store is emptied, and any load, verification or installation in progress is aborted. -/
def imgBegin (size gen loader : Nat) (g : ImgState) : ImgState :=
  { g with
    data := zeroBytes size, gaps := [(0, size)], size := size, gen := gen, loader := loader, staged := 1, result := {},
    rejected := g.rejected.filter (· != gen),
    commit := none, installed := none }

/-- Remove `lo` to `hi` from the runs never written. -/
def cutGaps (lo hi : Nat) (l : List (Nat × Nat)) : List (Nat × Nat) :=
  l.flatMap fun p =>
    (if p.1 < min p.2 lo then [(p.1, min p.2 lo)] else []) ++ (if max p.1 hi < p.2 then [(max p.1 hi, p.2)] else [])

/-- R89, R472: the bytes are written, and a store that was verifying, verified or failed is loading again. -/
def imgData (off : Nat) (d : Bytes) (g : ImgState) : ImgState :=
  { g with data := patchB g.data off d, gaps := cutGaps off (off + d.length) g.gaps, staged := 1 }

/-- The first byte never written (Table 3.9, code 1). -/
def imgMissing (g : ImgState) : Option Nat := (g.gaps.head?).map (·.1)

/-- IMAGE_VERIFY accepted (R92). -/
def imgVerifyStart (tag : Option (Nat × Nat)) (g : ImgState) : ImgState := { g with staged := 2, verTag := tag }

/-- The end of verification in this lane. -/
def imgVerifyDone (v : VerIn) (g : ImgState) : ImgState :=
  if g.staged = 2 then
    let r := verifyImage v (imgMissing g) g.size g.data
    { g with result := r, lastCode := r.code, staged := if r.code = 0 then 3 else 4 }
  else g

/-- IMAGE_COMMIT accepted: installation begins over the inactive planes (R93, Table 3.16). -/
def imgInstallStart (c : CommitReq) (g : ImgState) : ImgState :=
  { g with commit := some c, staged := 5, prev := none, prevHeld := false, installed := none }

/-- IMAGE_ROLLBACK accepted (R98): the inactive planes already hold the generation, which has been verified again with PASS. -/
def imgRollbackStart (c : CommitReq) (g : ImgState) : ImgState := { g with commit := some c, lastCode := 0 }

/-- Installation complete in this lane. -/
def imgInstalled (cycle tick : Nat) (g : ImgState) : ImgState :=
  if g.staged = 5 then { g with staged := 6, prev := some g.data, installed := some (cycle, tick) } else g

/-- The installation of this lane counts for the boundary of `cycle`: complete at or before the staging-close tick of the cycle before (R93). -/
def imgReady (cycle close : Nat) (g : ImgState) : Bool :=
  match g.installed with
  | some (c, t) => decide (c + 1 < cycle) || (decide (c + 1 = cycle) && decide (t ≤ close))
  | none => false

/-- The image planes are exchanged at a commit boundary (R93, R96, R100). Whether the staged store is emptied then the spec does not say: it is (STAGED 0,
STAGED_GEN 0; DESIGN CHOICE, log entry 68). -/
def imgSwap (cycle : Nat) (g : ImgState) : ImgState :=
  { g with
    active := some g.data, state := 1, prev := g.active, prevHeld := g.active.isSome && g.state == 2, probLeft := imgProbation g.data,
    staged := 0, data := [], gaps := [], size := 0, gen := 0, commit := none, installed := none, rollbackAt := none, boundary := cycle, violated := false }

/-- The planes are exchanged at a rollback boundary: the previous generation is active and confirmed, the generation left is rejected (R98, R99). -/
def imgRollback (cycle : Nat) (auto : Bool) (g : ImgState) : ImgState :=
  match g.prev with
  | some p =>
    { g with
      active := some p, state := 2, prev := g.active, prevHeld := false, probLeft := 0, commit := none, rollbackAt := none,
      rolledBack := g.rolledBack || auto,
      rejected := (match g.active with
        | some a => imgGen a :: g.rejected
        | none => g.rejected),
      staged := (if g.staged = 3 ∨ g.staged = 6 then (if g.active.map imgGen = some g.gen then 0 else g.staged) else g.staged), boundary := cycle, violated := false }
  | none => { g with commit := none, rollbackAt := none }

/-- The commit is abandoned (R94, R472): the staged image stays verified; the planes written so far hold no confirmed generation. -/
def imgAbandon (g : ImgState) : ImgState :=
  { g with commit := none, installed := none, staged := if g.staged = 5 ∨ g.staged = 6 then 3 else g.staged }

/-- A long-cycle boundary of probation (R96). Returns whether the image is confirmed at it. -/
def imgProbationStep (cycle : Nat) (g : ImgState) : ImgState × Bool :=
  if g.state = 1 ∧ g.boundary < cycle ∧ g.rollbackAt = none then
    if g.probLeft ≤ 1 then ({ g with probLeft := 0, state := 2 }, true) else ({ g with probLeft := g.probLeft - 1 }, false)
  else (g, false)

/-- R99: whether an automatic rollback is forbidden at its boundary. `standby` says that the mode in force is STANDBY. With no confirmed previous
generation in the inactive planes there is none to return to and the spec names no outcome: probation fails without rollback (DESIGN CHOICE, log entry
68). -/
def rollbackForbidden (standby : Bool) (g : ImgState) : Bool :=
  match g.active, g.prev with
  | some a, some p => imgNoAutoRollback a || !g.prevHeld || (imgContinuity a != imgContinuity p && !standby)
  | _, _ => true

/-- Probation fails without rollback (R99). -/
def imgProbFail (g : ImgState) : ImgState := { g with probFail := true, state := 3, probLeft := 0, rollbackAt := none, violated := false }

/-- The staged CONTINUITY equals the active one. -/
def imgContMatch (g : ImgState) : Bool :=
  match g.active with
  | some a => decide (g.staged ≠ 0) && imgContinuity g.data == imgContinuity a
  | none => false

/-- PMU_IMG_STATE (Table 3.15). -/
def imgStateWord (margin : Nat) (g : ImgState) : Nat :=
  atF 28 4 g.staged + atF 26 2 g.state + atF 22 4 ((g.active.map (usableTiers margin)).getD 0) + atF 18 4 g.lastCode + at1 17 g.prevHeld +
  at1 16 g.rolledBack + at1 15 g.probFail + at1 14 (imgContMatch g) + atF 0 12 g.probLeft

/-- The image registers (Table 3.14). -/
def imgReg (margin : Nat) (g : ImgState) (off : Nat) : Nat :=
  match off with
  | 0x0140 => imgStateWord margin g
  | 0x0144 => (g.active.map imgGen).getD 0
  | 0x0148 => (g.prev.map imgGen).getD 0
  | 0x014C => if g.staged = 0 then 0 else g.gen
  | _ => 0

/-- W1C bits of PMU_IMG_STATE. -/
def imgW1C (w : Nat) (g : ImgState) : ImgState :=
  { g with rolledBack := g.rolledBack && !bitOf 16 w, probFail := g.probFail && !bitOf 15 w }

/-- IMAGE_STATUS (Table 17.6): the ACTIVE lane's words, the combined code and each lane's code. -/
def imgStatusReply (margin : Nat) (a b : Option VerResult) (g : ImgState) : Bytes :=
  leBytes 4 (imgReg margin g 0x0140) ++ leBytes 4 (imgReg margin g 0x0144) ++ leBytes 4 (imgReg margin g 0x0148) ++ leBytes 4 (imgReg margin g 0x014C) ++
  leBytes 1 (combinedCode a b) ++ leBytes 1 ((a.map (·.code)).getD 0) ++ leBytes 1 ((b.map (·.code)).getD 0) ++ leBytes 1 g.result.inst ++
  leBytes 2 g.result.typ ++ leBytes 2 g.result.index ++ leBytes 4 (g.result.detail % 2 ^ 32) ++ leBytes 4 (g.boundary % 2 ^ 32)

/-- IMAGE_VERIFIED (Table 17.14): bytes 12 to 27 of IMAGE_STATUS, then USABLE_TIERS of the staged image. -/
def imgVerifiedPayload (margin : Nat) (a b : Option VerResult) (g : ImgState) : Bytes :=
  sliceB (imgStatusReply margin a b g) 12 16 ++ leBytes 1 (usableTiers margin g.data) ++ [0, 0, 0]

/-- The IMAGE record of Keep (Table 18.3). -/
def imgRecord (event : Nat) (g : ImgState) : Effect :=
  .keep 8 true (leBytes 1 event ++ [0, 0, 0] ++ leBytes 4 (imgReg 0 g 0x0144) ++ leBytes 4 (imgReg 0 g 0x0148))

/-- A lane that takes the active generation from its partner (R94, R406): installed and active, nothing staged. -/
def imgTake (src : ImgState) : ImgState :=
  { active := src.active, state := src.state, prev := if src.prevHeld then src.prev else none, prevHeld := src.prevHeld, probLeft := src.probLeft,
    rejected := src.rejected, boundary := src.boundary, rolledBack := src.rolledBack, probFail := src.probFail }

end Sys2Proof.Machine
end

