-- ==== Sys2Proof/Machine/KeepUnit.lean ====
section
/-! DEFINITION. Keep, the history recorder (chapter 18): its flash, queue, budget, tally, histograms and registers, as state and pure functions. -/

namespace Sys2Proof.Machine

/-- A record waiting in the 32 KiB queue (R489). -/
structure KeepRec where
  typ       : Nat
  source    : Nat
  integrity : Bool
  payload   : Bytes
  opSec     : Nat
  cycle     : Nat
  deriving DecidableEq, Repr, Inhabited

/-- LENGTH of a record: header, payload padded to a multiple of 4, CRC (R488). -/
def KeepRec.len (r : KeepRec) : Nat := 24 + (padMul 4 r.payload).length

/-- A record in the log ring (R492). -/
structure LogRec where
  index  : Nat
  typ    : Nat
  sector : Nat
  off    : Nat
  raw    : Bytes
  deriving DecidableEq, Repr, Inhabited

/-- One unit of flash work (R486); `left` counts the units that remain of a longer write, this one included. -/
inductive FlashUnit where
  | pfTally
  | pfRecord
  | pfEnd (dropped : Nat)
  | safetyCopy (n : Nat) (block : Bytes)
  | tally (kind : Nat)
  | record
  | eraseLog (sector : Nat)
  | summary (left : Nat)
  | lantern (left : Nat) (book : Bytes)
  | image (slot left : Nat) (data : Bytes) (gen : Nat)
  | refreshCopy (addr : Nat)
  | refreshBegun (addr : Nat)
  | refreshWrite (addr : Nat)
  | refreshDone (addr : Nat)
  deriving DecidableEq, Repr

/-- The POWER_FAIL record, the last of the power-fail sequence (R495). -/
def pfLast : FlashUnit → Bool
  | .pfEnd _ => true
  | _ => false

/-- The order of R486, 1 the highest. -/
def FlashUnit.prio : FlashUnit → Nat
  | .pfTally => 1
  | .pfRecord => 1
  | .pfEnd _ => 1
  | .safetyCopy _ _ => 2
  | .tally _ => 3
  | .record => 4
  | .eraseLog _ => 4
  | .summary _ => 5
  | .lantern _ _ => 6
  | .image _ _ _ _ => 7
  | .refreshCopy _ => 8
  | .refreshBegun _ => 8
  | .refreshWrite _ => 8
  | .refreshDone _ => 8

/-- A TALLY entry (R487). -/
structure TallyEntry where
  count : Nat
  secs  : Nat
  kind  : Nat
  deriving DecidableEq, Repr, Inhabited

/-- A lifetime extreme (R497). -/
structure Extreme where
  ident  : Nat
  kind   : Nat
  value  : Int
  cycles : Nat
  secs   : Nat
  /-- The value of the last EXTREME record written. -/
  lastRec : Option Int
  deriving DecidableEq, Repr, Inhabited

/-- A SUMMARY slot (R498). -/
structure Summary where
  seq   : Nat
  count : Nat
  secs  : Nat
  hists : List (List Nat)
  extremes : List Extreme
  deriving DecidableEq, Repr, Inhabited

/-- What the flash holds through a power loss (Table 18.1). -/
structure FlashState where
  /-- Capacity: none when SFDP is absent or reports another size (R484), false 64 MiB, true 128 MiB. -/
  capacity  : Option Bool := some false
  tally     : Option TallyEntry := none
  /-- Entry positions after the newest valid entry that are neither valid nor erased (R487). -/
  tallyTorn : Nat := 0
  tallyHalf : Nat := 0
  tallyPos  : Nat := 0
  log       : List LogRec := []
  sector    : Nat := 0
  off       : Nat := 0
  /-- Torn bytes after the last valid record: sector, offset and index of the torn record (R493). -/
  torn      : Option (Nat × Nat × Nat) := none
  retired   : List Nat := []
  lastIndex : Nat := 0
  safety1   : Option Bytes := none
  safety2   : Option Bytes := none
  image0    : Option Bytes := none
  image1    : Option Bytes := none
  /-- STATE partition (R499, R500): sequence number, half and position, start-up slot, generations. -/
  stateSeq  : Nat := 0
  stateHalf : Nat := 0
  statePos  : Nat := 0
  startSlot : Nat := 0
  gen0      : Nat := 0
  gen1      : Nat := 0
  /-- A kind 1 entry without its kind 2 entry (R501). -/
  openRefresh : Option Nat := none
  refreshBuf  : Nat := 0
  summary   : Option Summary := none
  summarySlot : Nat := 0
  lantern   : Option Bytes := none
  lanternSeq : Nat := 0
  /-- Operating second at which a sector of DESCRIPTOR, SAFETY or an image slot was last written, by address (R501). -/
  written   : List (Nat × Nat) := []
  deriving DecidableEq, Repr, Inhabited

/-- The number of bins of histogram `k` (Table 18.4). -/
def histBins (k : Nat) : Nat :=
  if k ≤ 4 then 35 else match k with
    | 5 => 21 | 6 => 4 | 7 => 7 | 8 => 64 | 9 => 8 | 10 => 31 | 11 => 31 | 28 => 9
    | _ => 11

/-- The 28 histograms, all zero (R498). -/
def histsZero : List (List Nat) := (List.range 28).map fun k => List.replicate (histBins (k + 1)) 0

/-- What the ACTIVE lane's summary of a long cycle adds (R496, R497): histogram, bin and count; extreme, kind, value and STEP in 2^-16. -/
structure KeepSample where
  bins : List (Nat × Nat × Nat) := []
  exts : List (Nat × Nat × Int × Int) := []
  deriving DecidableEq, Repr, Inhabited

/-- Keep: its flash, its SRAM and its registers (R503). -/
structure KeepState where
  flash     : FlashState := {}
  /-- KEEP_STATUS.STATE: 0 SCANNING, 1 RUN, 2 DEGRADED, 3 NO_FLASH. -/
  st        : Nat := 0
  powerCycle : Nat := 0
  /-- Operating seconds at the release of domain 0 reset (R487). -/
  opBase    : Nat := 0
  nextIndex : Nat := 1
  dropBudget : Nat := 0
  dropQueue : Nat := 0
  torn      : Nat := 0
  wraps     : Nat := 0
  refreshing : Bool := false
  summaryMissing : Bool := false
  tornFound : Bool := false
  flashErr  : Bool := false
  pfail     : Bool := false
  pfDone    : Bool := false
  queue     : List KeepRec := []
  /-- Byte budget (R491) at the time `budgetUs`. -/
  budget    : Int := 7200000
  budgetUs  : Nat := 0
  /-- Records and bytes dropped by the budget since the last DROPPED record. -/
  dropRecs  : Nat := 0
  dropBytes : Nat := 0
  units     : List FlashUnit := []
  /-- The unit in progress and whether it is its second try (R494). -/
  busy      : Option (FlashUnit × Bool) := none
  hists     : List (List Nat) := histsZero
  extremes  : List Extreme := []
  /-- Operating seconds of the last periodic TALLY entry, SUMMARY slot and LANTERN slot. -/
  lastTally : Nat := 0
  lastSummary : Nat := 0
  lastRefreshUs : Nat := 0
  /-- The summary that waits for the long-cycle boundary (R496). -/
  sample    : Option KeepSample := none
  deriving DecidableEq, Repr, Inhabited

/-- Sectors of the log ring (Table 18.1). -/
def logSectors (f : FlashState) : Nat := if f.capacity = some true then 28160 else 11776

/-- Operating seconds now (R487): the time for which domain 0 has run. -/
def opSecs (us : Nat) (k : KeepState) : Nat := k.opBase + us / 1000000

/-- The bytes queued (R489). -/
def queuedBytes (k : KeepState) : Nat := (k.queue.map KeepRec.len).sum

/-- The byte budget at time `us` (R491). -/
def budgetAt (us : Nat) (k : KeepState) : Int :=
  min 7200000 (k.budget + (((us - k.budgetUs) * 2000 / 1000000 : Nat) : Int))

/-- The highest-priority waiting unit; a queued record counts at priority 4 (R486). -/
def nextUnit (k : KeepState) : Option (FlashUnit × List FlashUnit) :=
  let all := if k.queue.isEmpty ∨ k.pfail then k.units else
    if k.units.contains .record then k.units else k.units ++ [.record]
  match all with
  | [] => none
  | u :: us =>
    let best := us.foldl (fun b x => if x.prio < b.prio then x else b) u
    some (best, all.erase best)

/-- The unit in progress is a sector erase (R486): the erases of a longer write come before its page programs. -/
def isErase (u : FlashUnit) : Bool :=
  match u with
  | .eraseLog _ => true
  | .summary left => decide (256 < left)
  | .lantern left _ => decide (2048 < left)
  | .image _ left d _ => decide ((d.length + 255) / 256 < left)
  | _ => false

/-- Start the next unit when the flash is free; an erase in progress is suspended for a unit of priority 1 to 4 that is no erase (R486). -/
def startUnit (k : KeepState) : KeepState :=
  match k.busy with
  | some (u, second) =>
    if isErase u && !second then
      match nextUnit k with
      | some (v, rest) => if v.prio ≤ 4 && !isErase v then { k with busy := some (v, false), units := u :: rest } else k
      | none => k
    else k
  | none =>
    if k.st = 3 ∨ k.st = 0 then k
    else match nextUnit k with
      | none => k
      | some (u, rest) => { k with busy := some (u, false), units := rest }

/-- Add a unit of work and start it when the flash is free. -/
def addUnit (u : FlashUnit) (k : KeepState) : KeepState :=
  if k.st = 3 then k else startUnit { k with units := k.units ++ [u] }

/-- An integrity record queued during the power-fail sequence is written before POWER_FAIL (R495); after that record nothing more is written. -/
def pfAlso (k : KeepState) : KeepState :=
  if k.pfail && k.units.any pfLast then { k with units := k.units.takeWhile (!pfLast ·) ++ [.pfRecord] ++ k.units.dropWhile (!pfLast ·) } else k

/-- A record enters the queue, or is dropped (R489, R491); during a power failure only an integrity record enters (R495, KEEP_DROP of Table 18.6). Answers whether it was dropped. -/
def keepEnqueue (us cycle : Nat) (typ source : Nat) (integrity : Bool) (payload : Bytes) (k : KeepState) : KeepState × Bool :=
  if k.st = 3 then (k, false)
  else
    let r : KeepRec := ⟨typ, source, integrity, payload, opSecs us k, cycle⟩
    let b := budgetAt us k
    if ¬ integrity ∧ ¬ k.pfail ∧ b < (r.len : Int) then
      ({ k with dropBudget := satAdd 0xFFFF k.dropBudget 1, dropRecs := k.dropRecs + 1, dropBytes := k.dropBytes + r.len }, true)
    else if (¬ integrity ∧ k.pfail) ∨ 32768 < queuedBytes k + r.len then
      ({ k with dropQueue := satAdd 0xFFFF k.dropQueue 1 }, true)
    else
      (startUnit (pfAlso { k with queue := k.queue ++ [r], budget := b - (r.len : Int), budgetUs := us - (us - k.budgetUs) % 500 }), false)

/-- The DROPPED record at the first moment at which the budget holds 24 bytes (R491). -/
def keepPoll (us cycle : Nat) (k : KeepState) : KeepState :=
  if k.dropRecs = 0 ∨ budgetAt us k < 24 then k
  else
    let k1 := (keepEnqueue us cycle 14 0 true (leBytes 4 k.dropRecs ++ leBytes 4 k.dropBytes) k).1
    { k1 with dropRecs := 0, dropBytes := 0 }

/-- The bytes of a record with its index (Table 18.2). -/
def recordBytes (powerCycle index : Nat) (r : KeepRec) : Bytes :=
  let body := leBytes 4 index ++ [BitVec.ofNat 8 r.typ, BitVec.ofNat 8 r.source] ++ leBytes 2 r.len ++
    leBytes 4 powerCycle ++ leBytes 4 r.opSec ++ leBytes 4 r.cycle ++ padMul 4 r.payload
  body ++ leBytes 4 (crc32c body)

/-- The next sector of the ring that is not retired; at most `n` are tried. -/
def nextSector (f : FlashState) : Nat → Nat → Nat
  | 0, s => s
  | n + 1, s =>
    let t := (s + 1) % logSectors f
    if f.retired.contains t then nextSector f n t else t

/-- Whether moving from one sector to the next completes a pass of the ring. -/
def wrapsRing (s t : Nat) : Bool := decide (t ≤ s)

/-- Write a record at the write point (R492): a record never crosses a sector boundary, and the sector two ahead is erased. -/
def programRecord (r : KeepRec) (k : KeepState) : KeepState :=
  let f := k.flash
  let raw := recordBytes k.powerCycle k.nextIndex r
  let step := decide (4096 < f.off + raw.length) || f.torn.isSome
  let s := if step then nextSector f 1000 f.sector else f.sector
  let off := if step then 0 else f.off
  let ahead := nextSector f 1000 (nextSector f 1000 s)
  let needErase := step && f.log.any (·.sector == ahead)
  let f1 := { f with
    sector := s, off := off + raw.length, torn := none, lastIndex := k.nextIndex,
    log := f.log ++ [⟨k.nextIndex, r.typ, s, off, raw⟩] }
  let w := if step && wrapsRing f.sector s then (k.wraps + 1) % 2 ^ 32 else k.wraps
  let us := if needErase then k.units ++ [.eraseLog ahead] else k.units
  { k with flash := f1, nextIndex := k.nextIndex + 1, queue := k.queue.drop 1, wraps := w, units := us }

/-- Write a TALLY entry; a full half is followed by the other (R487). -/
def programTally (us kind : Nat) (k : KeepState) : KeepState :=
  let f := k.flash
  let full := decide (2048 ≤ f.tallyPos)
  { k with flash := { f with
      tally := some ⟨k.powerCycle, opSecs us k, kind⟩
      tallyTorn := 0
      tallyHalf := if full then 1 - f.tallyHalf else f.tallyHalf
      tallyPos := if full then 1 else f.tallyPos + 1 } }

/-- Write a STATE entry, switching halves when fewer than 3 positions are free unless a refresh stands open (R500). -/
def programState (g : FlashState → FlashState) (k : KeepState) : KeepState :=
  let f := k.flash
  let switch := decide (1024 < f.statePos + 3) && f.openRefresh.isNone
  let f1 := if switch then { f with stateHalf := 1 - f.stateHalf, statePos := 1, stateSeq := f.stateSeq + 1 } else f
  { k with flash := g { f1 with stateSeq := f1.stateSeq + 1, statePos := f1.statePos + 1 } }

/-- Note that sectors from `addr` for `len` bytes were written at an operating second (R501). -/
def markWritten (addr len secs : Nat) (f : FlashState) : FlashState :=
  { f with written := (List.range ((len + 4095) / 4096)).foldl (fun w i => upsert w (addr + 4096 * i) secs) f.written }

/-- Queue a longer write again for its remaining units, or finish it. -/
def requeue (u : FlashUnit) (k : KeepState) : KeepState := { k with units := k.units ++ [u] }

/-- The snapshot a SUMMARY slot holds (R498). -/
def summaryNow (us : Nat) (k : KeepState) : Summary :=
  ⟨(k.flash.summary.map (·.seq)).getD 0 + 1, k.powerCycle, opSecs us k, k.hists, k.extremes⟩

/-- The units of a SUMMARY slot and a LANTERN slot: sector erases and page programs of 64 KiB and 512 KiB. -/
def summaryUnits : Nat := 16 + 256
def lanternUnits : Nat := 128 + 2048
/-- The units of an image of `n` bytes. -/
def imageUnits (n : Nat) : Nat := (n + 4095) / 4096 + (n + 255) / 256

/-- The image slot in rotation is erased before it is written: it holds no valid image until the write is complete (R499). -/
def slotGone (slot : Nat) (f : FlashState) : FlashState := if slot = 0 then { f with image0 := none } else { f with image1 := none }

/-- What a completed unit leaves (R486 to R501). -/
def unitEffect (us : Nat) (u : FlashUnit) (k : KeepState) : KeepState :=
  match u with
  | .pfTally => programTally us 2 k
  | .pfRecord => match k.queue with
    | [] => k
    | r :: _ => programRecord r k
  | .pfEnd dropped =>
    let r : KeepRec := ⟨2, 0, true, leBytes 4 (opSecs us k) ++ leBytes 2 dropped ++ zeroBytes 2, opSecs us k, 0xFFFFFFFF⟩
    let k1 := programRecord r { k with queue := [r] }
    { k1 with pfDone := true }
  | .safetyCopy n b =>
    let secs := opSecs us k
    -- the copy and the CRC-32C over it (R388)
    let copy := b ++ leBytes 4 (crc32c b)
    if n = 1 then { k with flash := markWritten 0x20000 260 secs { k.flash with safety1 := some copy } }
    else { k with flash := markWritten 0x21000 260 secs { k.flash with safety2 := some copy } }
  | .tally kind => { programTally us kind k with lastTally := if kind = 1 then opSecs us k else k.lastTally }
  | .record => match k.queue with
    | [] => k
    | r :: _ => programRecord r k
  | .eraseLog s => { k with flash := { k.flash with log := k.flash.log.filter (·.sector != s) } }
  | .summary left =>
    if left ≤ 1 then { k with flash := { k.flash with
        summary := some (summaryNow us k), summarySlot := (k.flash.summarySlot + 1) % 16 } }
    else requeue (.summary (left - 1)) k
  | .lantern left b =>
    if left ≤ 1 then { k with flash := { k.flash with lantern := some b, lanternSeq := k.flash.lanternSeq + 1 } }
    else requeue (.lantern (left - 1) b) k
  | .image slot left d g =>
    if left ≤ 1 then
      let base := if slot = 0 then 0x600000 else 0xC00000
      let f1 := if slot = 0 then { k.flash with image0 := some d } else { k.flash with image1 := some d }
      let k1 := { k with flash := markWritten base d.length (opSecs us k) f1 }
      programState (fun f => if slot = 0 then { f with startSlot := 0, gen0 := g } else { f with startSlot := 1, gen1 := g }) k1
    else
      requeue (.image slot (left - 1) d g) { k with flash := slotGone slot k.flash }
  | .refreshCopy a =>
    requeue (.refreshBegun a) { k with refreshing := true, flash := { k.flash with refreshBuf := (k.flash.refreshBuf + 1) % 16 } }
  | .refreshBegun a => requeue (.refreshWrite a) (programState (fun f => { f with openRefresh := some a }) k)
  | .refreshWrite a => requeue (.refreshDone a) { k with flash := { k.flash with written := upsert k.flash.written a (opSecs us k) } }
  | .refreshDone _ => { programState (fun f => { f with openRefresh := none }) k with refreshing := false }

/-- What a unit that failed twice leaves (R494): a log sector is retired, any other partition keeps its other copy. -/
def unitFailed (u : FlashUnit) (k : KeepState) : KeepState :=
  match u with
  | .record | .pfRecord | .eraseLog _ =>
    let s := match u with
      | .eraseLog s => s
      | _ => k.flash.sector
    let ret := if k.flash.retired.contains s then k.flash.retired else k.flash.retired ++ [s]
    let f := { k.flash with retired := ret, log := k.flash.log.filter (·.sector != s) }
    let f1 := if s = f.sector then { f with sector := nextSector f 1000 s, off := 0 } else f
    { k with flash := f1, flashErr := true, st := if logSectors f1 < 100 * f1.retired.length then 2 else k.st }
  | .pfEnd _ => { k with flashErr := true, pfDone := true }
  | _ => { k with flashErr := true }

/-- A flash unit completes, verified or not, and the next unit starts (R486, R494). -/
def flashUnitDone (us : Nat) (ok : Bool) (k : KeepState) : KeepState :=
  match k.busy with
  | none => startUnit k
  | some (u, second) =>
    if ok then startUnit (unitEffect us u { k with busy := none })
    else if second then startUnit (unitFailed u { k with busy := none })
    else { k with busy := some (u, true) }

/-- The power-fail sequence of Keep (R495): a page program in progress completes; an erase, and every longer write, is given up; records that are
no integrity records are dropped; a TALLY entry, the integrity records and POWER_FAIL follow. -/
def keepPowerFail (k : KeepState) : KeepState :=
  if k.st = 3 then { k with pfail := true, pfDone := true }
  else
    let head := match k.busy with
      | some (.record, _) => k.queue.take 1
      | _ => []
    let rest := k.queue.drop head.length
    let kept := rest.filter (·.integrity)
    let gone := rest.length - kept.length
    let busy := match k.busy with
      | some (.record, b) => some (FlashUnit.record, b)
      | some (.tally n, b) => some (.tally n, b)
      | some (.safetyCopy n d, b) => some (.safetyCopy n d, b)
      | _ => none
    let copies := k.units.filter fun u => u.prio == 2
    let flash := match k.busy with
      | some (.image slot _ _ _, _) => slotGone slot k.flash
      | _ => k.flash
    let k1 := { k with
      pfail := true, flash := flash, queue := head ++ kept, dropQueue := satAdd 0xFFFF k.dropQueue gone, busy := busy, refreshing := false
      units := [.pfTally] ++ List.replicate kept.length .pfRecord ++ [.pfEnd gone] ++ copies }
    startUnit k1

/-- Start-up of Keep at a release of domain 0 reset (R484, R487, R493, R498): `scan` is false while SFDP is not read. -/
def keepStart (f0 : FlashState) : KeepState :=
  match f0.capacity with
  | none => { flash := f0, st := 3 }
  | some _ =>
    let last := f0.tally.getD ⟨0, 0, 1⟩
    let count := last.count + 1 + f0.tallyTorn
    let base := last.secs
    let sm := f0.summary
    let f := f0
    let k : KeepState :=
      { flash := f, st := 1, powerCycle := count, opBase := base, nextIndex := f.lastIndex + 1
        tornFound := f.torn.isSome, torn := b2n f.torn.isSome
        summaryMissing := sm.isNone
        hists := (sm.map (·.hists)).getD histsZero
        extremes := (sm.map (·.extremes)).getD []
        lastTally := base, lastSummary := base }
    k

/-- An open refresh is restored from its buffer (R501); then the TALLY entry, the RECOVERY record of R493 and the POWER_ON record of Table 18.3. -/
def keepStartRecords (role modStrap stepping : Nat) (k : KeepState) : KeepState :=
  let ka := match k.flash.openRefresh with
    | some a => addUnit (.refreshWrite a) { k with refreshing := true }
    | none => k
  let k0 := addUnit (.tally 0) ka
  let k1 := match k.flash.torn with
    | some (s, o, ix) => (keepEnqueue 0 0xFFFFFFFF 13 0 true (leBytes 4 (0x01200000 + 4096 * s + o) ++ leBytes 4 ix) k0).1
    | none => k0
  let sumSecs := (k.flash.summary.map (·.secs)).getD 0
  (keepEnqueue 0 0xFFFFFFFF 1 0 true (leBytes 4 k.powerCycle ++ leBytes 4 k.opBase ++ leBytes 4 sumSecs ++
    [BitVec.ofNat 8 role, BitVec.ofNat 8 modStrap, BitVec.ofNat 8 stepping, 0]) k1).1

/-- What a loss of power leaves in the flash: the unit in progress is torn (R493). A torn TALLY or STATE entry keeps its position (R487, R500). -/
def flashAfterLoss (k : KeepState) : FlashState :=
  let tornTally := { k.flash with tallyTorn := k.flash.tallyTorn + 1, tallyPos := k.flash.tallyPos + 1 }
  match k.busy with
  | some (.tally _, _) => tornTally
  | some (.pfTally, _) => tornTally
  | some (.refreshBegun _, _) => { k.flash with statePos := k.flash.statePos + 1 }
  | some (.refreshDone _, _) => { k.flash with statePos := k.flash.statePos + 1 }
  | some (.image slot _ _ _, _) => slotGone slot k.flash
  | some (.record, _) => { k.flash with torn := some (k.flash.sector, k.flash.off, k.nextIndex) }
  | some (.pfRecord, _) => { k.flash with torn := some (k.flash.sector, k.flash.off, k.nextIndex) }
  | some (.pfEnd _, _) => { k.flash with torn := some (k.flash.sector, k.flash.off, k.nextIndex) }
  | some (.safetyCopy n _, _) => if n = 1 then { k.flash with safety1 := none } else { k.flash with safety2 := none }
  | _ => k.flash

/-- The oldest retained record; 0 when the log is empty (R503). -/
def oldestIndex (k : KeepState) : Nat := (k.flash.log.head?.map (·.index)).getD 0

/-- KEEP_STATUS (Table 18.7). -/
def keepStatusWord (us : Nat) (k : KeepState) : Nat :=
  atF 29 3 k.st + at1 28 (k.flash.capacity == some true) + at1 27 (decide (budgetAt us k < 6480000)) + at1 26 k.refreshing +
  at1 25 k.summaryMissing + at1 24 k.tornFound + at1 23 k.flashErr + at1 22 (k.pfail && !k.pfDone) +
  atF 0 16 (min 0xFFFF (queuedBytes k / 4))

/-- The records KEEP_READ returns (R502): whole records of a type from FIRST on, up to a byte limit. -/
def keepSelect (typ first maxBytes : Nat) (k : KeepState) : List LogRec :=
  let cand := k.flash.log.filter fun r => decide (first ≤ r.index) && (decide (typ = 0) || r.typ == typ)
  (cand.foldl (fun (acc : List LogRec × Nat × Bool) r =>
    if acc.2.2 ∧ acc.2.1 + r.raw.length ≤ maxBytes then (acc.1 ++ [r], acc.2.1 + r.raw.length, true)
    else (acc.1, acc.2.1, false)) ([], 0, true)).1

/-- The reply of KEEP_READ (Table 17.7). -/
def keepReadReply (typ first maxBytes : Nat) (k : KeepState) : Bytes :=
  let rs := keepSelect typ first maxBytes k
  leBytes 4 ((rs.head?.map (·.index)).getD 0) ++ leBytes 2 rs.length ++ zeroBytes 2 ++ (rs.map (·.raw)).flatten

/-- Add `n` to a bin of histogram `id` (1 to 28), if it exists (R496). -/
def histAdd (ident bin n : Nat) (h : List (List Nat)) : List (List Nat) :=
  listMod h (ident - 1) fun bins => listMod bins bin (· + n)

/-- The bin of a temperature (Table 18.4). -/
def tempBin (t : Int) : Nat :=
  if t < -40 then 0 else if 125 ≤ t then 34 else ((t + 40) / 5).toNat + 1

/-- The bin of a distance or angle in units of 0.1, 31 bins (Table 18.4). -/
def tenthBin (x : ℚ) : Nat := min 30 (floorQ (absQ x * 10)).toNat

/-- The bin of |t_cmd| / RATED_FWD: 0 out of the allocation, else 1 to 10 (Table 18.4). -/
def thrustBin (inAlloc : Bool) (ratio : ℚ) : Nat :=
  if !inAlloc then 0 else min 10 ((floorQ (absQ ratio * 10)).toNat + 1)

/-- A candidate extreme (R497): the entry is updated at every new extreme, and an EXTREME record is asked for beyond STEP. -/
def extremeStep (ident kind : Nat) (value step : Int) (count secs : Nat) (es : List Extreme) : List Extreme × Option Bytes :=
  let entry (v : Int) : Bytes := leBytes 2 ident ++ [BitVec.ofNat 8 kind, 0] ++ leSigned 4 v ++ leBytes 4 count ++ leBytes 4 secs
  match es.find? (fun e => e.ident == ident && e.kind == kind) with
  | none => (es ++ [⟨ident, kind, value, count, secs, some value⟩], some (entry value))
  | some e =>
    let better := if kind = 0 then decide (e.value < value) else decide (value < e.value)
    if !better then (es, none)
    else
      let far := match e.lastRec with
        | none => true
        | some r => if kind = 0 then decide (r + step ≤ value) else decide (value + step ≤ r)
      let e1 : Extreme := { e with value := value, cycles := count, secs := secs, lastRec := if far then some value else e.lastRec }
      (es.map (fun x => if x.ident == ident && x.kind == kind then e1 else x), if far then some (entry value) else none)

/-- The HISTOGRAM records of one histogram: at most 56 bins each (R496). -/
def histRecords (ident : Nat) (bins : List Nat) : List Bytes :=
  (List.range ((bins.length + 55) / 56)).map fun j =>
    let part := (bins.drop (56 * j)).take 56
    leBytes 2 ident ++ [BitVec.ofNat 8 (56 * j), BitVec.ofNat 8 part.length] ++ (part.map (leBytes 4)).flatten

end Sys2Proof.Machine
end

