-- ==== Sys2Proof/Machine/Memory.lean ====
section
/-! DEFINITION. The memory of one lane as a list of cells in one canonical form: addresses strictly rising, no cell equal to what an unlisted address reads as. -/

namespace Sys2Proof.Machine

/-- The cells of a lane's memory, by the addresses of Table 1.6. -/
abbrev Memory := List Host.Cell

/-- What a byte that nothing has written reads as: the spec gives RAM no reset contents (log entry 54). -/
def Memory.blank : Byte := 0

/-- The canonical form. -/
def Memory.wfFrom : Nat → Memory → Bool
  | _, [] => true
  | lo, (a, b) :: m => decide (lo ≤ a) && b != Memory.blank && Memory.wfFrom (a + 1) m

def Memory.wf (m : Memory) : Bool := Memory.wfFrom 0 m

/-- The byte at an address. -/
def Memory.read : Memory → Nat → Byte
  | [], _ => Memory.blank
  | (a, b) :: m, x => if x = a then b else Memory.read m x

/-- The memory with one byte written. -/
def Memory.write : Memory → Nat → Byte → Memory
  | [], x, v => if v = Memory.blank then [] else [(x, v)]
  | (a, b) :: m, x, v =>
    if x < a then (if v = Memory.blank then (a, b) :: m else (x, v) :: (a, b) :: m)
    else if x = a then (if v = Memory.blank then m else (x, v) :: m)
    else (a, b) :: Memory.write m x v

/-- The bytes of a string written from an address on, each at the next address. -/
def Memory.store (m : Memory) (x : Nat) : Bytes → Memory
  | [] => m
  | b :: bs => Memory.store (m.write x b) (x + 1) bs

/-- `n` bytes from an address. -/
def Memory.load (m : Memory) (x : Nat) : Nat → Bytes
  | 0 => []
  | n + 1 => m.read x :: Memory.load m (x + 1) n

end Sys2Proof.Machine
end

