-- ==== Sys2Proof/Machine/PowerUnit.lean ====
section
/-! DEFINITION. Power domains, inrush budget, start-up, power failure, temperatures (chapters 01 and 21), the Watchtower's memory registers, and the test access port. -/

namespace Sys2Proof.Machine

/-- A domain that waits for admission under R532, and whether its wait has been counted. -/
structure WaitDom where
  dom     : Nat
  counted : Bool := false
  deriving DecidableEq, Repr, Inhabited

/-- A domain that is waking: the window in which it was admitted. -/
structure WakeDom where
  dom    : Nat
  window : Nat
  deriving DecidableEq, Repr, Inhabited

/-- How far a lane has come in start-up (Table 21.3). -/
structure LaneStart where
  tested   : Bool := false
  /-- Consecutive cycles with |BLF_LANE_DEV| within 100 ns (R539). -/
  steered  : Nat := 0
  /-- What the lane's tick steers to: 0 Belfry, 1 the other lane, 2 the time master over the Baique link, 3 nothing (R160, R161). -/
  tickRef  : Nat := 0
  /-- Its deviation from that, ns, and the correction of its fractional divider, ns per cycle. -/
  tickDev  : Int := 0
  tickCorr : ℚ := 0
  deriving DecidableEq, Repr, Inhabited

/-- Power, straps and start-up of one module. -/
structure PowerState where
  /-- Domains that are on (Table 1.5). -/
  on       : Vector Bool 16 := Vector.replicate 16 false
  waiting  : List WaitDom := []
  waking   : List WakeDom := []
  /-- Straps and fuses as sampled (R586). -/
  role     : Nat := 0
  module   : Nat := 0
  nx       : Bool := false
  stepping : Nat := 0
  dram     : Vector (Nat × Nat) 2 := Vector.replicate 2 (0, 0)
  booted   : Bool := false
  blackout : Bool := false
  starts   : Vector LaneStart 2 := Vector.replicate 2 {}
  /-- The origin is fixed and the first boundary has fallen (R153). -/
  origin   : Bool := false
  pfail    : Bool := false
  holdup   : Bool := false
  vholdMv  : Nat := 0
  /-- Die temperatures in degrees C: Lane A, Lane B, Sky, Watchtower. -/
  temps    : Vector Int 4 := Vector.replicate 4 25
  trip     : Vector Bool 3 := Vector.replicate 3 false
  wtMem    : MemRegs := {}
  /-- A lane's core supply has failed (R400). -/
  lost     : Vector Bool 2 := Vector.replicate 2 false
  deriving DecidableEq, Repr, Inhabited

/-- The rail of a domain: 0 VDD_LA, 1 VDD_LB, 2 VDD_SKY, 3 VDDA_RF; INRUSH in 0.1 A; WAKE in windows of 100 µs; priority (Table 21.1). -/
def inrushOf (d : Nat) : Option (Nat × Nat × Nat × Nat) :=
  match d with
  | 2 => some (3, 5, 1, 1)
  | 3 => some (2, 8, 2, 1)
  | 4 => some (0, 9, 3, 1)
  | 9 => some (0, 6, 2, 2)
  | 8 => some (0, 4, 1, 3)
  | 7 => some (0, 5, 2, 4)
  | 5 => some (0, 7, 2, 5)
  | 6 => some (0, 11, 3, 6)
  | 10 => some (1, 9, 3, 1)
  | 15 => some (1, 6, 2, 2)
  | 14 => some (1, 4, 1, 3)
  | 13 => some (1, 5, 2, 4)
  | 11 => some (1, 7, 2, 5)
  | 12 => some (1, 11, 3, 6)
  | _ => none

/-- The six domains of a lane. -/
def laneDomains (l : LaneId) : List Nat := (List.range 6).map fun k => 4 + 6 * l.num + k
/-- The islands of a lane's domain, as PMU_VIOL_LAST numbers them (Table 1.5). -/
def domainIslands (d : Nat) : List Nat :=
  match d % 6 with
  | 4 => [0, 8]
  | 5 => [1]
  | 0 => [2]
  | 1 => [3, 4]
  | 2 => [5, 6]
  | _ => [7]
/-- The domain of an island in a lane. -/
def islandDomain (l : LaneId) (i : Nat) : Nat :=
  6 * l.num + match i with
    | 0 => 4 | 8 => 4 | 1 => 5 | 2 => 6 | 3 => 7 | 4 => 7 | 5 => 8 | 6 => 8 | _ => 9

/-- Domains that the role wakes at start-up (Table 1.5, R537, R587). -/
def roleDomains (role : Nat) (nx : Bool) : List Nat :=
  if nx ∨ role = 2 then [4, 8] else match role with
    | 0 => (List.range 14).map (· + 2)
    | 1 => [4, 10]
    | _ => []

def PowerState.isOn (p : PowerState) (d : Nat) : Bool := vget p.on d
/-- The lane's management domain is on. -/
def PowerState.laneOn (p : PowerState) (l : LaneId) : Bool := p.isOn (4 + 6 * l.num)
/-- The island's domain is on (R39). -/
def PowerState.islandOn (p : PowerState) (l : LaneId) (i : Nat) : Bool := p.isOn (islandDomain l i)
/-- The Sky die's baseband is on. -/
def PowerState.skyOn (p : PowerState) : Bool := p.isOn 3 && !p.nx

/-- A wake-up is requested for each domain that is off and not yet waking. -/
def wakeRequest (ds : List Nat) (p : PowerState) : PowerState :=
  let need := ds.filter fun d => !p.isOn d && !(p.waiting.any (·.dom == d)) && !(p.waking.any (·.dom == d))
  { p with waiting := p.waiting ++ need.map fun d => { dom := d } }

/-- Domains are switched off (R531). -/
def switchOff (ds : List Nat) (p : PowerState) : PowerState :=
  { p with on := Vector.ofFn fun i => p.on[i] && !(ds.contains i.val),
           waiting := p.waiting.filter fun w => !(ds.contains w.dom), waking := p.waking.filter fun w => !(ds.contains w.dom) }

/-- The load of a rail in a window, 0.1 A, from the domains admitted so far. -/
def railLoad (rail window : Nat) (ws : List WakeDom) : Nat :=
  (ws.map fun w => match inrushOf w.dom with
    | some (r, i, n, _) => if r = rail ∧ w.window ≤ window ∧ window < w.window + n then i else 0
    | none => 0).sum

/-- Whether a domain may be admitted at the start of `window` (R532). -/
def mayAdmit (window d : Nat) (ws : List WakeDom) : Bool :=
  match inrushOf d with
  | none => true
  | some (r, i, n, _) => (List.range n).all fun k => decide (railLoad r (window + k) ws + i ≤ 15)

/-- The admissions of one rail, in priority order, stopping at the first domain that must wait. -/
def admitRail (window rail : Nat) : List WaitDom → List WakeDom → List WakeDom
  | [], ws => ws
  | d :: ds, ws => if mayAdmit window d.dom ws then admitRail window rail ds (ws ++ [⟨d.dom, window⟩]) else ws

/-- The waiting domains of a rail, the lowest priority number first. -/
def railQueue (rail : Nat) (p : PowerState) : List WaitDom :=
  (List.range 7).flatMap fun pr => p.waiting.filter fun w => match inrushOf w.dom with
    | some (r, _, _, q) => r == rail && q == pr
    | none => false

/-- At the start of a 100 µs window waiting domains are admitted (R532). Answers the domains whose wait is counted now. -/
def inrushAdmit (us : Nat) (p : PowerState) : PowerState × List Nat :=
  let window := us / 100
  let ws := [0, 1, 2, 3].foldl (fun acc r => admitRail window r (railQueue r p) acc) p.waking
  let left := p.waiting.filter fun w => !(ws.any (·.dom == w.dom))
  let counted := (left.filter fun w => !w.counted).map (·.dom)
  ({ p with waking := ws, waiting := left.map fun w => { w with counted := true } }, counted)

/-- A waking domain whose wake time has passed is on; its queues leave reset (R531). -/
def wakeDone (us d : Nat) (p : PowerState) : PowerState × Bool :=
  match p.waking.find? (·.dom == d), inrushOf d with
  | some w, some (_, _, n, _) =>
    if (w.window + n) * 100 ≤ us then
      ({ p with waking := p.waking.filter (·.dom != d), on := vmodN p.on d fun _ => true }, true)
    else (p, false)
  | _, _ => (p, false)

/-- A die is at or above 120 °C (R549). Dies: 0 Lane A, 1 Lane B, 2 Sky, 3 Watchtower. -/
def dieHot (p : PowerState) (k : Nat) : Bool := decide (120 ≤ vget p.temps k)

/-- WT_PWR_DOMAIN (Table 21.4). -/
def pwrDomainWord (p : PowerState) : Nat :=
  ((List.range 16).map fun d => at1 (16 + d) (p.waiting.any (·.dom == d)) + at1 d (p.isOn d)).sum
/-- WT_PWR_TEMP (Table 21.4). -/
def pwrTempWord (p : PowerState) : Nat :=
  ofSigned 8 (vget p.temps 3) * 2 ^ 24 + ofSigned 8 (vget p.temps 2) * 2 ^ 16 + ofSigned 8 (vget p.temps 1) * 2 ^ 8 + ofSigned 8 (vget p.temps 0)

/-- START_PHASE (Table 21.5): `image` the image step is complete, `run` a lane runs the control path. -/
def startPhase (image run : Bool) (p : PowerState) : Nat :=
  if !p.booted then 0
  else if run then 6
  else if !p.waiting.isEmpty || !p.waking.isEmpty then 1
  else if !image then 2
  else if !((vget p.starts 0).tested || (vget p.starts 1).tested) then 3
  else if !p.origin then 4
  else 5

/-- WT_PWR_STATUS (Table 21.5). -/
def pwrStatusWord (image run done : Bool) (p : PowerState) : Nat :=
  atF 30 2 (b2n p.blackout) + atF 27 3 (startPhase image run p) + at1 26 p.pfail + at1 25 p.holdup + at1 24 (decide (8000 ≤ p.vholdMv)) + at1 23 (p.pfail && done) +
    at1 22 (dieHot p 3) + at1 21 (dieHot p 2) + at1 20 (dieHot p 1) + at1 19 (dieHot p 0) + at1 18 (vget p.trip 2) + at1 17 (vget p.trip 1) + at1 16 (vget p.trip 0)

/-! Memory protection (chapter 22). -/

/-- What Table 22.3 does at once with an uncorrectable error of a region. -/
structure MemFx where
  unhealthy : Bool := false
  busError  : Bool := false
  deriving Repr, Inhabited

/-- UNHEALTHY by region code and whether a demand read found it (Table 22.3). -/
def regionUnhealthy (region : Nat) (demand : Bool) : Bool :=
  match region with
  | 1 => demand | 3 => demand
  | 2 => true | 4 => true | 5 => true | 9 => true | 10 => true | 11 => true | 12 => true
  | 15 => demand
  | _ => false

/-- MEMORY record payload (R562). -/
def memoryRecord (kind region initiator addr info : Nat) : Bytes :=
  leBytes 1 kind ++ leBytes 1 region ++ leBytes 1 initiator ++ leBytes 1 0 ++ leBytes 8 addr ++ leBytes 4 info

/-- Corrected symbols of a location; a scrub correction in 3 consecutive passes is persistent (R557). Answers the registers and whether a MEMORY record of kind 0 is written. -/
def memCorrected (secs region addr n pass : Nat) (scrub : Bool) (m : MemRegs) : MemRegs × Bool :=
  let m1 := { m with ce := satAdd 0xFFFFFFFF m.ce n, ceAny := true }
  if !scrub then (m1, false)
  else
    let old := m1.hits.find? fun h => h.addr == addr && h.region == region
    let h : ScrubHit := match old with
      | some o => { o with passes := if o.lastPass + 1 = pass then o.passes + 1 else if o.lastPass = pass then o.passes else 1, lastPass := pass }
      | none => ⟨addr, region, 1, pass, none⟩
    let due := decide (3 ≤ h.passes) && (match h.recorded with
      | some t => decide (t + 3600 ≤ secs)
      | none => true)
    let h1 := if due then { h with recorded := some secs } else h
    ({ m1 with hits := h1 :: m1.hits.filter (fun x => !(x.addr == addr && x.region == region)), persistent := m1.persistent || decide (3 ≤ h.passes) }, due)

/-- An uncorrectable error enters the registers (R558). -/
def memBad (addr info : Nat) (m : MemRegs) : MemRegs :=
  { m with ue := satAdd 0xFFFFFFFF m.ue 1, ueAny := true, errAddr := addr, errInfo := info }

/-- Usable 4 KiB pages of an installed memory code (Table 22.1, R553). -/
def usablePages (installed : Nat) : Nat := if installed = 0 then 0 else 2 ^ (29 + installed) / 4608

/-! The test access port (R593). -/

/-- The TAP: EXTEST in force, the chain as shifted, and the values last updated. -/
structure JtagState where
  extest : Bool := false
  chain  : List Bool := []
  latch  : List Bool := []
  deriving DecidableEq, Repr, Inhabited

/-- Length of the chain over the dies that are powered and fitted (R593). -/
def chainLength (p : PowerState) : Nat :=
  Config.scanCells 0 + (if p.laneOn .A then Config.scanCells 1 else 0) + (if p.laneOn .B then Config.scanCells 2 else 0) +
    (if p.skyOn then Config.scanCells 3 else 0)

/-- The levels that an update under EXTEST drives on the STO outputs. -/
def extestOutputs (latch : List Bool) : List Effect :=
  [SafeChan.A, SafeChan.B].flatMap fun c => (List.range 16).map fun n =>
    .out (.sto c (n + 1) (latch.getD (Config.stoCell (match c with | .A => 0 | .B => 1) n) false))

def jtagStep (p : PowerState) (op : JtagOp) (j : JtagState) : JtagState × List Effect :=
  match op with
  | .reset => ({ extest := false, chain := j.chain, latch := [] }, [])
  | .instruction e => ({ j with extest := e }, if e then extestOutputs j.latch else [])
  | .shift b =>
    let n := chainLength p
    let c := (b :: j.chain).take (n + 1)
    ({ j with chain := c.take n }, [.out (.tdo (c.getLast?.getD b))])
  | .update => ({ j with latch := j.chain }, if j.extest then extestOutputs j.chain else [])

end Sys2Proof.Machine
end

