-- ==== Sys2Proof/Machine/QueueUnit.lean ====
section
/-! DEFINITION. The handshake queues of a lane (Table 1.3): their entries and depths, what a consumer takes, and the transfers of Q04 to Q09 as their consumers read them. -/

namespace Sys2Proof.Machine

/-- One entry of a queue. -/
structure QEntry where
  /-- Its place in its transfer. -/
  place : Nat := 0
  /-- 32-bit words, low first. -/
  words : List Nat := []
  /-- The held marker of its transfer (R65), which the layouts of Q04, Q08 and Q09 give no bit (log entry 66). -/
  held  : Bool := false
  /-- A channel update on Q02 or Q03, whose entries the spec gives no layout (log entry 66). -/
  upd   : Option ChanUpdate := none
  /-- The summary of a filter island on Q02, with its cycle (R183, log entry 66). -/
  sums  : Option (Nat × List InSummary) := none
  /-- The entries of the queue that it occupies: a channel update on Q02 two (R176), a summary two for each input. -/
  span  : Nat := 1
  deriving DecidableEq, Repr, Inhabited

/-- One queue: the entries that wait, oldest first, and the newest entry of each place of a transfer that its consumer has taken. -/
structure Queue where
  waiting : List QEntry := []
  taken   : List QEntry := []
  deriving DecidableEq, Repr, Inhabited

/-- Entries of the queue that wait. -/
def Queue.fill (q : Queue) : Nat := (q.waiting.map (·.span)).sum

/-- Depth of Q01 to Q16 (Table 1.3); Q11 and Q12 stand for the pair of one island. -/
def qDepth (q : Nat) : Nat := [0, 16, 32, 64, 32, 16, 16, 16, 8, 8, 32, 64, 64, 32, 32, 64, 64].getD q 0

/-- What the consumer of a queue holds once it has taken every entry that waits, each once, oldest first (R29). -/
def Queue.got (q : Queue) : List QEntry := q.waiting.foldl (fun acc e => acc.filter (·.place != e.place) ++ [e]) q.taken
/-- The first entry of a transfer waits. -/
def Queue.fresh (q : Queue) : Bool := q.waiting.any (·.place == 0)
/-- The consumer takes all that waits. -/
def Queue.drain (q : Queue) : Queue := { waiting := [], taken := q.got }
/-- The entries for one place that lie beyond the depth of the queue: each is held by a writer that waits for a free entry (R28). -/
def Queue.beyond (depth place : Nat) (q : Queue) : List QEntry := (q.waiting.filter (·.place == place)).drop depth
/-- The entries that wait are lost. -/
def Queue.lose (q : Queue) : Queue := { q with waiting := [] }

/-- A transfer as queue entries. -/
def qTransfer (held : Bool) (ws : List (List Nat)) : List QEntry := ws.zipIdx.map fun p => { place := p.2, words := p.1, held := held }

/-! Reading a transfer. -/

/-- Word `k` of the entry at a place; 0 where none has been taken. -/
def qWord (es : List QEntry) (place k : Nat) : Nat := ((es.find? (·.place == place)).map (·.words.getD k 0)).getD 0
/-- A Q16.16 and a Q24.8 word. -/
def qFix (es : List QEntry) (place k : Nat) : ℚ := ofQ 16 (toSigned 32 (qWord es place k))
def qFix8 (es : List QEntry) (place k : Nat) : ℚ := ofQ 8 (toSigned 32 (qWord es place k))
/-- The held marker of a transfer. -/
def qHeld (es : List QEntry) : Bool := es.any fun e => e.place == 0 && e.held

/-- Table 8.7. -/
def q04Read (es : List QEntry) : Q04 :=
  let f := qWord es 0 1
  let m := qWord es 0 3
  { cycle := qWord es 0 0, empty := bitOf 0 f, posNone := bitOf 1 f, hdgNone := bitOf 2 f, attUncomp := bitOf 3 f, velNone := bitOf 4 f,
    posConflict := bitOf 5 f, hdgConflict := bitOf 6 f, motionConflict := bitOf 7 f, predHeld := bitOf 8 f, predNone := bitOf 9 f,
    posMask := bitsOf 7 0 m, hdgMask := bitsOf 13 8 m, motMask := bitsOf 19 16 m, velCount := bitsOf 7 0 (qWord es 0 2),
    n := qFix es 1 0, e := qFix es 1 1, varN := qFix es 1 2, varE := qFix es 1 3, covNE := qFix es 2 0, age := qWord es 2 1,
    hdg := qFix es 3 0, hdgVar := qFix es 3 1, vn := qFix es 4 0, ve := qFix es 4 1, varVn := qFix es 4 2, varVe := qFix es 4 3,
    roll := qFix es 5 0, pitch := qFix es 5 1, heave := qFix es 5 2 }

/-- The words of Q05 (Table 9.4). -/
def q05Words (p : Prediction) : List (List Nat) :=
  let w (x : ℚ) : Nat := ofSigned 32 (toQ16 x)
  [[p.cycle, at1 0 (decide (p.held ≠ 0)) + atF 4 4 p.held + at1 8 p.none_, w p.hdg, w p.hdgVar], [w p.n, w p.e, w p.varN, w p.varE],
   [w p.covNE, w p.vn, w p.ve, 0]]

/-- A prediction; none before the first transfer. -/
def q05Read (es : List QEntry) : Prediction :=
  let f := qWord es 0 1
  { cycle := qWord es 0 0, held := bitsOf 7 4 f, none_ := es.isEmpty || bitOf 8 f, hdg := qFix es 0 2, hdgVar := qFix es 0 3,
    n := qFix es 1 0, e := qFix es 1 1, varN := qFix es 1 2, varE := qFix es 1 3, covNE := qFix es 2 0, vn := qFix es 2 1, ve := qFix es 2 2 }

/-- Table 9.3; INIT before the first transfer. -/
def q06Read (es : List QEntry) : Q06 :=
  let f := qWord es 0 1
  { cycle := qWord es 0 0, held := bitOf 0 f, init := es.isEmpty || bitOf 1 f, posDr := bitOf 2 f, hdgDr := bitOf 3 f, posExp := bitOf 4 f,
    hdgExp := bitOf 5 f, stretch := bitOf 6 f, ret := bitOf 7 f, waveSet := bitsOf 11 8 f, missed := bitsOf 15 12 f,
    hdg := qFix es 0 2, r := qFix es 0 3, n := qFix es 1 0, e := qFix es 1 1, u := qFix es 1 2, v := qFix es 1 3,
    bx := qFix es 2 0, by_ := qFix es 2 1, bn := qFix8 es 2 2, posGap := bitsOf 31 16 (qWord es 2 3), hdgGap := bitsOf 15 0 (qWord es 2 3),
    wn := qFix es 3 0, we := qFix es 3 1, wh := qFix es 3 2, roll := qFix es 4 0, rollRate := qFix es 4 1, sdPos := qFix es 4 2, sdHdg := qFix es 4 3 }

/-- Table 10.10; zero demand in STANDBY before the first transfer (R66). -/
def q07Read (es : List QEntry) : Q07 :=
  let f := qWord es 0 1
  let g := qWord es 0 2
  { cycle := qWord es 0 0, mode := bitsOf 2 0 f, axes := bitsOf 8 3 f, held := bitOf 9 f, standby := es.isEmpty || bitOf 10 f, blend := bitOf 11 f,
    sat := #v[bitOf 12 f, bitOf 13 f, bitOf 14 f], windNone := bitOf 15 f, rollDamp := bitOf 16 f, posFrozen := bitOf 17 f, yawFrozen := bitOf 18 f,
    region := bitsOf 7 0 g, gainSet := bitsOf 13 8 g, waveSet := bitsOf 17 14 g, band := bitsOf 20 18 g, cls := bitsOf 23 21 g, regime := bitsOf 25 24 g,
    tau := ⟨qFix es 1 0, qFix es 1 1, qFix8 es 1 2⟩, tauRd := qFix es 1 3, ff := ⟨qFix es 2 0, qFix es 2 1, qFix8 es 2 2⟩ }

/-- The 64-bit entries of Q08 as words (R187), and read back. -/
def q08Words (q : List Nat) : List (List Nat) := q.map fun n => [n % 2 ^ 32, n / 2 ^ 32 % 2 ^ 32]
def q08Read (es : List QEntry) : List Nat := (List.range 8).map fun k => qWord es k 0 + 2 ^ 32 * qWord es k 1

/-- The two 64-bit entries of Q09 (R216). -/
def q09Words (q : Q09) : List (List Nat) :=
  let w (x : ℚ) : Nat := ofSigned 32 (toQ16 x)
  [[w q.windDir, w q.windSpeed],
   [at1 0 q.windNone + at1 1 q.windConflict + at1 2 q.posConflict + at1 3 q.hdgConflict + at1 4 q.posNone + at1 5 q.hdgNone,
    atF 24 8 q.windN + atF 16 8 q.accPos + atF 8 8 q.accHdg + atF 0 8 q.accMot]]

/-- Q09 as the control engine reads it; no wind and no reference before the first transfer. -/
def q09Read (es : List QEntry) : Q09 :=
  let f := qWord es 1 0
  let c := qWord es 1 1
  if es.isEmpty then {}
  else
    { windSpeed := qFix es 0 1, windDir := qFix es 0 0, windN := bitsOf 31 24 c, accPos := bitsOf 23 16 c, accHdg := bitsOf 15 8 c, accMot := bitsOf 7 0 c,
      windNone := bitOf 0 f, windConflict := bitOf 1 f, posConflict := bitOf 2 f, hdgConflict := bitOf 3 f, posNone := bitOf 4 f, hdgNone := bitOf 5 f,
      held := qHeld es }

/-- A change of site origin moves the prediction that Cupola holds or is about to take (R193). -/
def Queue.shiftPred (dn de : ℚ) (q : Queue) : Queue :=
  let w (x : Nat) (d : ℚ) : Nat := ofSigned 32 (toQ16 (ofQ 16 (toSigned 32 x) + d))
  let f (e : QEntry) : QEntry := if e.place = 1 then { e with words := listMod (listMod e.words 0 (w · dn)) 1 (w · de) } else e
  { waiting := q.waiting.map f, taken := q.taken.map f }

/-! The snapshot stream of Q01: an entry of the buffer is four queue entries (R32). -/

/-- The store entry of its 64 bytes (Tables 4.10 and 4.11). -/
def storeOf (b : Bytes) : StoreEntry :=
  let st := u16 b 52
  { value := Vector.ofFn fun k => u32 b (4 * k.val), meas := u64 b 32, capture := u64 b 40, seq := u32 b 48, empty := bitOf 15 st, fromBridge := bitOf 14 st,
    srcTime := bitOf 13 st, lateApplied := bitOf 12 st, saturated := bitOf 11 st, port := bitsOf 4 0 st, quality := u16 b 54, stampTick := u16 b 56 }

/-- The four entries of channel `ch`. -/
def q01Entries (ch : Nat) (e : StoreEntry) : List QEntry :=
  let b := storeBytes e
  (List.range 4).map fun j => { place := 4 * ch + j, words := (List.range 4).map fun k => u32 b (16 * j + 4 * k) }

/-- Channel `ch` of the entries taken, when all four have come. -/
def q01Channel (es : List QEntry) (ch : Nat) : Option StoreEntry :=
  if ([0, 1, 2, 3] : List Nat).all fun j => es.any (·.place == 4 * ch + j) then
    some (storeOf ((List.range 16).flatMap fun k => leBytes 4 (qWord es (4 * ch + k / 4) (k % 4))))
  else none

end Sys2Proof.Machine
end

