-- ==== Sys2Proof/Machine/SafetyUnit.lean ====
section
/-! DEFINITION. The safety island (chapter 14): two channels, zones, latches, test pulses, safe messages, proof tests, the parameter block, registers. Times are µs of Watchtower time. -/

namespace Sys2Proof.Machine

/-- One step of the reflected CRC-32, polynomial 0x04C1_1DB7 (R385). -/
def crc32Bit (c : BitVec 32) : BitVec 32 := if c.getLsbD 0 then (c >>> 1) ^^^ 0xEDB88320#32 else c >>> 1
def crc32Byte (c : BitVec 32) (b : Byte) : BitVec 32 :=
  crc32Bit (crc32Bit (crc32Bit (crc32Bit (crc32Bit (crc32Bit (crc32Bit (crc32Bit (c ^^^ b.setWidth 32))))))))
def crc32 (b : Bytes) : Nat := ((b.foldl crc32Byte 0xFFFFFFFF#32) ^^^ 0xFFFFFFFF#32).toNat

/-! The block (Table 14.6). Pairs, thrusters, zones and inputs are numbered from 0 here. -/
def sbModule (b : Bytes) := u8 b 2
def sbFilter (b : Bytes) := u8 b 5
def sbIdBase (b : Bytes) := u16 b 6
def sbDiscMs (b : Bytes) := u16 b 8
def sbRestartMs (b : Bytes) := u16 b 10
def sbProofMs (b : Bytes) := u16 b 12
def sbTimeoutMs (b : Bytes) := u8 b 14
def sbStreamDiscMs (b : Bytes) := u8 b 15
def sbFunction (b : Bytes) (p : Nat) := u8 b (16 + p)
def sbUse (b : Bytes) (n : Nat) : Bool := u8 b (24 + n) == 1
def szInput (b : Bytes) (z : Nat) := u8 b (40 + 8 * z)
def szAuto (b : Bytes) (z : Nat) : Bool := u8 b (41 + 8 * z) == 1
def szThr (b : Bytes) (z : Nat) := u16 b (42 + 8 * z)
def szReset (b : Bytes) (z : Nat) := u8 b (44 + 8 * z)
def sbListen (b : Bytes) (m : Nat) : Bool := u8 b (104 + 8 * m) == 1
def sbExpect (b : Bytes) (m : Nat) := u32 b (108 + 8 * m)
def sbThruster (b : Bytes) := u8 b 128
def sbCheck (b : Bytes) := u32 b 252
/-- The check value: the EXPECT_CFG_ID fields taken as zero (R385). -/
def sbCheckValue (b : Bytes) : Nat :=
  crc32 (patchB (patchB (patchB (sliceB (padTo 256 b) 0 252) 108 (zeroBytes 4)) 116 (zeroBytes 4)) 124 (zeroBytes 4))

def orAll (l : List Nat) : Nat := l.foldl (· ||| ·) 0

/-- The offset of the first bad field of a block, or none (R383, R384, R578). -/
def sbBad (node : Bool) (strap : Nat) (b : Bytes) : Option Nat :=
  let chk (l : List (Nat × Bool)) : Option Nat := (l.find? fun x => !x.2).map (·.1)
  let rng (v lo hi : Nat) : Bool := decide (lo ≤ v) && decide (v ≤ hi)
  let zones := (List.range 8).flatMap fun z =>
    [(40 + 8 * z, (List.range 8).all fun p => !bitOf p (szInput b z) || sbFunction b p == 1),
     (41 + 8 * z, rng (u8 b (41 + 8 * z)) 0 1),
     (42 + 8 * z, !node || szThr b z == 0 || bitOf (sbThruster b - 1) (szThr b z) || szInput b z == 0),
     (44 + 8 * z, rng (szReset b z) 0 8 && (szReset b z == 0 || sbFunction b (szReset b z - 1) == 2)
        && (szAuto b z || szReset b z != 0 || (szInput b z == 0 && szThr b z == 0))),
     (45 + 8 * z, allZero b (45 + 8 * z) 3)]
  chk ([(0, u16 b 0 == 1), (2, sbModule b == (if node then 0 else strap)), (3, rng (u8 b 3) 0 1), (4, rng (u8 b 4) 0 5), (5, rng (sbFilter b) 3 15),
        (6, rng (sbIdBase b) 0 0x7F8), (8, rng (sbDiscMs b) 10 500), (10, rng (sbRestartMs b) 100 60000), (12, rng (sbProofMs b) 100 2000),
        (14, rng (sbTimeoutMs b) 6 50), (15, rng (sbStreamDiscMs b) 10 100)] ++
       ((List.range 8).map fun p => (16 + p, rng (sbFunction b p) 0 2)) ++
       ((List.range 16).map fun n => (24 + n, if node then (u8 b (24 + n) == b2n (n == 0)) else rng (u8 b (24 + n)) 0 1)) ++ zones ++
       ((List.range 3).map fun m => (104 + 8 * m, rng (u8 b (104 + 8 * m)) 0 1 && allZero b (105 + 8 * m) 3)) ++
       (if node then
          [(104, (List.range 3).any (sbListen b)), (128, rng (sbThruster b) 1 16),
           (6, decide (sbIdBase b + 8 + 2 * (sbThruster b - 1) + 1 ≤ 0x7FF)), (129, allZero b 129 123)]
        else [(128, allZero b 128 124)]))

/-! State. -/

/-- One stream: a sender's messages on one network as one channel sees them (R376, R377). -/
structure Stream where
  lastSeq : Nat := 0
  /-- A valid message has been taken since start-up or since the last time-out. -/
  seen   : Bool := false
  run    : Nat := 0
  live   : Bool := false
  lastUs : Nat := 0
  remove : Nat := 0
  act    : Nat := 0
  carried : Nat := 0
  safe   : Bool := false
  proof  : Bool := false
  deriving DecidableEq, Repr, Inhabited

/-- What a channel's last safe message said. -/
structure SafeContent where
  sflags : Nat := 0
  remove : Nat := 0
  act    : Nat := 0
  carried : Nat := 0
  deriving DecidableEq, Repr, Inhabited

/-- The CAN FD controller of S-A or S-B, with one transmit buffer (R372, R373, R349). -/
structure SafeCtl where
  tec    : Nat := 0
  rec_   : Nat := 0
  /-- Bus-off. -/
  off    : Bool := false
  /-- Another sender's frame is on the network. -/
  taken  : Bool := false
  /-- The message last formed waits for its frame. -/
  waits  : Bool := false
  /-- A frame of the channel has started, and its end has not been met. -/
  wire   : Bool := false
  deriving DecidableEq, Repr, Inhabited

/-- One safety channel. -/
structure SafeChannel where
  /-- Filtered inputs: bit p set while the pair reads energised (no demand). -/
  energised : Nat := 0
  latch  : Nat := 0xFFFF
  out    : Nat := 0
  /-- The running pulse: pair, and whether a removal cause arose in it. -/
  pulse  : Option (Nat × Bool) := none
  /-- Safety cycle of the last re-energisation of each output. -/
  onCycle : Vector Nat 16 := Vector.replicate 16 0
  streams : Vector Stream 6 := Vector.replicate 6 {}
  /-- Since when a sender's two streams differ; reported. -/
  discSince : Vector (Option Nat) 3 := Vector.replicate 3 none
  discrep : Vector Bool 3 := Vector.replicate 3 false
  /-- Frames started. -/
  seq    : Nat := 0
  /-- The message last formed. -/
  last   : Option SafeContent := none
  can    : SafeCtl := {}
  /-- COMMISSION_EN read asserted since. -/
  commission : Option Nat := none
  ok     : Bool := false
  netUp  : Bool := false
  /-- Own fault: sends nothing (R374). -/
  dead   : Bool := false
  deriving DecidableEq, Repr, Inhabited

/-- A zone (R364, R365). -/
structure ZoneState where
  req    : Bool := false
  act    : Bool := false
  /-- Not yet released since it was last active. -/
  wait   : Bool := false
  since  : Nat := 0
  reset  : Bool := false
  deriving DecidableEq, Repr, Inhabited

/-- The clearing of an input fault: the pair has been read demanding in both channels. -/
structure InputState where
  diffSince : Option Nat := none
  fault  : Bool := false
  bothDemand : Bool := false
  /-- Recognition instants of a demand in A and B, for the record of R391. -/
  demA   : Option Nat := none
  demB   : Option Nat := none
  /-- The demand that lasts has been recorded. -/
  logged : Bool := false
  deriving DecidableEq, Repr, Inhabited

/-- A proof test (R390, R391). `outs` bit 0 A, bit 1 B. Stage 0 pending, 1 A, 2 B, 3 the hold of a USE 0 pair, 4 over, its bit waits for a latch,
7 passed, the outputs held energised until the next safety-cycle start, 8 the same after its latch; on a node (R582) 5 a controller's proof removal of its pair holds, 6 it has ended and the outputs are to read on. -/
structure ProofTest where
  pair   : Nat
  outs   : Nat
  stage  : Nat
  latches : Nat := 0
  startUs : Nat := 0
  failA  : Bool := false
  failB  : Bool := false
  deriving DecidableEq, Repr, Inhabited

/-- The safety island. -/
structure SafetyState where
  state  : Nat := 0
  /-- Safety cycles since start-up; the phase is this modulo 200. -/
  cycle  : Nat := 0
  cycleUs : Nat := 0
  startLeft : Nat := 0
  a      : SafeChannel := {}
  b      : SafeChannel := {}
  inputs : Vector InputState 8 := Vector.replicate 8 {}
  zones  : Vector ZoneState 8 := Vector.replicate 8 {}
  pairFault : Nat := 0
  /-- Pairs not in use of which an output reads on: their off-state read-back fails when they become used (R388, R392). -/
  offBad : Nat := 0
  proofs : List ProofTest := []
  active : Option Bytes := none
  pending : Option Bytes := none
  pendUs : Nat := 0
  refusals : Nat := 0
  displayed : Bool := false
  /-- The confirmed block, and the safety cycle at which it becomes active (R388). -/
  confirmed : Option Bytes := none
  activateAt : Option Nat := none
  /-- Mask of the last latch (R381). -/
  mask   : Nat := 0
  fault  : Nat := 0
  pulseDisc : Nat := 0
  pulseFail : Nat := 0
  invalid : Nat := 0
  timeouts : Nat := 0
  deriving DecidableEq, Repr, Inhabited

/-- What the island is told of its module: node role, module strap, device time in µs, control cycle. -/
structure SafIn where
  node   : Bool
  module : Nat
  us     : Nat
  cycle  : Nat

def SafetyState.ch (s : SafetyState) : SafeChan → SafeChannel
  | .A => s.a
  | .B => s.b
def SafetyState.modCh (s : SafetyState) (c : SafeChan) (f : SafeChannel → SafeChannel) : SafetyState :=
  match c with
  | .A => { s with a := f s.a }
  | .B => { s with b := f s.b }

/-- The bit of pair n: thruster n, or the node's thruster for its pair 1 (R578). -/
def pairBit (node : Bool) (b : Bytes) (n : Nat) : Nat := if node then (if n = 0 then 2 ^ (sbThruster b - 1) else 0) else 2 ^ n

/-- A pair in the mask demands in a channel, or has an input fault (R363, R364). -/
def zoneDemand (b : Bytes) (s : SafetyState) (c : SafeChan) (z : Nat) : Bool :=
  (vget s.zones z).req || (List.range 8).any fun p => bitOf p (szInput b z) && (!bitOf p (s.ch c).energised || (vget s.inputs p).fault)

/-- The stream index of a module entry and network. -/
def streamIx (m net : Nat) : Nat := 2 * m + net

def carriedOf (b : Bytes) : Nat := ((List.range 8).map fun z => if szInput b z ≠ 0 then 2 ^ z else 0).sum

/-- A sender is live in a channel's view. -/
def senderLive (ch : SafeChannel) (m : Nat) : Bool := (vget ch.streams (streamIx m 0)).live || (vget ch.streams (streamIx m 1)).live
def liveStreams (ch : SafeChannel) (m : Nat) : List Stream := ([0, 1].map fun k => vget ch.streams (streamIx m k)).filter (·.live)
def senderSafe (ch : SafeChannel) (m : Nat) : Bool := (liveStreams ch m).any (·.safe)
def senderCarried (ch : SafeChannel) (m : Nat) : Nat := orAll ((liveStreams ch m).map (·.carried))

/-- The module's own entry of LISTEN: modules 0 and 1 are entry 0 (R623). -/
def ownEntry (i : SafIn) : Option Nat := if i.node then none else some (i.module - 1)

/-- Carried zones of live senders that are not in SAFE_STATE, the module's own island included while in RUN, one sender left out. -/
def otherCarried (i : SafIn) (b : Bytes) (s : SafetyState) (ch : SafeChannel) (skip : Nat) : Nat :=
  let rem := (List.range 3).map fun m => if m ≠ skip ∧ senderLive ch m = true ∧ senderSafe ch m = false then senderCarried ch m else 0
  orAll rem ||| (if !i.node && s.state == 2 then carriedOf b else 0)

/-- The removal of one live sender (R377). -/
def senderRemoval (i : SafIn) (b : Bytes) (s : SafetyState) (ch : SafeChannel) (m : Nat) : Nat :=
  if !senderLive ch m then 0
  else if senderSafe ch m then
    let oc := otherCarried i b s ch m
    orAll ((List.range 8).map fun z => if bitOf z (senderCarried ch m) && !bitOf z oc then szThr b z else 0)
  else orAll ((liveStreams ch m).map (·.remove))

/-- Zones of the block that no live sender covers (R378). -/
def uncovered (i : SafIn) (b : Bytes) (s : SafetyState) (ch : SafeChannel) : List Nat :=
  let cov := orAll ((List.range 3).map fun m => if senderLive ch m then senderCarried ch m else 0) ||| (if !i.node && s.state == 2 then carriedOf b else 0)
  (List.range 8).filter fun z => szThr b z != 0 && !bitOf z cov

/-- Removal from remote senders and uncovered zones. -/
def remoteRemoval (i : SafIn) (b : Bytes) (s : SafetyState) (c : SafeChan) : Nat :=
  let ch := s.ch c
  orAll ((List.range 3).map (senderRemoval i b s ch)) ||| orAll ((uncovered i b s ch).map (szThr b))

/-- A zone is a removal cause for a channel: by the channel's own view of its inputs, or, once no channel sees a demand, until it is released (R360, R363,
R365, R374; log entry 77). -/
def zoneRemoves (b : Bytes) (s : SafetyState) (c : SafeChan) (z : Nat) : Bool :=
  zoneDemand b s c z || ((vget s.zones z).wait && !(vget s.zones z).act)

/-- The causes of Table 14.1 as a channel sees them, Unused pair apart. -/
def causes (i : SafIn) (s : SafetyState) (c : SafeChan) : Nat :=
  match s.active with
  | none => 0xFFFF
  | some b =>
    if s.state ≠ 2 then 0xFFFF
    else
      let zs := (List.range 8).map fun z => if zoneRemoves b s c z then szThr b z else 0
      -- a node's pair that a controller's proof test re-energises is no longer held off by its own fault (R582)
      let pf := (List.range 16).map fun n => if bitOf n s.pairFault && !(s.proofs.any fun p => p.stage == 6 && p.pair == n) then pairBit i.node b n else 0
      let pt := s.proofs.map fun p => if p.stage ≤ 3 then pairBit i.node b p.pair else 0
      orAll zs ||| orAll pf ||| orAll pt ||| (if i.node then remoteRemoval i b s c &&& pairBit true b 0 else 0)

/-- The running test of a pair. -/
def runningProof (s : SafetyState) (n : Nat) : Option ProofTest := s.proofs.find? fun p => p.pair == n && (p.stage == 1 || p.stage == 2)

/-- The level a channel gives an output (R358, R361, R368, R369, R390). -/
def wantOn (i : SafIn) (s : SafetyState) (c : SafeChan) (n : Nat) : Bool :=
  match s.active with
  | none => false
  | some b =>
    if s.state ≠ 2 ∨ sbUse b n = false ∨ (s.ch c).dead = true then false
    else match runningProof s n with
      | some p => !((p.stage == 1 && c == .A) || (p.stage == 2 && c == .B))
      | none =>
        if (s.ch c).pulse.any (·.1 == n) then false
        -- step 3 of a passed proof test leaves the outputs on until the latch is cleared (R390)
        else if s.proofs.any fun p => p.pair == n && (p.stage == 7 || p.stage == 8) then true
        else (s.ch c).latch &&& pairBit i.node b n == 0

/-- SFLAGS (Table 14.3). -/
def sflagsOf (s : SafetyState) : Nat :=
  at1 0 (s.state == 3) + at1 1 (decide (0 < s.startLeft)) + at1 2 (s.proofs.any (·.stage ≤ 3)) + at1 3 (s.zones.toList.any (·.req))
    + at1 4 (s.inputs.toList.any (·.fault))

/-- ACTIVE of a channel's message: zones active in its view, or awaiting reset (Table 14.3, R374; log entry 77). -/
def activeField (b : Bytes) (s : SafetyState) (c : SafeChan) : Nat :=
  ((List.range 8).map fun z => if zoneRemoves b s c z && (zoneDemand b s c z || !szAuto b z) then 2 ^ z else 0).sum

/-- Zones active in either channel, or awaiting reset. -/
def activeMask (b : Bytes) (s : SafetyState) : Nat :=
  ((List.range 8).map fun z => let x := vget s.zones z; if x.act || (x.wait && !szAuto b z) then 2 ^ z else 0).sum

/-- REMOVE of a channel (R374). -/
def removeField (i : SafIn) (b : Bytes) (s : SafetyState) (c : SafeChan) : Nat :=
  if s.state = 3 then orAll ((List.range 8).map fun z => if bitOf z (carriedOf b) then szThr b z else 0)
  else if i.node then (if (s.ch c).out &&& 1 = 0 ∧ ((s.ch c).pulse.any fun p => !p.2) = false then pairBit true b 0 else 0)
  else causes i s c

def contentOf (i : SafIn) (b : Bytes) (s : SafetyState) (c : SafeChan) : SafeContent :=
  { sflags := sflagsOf s, remove := removeField i b s c, act := activeField b s c, carried := if i.node then 0 else carriedOf b }

/-- The identifier of a channel's message (R372, R581). -/
def safeIdent (i : SafIn) (b : Bytes) (c : SafeChan) : Nat :=
  let k := match c with
    | .A => 0
    | .B => 1
  if i.node then sbIdBase b + 8 + 2 * (sbThruster b - 1) + k else sbIdBase b + 2 * i.module + k

/-- The 16 bytes of a safe message (Table 14.3). -/
def safeBytes (i : SafIn) (b : Bytes) (seq : Nat) (c : SafeChan) (x : SafeContent) : Bytes :=
  let k := match c with
    | .A => 0
    | .B => 1
  let sender := atF 0 2 (if i.node then 0 else i.module) + atF 2 1 k + (if i.node then at1 3 true + atF 4 4 (sbThruster b - 1) else 0)
  let p := leBytes 2 seq ++ leBytes 1 sender ++ leBytes 1 x.sflags ++ leBytes 2 x.remove ++ leBytes 1 x.act ++ leBytes 1 x.carried ++ leBytes 4 (sbCheckValue b)
  p ++ leBytes 4 (crc32c (leBytes 4 (safeIdent i b c) ++ p))

/-- The controller takes part in its network: the block has set it up and it is not bus-off. -/
def SafeChannel.up (h : SafeChannel) : Bool := h.netUp && !h.can.off

/-- The waiting message starts its frame when the network is free, under the next SEQ (R373). A frame whose end nothing reported by then was sent
(DESIGN CHOICE, log entry 78). -/
def safeStart (i : SafIn) (c : SafeChan) (s : SafetyState) : SafetyState × List Effect :=
  let h := s.ch c
  match s.active, h.last with
  | some b, some x =>
    if h.can.waits && h.up && !h.can.taken && !h.dead then
      let q := (h.seq + 1) % 65536
      let net := match c with
        | .A => 0
        | .B => 1
      (s.modCh c fun h => { h with seq := q, can := { h.can with waits := false, wire := true, tec := if h.can.wire then h.can.tec - 1 else h.can.tec } },
        [.out (.safeMsg c net (safeBytes i b q c x))])
    else (s, [])
  | _, _ => (s, [])

/-- Form a channel's message when it is due: at a safety-cycle start, or when its content changed; it replaces one that waits (R373, R374, R389, R392). In
the safety cycle of an activation none is formed before the block is active, so that it carries the new CFG_ID (R388). -/
def safeSend (i : SafIn) (force : Bool) (c : SafeChan) (s : SafetyState) : SafetyState × List Effect :=
  match s.active with
  | none => (s, [])
  | some b =>
    if (s.state ≠ 2 ∧ s.state ≠ 3) ∨ (s.ch c).dead = true ∨ (s.activateAt.any fun k => decide (k ≤ s.cycle)) = true then (s, [])
    else
      let x := contentOf i b s c
      if !force && (s.ch c).last == some x then (s, [])
      else safeStart i c (s.modCh c fun h => { h with last := some x, can := { h.can with waits := true } })

/-- Zone states from the channels' views (R364, R365). -/
def zonesStep (us : Nat) (s : SafetyState) : SafetyState :=
  match s.active with
  | none => s
  | some b =>
    { s with zones := Vector.ofFn fun z =>
        let x := s.zones[z]
        if szThr b z.val = 0 ∧ szInput b z.val = 0 then x
        else
          let now := zoneDemand b s .A z.val || zoneDemand b s .B z.val
          if now then { x with act := true, wait := true, reset := false }
          else if x.act then { x with act := false, since := us, reset := false }
          else x }

/-- Drive one channel's outputs to what they shall be, and say which changed. -/
def driveOut (i : SafIn) (c : SafeChan) (s : SafetyState) : SafetyState × List Effect :=
  let want := ((List.range 16).map fun n => if wantOn i s c n then 2 ^ n else 0).sum
  let old := (s.ch c).out
  let ev := (List.range 16).filterMap fun n => if bitOf n want != bitOf n old then some (Effect.out (.sto c (n + 1) (bitOf n want))) else none
  (s.modCh c fun h => { h with
      out := want, onCycle := Vector.ofFn fun n => if bitOf n.val want && !bitOf n.val old then s.cycle else h.onCycle[n] }, ev)

/-- End a proof test: report, record, latch a fault on a failure, clear one after a pass of both outputs (R390, R391). A test that passes
holds its outputs on until the next safety-cycle start (R390; DEDUCED, log entry 79). -/
def proofEnd (i : SafIn) (p : ProofTest) (result : Nat) (s : SafetyState) : SafetyState × List Effect :=
  let pay := leBytes 1 (p.pair + 1) ++ leBytes 1 p.outs ++ leBytes 1 result ++ leBytes 1 0 ++ leBytes 4 (i.cycle % 2 ^ 32)
  let bad := result == 1 || result == 2
  let fault := if bad then s.pairFault ||| 2 ^ p.pair
    else if result = 0 ∧ p.outs = 3 ∧ bitOf p.pair s.pairFault = true then s.pairFault - 2 ^ p.pair else s.pairFault
  ({ s with
      pairFault := fault
      proofs := s.proofs.filterMap fun q => if q = p then (if p.stage = 3 ∨ 5 ≤ p.stage then none else some { q with stage := if result = 0 then 7 else 4 }) else some q },
    [.note 0xF042 none pay, .keep 5 true ([5, 0, 0, 0] ++ pay)] ++ if bad then [.keep 5 true [3, BitVec.ofNat 8 (p.pair + 1), 0, 0]] else [])

/-- Proof tests that a removal cause other than their own, or SAFE_STATE, ends (R390, R391). -/
def proofAbort (i : SafIn) (s : SafetyState) : SafetyState × List Effect :=
  let hit (p : ProofTest) : Bool :=
    if p.stage = 3 then s.state == 3
    else (p.stage == 1 || p.stage == 2) &&
      (s.state != 2 || match s.active with
        | none => true
        | some b =>
          let s' := { s with proofs := s.proofs.filter (·.pair != p.pair), pairFault := if bitOf p.pair s.pairFault then s.pairFault - 2 ^ p.pair else s.pairFault }
          (causes i s' .A ||| causes i s' .B) &&& pairBit i.node b p.pair != 0)
  (s.proofs.filter hit).foldl (fun acc p =>
    let (t, e) := proofEnd i p 3 acc.1
    (t, acc.2 ++ e)) (s, [])

/-- The pair is free of every cause but its own test. -/
def pairFree (i : SafIn) (s : SafetyState) (n : Nat) : Bool :=
  s.state == 2 && match s.active with
    | some b => (causes i s .A ||| causes i s .B) &&& pairBit i.node b n == 0
    | none => false

/-- A removal cause ends the hold of a passed test's outputs (R358, R390). -/
def holdEnd (i : SafIn) (s : SafetyState) : SafetyState :=
  { s with proofs := s.proofs.filterMap fun p =>
      if p.stage = 7 ∧ pairFree i s p.pair = false then some { p with stage := 4 }
      else if p.stage = 8 ∧ pairFree i s p.pair = false then none else some p }

/-- After any change: zones, latches set by each channel's causes, outputs, messages (R361, R373). -/
def safRefresh (i : SafIn) (force : Bool) (s0 : SafetyState) : SafetyState × List Effect :=
  let (s1, e0) := proofAbort i (zonesStep i.us s0)
  let s1 := holdEnd i s1
  let add (c : SafeChan) (s : SafetyState) : SafetyState :=
    let k := causes i s c
    s.modCh c fun h => { h with latch := h.latch ||| k, pulse := h.pulse.map fun p =>
      (p.1, p.2 || match s.active with
        | some b => k &&& pairBit i.node b p.1 != 0 || !sbUse b p.1
        | none => true) }
  let s2 := add .B (add .A s1)
  let (s3, e1) := driveOut i .A s2
  let (s4, e2) := driveOut i .B s3
  let (s5, e3) := safeSend i force .A s4
  let (s6, e4) := safeSend i force .B s5
  (s6, e0 ++ e1 ++ e2 ++ e3 ++ e4)

/-! Events. -/

/-- The record of a demand: the recognition instants of both channels, and whether they agreed. -/
def demandKeep (p : Nat) (agreed : Bool) (x : InputState) : Effect :=
  .keep 5 true ([1, BitVec.ofNat 8 (p + 1), BitVec.ofNat 8 (b2n agreed), 0] ++ leBytes 4 (x.demA.getD 0xFFFFFFFF) ++ leBytes 4 (x.demB.getD 0xFFFFFFFF))

/-- Each demand of a FUNCTION 1 pair is recorded once (R391): when the second channel has recognised it, or, when one channel alone did, at its end. -/
def demandRecord (zone : Bool) (p : Nat) (on : Bool) (old x : InputState) : InputState × List Effect :=
  let both := x.demA.isSome && x.demB.isSome
  let ended := x.demA.isNone && x.demB.isNone
  let due := zone && !x.logged && (both || (on && ended && (old.demA.isSome || old.demB.isSome)))
  ({ x with logged := (x.logged || due) && !ended }, if due then [demandKeep p both (if both then x else old)] else [])

/-- A recognised input change in one channel (R362): `on` when it reads energised. -/
def safInput (i : SafIn) (c : SafeChan) (p : Nat) (on : Bool) (s : SafetyState) : SafetyState × List Effect :=
  if s.state = 0 ∧ s.active.isNone then (s.modCh c fun h => { h with energised := setBit' h.energised p on }, [])
  else
    let s1 := s.modCh c fun h => { h with energised := setBit' h.energised p on }
    let s2 : SafetyState := { s1 with inputs := vmodN s1.inputs p fun x =>
      if on then { x with demA := if c = .A then none else x.demA, demB := if c = .B then none else x.demB }
      else { x with demA := if c = .A then some i.us else x.demA, demB := if c = .B then some i.us else x.demB } }
    let (x, rec_) := demandRecord (s2.active.any fun b => sbFunction b p == 1) p on (vget s1.inputs p) (vget s2.inputs p)
    let (s3, ev) := safRefresh i false { s2 with inputs := vmodN s2.inputs p fun _ => x }
    (s3, rec_ ++ ev)
where
  setBit' (m k : Nat) (b : Bool) : Nat := if b then m ||| 2 ^ k else if bitOf k m then m - 2 ^ k else m

/-- The cross-check of one input pair at a safety-cycle start (R363). -/
def pairCheck (us : Nat) (b : Bytes) (s : SafetyState) (p : Nat) (x : InputState) : InputState × List Effect :=
  if sbFunction b p = 0 then ({ x with diffSince := none, fault := false, bothDemand := false }, [])
  else
    let ea := bitOf p s.a.energised
    let eb := bitOf p s.b.energised
    let since := if ea == eb then none else some (x.diffSince.getD us)
    let onset := match since with
      | some t => !x.fault && decide (t + 1000 * sbDiscMs b < us)
      | none => false
    let both := if x.fault || onset then x.bothDemand || (!ea && !eb) else false
    let cleared := x.fault && x.bothDemand && ea && eb
    let due := onset && sbFunction b p == 1 && !x.logged && (x.demA.isSome || x.demB.isSome)
    ({ x with diffSince := since, fault := (x.fault || onset) && !cleared, bothDemand := both && !cleared, logged := x.logged || due },
      (if due then [demandKeep p false x] else []) ++ if onset then [.keep 5 true [2, BitVec.ofNat 8 (p + 1), 0, 0]] else [])

/-- Release of zones at a safety-cycle start (R365). -/
def zoneRelease (us : Nat) (b : Bytes) (z : Nat) (x : ZoneState) : ZoneState :=
  if x.act || !x.wait then x
  else if szAuto b z then (if x.since + 1000 * sbRestartMs b ≤ us then { x with wait := false } else x)
  else if x.reset then { x with wait := false, reset := false } else x

/-- Energised by COMMISSION_EN for at least 2 s in both channels (R387). -/
def commissionReady (us : Nat) (s : SafetyState) : Bool :=
  match s.a.commission, s.b.commission with
  | some ta, some tb => decide (ta + 2000000 ≤ us) && decide (tb + 2000000 ≤ us)
  | _, _ => false

/-- Zones active or awaiting reset, a lane request, or a proof test (R387). -/
def safetyBusy (s : SafetyState) : Bool :=
  let zones := match s.active with
    | some b => activeMask b s != 0
    | none => false
  zones || s.zones.toList.any (·.req) || s.proofs.any (·.stage ≤ 3) || s.state == 3

/-- A node's judgement of a controller's proof test (R582): both outputs have read on since an earlier safety cycle and the test passes, or another
cause keeps them off and the result is discarded. -/
def judgeCycle (i : SafIn) (b : Bytes) (s : SafetyState) : SafetyState × List Effect :=
  match s.proofs.find? (·.stage == 6) with
  | none => (s, [])
  | some p =>
    let on (h : SafeChannel) : Bool := bitOf 0 h.out && decide (vget h.onCycle 0 < s.cycle)
    if on s.a && on s.b then proofEnd i p 0 s
    else if (causes i s .A ||| causes i s .B) &&& pairBit true b 0 ≠ 0 then proofEnd i p 3 s
    else (s, [])

/-- A live controller stream removes the node's torque with PROOF set. -/
def proofHeld (b : Bytes) (s : SafetyState) : Bool :=
  let hit (h : SafeChannel) : Bool := h.streams.toList.any fun x => x.live && x.proof && bitOf (sbThruster b - 1) x.remove
  hit s.a || hit s.b

/-- The begin and the end of a controller's proof removal at the node (R582). -/
def nodeJudge (i : SafIn) (b : Bytes) (s : SafetyState) : SafetyState :=
  if !i.node then s
  else if proofHeld b s then
    if s.proofs.any fun p => decide (p.stage ≤ 3) || p.stage == 5 then s
    else { s with proofs := (s.proofs.filter (·.stage != 6)) ++ [{ pair := 0, outs := 3, stage := 5, startUs := i.us }] }
  else { s with proofs := s.proofs.map fun p => if p.stage = 5 then { p with stage := 6 } else p }

/-- The cores clear what is set in a latch and has no cause in either channel's view; they set nothing (R361). -/
def latchClear (i : SafIn) (s : SafetyState) : SafetyState :=
  let k := causes i s .A ||| causes i s .B
  (s.modCh .A fun h => { h with latch := h.latch &&& k }).modCh .B fun h => { h with latch := h.latch &&& k }

/-- At a safety-cycle start the outputs of a passed test follow the latches again; a node forgets a test that is over, and a controller one whose bit a
mask latch has cleared (R390). -/
def testOver (node : Bool) (p : ProofTest) : Option ProofTest :=
  if p.stage = 8 ∨ (node = true ∧ (p.stage = 4 ∨ p.stage = 7)) then none
  else if p.stage = 7 then some { p with stage := 4 } else some p

/-- SAFETY_CYCLE_START (R361, R363, R365, R373). -/
def safCycle (i : SafIn) (s0 : SafetyState) : SafetyState × List Effect :=
  let s0 := { s0 with cycle := s0.cycle + 1, cycleUs := i.us, startLeft := s0.startLeft - 1 }
  match s0.active with
  | none => (s0, [])
  | some b =>
    let checked := (List.range 8).map fun p => pairCheck i.us b s0 p (vget s0.inputs p)
    let s1 : SafetyState := { s0 with inputs := Vector.ofFn fun p => (checked.getD p.val default).1 }
    let s2 := zonesStep i.us s1
    let s3 : SafetyState := { s2 with zones := Vector.ofFn fun z => zoneRelease i.us b z.val s2.zones[z] }
    let s3 : SafetyState := { s3 with proofs := s3.proofs.filterMap (testOver i.node) }
    let (s3, ea) := proofAbort i s3
    let (s3, ej) := judgeCycle i b s3
    let (s5, ev) := safRefresh i true (latchClear i s3)
    (s5, (checked.flatMap (·.2)) ++ ea ++ ej ++ ev)

/-- RESET_INPUT_OPERATION: both channels read the pair energised for `durUs` and then de-energised (R365). -/
def safReset (i : SafIn) (p durUs : Nat) (s : SafetyState) : SafetyState :=
  match s.active with
  | none => s
  | some b =>
    if sbFunction b p ≠ 2 ∨ durUs < 100000 ∨ 5000000 < durUs ∨ (vget s.inputs p).fault = true then s
    else
      { s with zones := Vector.ofFn fun z =>
          let x := s.zones[z]
          if szReset b z.val = p + 1 ∧ x.wait = true ∧ x.act = false ∧ x.since + durUs ≤ i.us then { x with reset := true } else x }

/-- A stuck output latches a pair fault (R366); of a pair that is not in use it fails the read-back of R388 and R392, whose result
no other row carries (DESIGN CHOICE, log entry 78). -/
def safPairFault (i : SafIn) (n : Nat) (s : SafetyState) : SafetyState × List Effect :=
  match s.active with
  | none => ({ s with offBad := s.offBad ||| 2 ^ n }, [])
  | some b =>
    if sbUse b n = false then ({ s with offBad := s.offBad ||| 2 ^ n }, [])
    else
      match s.proofs.find? fun p => p.pair == n && (p.stage == 5 || p.stage == 6) with
      | some p =>
        -- the judged outputs of a controller's proof test fail (R582)
        let (s1, e1) := proofEnd i p 1 s
        let (s2, ev) := safRefresh i false s1
        (s2, e1 ++ ev)
      | none =>
        let new := !bitOf n s.pairFault
        let (s3, ev) := safRefresh i false { s with pairFault := s.pairFault ||| 2 ^ n }
        (s3, (if new then [.keep 5 true [3, BitVec.ofNat 8 (n + 1), 0, 0]] else []) ++ ev)

/-- The slot of an output's pulse in the 200 safety cycles (R369). -/
def pulseSlot (c : SafeChan) (n : Nat) : Nat :=
  12 * n + match c with
    | .A => 0
    | .B => 6

/-- TEST_PULSE_START (R369, R371): only in the output's slot, on an energised output that was not re-energised in this or the last cycle. -/
def safPulse (i : SafIn) (c : SafeChan) (n : Nat) (s : SafetyState) : SafetyState × List Effect :=
  let h := s.ch c
  let ok := s.cycle % 200 == pulseSlot c n && bitOf n h.out && decide (vget h.onCycle n + 1 < s.cycle) && !(s.proofs.any fun p => p.pair == n && decide (p.stage ≤ 3))
    && h.pulse.isNone && (match s.active with
      | some b => sbUse b n
      | none => false)
  if ok then safRefresh i false (s.modCh c fun x => { x with pulse := some (n, false) }) else (s, [])

/-- TEST_PULSE_END (R370, R371, log entry 43): `pass` is the judgement of the read-back. -/
def safPulseEnd (i : SafIn) (c : SafeChan) (pass : Bool) (s : SafetyState) : SafetyState × List Effect :=
  match (s.ch c).pulse with
  | none => (s, [])
  | some (n, hit) =>
    -- the re-energisation at a pulse's end is not a re-energisation in the sense of R371
    let on := vget (s.ch c).onCycle n
    let s1 := s.modCh c fun x => { x with pulse := none }
    if hit then safRefresh i false { s1 with pulseDisc := satAdd 0xFFFF s1.pulseDisc 1 }
    else if pass then
      let (s2, ev) := safRefresh i false s1
      (s2.modCh c fun x => { x with onCycle := vmodN x.onCycle n fun _ => on }, ev)
    else
      let (s2, ev) := safPairFault i n { s1 with pulseFail := satAdd 0xFFFF s1.pulseFail 1 }
      (s2, .count 0x0C03 0xFF 1 :: ev)

/-- The stream a message belongs to: module entry of LISTEN (R376, R623), or none when it is ignored. -/
def senderOf (i : SafIn) (b : Bytes) (ident : Nat) : Option (Nat × Nat) :=
  if ident < sbIdBase b ∨ sbIdBase b + 7 < ident then none
  else
    let m := (ident - sbIdBase b) / 2
    if !i.node && m == i.module then none
    else some (m, if m = 0 then 0 else m - 1)

/-- One channel takes a received message (R376): the state, and whether it was invalid. -/
def takeMessage (i : SafIn) (b : Bytes) (net ident : Nat) (d : Bytes) (c : SafeChan) (s : SafetyState) : SafetyState × Bool :=
  match senderOf i b ident with
  | none => (s, false)
  | some (m, e) =>
    let x := vget (s.ch c).streams (streamIx e net)
    let seq := u16 d 0
    let sender := u8 d 2
    let dist := (seq + 65536 - x.lastSeq) % 65536
    let ok := decide (d.length = 16) && u32 d 12 == crc32c (leBytes 4 ident ++ sliceB d 0 12) && sender == m + 4 * ((ident - sbIdBase b) % 2)
      && bitOf 2 sender == (net == 1) && sbListen b e && u32 d 8 == sbExpect b e && (!x.seen || (decide (1 ≤ dist) && decide (dist ≤ 32767)))
    if !ok then (s, true)
    else
      let run := x.run + 1
      let y : Stream := { lastSeq := seq, seen := true, run := run, live := x.live || decide (2 ≤ run), lastUs := i.us, remove := u16 d 4, act := u8 d 6,
                          carried := u8 d 7, safe := bitOf 0 (u8 d 3), proof := bitOf 2 (u8 d 3) }
      let s1 := s.modCh c fun h => { h with streams := vmodN h.streams (streamIx e net) fun _ => y }
      let p := vget (s1.ch c).streams (streamIx e 0)
      let q := vget (s1.ch c).streams (streamIx e 1)
      let diff := p.seen && q.seen && (p.remove != q.remove || p.act != q.act || p.carried != q.carried || p.safe != q.safe)
      (s1.modCh c fun h => { h with
          discSince := vmodN h.discSince e fun t => if diff then some (t.getD i.us) else none
          discrep := if diff then h.discrep else vmodN h.discrep e fun _ => false }, false)

/-- A message in a receive buffer: both channels read it (R376, R579). -/
def safMessage (i : SafIn) (net ident : Nat) (d : Bytes) (s : SafetyState) : SafetyState × List Effect :=
  match s.active with
  | none => (s, [])
  | some b =>
    let (s1, bad) := takeMessage i b net ident d .A s
    let (s2, _) := takeMessage i b net ident d .B s1
    let s3 := if bad then { s2 with invalid := satAdd 0xFFFF s2.invalid 1 } else s2
    let (s4, ev) := safRefresh i false (nodeJudge i b s3)
    (s4, (if bad then [.count 0x0C04 0xFF 1] else []) ++ ev)

/-- The error counters of a safety controller, and bus-off above 255 (R349, R372). -/
def SafeCtl.txError (k : SafeCtl) : SafeCtl := { k with tec := k.tec + 8, off := k.off || decide (255 < k.tec + 8) }
def SafeCtl.rxOk (k : SafeCtl) : SafeCtl := { k with rec_ := if 127 < k.rec_ then 127 else k.rec_ - 1 }

/-- The end of an own frame (R349, R351, R373): one that failed waits to be sent again, unless a newer message waits already. -/
def SafeCtl.ended (r : TxResult) (k : SafeCtl) : SafeCtl :=
  let again : SafeCtl := { k with wire := false, waits := true }
  match r with
  | .acked => { k with wire := false, tec := k.tec - 1 }
  | .noAck => if 128 ≤ k.tec ∨ 128 ≤ k.rec_ then again else again.txError
  | .busy => { again with taken := true }
  | .bitError | .startError | .frameError => again.txError

/-- SAFE_MESSAGE_RECEIVE: what the controller of S-A (network 0) or S-B meets on its network (R372, R373, R376). -/
def safBus (i : SafIn) (net ident : Nat) (x : SafeBus) (s : SafetyState) : SafetyState × List Effect :=
  let c : SafeChan := if net = 0 then .A else .B
  let mod (f : SafeCtl → SafeCtl) : SafetyState := s.modCh c fun h => { h with can := f h.can }
  let k := (s.ch c).can
  if (s.ch c).netUp = false then (s, [])
  else match x with
    | .taken on => safeStart i c (mod fun k => { k with taken := on })
    | .recovered => if k.off then safeStart i c (mod fun k => { k with off := false, tec := 0, rec_ := 0 }) else (s, [])
    | .frame d => if k.off then (s, []) else safMessage i net ident d (mod SafeCtl.rxOk)
    | .bad rec8 => if k.off then (s, []) else (mod fun k => { k with rec_ := k.rec_ + 1 + 8 * rec8 }, [])
    | .own r => if k.off || !k.wire then (s, []) else safeStart i c (mod (SafeCtl.ended r))

/-- STREAM_TIMEOUT: the streams of a module entry on a network with no valid message for TIMEOUT_MS (R377). -/
def safTimeout (i : SafIn) (e net : Nat) (s : SafetyState) : SafetyState × List Effect :=
  match s.active with
  | none => (s, [])
  | some b =>
    let due (x : Stream) : Bool := x.seen && decide (x.lastUs + 1000 * sbTimeoutMs b ≤ i.us)
    let k := streamIx e net
    let hit := due (vget s.a.streams k) || due (vget s.b.streams k)
    let drop (h : SafeChannel) : SafeChannel :=
      if due (vget h.streams k) then
        { h with streams := vmodN h.streams k (fun x => { x with seen := false, run := 0, live := false }), discSince := vmodN h.discSince e (fun _ => none),
                 discrep := vmodN h.discrep e fun _ => false }
      else h
    if !hit then (s, [])
    else
      let s1 := nodeJudge i b { s with a := drop s.a, b := drop s.b, timeouts := satAdd 0xFFFF s.timeouts 1 }
      let (s2, ev) := safRefresh i false s1
      (s2, .count 0x0C05 0xFF 1 :: ev)

/-- SENDER_DISCREPANT (R379, log entry 76): the report when the difference has lasted more than DISC_MS. -/
def safDiscrepant (i : SafIn) (e : Nat) (s : SafetyState) : SafetyState :=
  match s.active with
  | none => s
  | some b =>
    let up (h : SafeChannel) : SafeChannel := match vget h.discSince e with
      | some t => if t + 1000 * sbStreamDiscMs b < i.us then { h with discrep := vmodN h.discrep e fun _ => true } else h
      | none => h
    { s with a := up s.a, b := up s.b }

/-- ISLAND_FAULT (R382): SAFE_STATE at once; `own` when the named channel's outputs are switched off and it sends nothing. -/
def safIsland (i : SafIn) (cause : Nat) (c : SafeChan) (own : Bool) (s : SafetyState) : SafetyState × List Effect :=
  let fails (s : SafetyState) : SafetyState := s.modCh c fun h => { h with ok := false, dead := h.dead || own, can := { h.can with waits := h.can.waits && !own } }
  -- SAFE_STATE is latched with its first cause; a fault of the other channel still ends its part
  if s.state = 3 then safRefresh i false (fails s)
  else
    let ch := match c with
      | .A => 0
      | .B => 1
    let f := atF 28 4 cause + atF 27 1 ch + atF 0 16 s.cycle
    let (s3, ev) := safRefresh i false (fails { s with state := 3, fault := f })
    (s3, .keep 5 true ([4, 0, 0, 0] ++ leBytes 4 f) :: ev)

/-- SAFETY_PROOF_TEST accepted (R390, R391). -/
def safProof (i : SafIn) (n outs : Nat) (s : SafetyState) : SafetyState × List Effect :=
  match s.active with
  | none => (s, [])
  | some b =>
    let p : ProofTest := { pair := n, outs := outs, stage := if sbUse b n then 0 else 3, startUs := i.us }
    safRefresh i false { s with proofs := s.proofs.filter (·.pair != n) ++ [p] }

/-- PROOF_TEST_BEGIN (R390, R582): `ready` on a node when the latest command has IN_ALLOC clear or CMD_TIMEOUT holds. -/
def safProofBegin (i : SafIn) (n : Nat) (ready : Bool) (s : SafetyState) : SafetyState × List Effect :=
  match s.proofs.find? fun p => p.pair == n && p.stage == 0 with
  | none => (s, [])
  | some p =>
    if (if i.node then ready else decide (2 ≤ p.latches)) then
      let q : ProofTest := { p with stage := if bitOf 0 p.outs then 1 else 2, startUs := i.us }
      safRefresh i false { s with proofs := s.proofs.map fun x => if x = p then q else x }
    else (s, [])

/-- PROOF_PHASE_END (R390, R391): PROOF_MS has passed for a pair; `pass` judges the read-back of the named output. -/
def safProofPhase (i : SafIn) (n : Nat) (pass : Bool) (s : SafetyState) : SafetyState × List Effect :=
  match s.active, s.proofs.find? fun p => p.pair == n && (p.stage == 1 || p.stage == 2 || p.stage == 3) with
  | some b, some p =>
    if i.us < p.startUs + 1000 * sbProofMs b then (s, [])
    else
      let upd (q : ProofTest) (s : SafetyState) : SafetyState := { s with proofs := s.proofs.map fun x => if x = p then q else x }
      let fin (r : SafetyState × List Effect) : SafetyState × List Effect :=
        let (s2, ev) := safRefresh i false r.1
        (s2, r.2 ++ ev)
      if p.stage = 3 then fin (proofEnd i p 4 s)
      else if p.stage = 1 then
        let q := { p with failA := !pass, stage := 2, startUs := i.us }
        if bitOf 1 p.outs then fin (upd q s, [])
        else fin (proofEnd i q (if pass then 0 else 1) (upd q s))
      else
        let q := { p with failB := !pass }
        fin (proofEnd i q (if q.failA then 1 else if q.failB then 2 else 0) (upd q s))
  | _, _ => (s, [])

/-- The pairs whose test is pending or running, or ended since the last mask latch (R390). -/
def pendingTests (s : SafetyState) : Nat := orAll ((s.proofs.filter fun p => decide (p.stage ≤ 4) || p.stage == 7).map fun p => 2 ^ p.pair)

/-- The mask latch of R59 and R381: answers the mask; proof tests count latches with their bit set, ended ones lose it. -/
def safLatch (i : SafIn) (s : SafetyState) : SafetyState :=
  match s.active with
  | none => { s with mask := 0xFFFF }
  | some b =>
    let own (c : SafeChan) : Nat := removeField { i with node := false } b s c ||| remoteRemoval i b s c
    { s with
      mask := own .A ||| own .B ||| pendingTests s
      proofs := (s.proofs.filter fun p => p.stage != 4).map fun p => { p with latches := p.latches + 1, stage := if p.stage = 7 then 8 else p.stage } }

/-! The parameter block (R386 to R389). -/

/-- SAFETY_BLOCK_LOAD stored as the pending block. -/
def safLoad (us : Nat) (b : Bytes) (s : SafetyState) : SafetyState := { s with pending := some b, pendUs := us, refusals := 0, displayed := false }
/-- A refused confirmation counts (R386, R477). -/
def safRefuse (s : SafetyState) : SafetyState :=
  if s.pending.isNone then s
  else if 3 ≤ s.refusals + 1 then { s with pending := none, displayed := false, refusals := 0 } else { s with refusals := s.refusals + 1 }
/-- Acceptance: activation at the second safety-cycle start (R388). -/
def safAccept (s : SafetyState) : SafetyState := { s with confirmed := s.pending, activateAt := some (s.cycle + 2) }
/-- PENDING_BLOCK_EXPIRE (R386). -/
def safExpire (us : Nat) (s : SafetyState) : SafetyState :=
  if s.pending.isSome ∧ s.activateAt.isNone ∧ s.pendUs + 900000000 ≤ us then { s with pending := none, displayed := false, refusals := 0 } else s

/-- The off-state read-back of pairs about to be energised: those that read on latch their pair fault, recorded in Keep (R366, R388, R392). -/
def offStateCheck (pairs : Nat → Bool) (s : SafetyState) : SafetyState × List Effect :=
  let bad := (List.range 16).filter fun n => pairs n && bitOf n s.offBad && !bitOf n s.pairFault
  ({ s with pairFault := s.pairFault + (bad.map (2 ^ ·)).sum, offBad := orAll (((List.range 16).filter fun n => bitOf n s.offBad && !pairs n).map (2 ^ ·)) }, bad.map fun n => .keep 5 true [3, BitVec.ofNat 8 (n + 1), 0, 0])

/-- Demands that stand in both channels when a block becomes active are recorded in Keep (R391). -/
def standingDemands (b : Bytes) (s : SafetyState) : SafetyState × List Effect :=
  let r := (List.range 8).map fun p => demandRecord (sbFunction b p == 1) p false (vget s.inputs p) (vget s.inputs p)
  ({ s with inputs := Vector.ofFn fun p => (r.getD p.val default).1 }, r.flatMap (·.2))

/-- BLOCK_ACTIVATE: the confirmed block becomes active in both channels (R388); one loaded since then stays pending (R386). -/
def safActivate (i : SafIn) (s : SafetyState) : SafetyState × List Effect :=
  match s.activateAt, s.confirmed with
  | some c, some b =>
    if s.cycle < c then (s, [])
    else
      let old := (s.active.map sbCheckValue).getD 0
      let up (h : SafeChannel) : SafeChannel := { h with netUp := true }
      let s1 : SafetyState := { s with
        active := some b, confirmed := none, activateAt := none, a := up s.a, b := up s.b,
        pending := if s.pending = some b then none else s.pending, displayed := s.displayed && decide (s.pending ≠ some b),
        refusals := if s.pending = some b then 0 else s.refusals,
        state := if s.state = 3 then 3 else 2
        inputs := Vector.ofFn fun p =>
          if sbFunction b p.val = 0 then { s.inputs[p] with diffSince := none, fault := false, bothDemand := false } else s.inputs[p]
        zones := Vector.ofFn fun z => if szThr b z.val = 0 ∧ szInput b z.val = 0 then { s.zones[z] with act := false, wait := false, reset := false } else s.zones[z] }
      let (s2, eo) := offStateCheck (fun n => sbUse b n && !(s.active.any fun a => sbUse a n)) s1
      let (s2, ed) := standingDemands b s2
      let (s4, ev) := safRefresh i true (latchClear i (zonesStep i.us s2))
      (s4, .keep 5 true ([6, 0, 0, 0] ++ leBytes 4 old ++ leBytes 4 (sbCheckValue b)) :: eo ++ ed ++ ev)
  | _, _ => (s, [])

/-- COMMISSION_EN as both channels read it (R387). -/
def safCommission (us : Nat) (on : Bool) (s : SafetyState) : SafetyState :=
  let f (h : SafeChannel) : SafeChannel := { h with commission := if on then some (h.commission.getD us) else none }
  { s with a := f s.a, b := f s.b }

/-- SAFETY_STARTUP: self-test passed, block loaded, inputs observed (R389, R392). `inA`, `inB` have bit p set where the pair reads energised. A demand that
stands then is recognised at that instant (R391). -/
def safStart (i : SafIn) (copy : Option Bytes) (inA inB : Nat) (s : SafetyState) : SafetyState × List Effect :=
  let ch (h : SafeChannel) (e : Nat) : SafeChannel := { h with energised := e, ok := true, netUp := copy.isSome, latch := 0xFFFF }
  let since (e p : Nat) : Option Nat := if bitOf p e then none else some i.us
  let s1 : SafetyState := { s with
    a := ch s.a inA, b := ch s.b inB, active := copy, state := if copy.isSome then 2 else 1, startLeft := 200
    inputs := Vector.ofFn fun p => { s.inputs[p] with demA := since inA p.val, demB := since inB p.val } }
  match copy with
  | none => (s1, [])
  | some b =>
    let (s2, eo) := offStateCheck (sbUse b) s1
    let (s2, ed) := standingDemands b s2
    let (s3, ev) := safRefresh i true (latchClear i (zonesStep i.us s2))
    (s3, eo ++ ed ++ ev)

/-- A lane request for one zone (R393). -/
def safZoneReq (i : SafIn) (z : Nat) (on : Bool) (s : SafetyState) : SafetyState × List Effect :=
  safRefresh i false { s with zones := vmodN s.zones z fun x => { x with req := on } }

/-! What the rest of the device reads. -/

/-- A sender has only one live stream (R377, R576). -/
def safNetSingle (s : SafetyState) : Bool :=
  (List.range 3).any fun m => (vget s.a.streams (streamIx m 0)).live != (vget s.a.streams (streamIx m 1)).live

/-- Either output of pair 1 is de-energised for a cause other than a test pulse (R576). -/
def safStoActive (s : SafetyState) : Bool :=
  let pulsed (h : SafeChannel) : Bool := h.pulse.any fun p => p.1 == 0 && !p.2
  (!bitOf 0 s.a.out && !pulsed s.a) || (!bitOf 0 s.b.out && !pulsed s.b)

/-! Registers (Tables 14.8 and 14.9). -/
def safStatusWord (i : SafIn) (s : SafetyState) : Nat :=
  let zact := ((List.range 8).map fun z => if (vget s.zones z).act then 2 ^ z else 0).sum
  let unc := match s.active with
    | some b => !(uncovered i b s s.a).isEmpty || !(uncovered i b s s.b).isEmpty
    | none => false
  atF 29 3 s.state + at1 28 s.pending.isSome + at1 27 s.displayed + at1 26 (s.a.commission.isSome && s.b.commission.isSome) + at1 25 s.a.ok + at1 24 s.b.ok
    + at1 23 (s.inputs.toList.any (·.fault)) + at1 22 (s.pairFault != 0) + at1 21 ((s.a.discrep.toList ++ s.b.discrep.toList).any id)
    + at1 20 (s.zones.toList.any (·.req)) + at1 19 (s.proofs.any (·.stage ≤ 3)) + at1 18 s.a.up + at1 17 s.b.up + at1 16 unc + atF 8 8 zact

def safReg (i : SafIn) (off : Nat) (s : SafetyState) : Nat :=
  let zb (f : ZoneState → Bool) : Nat := ((List.range 8).map fun z => if f (vget s.zones z) then 2 ^ z else 0).sum
  let manual (z : Nat) : Bool := match s.active with
    | some b => !szAuto b z
    | none => false
  match off with
  | 0x1000 => safStatusWord i s
  | 0x1004 => (s.active.map sbCheckValue).getD 0
  | 0x1008 => (s.pending.map sbCheckValue).getD 0
  | 0x100C => atF 24 8 (zb (·.act)) + atF 16 8 (zb (·.req))
      + atF 8 8 (((List.range 8).map fun z => let x := vget s.zones z; if x.wait && !x.act && manual z then 2 ^ z else 0).sum)
      + ((List.range 8).map fun p => if (vget s.inputs p).fault then 2 ^ p else 0).sum
  | 0x1010 => atF 16 16 s.a.out + atF 0 16 s.b.out
  | 0x1014 => atF 16 16 s.pairFault + pendingTests s
  | 0x1018 => atF 16 16 (match s.active with
      | some b => remoteRemoval i b s .A ||| remoteRemoval i b s .B
      | none => 0) + atF 0 16 s.mask
  | 0x101C => ((List.range 3).map fun m =>
      (at1 0 (vget s.a.streams (streamIx m 0)).live + at1 1 (vget s.a.streams (streamIx m 1)).live + at1 2 (vget s.a.discrep m || vget s.b.discrep m)
        + at1 3 (senderSafe s.a m || senderSafe s.b m)) * 256 ^ m).sum
  | 0x1020 => atF 16 16 s.pulseDisc + atF 0 16 s.pulseFail
  | 0x1024 => atF 16 16 s.invalid + atF 0 16 s.timeouts
  | 0x1028 => s.fault
  | 0x102C => atF 16 16 s.a.seq + atF 0 16 s.b.seq
  | _ => 0

/-- A read of an RC safety register clears it. -/
def safRegClear (off : Nat) (s : SafetyState) : SafetyState :=
  match off with
  | 0x1020 => { s with pulseDisc := 0, pulseFail := 0 }
  | 0x1024 => { s with invalid := 0, timeouts := 0 }
  | _ => s

/-- The 48 bytes of SAFETY_STATUS. -/
def safStatusReply (i : SafIn) (s : SafetyState) : Bytes := (List.range 12).flatMap fun k => leBytes 4 (safReg i (0x1000 + 4 * k) s)

end Sys2Proof.Machine
end

