-- ==== Sys2Proof/Machine/State.lean ====
section
/-! DEFINITION. The whole state of the module as plain data, the reasons a step can stop, and the state after reset. -/

namespace Sys2Proof.Machine

/-- Why the machine stops with a fault: the spec names no event after which the module as a whole has no next state, so there is none. Safe. -/
inductive Fault where
  deriving DecidableEq, Repr

/-- Why a command has no meaning. -/
inductive Refusal where
  /-- Raised by the dispatch for a command that has no meaning yet; safe. -/
  | notModelled (mnemonic : String)
  deriving DecidableEq, Repr

/-- Device time (R46, R48): the control cycle, the tick in it, microseconds since power-on reset, and the timed events that have taken place in this cycle. -/
structure TimeState where
  cycle : Nat := 0
  tick  : Nat := 0
  us    : Nat := 0
  ran   : List Nat := []
  deriving DecidableEq, Repr, Inhabited

/-- What the self-tests of a lane have to report (R410, R528). -/
structure TestState where
  /-- Byte 37 of the next digest. -/
  report  : Nat := 0
  /-- A built-in test failed since the last digest. -/
  fail    : Bool := false
  /-- Engine tested in this long cycle and whether every segment passed, for Table 15.5. -/
  engine  : Nat := 0
  passed  : Bool := false
  /-- Spare slots whose segment was discarded in the last long cycle and is repeated in this one, and those of this long cycle (R52). -/
  again   : List Nat := []
  redo    : List Nat := []
  deriving DecidableEq, Repr, Inhabited

/-- The result of a management core's last access (R41, R42). -/
structure AccessResult where
  busError : Bool := false
  data     : Bytes := []
  deriving DecidableEq, Repr, Inhabited

/-- The blocks of Table 15.4 that a lane has taken in this cycle for the joining lane, those with a window each with the tick at which it was taken (R407).
The allocation's block stands for the warm-start block, the result and the consequence workspace; the management block for alarms and the start gate. -/
structure Shadow where
  store    : Option (Vector StoreEntry 256 × Vector Bool 256) := none
  filter   : Option (Nat × FilterState) := none
  cupola   : Option (Nat × CupolaState) := none
  observer : Option (Nat × ObserverState) := none
  control  : Option (Nat × ControlState) := none
  alloc    : Option (Nat × AllocState) := none
  mgmt     : Option (List AlarmSt × AllocState × Vector Queue 17) := none
  deriving DecidableEq, Repr, Inhabited

/-- One lane die. Its fields are lost when its domains are switched off (R406). -/
structure Lane where
  pmu      : PmuState := {}
  counters : Vector Counter 64 := countersReset
  /-- Bandwidth windows of ports 0 to 18, and those that the other lane sent (R527). -/
  bw       : Vector BwWindow 19 := Vector.replicate 19 {}
  bwRemote : Vector BwWindow 19 := Vector.replicate 19 {}
  ingest   : IngestState := {}
  filter   : FilterState := {}
  cupola   : CupolaState := {}
  observer : ObserverState := {}
  control  : ControlState := {}
  alloc    : AllocState := {}
  bus      : BusState := {}
  image    : ImgState := {}
  alarms   : List AlarmSt := []
  journal  : List JournalEntry := []
  /-- Host settings that wait for their boundary, in acceptance order (R56, R57). -/
  staged   : List Staged := []
  /-- Slot numbers whose work has finished in this cycle, and PURPOSEs abandoned in it (R64). -/
  finished : List Nat := []
  abandoned : List Nat := []
  /-- Events counted since the last alarm evaluation (R525). -/
  occurred : List Nat := []
  test     : TestState := {}
  access   : AccessResult := {}
  /-- Channel updates on their way to this lane over the lane bridge (R30): what stands in Q15 and Q16, and behind them the updates of writers that wait
  for room in the pool they share, in order (R27, R28). Nothing is lost, so the pool's bound of 64 entries changes only when an update passes, which is
  latency (log entry 16). -/
  incoming : List ChanUpdate := []
  /-- Tries of the frame that this lane sends over the lane bridge (R33), and link fault flags of its Sky and Watchtower links with the failures of the frame under way. -/
  bridgeTry : Nat := 0
  skyTry   : Nat := 0
  skyFault : Bool := false
  wtTry    : Nat := 0
  wtFault  : Bool := false
  /-- JSN of the last journal entry applied at a boundary (Table 15.2). -/
  jseq     : Nat := 0
  /-- Q01 to Q16 by queue number (Table 1.3); Q10 is the bus island's own list. -/
  queued   : Vector Queue 17 := Vector.replicate 17 {}
  /-- Cupola's copy of the previous snapshot (Table 2.8). -/
  snapPrev : Vector StoreEntry 256 := Vector.replicate 256 {}
  /-- The digest on its way to the Watchtower (R398). -/
  digestOut : Option Bytes := none
  /-- The removal mask that the lane was answered in this cycle (R59). -/
  mask     : Option Nat := none
  /-- Shadow state taken in this cycle for the joining lane (R407). -/
  shadow   : Shadow := {}
  /-- The highest ratio of used to certified clocks of a fixed slot, and the allocation outcomes, of this long cycle (Table 18.4). -/
  clockUse : ℚ := 0
  longOut  : Vector Nat 9 := Vector.replicate 9 0
  /-- A built-in condition that held at an instant of this cycle (R86): identifiers of Table 17.15. -/
  instant  : List Nat := []
  deriving DecidableEq, Repr, Inhabited

/-- The module. -/
structure State where
  time    : TimeState
  laneA   : Lane
  laneB   : Lane
  /-- Memory of Lane A and Lane B by the addresses of Table 1.6. -/
  memA    : Memory
  memB    : Memory
  /-- Watchtower die. -/
  arb     : ArbState
  power   : PowerState
  safety  : SafetyState
  keep    : KeepState
  lantern : LanternState
  host    : HostState
  /-- Sky die. -/
  oculus  : OculusState
  belfry  : BelfryState
  node    : NodeState
  jtag    : JtagState
  /-- The lane bridge has failed (R33). -/
  bridgeFault : Bool
  /-- The mask that the Watchtower latched in this cycle (R59). -/
  latched : Option Nat
  /-- What has left the block, in order (log entry 4). -/
  outbox  : List Output
  /-- The model's own counter of free values (log entry 2). -/
  free    : Nat
  /-- Commands that wait, first in first out. -/
  pending : List Instr
  deriving DecidableEq, Repr

/-- Domain 0 held in power-on reset: every register at the reset value of its field map, nothing powered, no command waiting (log entries 5 and 41). -/
def State.reset : State :=
  { time := {}, laneA := {}, laneB := {}, memA := [], memB := [], arb := {}, power := {}, safety := {}, keep := {}, lantern := {}, host := {},
    oculus := {}, belfry := {}, node := {}, jtag := {}, bridgeFault := false, latched := none, outbox := [], free := 0, pending := [] }

end Sys2Proof.Machine
end

