-- ==== Sys2Proof/Machine/Ops.lean ====
section
/-! DEFINITION. The named operations over the whole state: its parts, the effects a unit asks of the others, and the timing of commands. -/

namespace Sys2Proof.Machine

/-! The parts of State. -/

def State.lane (s : State) : LaneId → Lane
  | .A => s.laneA
  | .B => s.laneB

def State.setLane (s : State) (l : LaneId) (x : Lane) : State :=
  match l with
  | .A => { s with laneA := x }
  | .B => { s with laneB := x }

def State.modLane (s : State) (l : LaneId) (f : Lane → Lane) : State := s.setLane l (f (s.lane l))

def State.mem (s : State) : LaneId → Memory
  | .A => s.memA
  | .B => s.memB

def State.setMem (s : State) (l : LaneId) (m : Memory) : State :=
  match l with
  | .A => { s with memA := m }
  | .B => { s with memB := m }

def State.modTime (s : State) (f : TimeState → TimeState) : State := { s with time := f s.time }
def State.modArb (s : State) (f : ArbState → ArbState) : State := { s with arb := f s.arb }
def State.modPower (s : State) (f : PowerState → PowerState) : State := { s with power := f s.power }
def State.modSafety (s : State) (f : SafetyState → SafetyState) : State := { s with safety := f s.safety }
def State.modKeep (s : State) (f : KeepState → KeepState) : State := { s with keep := f s.keep }
def State.modLantern (s : State) (f : LanternState → LanternState) : State := { s with lantern := f s.lantern }
def State.modHost (s : State) (f : HostState → HostState) : State := { s with host := f s.host }
def State.modOculus (s : State) (f : OculusState → OculusState) : State := { s with oculus := f s.oculus }
def State.modBelfry (s : State) (f : BelfryState → BelfryState) : State := { s with belfry := f s.belfry }
def State.modNode (s : State) (f : NodeState → NodeState) : State := { s with node := f s.node }
def State.modJtag (s : State) (f : JtagState → JtagState) : State := { s with jtag := f s.jtag }
def State.setBridge (s : State) (b : Bool) : State := { s with bridgeFault := b }
def State.setLatched (s : State) (m : Option Nat) : State := { s with latched := m }
/-- An output of the module leaves; under EXTEST the pins are driven from the scan chain and nothing of it does (R593). -/
def State.emit (s : State) (o : Output) : State := if s.jtag.extest then s else { s with outbox := s.outbox ++ [o] }
/-- An output of the test access port. -/
def State.emitPin (s : State) (o : Output) : State := { s with outbox := s.outbox ++ [o] }
/-- The free-value counter moves on by `n` (log entry 2). -/
def State.useFree (s : State) (n : Nat) : State := { s with free := s.free + n }

/-! What the module is. -/

/-- The lane that is ACTIVE. -/
def State.activeLane (s : State) : Option LaneId := Sys2Proof.Machine.activeLane s.arb
/-- The lane that the Watchtower selects (R36). -/
def State.sel (s : State) : LaneId := s.arb.active
/-- The lane's management domain has power and its core supply holds. -/
def State.laneRuns (s : State) (l : LaneId) : Bool := s.power.laneOn l && !(vget s.power.lost l.num)
def State.islandRuns (s : State) (l : LaneId) (i : Nat) : Bool := s.power.islandOn l i && !(vget s.power.lost l.num)
/-- A management core waits for a free entry of an island's queue Q11, or of Q13 (R28): its access is the first word of the entry it holds. -/
def coreStalled (x : Lane) (core : Nat) : Bool :=
  let mine (e : QEntry) : Bool := e.words.head? == some core
  ((List.range 9).any fun i => ((vget x.queued 11).beyond (qDepth 11) i).any mine) || ((vget x.queued 13).beyond (qDepth 13) 7).any mine

/-- A management core of a lane works: in the arbiter-only role cores 1 to 3 are gated (Table 1.5). -/
def coreRuns (s : State) (l : LaneId) (core : Nat) : Bool := s.laneRuns l && (s.power.role != 1 || decide (core = 0)) && !coreStalled (s.lane l) core
def State.isActive (s : State) (l : LaneId) : Bool := (s.arb.lane l).state == 6
def State.laneState (s : State) (l : LaneId) : Nat := (s.arb.lane l).state
/-- The image in force in a lane. -/
def State.laneImg (s : State) (l : LaneId) : Option Bytes := (s.lane l).image.active
/-- The image in force as the Watchtower knows it: the selected lane's, else the other lane's. -/
def State.image (s : State) : Option Bytes := (s.laneImg s.sel).orElse fun _ => s.laneImg s.sel.other
/-- The module number of Table 16.2: 0 in a one-module system. -/
def State.moduleNo (s : State) : Nat := if redModules s.image ≤ 1 ∧ s.power.role ≠ 1 then 0 else s.power.module
/-- The lane whose core 0 serves the host channels: the ACTIVE lane, or, while there is none, the selected lane when it runs (log entry 56).
In the arbiter-only role that is the selected lane, whose management domain is on (R397). -/
def State.server (s : State) : Option LaneId :=
  s.activeLane.orElse fun _ =>
    if s.laneRuns s.sel && (s.power.role == 1 || (s.laneState s.sel != 0 && s.laneState s.sel != 7)) then some s.sel else none
/-- A module in the controller role (Table 0.1). -/
def State.isController (s : State) : Bool := s.power.role == 0 && !s.power.nx
/-- The thruster-node role: by strap, or the ordering code AKP-960-NX (R2, R564). -/
def State.isNode (s : State) : Bool := s.power.role == 2 || s.power.nx
/-- The module in control, or the single module (R428). -/
def State.inControl (s : State) : Bool := Sys2Proof.Machine.inControl s.image s.isController s.arb
def State.phase (s : State) : Nat := s.time.cycle % 50
/-- Device time in ns: 20 ms a cycle, 1 µs a tick (R46). -/
def State.deviceNs (s : State) : Int := (s.time.cycle : Int) * 20000000 + (s.time.tick : Int) * 1000

/-- Change the lanes that have power. -/
def State.modLanes (s : State) (f : Lane → Lane) : State :=
  let s1 := if s.laneRuns .A then s.modLane .A f else s
  if s.laneRuns .B then s1.modLane .B f else s1

/-! Effects. -/

/-- Bytes of the Ethernet frame around a UDP payload, destination address to frame check sequence (Table 20.6). -/
def ethBytes (n : Nat) : Nat := max 64 (n + 46)

/-- Count an event in one lane, whose domain must be on (R519, R525). -/
def countIn (l : LaneId) (ev q n : Nat) (s : State) : State :=
  if s.laneRuns l && decide (0 < n) then
    s.modLane l fun x => { x with counters := countEvent (s.isActive l) ev q n x.counters,
                                  occurred := if x.occurred.contains ev then x.occurred else x.occurred ++ [ev] }
  else s

/-- An event of one lane, or of the Watchtower or Sky die, which both lanes count (R519). -/
def count (src : Option LaneId) (ev q n : Nat) (s : State) : State :=
  match src with
  | some l => countIn l ev q n s
  | none => countIn .B ev q n (countIn .A ev q n s)

/-- Traffic through a port of a lane (R526). -/
def bwCount (l : LaneId) (port i o frames drops : Nat) (s : State) : State :=
  s.modLane l fun x => { x with bw := vmodN x.bw port (bwFrame i o frames drops) }

/-- A UDP datagram leaves by a port (R432). -/
def sendDatagram (p : EthPort) (dst : Source) (raw : Bytes) (s : State) : State :=
  (bwCount p.lane (8 + p.num.val) 0 (ethBytes raw.length) 1 0 s).emit (.datagram p dst raw)

/-- CYCLE of a Keep record: all ones while no lane runs the control path (Table 18.2). -/
def keepCycle (s : State) : Nat :=
  if (s.arb.lane .A).running || (s.arb.lane .B).running then s.time.cycle % 2 ^ 32 else 0xFFFFFFFF

/-- A record enters the Keep queue (R489, R491): alarm records from the selected lane only. -/
def keepPut (src : Option LaneId) (typ : Nat) (integ : Bool) (payload : Bytes) (s : State) : State :=
  if typ = 3 ∧ src ≠ some s.sel then s
  else
    let source := match src with
      | none => 0
      | some l => l.num + 1
    let r := keepEnqueue s.time.us (keepCycle s) typ source integ payload (keepPoll s.time.us (keepCycle s) s.keep)
    let s1 := s.modKeep fun _ => r.1
    if r.2 then count none 0x0C06 0 1 s1 else s1

/-- A channel closes: session, reorder buffer, cache and notifications go (R438). -/
def closeChannel (c : Fin 4) (s : State) : State := 
  s.modHost fun h => HostState.syncToken s.time.us { h with chans := vmod h.chans c fun _ => {} }

def TOKEN_ASKED : Nat := 0xF014

/-- A notification on one channel (R452 to R454): sent and held, or, with 1,024 held, the session closes instead. -/
def postNote (code : Nat) (tag : Option (Nat × Nat)) (payload : Bytes) (s : State) (c : Fin 4) : State :=
  let ch := s.host.chans[c]
  match ch.session with
  | none => s
  | some ss =>
    if subscribed ss.mask (noteClass code) && (code != TOKEN_ASKED || ss.station == s.host.token.holder) then
      if 1024 ≤ ch.notes.length then closeChannel c s
      else
        let t := match tag with
          | some (k, v) => if k = c.val then v else 0
          | none => 0
        let ep := s.host.token.epoch
        let raw := packetBytes (outFlags false s.sel s.moduleNo true) code t ch.nextNote 0 ss.station ep (s.time.cycle % 2 ^ 32) payload
        let s1 := s.modHost fun h => { h with chans := vmod h.chans c fun x =>
          { x with nextNote := nextSeq x.nextNote, notes := x.notes ++ [⟨x.nextNote, code, t, payload, s.time.cycle, ep⟩] } }
        sendDatagram ss.port ss.src raw (count (some s.sel) 0x0106 c.val 1 s1)
    else s

/-- A notification from the serving lane, or from the Watchtower or Sky die through it, to every subscribed channel. -/
def noteAll (src : Option LaneId) (code : Nat) (tag : Option (Nat × Nat)) (payload : Bytes) (s : State) : State :=
  let ok := match src, s.server with
    | _, none => false
    | none, some _ => true
    | some l, some a => l == a
  if ok && !s.power.pfail then [0, 1, 2, 3].foldl (postNote code tag payload) s else s

/-- The end tick of the output stage has come in a lane's cycle: a violation detected from then on is for the next cycle's digest (R62). -/
def outputEnded (s : State) (l : LaneId) : Bool := decide ((((s.lane l).image.active.map imgOutputEnd).getD 0) ≤ s.time.tick)

/-- A certificate violation of a lane (R62, R63, R99). -/
def violate (l : LaneId) (kind island slot excess : Nat) (s : State) : State :=
  let x := s.lane l
  let p := pmuViolate (outputEnded s l) s.time.cycle kind island slot excess x.pmu
  let p1 := if kind = 5 then requestSlower x.image.active (decide (19900 < s.time.tick)) 2 p else p
  let hit := x.image.state == 1 && (kind == 0 || kind == 2 || kind == 4)
  let s1 := s.setLane l { x with pmu := p1, image := if hit then { x.image with violated := true } else x.image }
  let word := tierWord p1 ((x.image.active.map imgSlowest).getD p1.tier)
  keepPut (some l) 4 true (leBytes 4 p1.violLast ++ leBytes 4 p1.violCycle ++ leBytes 4 word) (count (some l) 0x0A01 kind 1 s1)

/-- What a unit asks of the others; `src` is the lane it stands in, or none for the Watchtower and Sky dies. -/
def applyEffect (src : Option LaneId) (s : State) (e : Effect) : State :=
  match e with
  | .count ev q n => count src ev q n s
  | .keep typ integ payload => keepPut src typ integ payload s
  | .note code tag payload => noteAll src code tag payload s
  | .out o => s.emit o
  | .viol kind island slot excess => violate (src.getD s.sel) kind island slot excess s
  | .bw port i o f d => match src with
    | some l => bwCount l port i o f d s
    | none => s
  | .alarm ident => match src with
    | some l => s.modLane l fun x => { x with instant := if x.instant.contains ident then x.instant else x.instant ++ [ident] }
    | none => s.modLanes fun x => { x with instant := if x.instant.contains ident then x.instant else x.instant ++ [ident] }

def applyEffects (src : Option LaneId) (es : List Effect) (s : State) : State := es.foldl (applyEffect src) s

/-- A lane meets a fault condition of Table 15.3 (R400). A node has no second lane: it goes FAULTED at the boundary, and wakes again under R406 (R565). -/
def laneMeets (l : LaneId) (code : Nat) (s : State) : State :=
  if s.isNode then
    s.modArb fun a => a.modLane l fun x =>
      if x.state = 0 ∨ x.state = 7 ∨ x.faultAt.isSome then x else { x with cause := code, faultAt := some (effBoundary s.time.cycle s.time.tick) }
  else s.modArb (laneFault s.time.cycle s.time.tick l code)

/-! Timing of commands (log entry 1). -/

/-- Time moves on to tick `t` of the cycle; it never moves back. -/
def advanceTo (t : Nat) (s : State) : State :=
  if s.time.tick ≤ t then s.modTime fun x => { x with us := x.us + (t - x.tick), tick := t } else s

/-- An event that the spec puts at tick `t` of each cycle: it takes place once in a cycle, and not after its tick has passed. -/
def atTick (code t : Nat) (k : State → State) (s : State) : State :=
  if s.time.tick ≤ t ∧ s.time.ran.contains code = false then
    k ((advanceTo t s).modTime fun x => { x with ran := code :: x.ran })
  else s

/-- The code of a lane's event number `n`. -/
def laneCodeOf (n : Nat) (l : LaneId) : Nat := 2 * n + l.num

/-- One microsecond passes while domain 0 runs. The last tick of a cycle lasts until CYCLE_BOUNDARY. -/
def idleTick (s : State) : State :=
  if s.power.booted then s.modTime fun x => if x.tick < 19999 then { x with tick := x.tick + 1, us := x.us + 1 } else x else s

/-- Time moves on to the microsecond `us` within the cycle. -/
def advanceUs (us : Nat) (s : State) : State :=
  if us ≤ s.time.us then s else advanceTo (min 19999 (s.time.tick + (us - s.time.us))) s

end Sys2Proof.Machine
end

