-- ==== Sys2Proof/Machine/Regs.lean ====
section
/-! DEFINITION. Every register of the lane windows, the Sky die and the Watchtower by its offset: what a read returns, what a read clears, what a write does (R17, R43, R430). -/

namespace Sys2Proof.Machine

/-! Lane windows (Tables 1.7 and 1.8). -/

/-- The common low byte of an island's status register (Table 1.8): an island whose PLL runs is locked at its tier's frequency. -/
def statusLow (s : State) (l : LaneId) (island : Nat) (link : Bool) : Nat :=
  let p := (s.lane l).pmu
  let f := vget p.flags island
  lowByte { f with clkLock := s.islandRuns l island && vget p.clockRuns island && !vget p.pllLost island, linkFault := link } p.tier

/-- The mode changes that wait for the next boundary: MODE_PENDING (R250). -/
def modePending (s : State) (l : LaneId) : Bool :=
  let x := s.lane l
  x.control.autoTo.isSome || x.staged.any fun g => g.opcode == 0x0201

/-- The exchange of the last long cycle completed (Table 6.1): it takes place in phase 10 (R426), so until that cycle has passed the last one is that of the
long cycle before. -/
def baiqueTime (s : State) : Bool :=
  let done := s.arb.timeEx.doneAt / 50
  let now := s.time.cycle / 50
  s.arb.timeEx.result.isSome && (done == now || (decide (s.phase ≤ 10) && done + 1 == now)) && !s.arb.timeMaster

/-- Neither Sky link of a module with a Sky die carries time (R161); the roles without one use the same fallback, a node its reference frames. -/
def skyTimeGone (s : State) : Bool :=
  if s.isNode then false
  else if s.isController then (s.laneA.skyFault && s.laneB.skyFault) || (s.belfry.originSet && !(s.power.isOn 2 && s.power.isOn 3))
  else true

/-- TIME_LOST (R161). -/
def syncTimeLost (s : State) : State := s.modLanes fun x => { x with pmu := { x.pmu with timeLost := skyTimeGone s && !baiqueTime s } }

/-- A link of the lane has failed twice (R33). -/
def anyLinkFault (s : State) (l : LaneId) : Bool := s.bridgeFault || (s.lane l).skyFault || (s.lane l).wtFault

/-- The words of CPL_STATUS, SPR_STATUS, CTL_STATUS, FLT_STATUS, BUS_STATUS, BUS_INGEST_STATUS and PMU_STATUS; TIME_LOST of PMU_STATUS at bit 8 (log entry 57). -/
def cplStatus (s : State) (l : LaneId) : Nat := cplStatusHigh (s.lane l).cupola + statusLow s l 1 false
def sprStatus (s : State) (l : LaneId) : Nat := sprStatusHigh (s.lane l).alloc + statusLow s l 2 false
def ctlStatus (s : State) (l : LaneId) : Nat :=
  let x := s.lane l
  ctlStatusHigh (((x.image.active).map fun i => imgSection i secGains).getD []) (modePending s l) x.control + statusLow s l 3 false
def fltStatus (s : State) (l : LaneId) : Nat := fltStatusHigh (s.lane l).filter + statusLow s l 4 false
def busStatus (s : State) (l : LaneId) : Nat := busStatusHigh (s.lane l).bus + statusLow s l 5 false
def ingestStatus (s : State) (l : LaneId) : Nat := ingestStatusHigh (vget (s.lane l).bw 8).heard (vget (s.lane l).bw 9).heard (s.lane l).ingest + statusLow s l 6 false
/-- PMU_STATUS. CLK_LOCK and BB_ACTIVE are those of the management island, which R44 does not say (DESIGN CHOICE, log entry 78). -/
def pmuStatus (s : State) (l : LaneId) : Nat := at1 8 (s.lane l).pmu.timeLost + statusLow s l 0 (anyLinkFault s l)

def section_ (s : State) (l : LaneId) (sec : Nat) : Bytes := ((s.laneImg l).map fun i => imgSection i sec).getD []

def pmuTier (s : State) (l : LaneId) : Nat :=
  let x := s.lane l
  tierWord x.pmu ((x.image.active.map imgSlowest).getD 0)

/-- A CPL_ register. -/
def cplRead (s : State) (l : LaneId) (off : Nat) : Nat :=
  let c := (s.lane l).cupola
  if off = 0 then cplStatus s l
  else if off = 0x10 then cplClassWord c
  else if off = 0x14 then maskOf ((List.range 32).filter fun k => (vget c.tracks k).state == 5)
  else if off = 0x18 then maskOf ((List.range 32).filter fun k => (vget c.tracks k).state == 7)
  else if off = 0x1C then c.resolveVoid
  else if off = 0x20 then atF 16 16 c.exclScreen + atF 0 16 c.exclResid
  else if 0x100 ≤ off ∧ off < 0x300 then cplTrackWord c ((off - 0x100) / 16) (off % 16 / 4)
  else 0

/-- An SPR_ register. -/
def sprRead (s : State) (l : LaneId) (off : Nat) : Nat :=
  let x := s.lane l
  match off with
  | 0x0000 => sprStatus s l
  | 0x0400 => obsStatusWord (section_ s l secObserver) x.observer
  | 0x0404 => obsGapWord x.observer
  | 0x0408 => x.observer.returnMm
  | 0x040C => atF 16 16 x.observer.drHdg + atF 0 16 x.observer.drPos
  | _ => sprReg (section_ s l secAlloc) x.alloc off

/-- A CTL_ register. -/
def ctlRead (s : State) (l : LaneId) (off : Nat) : Nat :=
  match off with
  | 0x0000 => ctlStatus s l
  | 0x0004 => ctlRegionWord (section_ s l secRegions) (s.lane l).control
  | _ => ctlReg (s.lane l).control off

/-- An FLT_ register. -/
def fltRead (s : State) (l : LaneId) (off : Nat) : Nat :=
  let f := (s.lane l).filter
  if off = 0 then fltStatus s l
  else if off = 4 then ofSigned 32 f.seaS
  else if off = 8 then atF 16 16 f.fall + atF 0 16 f.rise
  else if 0x100 ≤ off ∧ off < 0x1C0 then
    let i := vget f.inputs ((off - 0x100) / 16)
    match off % 16 / 4 with
    | 0 => fltInStatus i
    | 1 => ofSigned 32 i.last
    | 2 => ofSigned 32 i.sum.rms
    | _ => ofSigned 32 i.sum.env
  else 0

/-- The node block: REDUNDANCY of a node image (R566). -/
def nodeBlock (s : State) : Bytes := section_ s .A secRedundancy

/-- DRIVE_LINK_LOST: DRIVE_FB_CH is stale as its latest value stands now (R576). -/
def driveLost (s : State) : Bool :=
  let ch := nbFbCh (nodeBlock s)
  isStale (chanEntry (section_ s .A secChannels) ch) s.deviceNs.toNat (vget s.laneA.ingest.store ch)

/-- NSTATUS of a node (Table 23.3). -/
def nodeStatus (s : State) : Nat := nodeStatusByte (safNetSingle s.safety) (s.safety.state == 3) (driveLost s) s.node

/-- A register of the bus window: networks, mailboxes, event queue entries, and the node's. -/
def busRead (s : State) (l : LaneId) (off : Nat) : Nat :=
  let b := (s.lane l).bus
  if off = 0 then busStatus s l
  else if 0x40 ≤ off ∧ off < 0x50 then
    if off = 0x40 then nodeStatusHigh (nodeBlock s) (nodeStatus s) s.node + statusLow s l 5 false else nodeReg off s.node
  else if 0x100 ≤ off ∧ off < 0x200 then netReg s.time.cycle (vget b.nets ((off - 0x100) / 0x40)) (off % 0x40)
  else if 0x8000 ≤ off ∧ off < 0xD000 then
    let k := off - 0x8000
    u32 (mailboxBytes (vget (vget b.nets (k / 0x1400)).mailboxes (k % 0x1400 / 80))) (k % 0x1400 % 80)
  else if 0xD000 ≤ off ∧ off < 0xD000 + 4 * 0x480 then u32 (vget b.evtEntry ((off - 0xD000) / 0x480)) ((off - 0xD000) % 0x480)
  else 0

/-- A register of the ingest window: status, port and channel counters (R121). -/
def ingestRead (s : State) (l : LaneId) (off : Nat) : Nat :=
  let g := (s.lane l).ingest
  if off = 0 then ingestStatus s l
  else if 0x1000 ≤ off ∧ off < 0x10A0 then
    let p := vget g.ports ((off - 0x1000) / 16)
    match off % 16 / 4 with
    | 0 => p.frames
    | 1 => p.abort
    | 2 => p.check
    | _ => p.ovf
  else if 0x4000 ≤ off ∧ off < 0x5000 then
    let c := vget g.counters ((off - 0x4000) / 16)
    match off % 16 / 4 with
    | 0 => c.upd
    | 1 => atF 16 16 c.lateDrop + atF 0 16 c.dupDrop
    | 2 => atF 16 16 c.lateNext + atF 0 16 c.reject
    | _ => 0
  else if 0x8000 ≤ off ∧ off < 0xC000 then u32 (storeBytes (vget g.store ((off - 0x8000) / 64))) (off % 64)
  else 0

/-- A PMU_ register. The window lists no place for the bridge's BRIDGE_LATE count of R31, so it stands at no offset here (DESIGN CHOICE, log entry 78). -/
def pmuRead (s : State) (l : LaneId) (off : Nat) : Nat :=
  let x := s.lane l
  let p := x.pmu
  match off with
  | 0x0000 => pmuStatus s l
  | 0x0100 => s.time.cycle % 2 ^ 32
  | 0x0104 => p.cycleHiLatch
  | 0x0108 => at1 31 p.stageClosed + at1 30 (decide (19900 ≤ s.time.tick)) + atF 0 15 s.time.tick
  | 0x0110 => pmuTier s l
  | 0x0120 => violCountWord p
  | 0x0124 => p.violLast
  | 0x0128 => p.violCycle
  | 0x0200 => ageStatusWord p
  | 0x0204 => p.slackTe
  | 0x0300 => memConfigWord p.mem
  | 0x0304 => memStatusWord p.mem
  | 0x0308 => p.mem.ce
  | 0x030C => p.mem.ue
  | 0x0310 => p.mem.errAddr % 2 ^ 32
  | 0x0314 => p.mem.errHiLatch
  | 0x0318 => p.mem.errInfo
  | 0x031C => memScrubWord p.mem
  | _ => if 0x0140 ≤ off ∧ off < 0x0150 then imgReg p.marginTiers x.image off
    else if 0x0210 ≤ off ∧ off < 0x0234 then ageIslWord l p ((off - 0x0210) / 4) else 0

/-- The word of a bandwidth window (R526). -/
def bwWord (w : BwWindow) (k : Nat) : Nat :=
  match k with
  | 0 => w.bwIn
  | 1 => w.bwOut
  | 2 => w.peak
  | _ => bwFramesWord w

def bwWindow (x : Lane) (port : Nat) : Option BwWindow :=
  match bwIndex port with
  | some (false, k) => some (vget x.bw k)
  | some (true, k) => some (vget x.bwRemote k)
  | none => none

/-- A CNT_ register (R516, R526): counters from offset 0, windows from 0x0800. -/
def cntWinRead (s : State) (l : LaneId) (off : Nat) : Nat :=
  let x := s.lane l
  if off < 0x400 then
    match off % 16 / 4 with
    | 0 => (cntValueRead (off / 16) x.counters).1
    | 1 => cntStatusWord x.counters (s.isActive l) (off / 16)
    | 2 => cntConfigWord x.counters (off / 16)
    | _ => 0
  else if 0x800 ≤ off ∧ off < 0x800 + 16 * 64 then
    match bwWindow x ((off - 0x800) / 16) with
    | some w => bwWord w (off % 16 / 4)
    | none => 0
  else 0

/-- The word at an offset of the lane's register windows. -/
def winRead (s : State) (l : LaneId) (off : Nat) : Nat :=
  let o := off % 0x10000
  match off / 0x10000 with
  | 0 => cplRead s l o
  | 1 => sprRead s l o
  | 2 => ctlRead s l o
  | 3 => fltRead s l o
  | 4 => busRead s l o
  | 5 => ingestRead s l o
  | 6 => pmuRead s l o
  | 7 => cntWinRead s l o
  | _ => 0

/-- The island whose domain a window stands in. -/
def winIsland (off : Nat) : Nat :=
  match off / 0x10000 with
  | 0 => 1
  | 1 => 2
  | 2 => 3
  | 3 => 4
  | 4 => 5
  | 5 => 6
  | _ => 0

/-- A read of word `k` of a port's or a channel's counters clears it where it is RC (R121). -/
def portReadClear (k : Nat) (p : PortState) : PortState :=
  match k with
  | 0 => p
  | 1 => { p with abort := 0 }
  | 2 => { p with check := 0 }
  | _ => { p with ovf := 0 }

def chanReadClear (k : Nat) (c : ChanCounters) : ChanCounters :=
  match k with
  | 1 => { c with lateDrop := 0, dupDrop := 0 }
  | 2 => { c with lateNext := 0, reject := 0 }
  | _ => c

/-- RC fields cleared, and latches set, by a read of a window (Table 0.7, R49, R521, R563). -/
def winReadFx (off : Nat) (l : LaneId) (s : State) : State :=
  let o := off % 0x10000
  match off / 0x10000 with
  | 0 => if o = 0x1C then s.modLane l fun x => { x with cupola := { x.cupola with resolveVoid := 0 } }
    else if o = 0x20 then s.modLane l fun x => { x with cupola := { x.cupola with exclScreen := 0, exclResid := 0 } } else s
  | 1 =>
    if o = 0x0400 then s.modLane l fun x => { x with observer := { x.observer with reInit := 0 } }
    else if o = 0x040C then s.modLane l fun x => { x with observer := { x.observer with drPos := 0, drHdg := 0 } }
    else if o = 0x0030 then s.modLane l fun x => { x with alloc := { x.alloc with pivCount := 0 } }
    else if o = 0x0044 then s.modLane l fun x => { x with alloc := { x.alloc with deltaIgn := 0 } }
    else if o = 0x0854 then s.modLane l fun x => { x with alloc := { x.alloc with admitted := 0 } }
    else if 0x0100 ≤ o ∧ o < 0x0124 then s.modLane l fun x => { x with alloc := { x.alloc with outcomes := vmodN x.alloc.outcomes ((o - 0x0100) / 4) fun _ => 0 } }
    else s
  | 2 => if o = 0x48 then s.modLane l fun x => { x with control := { x.control with refused := 0 } }
    else if o = 0x4C then s.modLane l fun x => { x with control := { x.control with swaps := 0 } } else s
  | 3 => if 0x100 ≤ o ∧ o < 0x1C0 ∧ o % 16 = 0 then
      s.modLane l fun x => { x with filter := { x.filter with inputs := vmodN x.filter.inputs ((o - 0x100) / 16) fun i => { i with faultCount := 0 } } } else s
  | 4 => if o = 0x4C then s.modNode fun n => { n with cntDiff := 0, cntStale := 0 }
    else if 0x100 ≤ o ∧ o < 0x200 then
      s.modLane l fun x => { x with bus := { x.bus with nets := vmodN x.bus.nets ((o - 0x100) / 0x40) (netRegClear (o % 0x40)) } }
    else s
  | 5 =>
    if 0x1000 ≤ o ∧ o < 0x10A0 then
      s.modLane l fun x => { x with ingest := { x.ingest with ports := vmodN x.ingest.ports ((o - 0x1000) / 16) (portReadClear (o % 16 / 4)) } }
    else if 0x4000 ≤ o ∧ o < 0x5000 then
      s.modLane l fun x => { x with ingest := { x.ingest with counters := vmodN x.ingest.counters ((o - 0x4000) / 16) (chanReadClear (o % 16 / 4)) } }
    else s
  | 6 =>
    if o = 0x0100 then s.modLane l fun x => { x with pmu := { x.pmu with cycleHiLatch := atF 16 6 (s.time.cycle % 50) + atF 0 16 (s.time.cycle / 2 ^ 32) } }
    else if o = 0x0120 then s.modLane l fun x => { x with pmu := { x.pmu with spareCnt := 0, iterCnt := 0, exCnt := 0, ovrCnt := 0 } }
    else if o = 0x0308 then s.modLane l fun x => { x with pmu := { x.pmu with mem := { x.pmu.mem with ce := 0 } } }
    else if o = 0x030C then s.modLane l fun x => { x with pmu := { x.pmu with mem := { x.pmu.mem with ue := 0 } } }
    else if o = 0x0310 then s.modLane l fun x => { x with pmu := { x.pmu with mem := { x.pmu.mem with errHiLatch := x.pmu.mem.errAddr / 2 ^ 32 % 256 } } }
    else s
  | 7 =>
    if o < 0x400 ∧ o % 16 / 4 = 0 then s.modLane l fun x => { x with counters := (cntValueRead (o / 16) x.counters).2 }
    else if 0x800 ≤ o ∧ o < 0xC00 ∧ o % 16 / 4 = 2 then
      s.modLane l fun x => match bwIndex ((o - 0x800) / 16) with
        | some (false, k) => { x with bw := vmodN x.bw k fun w => { w with peak := 0 } }
        | some (true, k) => { x with bwRemote := vmodN x.bwRemote k fun w => { w with peak := 0 } }
        | none => x
    else s
  | _ => s

/-- The W1C bits of the common low byte (Table 1.8). -/
def lowW1C (island w : Nat) (p : PmuState) : PmuState :=
  { p with flags := vmodN p.flags island fun f => { f with
      queueOvf := f.queueOvf && !bitOf 7 w, slotRefused := f.slotRefused && !bitOf 5 w } }

/-- A write of a word into the lane's register windows acts by its field access codes (R17): W1C, RW and WO; every RO and RC field ignores it.
A counter's configuration is written as R517 states; the doorbell appends the written entry (R357). -/
def winWrite (off w : Nat) (l : LaneId) (s : State) : State :=
  let o := off % 0x10000
  let low (x : Lane) (island : Nat) : Lane := { x with pmu := lowW1C island w x.pmu }
  match off / 0x10000 with
  | 0 => if o = 0 then s.modLane l fun x => { low x 1 with cupola := { x.cupola with abandoned := x.cupola.abandoned && !bitOf 23 w } } else s
  | 1 =>
    if o = 0 then s.modLane l fun x => { low x 2 with alloc := { x.alloc with
      ovf := x.alloc.ovf && !bitOf 31 w, pivReplaced := x.alloc.pivReplaced && !bitOf 30 w, residFail := x.alloc.residFail && !bitOf 29 w,
      allocTrunc := x.alloc.allocTrunc && !bitOf 28 w, deltaIgnored := x.alloc.deltaIgnored && !bitOf 26 w } }
    else if o = 0x0400 then s.modLane l fun x => { x with observer := { x.observer with ovf := x.observer.ovf && !bitOf 25 w, stretch := x.observer.stretch && !bitOf 24 w } }
    else if o = 0x0850 then s.modLane l fun x => { x with alloc := { x.alloc with queueFull := x.alloc.queueFull && !bitOf 26 w, startFailed := x.alloc.startFailed && !bitOf 25 w } }
    else s
  | 2 => if o = 0 then s.modLane l fun x => { low x 3 with control := { x.control with modeRefused := x.control.modeRefused && !bitOf 16 w, miss := x.control.miss && !bitOf 15 w } } else s
  | 3 =>
    if o = 0 then s.modLane l fun x => { low x 4 with filter := { x.filter with remoteMissing := x.filter.remoteMissing && !bitOf 27 w } }
    else if 0x100 ≤ o ∧ o < 0x1C0 ∧ o % 16 = 0 then
      s.modLane l fun x => { x with filter := { x.filter with inputs := vmodN x.filter.inputs ((o - 0x100) / 16) fun i => { i with sat := i.sat && !bitOf 23 w } } }
    else s
  | 4 =>
    if o = 0 then s.modLane l fun x => { low x 5 with bus := { x.bus with schedErr := x.bus.schedErr && !bitOf 22 w, twinDiff := x.bus.twinDiff && !bitOf 21 w } }
    else if 0x100 ≤ o ∧ o < 0x200 ∧ o % 0x40 = 0 then
      s.modLane l fun x => { x with bus := { x.bus with nets := vmodN x.bus.nets ((o - 0x100) / 0x40) (netStateW1C w) } }
    else if o = 0x1000 then s.modLane l fun x => { x with bus := doorbell (w % 4) (entryFrame (vget x.bus.evtEntry (w % 4))) x.bus }
    else if 0x8000 ≤ o ∧ o < 0xD000 ∧ (o - 0x8000) % 0x1400 % 80 = 4 then
      s.modLane l fun x => { x with bus := mailboxW1C w ((o - 0x8000) / 0x1400) ((o - 0x8000) % 0x1400 / 80) x.bus }
    else if 0xD000 ≤ o ∧ o < 0xD000 + 4 * 0x480 ∧ (o - 0xD000) % 0x480 < 72 then
      s.modLane l fun x => { x with bus := { x.bus with evtEntry := vmodN x.bus.evtEntry ((o - 0xD000) / 0x480) fun e => patchB (padTo 72 e) ((o - 0xD000) % 0x480) (leBytes 4 w) } }
    else s
  | 5 => if o = 0 then s.modLane l fun x => { low x 6 with ingest := { x.ingest with
        serBreak := x.ingest.serBreak &&& (255 - bitsOf 23 16 w), lateAny := x.ingest.lateAny && !bitOf 11 w, dupAny := x.ingest.dupAny && !bitOf 10 w,
        rejectAny := x.ingest.rejectAny && !bitOf 9 w, rxOvf := x.ingest.rxOvf && !bitOf 8 w } } else s
  | 6 =>
    if o = 0 then s.modLane l fun x => low x 0
    else if o = 0x0110 then s.modLane l fun x => { x with pmu := { x.pmu with certBreached := x.pmu.certBreached && !bitOf 30 w } }
    else if o = 0x0140 then s.modLane l fun x => { x with image := imgW1C w x.image }
    else if o = 0x0304 then s.modLane l fun x => { x with pmu := { x.pmu with mem := { x.pmu.mem with
      ueAny := x.pmu.mem.ueAny && !bitOf 30 w, ceAny := x.pmu.mem.ceAny && !bitOf 29 w, persistent := x.pmu.mem.persistent && !bitOf 28 w } } }
    else s
  | 7 => if o < 0x400 ∧ o % 16 / 4 = 2 then s.modLane l fun x => { x with counters := cntConfigWrite (o / 16) w x.counters }
    else if o = 0x400 then s.modLane l fun x => { x with counters := cntClear (w % 2 ^ 32) x.counters }
    else if o = 0x404 then s.modLane l fun x => { x with counters := cntClear (w % 2 ^ 32 * 2 ^ 32) x.counters }
    else s
  | _ => s

/-! Sky die registers: OCU_ from offset 0, BLF_ from 0x8_0000 (Tables 5.10, 6.5). -/

/-- Bytes of the header of a raw block and of the block (R150). -/
def rawHeader (b : RawBlock) : Bytes := padTo 64 (leBytes 8 b.cycle ++ leBytes 2 b.entries.length ++ leBytes 2 (b.seq % 65536))

def skyRead (s : State) (off : Nat) : Nat :=
  let o := s.oculus
  if 0x80000 ≤ off then blfRead s.time.us (off - 0x80000) s.belfry
  else if off < 0x30000 then
    match off with
    | 0x00 => ocuStatusWord o
    | 0x04 => o.jamWord
    | 0x08 => o.spoofWord
    | 0x10 => o.rtcmOk
    | 0x14 => o.rtcmBad
    | 0x18 => o.rtcmIgn
    | 0x1C => o.rtcmDup
    | 0x20 => o.recLate
    | _ => 0
  else if off < 0x30200 then u32 (rawHeader (vget o.ring ((off - 0x30000) / 64))) (off % 64)
  else if 0x40000 ≤ off ∧ off < 0x60000 then
    u32 ((vget o.ring ((off - 0x40000) / 16384)).entries.getD (off % 16384 / 32) []) (off % 32)
  else 0

def skyReadFx (off : Nat) (s : State) : State :=
  if off = 0x80008 then s.modBelfry offsetLatch
  else match off with
    | 0x14 => s.modOculus fun o => { o with rtcmBad := 0 }
    | 0x18 => s.modOculus fun o => { o with rtcmIgn := 0 }
    | 0x1C => s.modOculus fun o => { o with rtcmDup := 0 }
    | 0x20 => s.modOculus fun o => { o with recLate := 0 }
    | _ => s

/-- W1C fields of OCU_STATUS (Table 5.11). -/
def skyWrite (off w : Nat) (s : State) : State :=
  if off = 0 then s.modOculus fun o => { o with
    recordLate := o.recordLate && !bitOf 19 w,
    chains := Vector.ofFn fun i : Fin 4 => { o.chains[i] with clip := o.chains[i].clip && !bitOf (24 + i.val) w } }
  else s

/-! Watchtower registers (Table 15.11). -/

def safIn (s : State) : SafIn := ⟨s.isNode, s.power.module, s.time.us, s.time.cycle⟩

/-- An alarm is raised in a lane. -/
def alarmRaised (s : State) (l : LaneId) (ident : Nat) : Bool := (alarmOf (s.lane l).alarms ident).raised

/-- DEFER (R413, Table 15.8): bit 0 mode pending, 1 CONSEQUENCE raised, 2 a zone active, awaiting reset or under a lane request, 3 a commit pending. -/
def deferOf (s : State) : Nat :=
  at1 0 (modePending s s.sel) + at1 1 (alarmRaised s s.sel 0x004B) + at1 2 (decide (256 ≤ safReg (safIn s) 0x100C s.safety)) +
  at1 3 ((s.lane s.sel).image.commit.isSome)

/-- A lane runs the control path. -/
def laneRunning (s : State) : Bool := (s.arb.lane .A).running || (s.arb.lane .B).running

/-- A KEEP_ register (Table 18.6). -/
def keepReg (us off : Nat) (k : KeepState) : Nat :=
  match off with
  | 0x0000 => keepStatusWord us k
  | 0x0004 => k.powerCycle
  | 0x0008 => opSecs us k
  | 0x000C => k.nextIndex
  | 0x0010 => oldestIndex k
  | 0x0014 => atF 16 16 k.dropBudget + atF 0 16 k.dropQueue
  | 0x0018 => k.torn
  | 0x001C => k.wraps
  | 0x0020 => k.flash.retired.length
  | _ => 0

def keepRegClear (off : Nat) (k : KeepState) : KeepState :=
  match off with
  | 0x0014 => { k with dropBudget := 0, dropQueue := 0 }
  | 0x0018 => { k with torn := 0 }
  | _ => k

/-- A memory register at its offset from the first one (Table 22.5), and what a read of it clears or latches. -/
def memReg (m : MemRegs) (o : Nat) : Nat :=
  match o with
  | 0x00 => memConfigWord m
  | 0x04 => memStatusWord m
  | 0x08 => m.ce
  | 0x0C => m.ue
  | 0x10 => m.errAddr % 2 ^ 32
  | 0x14 => m.errHiLatch
  | 0x18 => m.errInfo
  | 0x1C => memScrubWord m
  | _ => 0

def memRegFx (o : Nat) (m : MemRegs) : MemRegs :=
  match o with
  | 0x08 => { m with ce := 0 }
  | 0x0C => { m with ue := 0 }
  | 0x10 => { m with errHiLatch := m.errAddr / 2 ^ 32 % 256 }
  | _ => m

def wtRead (s : State) (off : Nat) : Nat :=
  -- WT_ARB_STATUS.MODULE is the strap, and 0 with the reserved role code (Table 15.13, R587)
  if off < 0x0100 then arbReg s.image (if s.isNode then 0 else s.power.role) (if s.power.role = 3 then 0 else s.power.module) (deferOf s) s.time.cycle off s.arb
  else if off = 0x0100 then pwrStatusWord ((s.laneImg .A).isSome || (s.laneImg .B).isSome) (laneRunning s) (s.keep.pfDone && s.lantern.pfDone) s.power
  else if off = 0x0104 then pwrDomainWord s.power
  else if off = 0x0108 then atF 0 16 s.power.vholdMv
  else if off = 0x010C then pwrTempWord s.power
  else if 0x140 ≤ off ∧ off < 0x160 then memReg s.power.wtMem (off - 0x140)
  else if 0x1000 ≤ off ∧ off < 0x2000 then safReg (safIn s) off s.safety
  else if 0x8000 ≤ off ∧ off < 0xC000 then u32 (s.memA.load (0x06000000 + off) 4) 0
  else if 0xC000 ≤ off ∧ off < 0x10000 then u32 (s.memB.load (0x06000000 + off) 4) 0
  else if 0x40000 ≤ off ∧ off < 0x80000 then keepReg s.time.us (off - 0x40000) s.keep
  else if 0x80000 ≤ off ∧ off < 0xC0000 then ltnReg s.time.us (off - 0x80000) s.lantern
  else 0

def wtReadFx (off : Nat) (s : State) : State :=
  if off < 0x0100 then s.modArb (arbRegClear off)
  else if 0x140 ≤ off ∧ off < 0x160 then s.modPower fun p => { p with wtMem := memRegFx (off - 0x140) p.wtMem }
  else if 0x1000 ≤ off ∧ off < 0x2000 then s.modSafety (safRegClear off)
  else if 0x40000 ≤ off ∧ off < 0x80000 then s.modKeep (keepRegClear (off - 0x40000))
  else if 0x80000 ≤ off ∧ off < 0xC0000 then s.modLantern (ltnRegClear (off - 0x80000))
  else s

/-- W1C fields of KEEP_STATUS and LTN_STATUS (Tables 18.7 and 19.6), over the SPI service port. -/
def wtWrite (off w : Nat) (s : State) : State :=
  match off with
  | 0x00144 => s.modPower fun p => { p with wtMem := { p.wtMem with
      ueAny := p.wtMem.ueAny && !bitOf 30 w, ceAny := p.wtMem.ceAny && !bitOf 29 w, persistent := p.wtMem.persistent && !bitOf 28 w } }
  | 0x40000 => s.modKeep fun k => { k with tornFound := k.tornFound && !bitOf 24 w, flashErr := k.flashErr && !bitOf 23 w }
  | 0x80000 => s.modLantern fun k => { k with pumpFault := k.pumpFault && !bitOf 25 w }
  | _ => s

end Sys2Proof.Machine
end

