-- ==== Sys2Proof/Machine/MgmtOps.lean ====
section
/-! DEFINITION. The lane address map of Table 1.6 as the management complex sees it: which access ends with a bus error, what a read returns and a write does (R39 to R43). -/

namespace Sys2Proof.Machine

/-- Regions of Table 1.6. -/
inductive Region where
  | sram | cupola | spire | rom | windows | sky | watchtower | mirror | external
  deriving DecidableEq, Repr

/-- The region of an address, and its first and last address. -/
def regionAt (x : Nat) : Option (Region × Nat × Nat) :=
  if x ≤ 0x00BFFFFF then some (.sram, 0, 0x00BFFFFF)
  else if 0x01000000 ≤ x ∧ x ≤ 0x010FFFFF then some (.cupola, 0x01000000, 0x010FFFFF)
  else if 0x01400000 ≤ x ∧ x ≤ 0x015FFFFF then some (.spire, 0x01400000, 0x015FFFFF)
  else if 0x02000000 ≤ x ∧ x ≤ 0x0203FFFF then some (.rom, 0x02000000, 0x0203FFFF)
  else if 0x04000000 ≤ x ∧ x ≤ 0x0407FFFF then some (.windows, 0x04000000, 0x0407FFFF)
  else if 0x05000000 ≤ x ∧ x ≤ 0x050FFFFF then some (.sky, 0x05000000, 0x050FFFFF)
  else if 0x06000000 ≤ x ∧ x ≤ 0x0603FFFF then some (.watchtower, 0x06000000, 0x0603FFFF)
  else if 0x08000000 ≤ x ∧ x ≤ 0x080FFFFF then some (.mirror, 0x08000000, 0x080FFFFF)
  else if 0x100000000 ≤ x ∧ x ≤ 0x1FFFFFFFF then some (.external, 0x100000000, 0x1FFFFFFFF)
  else none

/-- The first address beyond the usable external memory of a lane (R41, R553). -/
def externalEnd (s : State) (l : LaneId) : Nat := 0x100000000 + 4096 * (s.lane l).pmu.mem.usablePages

/-- The island or die behind a region has power (R39). The spec does not say what an access over a failed Sky or Watchtower link answers: the model
performs it (DESIGN CHOICE, log entry 66). -/
def regionPowered (s : State) (l : LaneId) (r : Region) (x : Nat) : Bool :=
  match r with
  | .cupola => s.islandRuns l 1
  | .spire => s.islandRuns l 2
  | .windows => s.islandRuns l (winIsland (x - 0x04000000))
  | .sky => s.power.skyOn
  | .external => s.islandRuns l 7
  | _ => true

/-- An access ends with a bus error (R39, R41), the slots of R42 apart. -/
def busError (s : State) (l : LaneId) (x n : Nat) (write : Bool) : Bool :=
  match regionAt x with
  | none => true
  | some (r, _, hi) =>
    decide (hi < x + n - 1) || !regionPowered s l r x ||
    (match r with
     | .rom => write
     | .mirror => !write
     | .external => decide (externalEnd s l < x + n)
     | _ => false)

/-- A background slot of a PURPOSE is open at the present tick (R42, R53). -/
def grantOpen (s : State) (l : LaneId) (purpose : Nat) : Bool :=
  match s.laneImg l with
  | some i => (imgSlots i (s.lane l).pmu.tier).any fun t => t.purpose == purpose && decide (t.start ≤ s.time.tick) && decide (s.time.tick < t.stop)
  | none => false

/-- Byte `k` of a 32-bit word. -/
def wordByte (w k : Nat) : Byte := BitVec.ofNat 8 (w / 256 ^ k)

/-- A byte of Spire local memory at an offset, where the spec places what stands there: the allocation result block (Table 12.9), delta staging (Table 11.1)
and the resident arrays of classes 0 and 1 at the OFFSET of their descriptors (Table 11.4). -/
def spireByte (s : State) (l : LaneId) (o : Nat) : Option Byte :=
  let a := (s.lane l).alloc
  let pr := mainProblem (section_ s l secAlloc)
  if 0x1BC000 ≤ o ∧ o < 0x1BC000 + 1088 then some (a.block.getD (o - 0x1BC000) 0)
  else if 0x1F0000 ≤ o ∧ o < 0x1F0000 + 8 * a.staging.words.length then some (wordByte (a.staging.words.getD ((o - 0x1F0000) / 8) 0) (o % 8))
  else match pr.arrs.zipIdx.find? fun q => q.1.cls != 2 && decide (q.1.off ≤ o) && decide (o < q.1.off + 4 * q.1.len) with
    | some q => some (wordByte (ofSigned 32 ((a.vals.getD q.2 []).getD ((o - q.1.off) / 4) 0)) ((o - q.1.off) % 4))
    | none => none

/-- A byte of a readable region. The records of tracks and the allocation result block stand where Tables 8.3 and 12.9 put them. -/
def mgmtByte (s : State) (l : LaneId) (x : Nat) : Byte :=
  match regionAt x with
  | some (.cupola, _, _) =>
    let o := x - 0x01000000
    if o / 512 < 32 then (trackBytes (vget (s.lane l).cupola.tracks (o / 512))).getD (o % 512) 0 else (s.mem l).read x
  | some (.spire, _, _) => (spireByte s l (x - 0x01400000)).getD ((s.mem l).read x)
  | some (.rom, _, _) => Config.bootRom (x - 0x02000000)
  | some (.windows, _, _) => let o := x - 0x04000000; wordByte (winRead s l (o - o % 4)) (o % 4)
  | some (.sky, _, _) => let o := x - 0x05000000; wordByte (skyRead s (o - o % 4)) (o % 4)
  | some (.watchtower, _, _) => let o := x - 0x06000000; wordByte (wtRead s (o - o % 4)) (o % 4)
  | _ => (s.mem l).read x

/-- What a read of the word at an aligned address clears or latches. -/
def mgmtWordFx (l : LaneId) (x : Nat) (s : State) : State :=
  match regionAt x with
  | some (.windows, _, _) => winReadFx (x - 0x04000000) l s
  | some (.sky, _, _) => skyReadFx (x - 0x05000000) s
  | some (.watchtower, _, _) => wtReadFx (x - 0x06000000) s
  | _ => s

/-- A run of words from an aligned address, low ones first, each read with its effect before the next (R49, R521). -/
def mgmtWords (l : LaneId) : Nat → Nat → State → Bytes × State
  | 0, _, s => ([], s)
  | n + 1, x, s =>
    let b : Bytes := [mgmtByte s l x, mgmtByte s l (x + 1), mgmtByte s l (x + 2), mgmtByte s l (x + 3)]
    let r := mgmtWords l n (x + 4) (mgmtWordFx l x s)
    (b ++ r.1, r.2)

/-- `n` bytes from an address, through the words that hold them. -/
def mgmtRead (l : LaneId) (x n : Nat) (s : State) : Bytes × State :=
  let lo := x - x % 4
  let r := mgmtWords l ((x + n + 3) / 4 - x / 4) lo s
  (sliceB r.1 (x - lo) n, r.2)

/-- The registers of a region take a write word by word; a byte that the access does not cover is written as 0 (log entry 58). -/
def writeWords (f : Nat → Nat → State → State) : Nat → Nat → Bytes → State → State
  | 0, _, _, s => s
  | n + 1, o, d, s => writeWords f n (o + 4) (d.drop 4) (f o (u32 d 0) s)

/-- A write of Cupola state memory: the records of the tracks stand where Table 8.3 puts them. -/
def cupolaWrite (l : LaneId) (o x : Nat) (d : Bytes) (s : State) : State :=
  (s.setMem l ((s.mem l).store x d)).modLane l fun y => { y with cupola := { y.cupola with
    tracks := Vector.ofFn fun k => trackPut o (512 * k.val) d y.cupola.tracks[k] } }

/-- A write without a bus error. In the Watchtower region only the lane's own mailbox takes it (R430); the mirror window lands in the other lane's journal (R450). -/
def mgmtWrite (l : LaneId) (x : Nat) (d : Bytes) (s : State) : State :=
  let words (base : Nat) (f : Nat → Nat → State → State) : State :=
    let o := x - base
    writeWords f ((o + d.length + 3) / 4 - o / 4) (o - o % 4) (zeroBytes (o % 4) ++ d) s
  match regionAt x with
  | some (.windows, b, _) => words b fun o w t => winWrite o w l t
  | some (.sky, b, _) => words b skyWrite
  | some (.watchtower, _, _) =>
    let lo := 0x06008000 + 0x4000 * l.num
    if lo ≤ x ∧ x + d.length ≤ lo + 0x4000 then s.setMem l ((s.mem l).store x d) else s
  | some (.mirror, b, _) => if s.laneRuns l.other && !s.bridgeFault then s.setMem l.other ((s.mem l.other).store (0x00B00000 + (x - b)) d) else s
  | some (.cupola, b, _) => cupolaWrite l (x - b) x d s
  | some _ => s.setMem l ((s.mem l).store x d)
  | none => s

/-- The consequence workspace with its input buffers: all of Spire local memory that management writes (Table 11.1, R274). -/
def cqRegion (o : Nat) : Bool := decide (0x1C8000 ≤ o) && decide (o < 0x1EC000)

/-- A write of Cupola or Spire memory outside its slots is refused (R42), and one of Spire outside the regions that management writes (R274). -/
def slotRefused (s : State) (l : LaneId) (x : Nat) : Option Nat :=
  match regionAt x with
  | some (.cupola, _, _) => if grantOpen s l 11 then none else some 1
  | some (.spire, b, _) => if grantOpen s l 12 && cqRegion (x - b) then none else some 2
  | _ => none

/-- The first word of a run that ends with a bus error. -/
def runError (s : State) (l : LaneId) : Nat → Nat → Option Nat
  | 0, _ => none
  | n + 1, x => if busError s l x 4 false then some x else runError s l n (x + 4)

end Sys2Proof.Machine
end

