-- ==== Sys2Proof/Machine/HostOps.lean ====
section
/-! DEFINITION. How a host command is served (R440 to R461): its turn, the order of checks, the journal and its mirror, the reply. -/

namespace Sys2Proof.Machine

/-! Status codes (Tables 16.4 and 17.13). -/
def DONE := 0x0000
def STAGED := 0x0001
def STARTED := 0x0002
def ST_VERSION := 0x0101
def ST_LENGTH := 0x0102
def ST_OPCODE := 0x0103
def NO_SESSION := 0x0104
def SESSION_LIMIT := 0x0105
def EXPIRED := 0x0106
def REJECTED_NO_TOKEN := 0x0107
def TOKEN_HELD := 0x0108
def NOT_IN_CONTROL := 0x0109
def NOT_ON_PORT := 0x010A
def ENGINEERING_REQUIRED := 0x010B
def RANGE := 0x010C
def STATE := 0x010D
def NO_SKY := 0x0203

/-- What Tables 16.3, 17.2 to 17.12 and 14.7 say of an opcode before its own checks. -/
structure OpSpec where
  kind  : CmdKind
  /-- Journal entry kind of Table 16.6: 1 COMMAND, 2 POSITION, 3 SESSION, 4 TOKEN. -/
  entry : Nat
  token : Bool := false
  svc   : Bool := false
  sky   : Bool := false
  /-- Least and greatest PARAM_LEN. -/
  lo    : Nat := 0
  hi    : Nat := 0
  deriving Repr, Inhabited

def opSpec (op : Nat) : Option OpSpec :=
  match op with
  | 0x0101 => some { kind := .session, entry := 3, svc := true, lo := 8, hi := 8 }
  | 0x0102 => some { kind := .session, entry := 3, svc := true }
  | 0x0103 => some { kind := .session, entry := 4 }
  | 0x0104 => some { kind := .session, entry := 4, token := true, lo := 2, hi := 2 }
  | 0x0105 => some { kind := .session, entry := 2, svc := true, lo := 4, hi := 4 }
  | 0x0106 => some { kind := .session, entry := 2, lo := 4, hi := 4 }
  | 0x0107 => some { kind := .session, entry := 2, svc := true }
  | 0x0201 => some { kind := .boundary, entry := 1, token := true, lo := 4, hi := 4 }
  | 0x0202 => some { kind := .read, entry := 2 }
  | 0x0301 => some { kind := .boundary, entry := 1, token := true, lo := 8, hi := 8 }
  | 0x0302 => some { kind := .boundary, entry := 1, token := true, lo := 4, hi := 4 }
  | 0x0303 => some { kind := .boundary, entry := 1, token := true, lo := 16, hi := 16 }
  | 0x0304 => some { kind := .boundary, entry := 1, token := true, lo := 24, hi := 136 }
  | 0x0305 => some { kind := .boundary, entry := 1, token := true, lo := 8, hi := 8 }
  | 0x0306 => some { kind := .boundary, entry := 1, token := true, lo := 8, hi := 8 }
  | 0x0307 => some { kind := .read, entry := 2 }
  | 0x0401 => some { kind := .boundary, entry := 1, token := true, lo := 4, hi := 4 }
  | 0x0402 => some { kind := .boundary, entry := 1, token := true, lo := 4, hi := 4 }
  | 0x0403 => some { kind := .boundary, entry := 1, token := true, sky := true, lo := 4, hi := 4 }
  | 0x0404 => some { kind := .laneAction, entry := 1, token := true, sky := true, lo := 4, hi := 4 }
  | 0x0405 => some { kind := .read, entry := 2, lo := 4, hi := 4 }
  | 0x0406 => some { kind := .read, entry := 2, lo := 4, hi := 4 }
  | 0x0501 => some { kind := .boundary, entry := 1, token := true, lo := 4, hi := 4 }
  | 0x0502 => some { kind := .boundary, entry := 1, token := true, lo := 4, hi := 4 }
  | 0x0503 => some { kind := .boundary, entry := 1, token := true, lo := 4, hi := 4 }
  | 0x0504 => some { kind := .read, entry := 2, lo := 4, hi := 4 }
  | 0x0505 => some { kind := .read, entry := 2 }
  | 0x0601 => some { kind := .laneAction, entry := 1, token := true, lo := 8, hi := 8 }
  | 0x0602 => some { kind := .laneAction, entry := 1, lo := 5, hi := 1024 }
  | 0x0603 => some { kind := .laneAction, entry := 1 }
  | 0x0604 => some { kind := .boundary, entry := 1, token := true, lo := 4, hi := 4 }
  | 0x0605 => some { kind := .boundary, entry := 1, token := true }
  | 0x0606 => some { kind := .read, entry := 2 }
  | 0x0607 => some { kind := .boundary, entry := 1, token := true, lo := 4, hi := 4 }
  | 0x0701 => some { kind := .watchtower, entry := 1, svc := true }
  | 0x0702 => some { kind := .watchtower, entry := 1, svc := true, lo := 10, hi := 10 }
  | 0x0703 => some { kind := .watchtower, entry := 1, lo := 1, hi := 64 }
  | 0x0801 => some { kind := .read, entry := 2 }
  | 0x0802 => some { kind := .watchtower, entry := 1, svc := true }
  | 0x0803 => some { kind := .read, entry := 2, svc := true, lo := 12, hi := 12 }
  | 0x0804 => some { kind := .laneAction, entry := 1, token := true, lo := 4, hi := 4 }
  | 0x0805 => some { kind := .laneAction, entry := 1, token := true, lo := 4, hi := 4 }
  | 0x0806 => some { kind := .laneAction, entry := 1, token := true, lo := 8, hi := 8 }
  | 0x0807 => some { kind := .watchtower, entry := 1, token := true, lo := 4, hi := 4 }
  | 0x0808 => some { kind := .read, entry := 2, sky := true, lo := 4, hi := 4 }
  | 0x0809 => some { kind := .read, entry := 2, sky := true }
  | 0x080A => some { kind := .laneAction, entry := 1, lo := 4, hi := 4 }
  | 0x080B => some { kind := .read, entry := 2, lo := 4, hi := 4 }
  | 0x0901 => some { kind := .watchtower, entry := 1, svc := true }
  | 0x0902 => some { kind := .watchtower, entry := 1, token := true, lo := 256, hi := 256 }
  | 0x0903 => some { kind := .watchtower, entry := 1, svc := true, lo := 4, hi := 4 }
  | 0x0904 => some { kind := .watchtower, entry := 1, token := true, lo := 4, hi := 4 }
  | 0x0905 => some { kind := .watchtower, entry := 1, token := true, lo := 4, hi := 4 }
  | 0x0906 => some { kind := .watchtower, entry := 1, token := true, lo := 4, hi := 4 }
  | 0x0A01 => some { kind := .laneAction, entry := 1, lo := 8, hi := 8 }
  | 0x0A02 => some { kind := .read, entry := 2, lo := 4, hi := 4 }
  | 0x0A03 => some { kind := .laneAction, entry := 1, lo := 8, hi := 8 }
  | 0x0A04 => some { kind := .read, entry := 2, lo := 4, hi := 4 }
  | 0x0B01 => some { kind := .watchtower, entry := 1, svc := true }
  | 0x0B02 => some { kind := .watchtower, entry := 1, svc := true, lo := 4, hi := 4 }
  | 0x0B03 => some { kind := .watchtower, entry := 1, svc := true }
  | 0x0B04 => some { kind := .watchtower, entry := 1, svc := true, lo := 4, hi := 4 }
  | 0x0C01 => some { kind := .boundary, entry := 1, token := true, lo := 8, hi := 8 }
  | 0x0C02 => some { kind := .boundary, entry := 1, token := true }
  | 0x0C03 => some { kind := .read, entry := 2, lo := 4, hi := 4 }
  | _ => none

/-- PARAM_LEN fits the opcode (R464): SP_TRACK takes 8 + 8 × COUNT. -/
def lengthOk (op : Nat) (params : Bytes) (sp : OpSpec) : Bool :=
  decide (sp.lo ≤ params.length) && decide (params.length ≤ sp.hi) && (op != 0x0304 || params.length == 8 + 8 * u8 params 0)

/-- The opcodes that a node accepts (Table 23.4). -/
def nodeAccepts (op : Nat) : Bool :=
  match op / 256 with
  | 0x01 => true
  | 0x06 => decide (op ≤ 0x0606)
  | 0x07 => true
  | 0x08 => [0x0802, 0x0803, 0x0805, 0x0806, 0x080A, 0x080B].contains op
  | 0x09 => true
  | 0x0A => true
  | 0x0B => true
  | _ => false

/-- The role rules of R466, and NO_SKY while the Sky die is off or absent (Table 17.13). -/
def roleCheck (op : Nat) (sp : OpSpec) (s : State) : Option Nat :=
  if s.power.nx || s.power.role == 2 then (if sp.sky then some NO_SKY else if nodeAccepts op then none else some STATE)
  else if s.power.role = 1 ∧ (sp.sky = true ∨ (0x02 ≤ op / 256 ∧ op / 256 ≤ 0x05) ∨ op / 256 = 0x0C) then some STATE
  else if sp.sky && !(s.power.isOn 2 && s.power.isOn 3) then some NO_SKY
  else none

/-- The session of a port is an engineering session (R437). -/
def engSession (p : HostPort) (s : State) : Bool :=
  match (s.host.port p).session with
  | some x => x.eng
  | none => false

/-- The staging-close tick in force; 19,800, the latest one, while no image sets it (R56, log entry 56). -/
def closeTick (s : State) : Nat := (s.image.map imgStagingClose).getD 19800

/-- The boundary that an entry written now names (R56). -/
def namedBoundary (s : State) : Nat := if s.time.tick + 20 ≤ closeTick s then s.time.cycle + 1 else s.time.cycle + 2

/-- What an opcode answers after steps 1 to 6 of R445. -/
inductive Verdict where
  /-- Refused at step 7. -/
  | refuse (status : Nat) (detail : Bytes)
  /-- Refused at step 7, with what R442 sends to another station. -/
  | refuseAnd (status : Nat) (act : State → State)
  /-- A read or a session command: its reply, and what it does before the reply is formed. -/
  | read (reply : Bytes) (act : State → State)
  /-- A change of the token, with the reply it leaves (R442). -/
  | token (f : State → State) (reply : State → Bytes)
  /-- A boundary setting or lane action, with the status and parameters of its reply. -/
  | accept (status : Nat) (reply : Bytes)
  /-- A lane action whose reply comes later. -/
  | later
  /-- A Watchtower action (R449). -/
  | forward
  /-- It waits at its turn until tick 0 of the next cycle (R447). -/
  | hold
  /-- It waits for the end of the hold of R443. -/
  | wait

/-! Journal. -/

/-- Command parameters as the entry holds them: of IMAGE_DATA only the offset and the CRC-32C of the image bytes (Table 16.6). -/
def heldParams (p : Packet) : Bytes :=
  if p.opcode = 0x0602 then p.params.take 4 ++ leBytes 4 (crc32c (p.params.drop 4)) else p.params

/-- The channel number of Table 16.6. -/
def portNum : HostPort → Nat
  | .chan c => c.val
  | .svc => 0

def entryOf (s : State) (p : HostPort) (pkt : Packet) (kind : Nat) (done : Bool) (jsn ssn status : Nat) (boundary : Option Nat) (reply : Bytes) : JournalEntry :=
  { jsn := jsn, ssn := ssn, kind := kind, done := done, chan := portNum p, seq := pkt.seq, station := pkt.station, opcode := pkt.opcode,
    tag := pkt.tag, status := status, cycle := s.time.cycle, tick := s.time.tick, params := heldParams pkt,
    boundary := (boundary.map (· % 2 ^ 32)).getD 0xFFFFFFFF, crc := pkt.crc, reply := reply.take 256, epoch := s.host.token.epoch,
    src := pkt.src, port := pkt.port }

/-- The bytes of an entry (Table 16.6). -/
def entryBytes (module : Nat) (e : JournalEntry) : Bytes :=
  padTo 64 (leBytes 4 e.jsn ++ leBytes 4 e.ssn ++ leBytes 1 e.kind ++ leBytes 1 (b2n e.done) ++ leBytes 1 (e.chan + 4 * module) ++ [0] ++
    leBytes 4 e.seq ++ leBytes 2 e.station ++ leBytes 2 e.opcode ++ leBytes 2 e.tag ++ leBytes 2 e.status ++ leBytes 4 (e.cycle % 2 ^ 32) ++
    leBytes 2 e.tick ++ leBytes 2 e.params.length ++ leBytes 4 e.boundary ++ leBytes 4 e.crc ++ leBytes 2 e.reply.length ++ leBytes 2 e.epoch) ++
  padMul 8 e.params ++ padMul 8 e.reply

/-- The other lane takes the mirror (R446): LOADING, JOINING, SYNCING or STANDBY. -/
def mirrorTaken (s : State) : Bool :=
  let st := s.laneState s.sel.other
  decide (2 ≤ st) && decide (st ≤ 5) && !s.bridgeFault && s.laneRuns s.sel.other

/-- The reply waits for the mirror (R446): SYNCING or STANDBY. -/
def mirrorWaited (s : State) : Bool := mirrorTaken s && decide (4 ≤ s.laneState s.sel.other)

/-- An entry enters, or is replaced in, one lane's journal. -/
def putIn (l : LaneId) (e : JournalEntry) (s : State) : State := s.modLane l fun x => { x with journal := journalSet e x.journal }

/-- A new entry enters the serving lane's journal; the other lane's when its reply does not wait for the mirror (R446). -/
def putNew (e : JournalEntry) (s : State) : State :=
  let s1 := putIn s.sel e s
  if mirrorTaken s && !mirrorWaited s then putIn s.sel.other e s1 else s1

/-- A result enters both journals (R449). -/
def putBoth (e : JournalEntry) (s : State) : State :=
  let s1 := putIn s.sel e s
  if mirrorTaken s then putIn s.sel.other e s1 else s1

/-- The entry of a JSN in the serving lane's journal. -/
def entryAt (jsn : Nat) (s : State) : Option JournalEntry := (s.lane s.sel).journal.find? (·.jsn == jsn)

/-- Who this module is on the ring. -/
def ringMe (s : State) : RingMe := ⟨s.image, s.power.module, s.time.cycle, s.time.us, (s.image.map imgGen).getD 0⟩

/-- Ring frames that leave count on their ports (Table 20.6). -/
def ringCounts (es : List Effect) : List Effect :=
  es.flatMap fun e => match e with
    | .out (.ring d f) => [e, .bw (if d = .east then 15 else 16) 0 f.length 1 0]
    | _ => [e]

/-- A frame leaves on the ring (R424); output gates closed by a power failure let none out (R541). -/
def ringOut (typ dst : Nat) (payload : Bytes) (s : State) : State :=
  let r := ringSend (ringMe s) typ dst payload s.arb
  if s.power.pfail then s else applyEffects (some s.sel) (ringCounts r.2) (s.modArb fun _ => r.1)

/-- Another configured module runs (R425). -/
def othersRun (s : State) : Bool :=
  [1, 2, 3].any fun m => decide (m ≤ ringSize s.image) && m != s.power.module && running s.image s.power.module s.time.cycle s.arb m

/-- Write a new entry: JSN, SSN of a system entry, the counts of R447, the JOURNAL frame of R459. Answers the entry. -/
def newEntry (p : HostPort) (pkt : Packet) (kind : Nat) (done system : Bool) (status : Nat) (boundary : Option Nat) (reply : Bytes) (s : State) : State × JournalEntry :=
  let jsn := (s.host.jsn + 1) % 2 ^ 32
  let ssn := if system then (s.host.ssn + 1) % 2 ^ 32 else 0
  let e := entryOf s p pkt kind done jsn ssn status boundary reply
  let sys : SysEntry := ⟨ssn, e.station, e.opcode, e.tag, e.crc, e.status, boundary.getD 0, e.reply, s.time.cycle⟩
  let s1 := s.modHost fun h => { h with
    jsn := jsn, ssn := if system then ssn else h.ssn, bytes := h.bytes + e.size, cmds := h.cmds + (if kind = 1 then 1 else 0),
    sys := if system then h.sys.filter (fun x => decide (s.time.cycle < x.cycle + 500)) ++ [sys] else h.sys }
  let s2 := putNew e s1
  (if system then ringOut 6 0 (entryBytes s.moduleNo e) s2 else s2, e)

/-! Replies. -/

/-- The bytes of a reply leave: by the Ethernet port on which the command arrived, or into the service port's buffer (R434, R435). -/
def replyOut (pkt : Packet) (raw : Bytes) (s : State) : State :=
  match pkt.port with
  | some e => sendDatagram e pkt.src raw s
  | none => s.modHost fun h => { h with svcReply := some raw }

/-- The head of a port is answered (R439). -/
def answer (p : HostPort) (pkt : Packet) (replay : Bool) (status : Nat) (params : Bytes) (s : State) : State :=
  let raw := replyBytes pkt (outFlags replay s.sel s.moduleNo false) status s.host.token.epoch s.time.cycle params
  (replyOut pkt raw s).modHost fun h => h.modPort p (channelAnswer pkt raw)

/-- A SESSION_OPEN is answered: it carries SEQ 0 and stands outside the SEQ order; its reply is kept for R437. -/
def answerOpen (p : HostPort) (pkt : Packet) (status : Nat) (params : Bytes) (s : State) : State :=
  let raw := replyBytes pkt (outFlags false s.sel s.moduleNo false) status s.host.token.epoch s.time.cycle params
  (replyOut pkt raw s).modHost fun h => h.modPort p fun c => { c with inFlight := none, cache := c.cache ++ [⟨pkt.seq, pkt.crc, raw⟩] }

/-- The command in progress on a port. -/
def setFlight (p : HostPort) (f : InFlight) (s : State) : State := s.modHost fun h => h.modPort p fun c => { c with inFlight := some f }

/-- The reply of a command in progress is due; an answered SESSION_CLOSE closes its session (R438). -/
def finishFlight (p : HostPort) (f : InFlight) (s : State) : State :=
  if f.pkt.opcode = 0x0101 then answerOpen p f.pkt f.status f.reply s
  else
    let s1 := answer p f.pkt f.replay f.status f.reply s
    if f.pkt.opcode = 0x0102 ∧ f.status = DONE then
      match p with
      | .chan c => closeChannel c s1
      | .svc => s1.modHost fun h => { h with svc := {} }
    else s1

/-- The reply is sent, unless it waits for the mirror (R446), the hold (R460) or a result (R449). -/
def replyWhenDue (p : HostPort) (f : InFlight) (s : State) : State :=
  if f.waitMirror || f.waitHold || !f.result then setFlight p f s else finishFlight p f s

/-- A command that is answered with no more than its entry: a refusal, a read, a session command. The service port writes no entry. -/
def concludes (p : HostPort) (pkt : Packet) (kind : CmdKind) (entry : Nat) (replay : Bool) (status : Nat) (params : Bytes) (s : State) : State :=
  let r : State × Nat := match p with
    | .svc => (s, 0)
    | .chan _ => ((newEntry p pkt entry true false status none params s).1, (s.host.jsn + 1) % 2 ^ 32)
  replyWhenDue p ⟨pkt, kind, r.2, 0, status, params, none, p != .svc && mirrorWaited s, false, false, true, replay, s.time.us⟩ r.1

/-- A refusal at steps 1 to 7 (R445): a POSITION entry with the status, and the reply. -/
def refuse (p : HostPort) (pkt : Packet) (status : Nat) (detail : Bytes) (s : State) : State :=
  concludes p pkt .refusal 2 false status detail (if p = .svc then s else count (some s.sel) 0x0104 (portNum p) 1 s)

/-- The setting that a COMMAND entry of a boundary setting stages (R56). -/
def stagedOf (p : HostPort) (f : InFlight) (eng : Bool) : Staged :=
  ⟨f.boundary.getD 0, f.jsn, f.ssn, f.pkt.opcode, f.pkt.params, f.pkt.station, portNum p, f.pkt.tag, eng⟩

/-- One command examined at its turn (R445): checks 1 to 6, then the opcode's own. -/
def firstChecks (p : HostPort) (pkt : Packet) (s : State) : Option Nat :=
  match opSpec pkt.opcode with
  | none => some ST_OPCODE
  | some sp =>
    if !lengthOk pkt.opcode pkt.params sp then some ST_LENGTH
    else if p = .svc ∧ sp.svc = false then some NOT_ON_PORT
    else if pkt.vu && later32 (s.time.cycle % 2 ^ 32) pkt.validUntil then some EXPIRED
    else if 1 < redModules s.image ∧ s.isController = true ∧ s.inControl = false ∧ (sp.kind = .boundary ∨ sp.entry = 4) then some NOT_IN_CONTROL
    else if sp.token && !(pkt.station == s.host.token.holder && pkt.epoch == s.host.token.epoch) then some REJECTED_NO_TOKEN
    else if pkt.opcode = 0x0803 ∧ engSession p s = false then some ENGINEERING_REQUIRED
    else roleCheck pkt.opcode sp s

/-- The entry of a resubmitted command (R461, log entry 27). -/
def resubMatch (pkt : Packet) (s : State) : Option SysEntry :=
  if pkt.resub then
    s.host.sys.find? fun e => e.station == pkt.station && e.opcode == pkt.opcode && e.tag == pkt.tag && e.crc == pkt.crc
      && decide (s.time.cycle < e.cycle + 500)
  else none

/-- The head of a port waits until tick 0 of the next cycle. -/
def holdHead (p : HostPort) (s : State) : State := s.modHost fun h => h.modPort p fun c => { c with heldUntil := some (s.time.cycle + 1) }

/-- What the lanes and the Watchtower do with an accepted command: `lane` for one lane, `wt` for the Watchtower with its answer, none when it comes later. -/
structure Actions where
  lane : HostPort → InFlight → LaneId → State → State
  wt   : HostPort → Packet → State → State × Option (Nat × Bytes)

/-- The Watchtower takes a forwarded action: a recorded result is answered again and nothing is executed (R449). -/
def wtTake (ac : Actions) (p : HostPort) (pkt : Packet) (s : State) : State × Option (Nat × Bytes) :=
  match s.host.recorded pkt.station (portNum p) pkt.seq with
  | some r => (s, some (r.status, r.reply))
  | none =>
    let r := ac.wt p pkt s
    match r.2 with
    | some (st, rep) => (r.1.modHost fun h => h.record s.sel ⟨pkt.station, portNum p, pkt.seq, st, rep⟩, r.2)
    | none => r

/-- Each lane executes a COMMAND entry once: the active lane at acceptance, the other lane when the mirror reaches it (R448). -/
def execLanes (ac : Actions) (p : HostPort) (f : InFlight) (s : State) : State :=
  let s1 := ac.lane p f s.sel s
  if mirrorTaken s then ac.lane p f s.sel.other s1 else s1

/-- A Watchtower action is forwarded; the answer, if it is there, waits for WATCHTOWER_ACTION_RESULT. -/
def forwardIt (ac : Actions) (p : HostPort) (f : InFlight) (s : State) : State :=
  let w := wtTake ac p f.pkt s
  match w.2 with
  | some (st, rep) => setFlight p { f with waitMirror := false, forwarded := true, result := true, status := st, reply := rep } w.1
  | none => setFlight p { f with waitMirror := false, forwarded := true } w.1

/-- An accepted command goes on its way: its entry, its execution, its reply (R446, R448, R449, R460). An engineering write holds its boundary (R60). -/
def acceptCommand (ac : Actions) (p : HostPort) (pkt : Packet) (sp : OpSpec) (status : Nat) (reply : Bytes) (later : Bool) (s : State) : State :=
  let system := decide (sp.kind = .boundary)
  let b : Option Nat := if sp.kind = .boundary ∧ status = STAGED then some (namedBoundary s) else none
  let rep : Bytes := match b with
    | some n => leBytes 4 (n % 2 ^ 32)
    | none => reply
  let wtk := decide (sp.kind = .watchtower)
  let r := newEntry p pkt 1 (!wtk) system status b rep s
  let wh := system && decide (1 < redModules s.image) && othersRun s
  let f : InFlight := ⟨pkt, sp.kind, r.2.jsn, r.2.ssn, status, rep, b, mirrorWaited s, wh, false, !wtk && !later, false, s.time.us⟩
  let eng := pkt.opcode == 0x0C01 || pkt.opcode == 0x0C02
  let s1 := (count (some s.sel) 0x0103 (portNum p) 1 r.1).modHost fun h =>
    { h with engBoundaries := if eng then h.engBoundaries ++ b.toList else h.engBoundaries }
  if mirrorWaited s then setFlight p f s1
  else if wtk then forwardIt ac p f s1
  else replyWhenDue p f (execLanes ac p f s1)

/-- A boundary that a setting still meets when its mirror completes now (R56). -/
def metBoundary (s : State) (b : Nat) : Nat :=
  if s.time.cycle + 1 < b then b
  else if s.time.cycle + 1 = b ∧ s.time.tick ≤ closeTick s then b
  else if s.time.tick ≤ closeTick s then s.time.cycle + 1 else s.time.cycle + 2

/-- The boundary of a setting moves with its late mirror: in the entry, the system entry and the reply. -/
def carryFlight (f : InFlight) (s : State) : InFlight × State :=
  match f.boundary with
  | none => (f, s)
  | some b =>
    let b' := metBoundary s b
    if b' = b then (f, s)
    else
      let rep := leBytes 4 (b' % 2 ^ 32)
      let s1 := s.modHost fun h => { h with
        sys := h.sys.map fun e => if e.ssn = f.ssn then { e with boundary := b', reply := rep } else e,
        engBoundaries := if f.pkt.opcode = 0x0C01 ∨ f.pkt.opcode = 0x0C02 then h.engBoundaries.erase b ++ [b'] else h.engBoundaries }
      let s2 := match entryAt f.jsn s1 with
        | some e => putIn s1.sel { e with boundary := b' % 2 ^ 32, reply := rep } s1
        | none => s1
      ({ f with boundary := some b', reply := rep }, s2)

/-- The mirror of a command's entry is complete, or no longer awaited (R446): the command is executed or forwarded, and its reply proceeds. -/
def mirrorDone (ac : Actions) (p : HostPort) (s : State) : State :=
  match (s.host.port p).inFlight with
  | none => s
  | some f0 =>
    if f0.waitMirror then
      let c := carryFlight f0 s
      let s1 := match entryAt f0.jsn c.2 with
        | some e => putBoth e c.2
        | none => c.2
      let f := { c.1 with waitMirror := false }
      match f.kind with
      | .watchtower => forwardIt ac p f s1
      | .boundary | .laneAction => replyWhenDue p f (execLanes ac p f s1)
      | _ => replyWhenDue p f s1
    else s

/-- No mirror is awaited any more: every command that waited for one proceeds. -/
def releaseMirrors (ac : Actions) (s : State) : State :=
  if mirrorWaited s then s else [0, 1, 2, 3].foldl (fun t c => mirrorDone ac (.chan c) t) s

/-- Serve one command that stands at its turn. -/
def serve (ac : Actions) (p : HostPort) (chk : Packet → State → Verdict) (pkt : Packet) (s : State) : State :=
  let svc := decide (p = .svc)
  if !svc && decide (163840 < s.host.bytes + heldSize pkt) then holdHead p s
  else match resubMatch pkt s with
  | some e => concludes p pkt .refusal 2 true e.status e.reply s
  | none =>
  match firstChecks p pkt s, opSpec pkt.opcode with
  | some st, _ => refuse p pkt st [] s
  | none, none => refuse p pkt ST_OPCODE [] s
  | none, some sp =>
    match chk pkt s with
    | .refuse st d => refuse p pkt st d s
    | .refuseAnd st act => refuse p pkt st [] (act s)
    | .wait => s
    | .hold => holdHead p s
    | .read reply act =>
      let s1 := if svc then s else count (some s.sel) 0x0103 (portNum p) 1 s
      concludes p pkt sp.kind sp.entry false DONE reply (act s1)
    | .token f reply =>
      let s1 := f s
      let r := newEntry p pkt 4 true true DONE none (reply s1) s1
      let wh := decide (1 < redModules s.image) && othersRun s
      let fl : InFlight := ⟨pkt, sp.kind, r.2.jsn, r.2.ssn, DONE, reply s1, none, mirrorWaited s, wh, false, true, false, s.time.us⟩
      replyWhenDue p fl (count (some s.sel) 0x0103 (portNum p) 1 r.1)
    | .accept st rep => if 96 ≤ s.host.cmds then holdHead p s else acceptCommand ac p pkt sp st rep false s
    | .later => if 96 ≤ s.host.cmds then holdHead p s else acceptCommand ac p pkt sp DONE [] true s
    | .forward =>
      if svc then
        let w := ac.wt p pkt s
        match w.2 with
        | some (st, rep) => answer p pkt false st rep w.1
        | none => w.1
      else if 96 ≤ s.host.cmds then holdHead p s
      else acceptCommand ac p pkt sp DONE [] false s

/-- The serving lane takes no command: PFAIL_N is asserted (R462), or a take-back is near (R457). -/
def servesNow (s : State) : Bool :=
  s.server.isSome && !s.power.pfail && (match s.arb.takeback with
    | some b => !(decide (b ≤ s.time.cycle + 1) && decide (19900 ≤ s.time.tick))
    | none => true)

/-- The command that a visit of a port takes now, when it carries `op` (R440). -/
def headNow (p : HostPort) (s : State) : Option Packet :=
  match p with
  | .svc => if s.power.pfail then none else s.host.svc.head
  | .chan c => if servesNow s && s.host.atTurn s.time.cycle s.time.tick c then s.host.chans[c].head else none

/-- The visit of a port in its round is over. -/
def visited (p : HostPort) (s : State) : State :=
  match p with
  | .svc => s
  | .chan c => s.modHost fun h => h.visit s.time.tick c

/-- A host command: the head of the port is served when it is its turn and carries this opcode. -/
def hostCommand (ac : Actions) (p : HostPort) (op : Nat) (chk : Packet → State → Verdict) (s : State) : State :=
  match headNow p s with
  | some pkt => if pkt.opcode = op then serve ac p chk pkt (visited p s) else s
  | none => s

end Sys2Proof.Machine
end

