-- ==== Sys2Proof/Machine/WtOps.lean ====
section
/-! DEFINITION. What the Watchtower does with its actions (R449): Keep, arbiter, safety, Lantern and lane restart, each with its own checks and answer. -/

namespace Sys2Proof.Machine

/-- An action's new state and answer; no answer yet for one that comes later. -/
abbrev WtAns := State × Option (Nat × Bytes)

def wtRefuse (st : Nat) (d : Bytes) (s : State) : WtAns := (s, some (st, d))
def wtDone (reply : Bytes) (s : State) : WtAns := (s, some (DONE, reply))

/-! Lantern requests. -/

/-- What the status screen shows (R512): role and module, ACTIVE lane, mode and token holder, operating hours, check value, raised LANTERN alarms. -/
def statusContent (s : State) : Bytes :=
  let x := s.lane s.sel
  let al := match s.laneImg s.sel with
    | some i => alarmLantern i x.alarms
    | none => []
  leBytes 1 s.power.role ++ leBytes 1 s.power.module ++ leBytes 1 ((s.activeLane.map LaneId.num).getD 2) ++ leBytes 1 x.control.mode ++
    leBytes 2 s.host.token.holder ++ leBytes 4 (opSecs s.time.us s.keep / 3600) ++ leBytes 4 ((s.safety.active.map sbCheckValue).getD 0) ++
    (al.flatMap fun p => leBytes 1 p.1 ++ leBytes 2 p.2)

def statusTarget (s : State) : Target := renderScreen s.lantern.table 0 (0 :: statusContent s)
/-- The check-value screen of a block: its value, zone table and LISTEN entries (R386). -/
def checkTarget (s : State) (b : Bytes) : Target := renderScreen s.lantern.table 0x7F (0x7F :: b)

/-- The check-value screen is asked for, drawn or shown. -/
def checkOnPanel (l : LanternState) : Bool :=
  l.screen == 0x7F || (l.pending.map (·.screen)) == some 0x7F || (l.next.map (·.screen)) == some 0x7F || (l.run.map (·.target.screen)) == some 0x7F

/-- RESERVED of LTN_STATUS: the check-value screen holds the panel while a pending safety block exists (R479). -/
def syncReserved (s : State) : State := s.modLantern fun l => { l with reserved := s.safety.pending.isSome && checkOnPanel l }

/-- The end of a pending block: the status screen is asked for (R510). -/
def pendingGone (before : Bool) (s : State) : State :=
  if before && s.safety.pending.isNone then syncReserved (s.modLantern (ltnRequest (statusTarget s))) else syncReserved s

/-! Keep (Table 17.7). -/

def wtKeepInfo (s : State) : WtAns :=
  wtDone (leBytes 4 s.keep.powerCycle ++ leBytes 4 (opSecs s.time.us s.keep / 3600) ++ leBytes 4 (s.keep.nextIndex - 1) ++
    leBytes 4 (oldestIndex s.keep) ++ zeroBytes 16) s

def wtKeepRead (p : Packet) (s : State) : WtAns :=
  let d := p.params
  if allZero d 1 3 = false ∨ u16 d 8 < 64 ∨ 1000 < u16 d 8 then wtRefuse RANGE [] s
  else wtDone (keepReadReply (u8 d 0) (u32 d 4) (u16 d 8) s.keep) s

/-- KEEP_MARK: the index that the mark record will carry, behind a DROPPED record that goes before it (R491); open when Keep drops the mark (log entry 25). -/
def wtKeepMark (p : Packet) (s : State) : WtAns :=
  let us := s.time.us
  let k := keepPoll us (keepCycle s) s.keep
  let r := keepPut none 12 false p.params s
  if k.st = 3 ∨ (keepEnqueue us (keepCycle s) 12 0 false p.params k).2 = true then wtDone (leBytes 4 (Config.freeNat s.free)) (r.useFree 1)
  else wtDone (leBytes 4 (s.keep.nextIndex + k.queue.length)) r

/-! Arbiter (Table 17.8). -/

def wtArbRead (s : State) : WtAns :=
  wtDone ([0x0000, 0x0004, 0x0008, 0x000C, 0x0014].flatMap fun o => leBytes 4 (wtRead s o)) s

def wtLaneRestart (p : Packet) (s : State) : WtAns :=
  let d := p.params
  if 1 < u8 d 0 ∨ allZero d 1 3 = false then wtRefuse RANGE [] s
  else
    let l : LaneId := if u8 d 0 = 0 then .A else .B
    if (s.arb.lane l).state = 0 ∧ (s.arb.lane l).limited = true then wtDone [] (s.modArb (laneRestart s.time.cycle l))
    else wtRefuse 0x0221 (leBytes 1 (s.arb.lane l).state) s

/-- REG_READ on the service port: a run of Watchtower words (R430), RC fields cleared. -/
def wtRegRun : Nat → Nat → State → Bytes × State
  | 0, _, s => ([], s)
  | n + 1, o, s =>
    let r := wtRegRun n (o + 4) (wtReadFx o s)
    (leBytes 4 (wtRead s o) ++ r.1, r.2)

def wtRegRead (p : Packet) (s : State) : WtAns :=
  let d := p.params
  let a := u64 d 0
  let n := u16 d 8
  if n = 0 ∨ 256 < n ∨ allZero d 10 2 = false ∨ a % 4 ≠ 0 then wtRefuse RANGE [] s
  else if 0xC0000 < a + 4 * n then wtRefuse RANGE (leBytes 8 (max a 0xC0000)) s
  else
    let r := wtRegRun n a s
    wtDone r.1 r.2

/-! Safety (Tables 14.7 and 17.9). -/

def wtSafetyStatus (s : State) : WtAns :=
  wtDone (safStatusReply (safIn s) s.safety) (s.modSafety fun x => safRegClear 0x1024 (safRegClear 0x1020 x))

def wtSafetyBlockLoad (p : Packet) (s : State) : WtAns :=
  let b := p.params
  match sbBad s.isNode s.power.module b with
  | some o => wtRefuse 0x0230 (leBytes 2 o) s
  | none =>
    if sbCheck b ≠ sbCheckValue b then wtRefuse 0x0231 [] s
    else wtDone (leBytes 4 (sbCheckValue b)) (syncReserved ((s.modSafety (safLoad s.time.us b)).modLantern (ltnRequest (checkTarget s b))))

def wtSafetyBlockRead (p : Packet) (s : State) : WtAns :=
  let d := p.params
  if 1 < u8 d 0 ∨ allZero d 1 3 = false then wtRefuse RANGE [] s
  else match if u8 d 0 = 0 then s.safety.active else s.safety.pending with
    | some b => wtDone b s
    | none => wtRefuse 0x0239 [] s

/-- The reason for which a confirmation is refused, in the order of Table 17.9. -/
def confirmRefusal (typed : Nat) (s : State) : Option (Nat × Bytes) :=
  match s.safety.pending with
  | none => some (0x0232, [])
  | some b =>
    if !s.safety.displayed then some (0x0233, [])
    else if !commissionReady s.time.us s.safety then some (0x0234, [])
    else if typed ≠ sbCheckValue b then some (0x0235, [])
    else if safetyBusy s.safety then some (0x0236, leBytes 1 (safStatusWord (safIn s) s.safety / 2 ^ 24))
    else none

def wtSafetyConfirm (hp : HostPort) (p : Packet) (s : State) : WtAns :=
  match confirmRefusal (u32 p.params 0) s with
  | some (st, d) => wtRefuse st d (pendingGone s.safety.pending.isSome (s.modSafety safRefuse))
  | none =>
    ((s.modSafety fun x => if x.activateAt.isSome then x else safAccept x).modHost fun h => { h with wtQueue := h.wtQueue ++ [⟨some s.sel, hp, p⟩] }, none)

/-- The zone has a THRUSTER_MASK in the active block. -/
def zoneConfigured (z : Nat) (s : State) : Bool :=
  match s.safety.active with
  | some b => szThr b z != 0
  | none => false

def wtSafetyZoneRequest (p : Packet) (s : State) : WtAns :=
  let d := p.params
  let z := u8 d 0
  if z = 0 ∨ 8 < z ∨ 1 < u8 d 1 ∨ allZero d 2 2 = false then wtRefuse RANGE [] s
  else if !zoneConfigured (z - 1) s then wtRefuse 0x0204 [] s
  else if u8 d 1 = 0 ∧ s.server ≠ some s.sel then wtRefuse 0x0237 [] s
  else
    let r := safZoneReq (safIn s) (z - 1) (u8 d 1 == 1) s.safety
    let s1 := applyEffects none r.2 (s.modSafety fun _ => r.1)
    wtDone (leBytes 1 (safReg (safIn s1) 0x100C s1.safety / 2 ^ 24)) s1

def wtSafetyProofTest (p : Packet) (s : State) : WtAns :=
  let d := p.params
  let n := u8 d 0
  let o := u8 d 1
  if n = 0 ∨ 16 < n ∨ o = 0 ∨ 3 < o ∨ allZero d 2 2 = false then wtRefuse RANGE [] s
  else if s.safety.proofs.any fun x => x.pair == n - 1 && decide (x.stage ≤ 3) then wtRefuse 0x0238 [] s
  else match s.safety.active with
    | none => wtRefuse 0x0236 (leBytes 1 (safStatusWord (safIn s) s.safety / 2 ^ 24)) s
    | some b =>
      if s.safety.state = 3 then wtRefuse 0x0236 (leBytes 1 (safStatusWord (safIn s) s.safety / 2 ^ 24)) s
      else if sbUse b (n - 1) = false ∧ o ≠ 3 then wtRefuse RANGE [] s
      else
        let r := safProof (safIn s) (n - 1) o s.safety
        (applyEffects none r.2 (s.modSafety fun _ => r.1), some (STARTED, []))

/-! Lantern (Table 17.11). -/

def wtLtnStatus (s : State) : WtAns := wtDone (ltnReply s.time.us s.lantern) s

def wtLtnShow (p : Packet) (s : State) : WtAns :=
  let d := p.params
  if s.lantern.reserved then wtRefuse 0x0240 [] s
  else if allZero d 2 2 = false then wtRefuse RANGE [] s
  else if u16 d 0 = 0 then wtDone [] (s.modLantern (ltnRequest (statusTarget s)))
  else if screenCount s.lantern.screens < u16 d 0 then wtRefuse 0x0241 [] s
  else wtDone [] (s.modLantern (ltnRequest (screenTarget s.lantern.table s.lantern.screens (u16 d 0))))

/-- LTN_CLEAR: a clear of the panel, or the check-value screen again while it holds the panel (R479). -/
def wtLtnClear (s : State) : WtAns :=
  match s.safety.pending with
  | some b =>
    if s.lantern.reserved then wtDone [] (s.modLantern (ltnRequest (checkTarget s b))) else wtDone [] (s.modLantern (ltnRequest ⟨0, true, []⟩))
  | none => wtDone [] (s.modLantern (ltnRequest ⟨0, true, []⟩))

def wtLtnPower (p : Packet) (s : State) : WtAns :=
  let d := p.params
  if s.lantern.reserved then wtRefuse 0x0240 [] s
  else if 1 < u8 d 0 ∨ allZero d 1 3 = false then wtRefuse RANGE [] s
  else wtDone [] (s.modLantern fun l => { l with mode := u8 d 0 })

/-- The Watchtower's action of an opcode. -/
def wtAct (hp : HostPort) (p : Packet) (s : State) : WtAns :=
  match p.opcode with
  | 0x0701 => wtKeepInfo s
  | 0x0702 => wtKeepRead p s
  | 0x0703 => wtKeepMark p s
  | 0x0802 => wtArbRead s
  | 0x0803 => wtRegRead p s
  | 0x0807 => wtLaneRestart p s
  | 0x0901 => wtSafetyStatus s
  | 0x0902 => wtSafetyBlockLoad p s
  | 0x0903 => wtSafetyBlockRead p s
  | 0x0904 => wtSafetyConfirm hp p s
  | 0x0905 => wtSafetyZoneRequest p s
  | 0x0906 => wtSafetyProofTest p s
  | 0x0B01 => wtLtnStatus s
  | 0x0B02 => wtLtnShow p s
  | 0x0B03 => wtLtnClear s
  | 0x0B04 => wtLtnPower p s
  | _ => wtDone [] s

end Sys2Proof.Machine
end

