-- ==== Sys2Proof/Machine/LaneOps.lean ====
section
/-! DEFINITION. What each host opcode of the lanes checks at its turn (Tables 17.3 to 17.12), what a lane does when it executes one (R448), and what a staged setting does at its boundary (R57 step 5). -/

namespace Sys2Proof.Machine

/-- The latest grid point of 40 µs, counted from device time 0 (R170). -/
def gridNow (s : State) : Nat := 500 * s.time.cycle + s.time.tick / 40

/-- Installation of the staged image begins in a lane: over its inactive image planes, and in its filter island's (R93, R179). -/
def laneInstall (l : LaneId) (grid : Nat) (c : CommitReq) (x : Lane) : Lane :=
  { x with image := imgInstallStart c x.image, filter := filterInstall x.image.data l grid x.filter }

/-! Checks: the verdict of step 7 of R445. -/

def rangeBad : Verdict := .refuse RANGE []
def staged : Verdict := .accept STAGED []

/-- The serving lane's own parts. -/
def State.my (s : State) : Lane := s.lane s.sel
def State.mySec (s : State) (sec : Nat) : Bytes := section_ s s.sel sec

/-- A mode with accepted mode commands applied to it in order (R248). -/
def foldModes (l : List Staged) (m : Nat) : Nat := l.foldl (fun m g => if g.opcode = 0x0201 then u8 g.params 0 else m) m
def expectedMode (s : State) : Nat := foldModes s.my.staged s.my.control.mode
/-- Byte 1 of MODE_STATUS: the mode the next boundary puts in force, conditions not foreseen (Table 17.3). -/
def nextMode (s : State) : Nat :=
  foldModes (s.my.staged.filter fun g => decide (g.boundary ≤ s.time.cycle + 1)) (s.my.control.autoTo.getD s.my.control.mode)

def chkModeSet (p : Packet) (s : State) : Verdict :=
  let d := p.params
  let m := expectedMode s
  if 6 < u8 d 0 ∨ allZero d 1 3 = false then rangeBad
  else if u8 d 0 = m ∨ (mmTransitions (s.mySec secModes)).any (fun t => !t.auto && t.leads m (u8 d 0)) = true then staged
  else .refuse 0x0201 (leBytes 1 m ++ [0, 0, 0])

def chkModeStatus (_ : Packet) (s : State) : Verdict :=
  let c := s.my.control
  .read (leBytes 1 c.mode ++ leBytes 1 (nextMode s) ++ leBytes 1 (b2n (modePending s s.sel)) ++ [0] ++ leBytes 2 c.cond ++ [0, 0] ++
    leBytes 4 (modeLastWord c) ++ leBytes 4 (c.modeCycle % 2 ^ 32)) id

/-- A Q16.16 field lies within ± a bound of whole units. -/
def within (d : Bytes) (o : Nat) (lim : Int) : Bool := decide (-(lim * 65536) ≤ s32 d o) && decide (s32 d o ≤ lim * 65536)

def chkSpPosition (p : Packet) (_ : State) : Verdict := if within p.params 0 20000 && within p.params 4 20000 then staged else rangeBad

def chkSpHeading (p : Packet) (_ : State) : Verdict :=
  let h := s32 p.params 0
  if -180 * 65536 ≤ h ∧ h < 360 * 65536 then staged else rangeBad

def chkSpSiteOrigin (p : Packet) (_ : State) : Verdict :=
  let a := s64 p.params 0
  let o := s64 p.params 8
  if -85000000000 ≤ a ∧ a ≤ 85000000000 ∧ -180000000000 ≤ o ∧ o < 180000000000 then staged else rangeBad

def chkSpTrack (p : Packet) (_ : State) : Verdict :=
  let d := p.params
  let n := u8 d 0
  let v := q16 d 4
  if 2 ≤ n ∧ n ≤ 16 ∧ allZero d 1 3 = true ∧ 1 / 20 ≤ v ∧ v ≤ 2 ∧ ((List.range (2 * n)).all fun i => within d (8 + 4 * i) 20000) = true then staged
  else rangeBad

def chkSpTargetOffset (p : Packet) (_ : State) : Verdict := if within p.params 0 10000 && within p.params 4 10000 then staged else rangeBad

def chkSpJoystick (p : Packet) (s : State) : Verdict :=
  if allZero p.params 6 2 = false then rangeBad
  else if mmJoySource (s.mySec secModes) = 1 then .refuse 0x0202 []
  else staged

def chkSpRead (_ : Packet) (s : State) : Verdict :=
  let c := s.my.control
  let hdg := if (c.mode = 4 ∧ mmHdgCourse (s.mySec secModes) 4 = true) ∨ (c.mode = 5 ∧ mmHdgTarget (s.mySec secModes) 5 = true) then c.hdgOff else c.hdgSp
  let o := s.my.cupola.origin.getD (0, 0)
  .read (leQ16 c.posSp.1 ++ leQ16 c.posSp.2 ++ leQ16 hdg ++ leSigned 8 o.1 ++ leSigned 8 o.2 ++ leQ16 c.target.1 ++ leQ16 c.target.2 ++
    leSigned 2 c.joy[0] ++ leSigned 2 c.joy[1] ++ leSigned 2 c.joy[2] ++ [0, 0] ++ leQ16 c.trackSpeed ++ leBytes 1 c.track.length ++ leBytes 1 c.leg ++
    [0, 0] ++ leQ16 c.trackPoint.1 ++ leQ16 c.trackPoint.2) id

/-- The track that a class and reference number name when the image configures it. -/
def chkRefSelect (p : Packet) (s : State) : Verdict :=
  let d := p.params
  if u8 d 0 = 0 ∨ 5 < u8 d 0 ∨ 2 < u8 d 2 ∨ u8 d 3 ≠ 0 ∨ (u8 d 2 = 2 ∧ u8 d 0 = 5) then rangeBad
  else match trackOf (u8 d 0) (u8 d 1) with
    | none => rangeBad
    | some k => if reClass (fuEntry (s.mySec secFusion) k) = 0 then .refuse 0x0204 [] else staged

def chkChannelSelect (p : Packet) (s : State) : Verdict :=
  let d := p.params
  if 255 < u16 d 0 ∨ 1 < u8 d 2 ∨ u8 d 3 ≠ 0 then rangeBad
  else if chType (chanEntry (s.mySec secChannels) (u16 d 0)) = 0 then .refuse 0x0204 []
  else staged

def chkGnssSelect (p : Packet) (_ : State) : Verdict :=
  let d := p.params
  if 5 < u8 d 0 ∨ 1 < u8 d 1 ∨ allZero d 2 2 = false then rangeBad else staged

def chkGnssNoiseRef (p : Packet) (_ : State) : Verdict :=
  let d := p.params
  if 15 < u8 d 0 ∨ 1 < u8 d 1 ∨ allZero d 2 2 = false then rangeBad else .later

def chkRefRead (p : Packet) (s : State) : Verdict :=
  let d := p.params
  if 31 < u8 d 0 ∨ allZero d 1 3 = false then rangeBad else .read ((trackBytes (vget s.my.cupola.tracks (u8 d 0))).take 192) id

def chkChannelRead (p : Packet) (s : State) : Verdict :=
  let d := p.params
  if 255 < u16 d 0 ∨ allZero d 2 2 = false then rangeBad
  else .read (storeBytes (vget s.my.ingest.store (u16 d 0)) ++ leBytes 4 (vget s.my.ingest.counters (u16 d 0)).upd) id

/-- A thruster that a command names: outside 1 to 16, or beyond THRUSTER_COUNT (R469). -/
def thrusterBad (k : Nat) (s : State) : Option Verdict :=
  if k = 0 ∨ 16 < k then some rangeBad
  else if tmCount (s.mySec secThrusters) < k then some (.refuse 0x0204 [])
  else none

def chkThrAvailable (p : Packet) (s : State) : Verdict :=
  let d := p.params
  if 1 < u8 d 1 ∨ allZero d 2 2 = false then rangeBad else (thrusterBad (u8 d 0) s).getD staged
def chkThrOne (p : Packet) (s : State) : Verdict :=
  let d := p.params
  if allZero d 1 3 = false then rangeBad else (thrusterBad (u8 d 0) s).getD staged

def chkAllocRead (p : Packet) (s : State) : Verdict :=
  let d := p.params
  let k := u8 d 0
  let n := u8 d 1
  let a := s.my.alloc
  if k = 0 ∨ 16 < k ∨ n = 0 ∨ 14 < n ∨ 17 < k + n ∨ allZero d 2 2 = false then rangeBad
  else .read (padTo 64 (a.block.take 64) ++ leBytes 4 (alcStatus a) ++ leBytes 4 (alcMask a) ++ leBytes 4 (alcExcl a) ++
    ((List.range 8).flatMap fun j => leBytes 4 (alcPower a j)) ++ leBytes 4 (gateStatus a) ++ leBytes 4 (sprAllocResult a) ++
    padTo (64 * n) (sliceB a.block (64 * k) (64 * n))) id

/-- SPR_CQ_CYCLE, then SPR_CQ_RESULT of groups 1 to 8. -/
def conseqBytes (s : State) (l : LaneId) : Bytes :=
  leBytes 4 ((s.lane l).alloc.cq.cycle % 2 ^ 32) ++ ((s.lane l).alloc.cq.words.toList.flatMap fun w => leBytes 4 w)
def chkConseqRead (_ : Packet) (s : State) : Verdict := .read (conseqBytes s s.sel) id

/-! Images. -/

/-- COMMISSION_EN is asserted as both safety channels read it. -/
def commissionOn (s : State) : Bool := s.safety.a.commission.isSome && s.safety.b.commission.isSome
def isEng (c : Channel) : Bool := (c.session.map Session.eng).getD false
/-- An engineering session is open. -/
def anyEng (s : State) : Bool := s.host.chans.toList.any isEng || isEng s.host.svc

/-- What the verification of an image in a lane is held against. -/
def verIn (s : State) (l : LaneId) (eng : Bool) : VerIn :=
  let x := s.lane l
  { role := s.power.role, nx := s.power.nx, stepping := s.power.stepping, active := x.image.active, running := (s.arb.lane l).running,
    engineering := eng, commissionEn := commissionOn s, measured := x.pmu.measuredKhz, tier := x.pmu.tier, margin := x.pmu.marginTiers,
    safetyThruster := if s.isNode then s.safety.active.map sbThruster else none }

/-- A verification that holds the image against no active one (R94, R97, R98, log entry 52). -/
def verifyWhole (s : State) (l : LaneId) (i : Bytes) : VerResult := verifyImage { verIn s l true with active := none } none i.length i
def verifies (s : State) (l : LaneId) (i : Bytes) : Bool := (verifyWhole s l i).code == 0

def chkImageBegin (p : Packet) (_ : State) : Verdict :=
  let n := u32 p.params 0
  let g := u32 p.params 4
  if n % 64 ≠ 0 ∨ 0x600000 < n ∨ g = 0 ∨ g = 0xFFFFFFFF then rangeBad else .accept DONE []

def imgInstalling (g : ImgState) : Bool := g.staged == 5 || g.staged == 6

def chkImageData (p : Packet) (s : State) : Verdict :=
  let g := s.my.image
  if g.staged = 0 then .refuse 0x0211 []
  else if imgInstalling g then .refuse 0x0217 []
  else if p.station ≠ g.loader then .refuse 0x0210 (leBytes 2 g.loader)
  else if g.size < u32 p.params 0 + (p.params.length - 4) then rangeBad
  else .accept DONE []

def chkImageVerify (_ : Packet) (s : State) : Verdict :=
  let g := s.my.image
  if imgInstalling g then .refuse 0x0217 []
  else if g.staged = 0 ∨ g.gaps ≠ [] then .refuse 0x0211 []
  else .accept STARTED []

/-- The verification results of Lane A and Lane B for the image staged in the serving lane. -/
def laneResult (s : State) (l : LaneId) : Option VerResult :=
  let g := (s.lane l).image
  if g.gen = s.my.image.gen ∧ (g.result.code ≠ 0 ∨ 3 ≤ g.staged) then some g.result else none

/-- A healthy STANDBY lane has not verified the staged image with the code of the serving lane (R94). -/
def standbyBehind (s : State) : Bool :=
  let o := s.sel.other
  s.laneState o == 5 && !(s.arb.lane o).unhealthy && (laneResult s o).map (·.code) != (laneResult s s.sel).map (·.code)

/-- A change of the thruster networks that every node must make at one boundary: R87 forbids it outside STANDBY (R348). The spec gives that refusal no
code; it takes the one of a change outside STANDBY (DESIGN CHOICE, log entry 78). -/
def nodesBreak (s : State) (old new : Bytes) : Bool := !s.isNode && matrixBreaks (imgSection old secMatrix) (imgSection new secMatrix)

/-- IMAGE_COMMIT: refused in the order of R472. -/
def chkImageCommit (_ : Packet) (s : State) : Verdict :=
  let g := s.my.image
  if g.commit.isSome then .refuse 0x0217 []
  else if g.staged ≠ 3 ∨ g.rejected.contains g.gen ∨ combinedCode (laneResult s .A) (laneResult s .B) ≠ 0 ∨ standbyBehind s = true then
    .refuse 0x0212 (leBytes 1 (combinedCode (laneResult s .A) (laneResult s .B)))
  else if g.state = 1 then .refuse 0x0218 []
  else if imgEngineering g.data && !anyEng s then .refuse ENGINEERING_REQUIRED []
  else match g.active with
    | none => .accept STARTED []
    | some a =>
      if imgVessel a ≠ imgVessel g.data ∧ commissionOn s = false then .refuse 0x0213 []
      else if (imgContinuity a ≠ imgContinuity g.data ∨ nodesBreak s a g.data = true) ∧ s.my.control.mode ≠ 0 then .refuse 0x0214 []
      else if modeExists (imgSection g.data secModes) s.my.control.mode then .accept STARTED []
      else .refuse 0x0215 []

/-- The last verification code of a lane (Table 3.15). -/
def lastVerified (code : Nat) (s : State) : State := s.modLane s.sel fun x => { x with image := { x.image with lastCode := code } }

/-- IMAGE_ROLLBACK (R98): the previous generation is verified again, and RESULT takes the code of a verification that fails. -/
def chkImageRollback (_ : Packet) (s : State) : Verdict :=
  let g := s.my.image
  if g.commit.isSome then .refuse 0x0217 []
  else match g.active, g.prev with
    | some a, some p =>
      if !g.prevHeld then .refuse 0x0216 []
      else if !verifies s s.sel p then .refuseAnd 0x0216 (lastVerified (verifyWhole s s.sel p).code)
      else if (imgContinuity a ≠ imgContinuity p ∨ nodesBreak s a p = true) ∧ s.my.control.mode ≠ 0 then .refuse 0x0214 []
      else staged
    | _, _ => .refuse 0x0216 []

def chkImageStatus (_ : Packet) (s : State) : Verdict :=
  .read (imgStatusReply s.my.pmu.marginTiers (laneResult s .A) (laneResult s .B) s.my.image) id

def chkTierFloor (p : Packet) (_ : State) : Verdict := if 3 < u8 p.params 0 ∨ allZero p.params 1 3 = false then rangeBad else staged

/-! Diagnostics. -/

def chkForward (_ : Packet) (_ : State) : Verdict := .forward

def chkHealthRead (_ : Packet) (s : State) : Verdict :=
  let l := s.sel
  let x := s.my.pmu
  .read (leBytes 4 (cplStatus s l) ++ leBytes 4 (sprStatus s l) ++ leBytes 4 (ctlStatus s l) ++ leBytes 4 (fltStatus s l) ++ leBytes 4 (busStatus s l) ++
    leBytes 4 (ingestStatus s l) ++ leBytes 4 (pmuStatus s l) ++ leBytes 4 (pmuTier s l) ++ leBytes 4 x.violLast ++ leBytes 4 x.violCycle ++
    leBytes 2 (slackNow x) ++ [0, 0] ++ leBytes 4 (skyRead s 0) ++ leBytes 4 (skyRead s 0x80000) ++ zeroBytes 12) id

/-- REG_READ on a host channel: a run of lane words; the first one that ends with a bus error is named. -/
def chkRegRead (p : Packet) (s : State) : Verdict :=
  let d := p.params
  let a := u64 d 0
  let n := u16 d 8
  if n = 0 ∨ 256 < n ∨ allZero d 10 2 = false ∨ a % 4 ≠ 0 then rangeBad
  else match runError s s.sel n a with
    | some x => .refuse RANGE (leBytes 8 x)
    | none => .read (mgmtWords s.sel n a s).1 fun t => (mgmtWords s.sel n a t).2

def chkNetTest (p : Packet) (s : State) : Verdict :=
  let d := p.params
  if 3 < u8 d 0 ∨ 2 < u8 d 1 ∨ allZero d 2 2 = false then rangeBad
  else if u8 d 1 ≠ 0 ∧ (vget s.my.bus.nets (twinOf (u8 d 0))).state ≠ 2 then .refuse 0x0220 []
  else .accept DONE []

def chkNetRestart (p : Packet) (s : State) : Verdict :=
  let d := p.params
  if 3 < u8 d 0 ∨ allZero d 1 3 = false then rangeBad
  else
    let st := (vget s.my.bus.nets (u8 d 0)).state
    if st = 0 ∨ st = 4 then .refuse STATE [] else .accept DONE []

def chkIdClear (p : Packet) (s : State) : Verdict :=
  let d := p.params
  if 3 < u8 d 0 ∨ 3 < u8 d 1 ∨ allZero d 2 2 = false then rangeBad
  else if bitOf 1 (u8 d 1) || (vget s.my.bus.nets (u8 d 0)).suspended.contains (bitOf 0 (u8 d 1), u32 d 4) then .accept DONE []
  else .refuse 0x0222 []

def chkGnssRawRead (p : Packet) (s : State) : Verdict :=
  let d := p.params
  let o := s.oculus
  if (7 < u8 d 0 ∧ u8 d 0 ≠ 0xFF) ∨ u8 d 1 ≠ 0 then rangeBad
  else
    let b := vget o.ring (if u8 d 0 = 0xFF then o.ringSeq % 8 else u8 d 0)
    .read (leBytes 8 b.cycle ++ leBytes 2 b.entries.length ++ leBytes 2 (b.seq % 65536) ++ leBytes 2 (u16 d 2) ++ [0, 0] ++
      ((b.entries.drop (u16 d 2)).take 31).flatMap (padTo 32)) id

def chkTimeRead (_ : Packet) (s : State) : Verdict := .read (timeReadReply s.time.us s.belfry) id

def myImg (s : State) : Bytes := (s.laneImg s.sel).getD []

def chkAlarmAck (p : Packet) (s : State) : Verdict :=
  let d := p.params
  if allZero d 2 2 = false then rangeBad
  else if u16 d 0 ≠ 0xFFFF ∧ alarmEntryOf (myImg s) (u16 d 0) = none then .refuse 0x0204 []
  else .accept DONE (leBytes 2 (alarmAck (myImg s) (u16 d 0) s.time.cycle s.my.alarms).2.1)

def chkAlarmList (p : Packet) (s : State) : Verdict :=
  let d := p.params
  let l := (alarmListed (myImg s) (u16 d 0) s.my.alarms).take 127
  if allZero d 2 2 = false then rangeBad else .read (leBytes 2 l.length ++ [0, 0] ++ l.flatMap (alarmListEntry (myImg s))) id

/-! Counters. -/

def chkCntConfig (p : Packet) (eng : Bool) : Verdict :=
  let d := p.params
  if 56 ≤ u8 d 0 ∧ u8 d 0 ≤ 63 ∧ eng = false then .refuse ENGINEERING_REQUIRED []
  else if 63 < u8 d 0 ∨ allZero d 1 3 = false ∨ cntConfigOk (u8 d 0) (u32 d 4) = false then rangeBad
  else .accept DONE []

def chkCntRead (p : Packet) (s : State) : Verdict :=
  let d := p.params
  let k := u8 d 0
  let n := u8 d 1
  if n = 0 ∨ 64 < n ∨ 64 < k + n ∨ allZero d 2 2 = false then rangeBad
  else
    let l := s.sel
    .read (cntRead (s.isActive l) n k s.my.counters).1 fun t => t.modLane l fun x => { x with counters := (cntRead (t.isActive l) n k x.counters).2 }

def chkCntClear (p : Packet) (eng : Bool) : Verdict :=
  if 2 ^ 56 ≤ u64 p.params 0 ∧ eng = false then .refuse ENGINEERING_REQUIRED [] else .accept DONE []

def chkBwRead (p : Packet) (s : State) : Verdict :=
  let d := p.params
  if allZero d 1 3 = false then rangeBad
  else match bwWindow s.my (u8 d 0) with
    | none => rangeBad
    | some w =>
      let st := s.laneState s.sel.other
      if 32 ≤ u8 d 0 ∧ (st = 0 ∨ st = 7 ∨ s.bridgeFault = true) then .refuse STATE []
      else .read (leBytes 4 (bwWord w 0) ++ leBytes 4 (bwWord w 1) ++ leBytes 4 (bwWord w 2) ++ leBytes 4 (bwWord w 3))
        fun t => t.modLane t.sel fun x => match bwIndex (u8 d 0) with
          | some (false, k) => { x with bw := vmodN x.bw k fun y => { y with peak := 0 } }
          | some (true, k) => { x with bwRemote := vmodN x.bwRemote k fun y => { y with peak := 0 } }
          | none => x

/-! Engineering tuning (R480). -/

/-- A value of a gain field lies in its range (Table 10.9). -/
def gainInRange (f : Nat) (d : Bytes) : Bool :=
  if f = 23 then decide (u16 d 4 ≤ 3000) && allZero d 6 2
  else match ofBits32 (u32 d 4) with
    | none => false
    | some v =>
      if f ≤ 10 ∨ f = 14 ∨ f = 15 then decide (0 ≤ v)
      else if f = 11 ∨ f = 12 then decide (0 ≤ v) && decide (v ≤ 1)
      else if f = 13 then decide (0 ≤ v) && decide (v ≤ 60)
      else if f ≤ 18 then decide (0 < v)
      else if f = 19 then decide (1 / 20 ≤ v) && decide (v ≤ 5)
      else if f = 20 then decide (1 / 1000 ≤ v) && decide (v ≤ 1 / 2)
      else if f = 21 then decide (1 / 10 ≤ v) && decide (v ≤ 20)
      else if f = 22 then decide (1 / 100 ≤ v) && decide (v ≤ 5)
      else false

/-- An engineering write is accepted: TRIAL expected or an engineering session, and no other one holds its boundary (R447, R480). -/
def engWrite (eng : Bool) (s : State) : Verdict :=
  if expectedMode s ≠ 6 ∧ eng = false then .refuse ENGINEERING_REQUIRED []
  else if s.host.engBoundaries.contains (namedBoundary s) then .hold
  else staged

def chkGainWrite (eng : Bool) (p : Packet) (s : State) : Verdict :=
  let d := p.params
  if expectedMode s ≠ 6 ∧ eng = false then .refuse ENGINEERING_REQUIRED []
  else if gsCount (s.mySec secGains) ≤ u8 d 0 ∨ 23 < u8 d 1 ∨ allZero d 2 2 = false ∨ gainInRange (u8 d 1) d = false then rangeBad
  else engWrite eng s

def chkGainRead (p : Packet) (s : State) : Verdict :=
  let d := p.params
  if gsCount (s.mySec secGains) ≤ u8 d 0 ∨ allZero d 1 3 = false then rangeBad
  else .read (gainReadReply (s.mySec secGains) (u8 d 0) s.my.control) id

/-! Execution in one lane (R448). -/

/-- The pending image of a node: an accepted commit whose matrix differs from the one that reference frames name (R571). -/
def syncPending (s : State) : State :=
  let g := s.laneA.image
  let id := cmId (imgSection g.data secMatrix)
  let held := match g.commit, s.node.refMatrix with
    | some c, some m => !c.rollback && m != id
    | _, _ => false
  if s.isNode then s.modNode fun n => { n with pending := if held then id else 0 } else s

/-- A lane action or the staging of a setting, once in each lane. -/
def laneAct (p : HostPort) (f : InFlight) (l : LaneId) (s : State) : State :=
  let d := f.pkt.params
  let tag := some (portNum p, f.pkt.tag)
  let stage (t : State) : State := t.modLane l fun x => { x with staged := x.staged ++ [stagedOf p f (engSession p s)] }
  match f.pkt.opcode with
  | 0x0404 => if l = s.sel then s.modHost fun h => { h with noiseWait := h.noiseWait ++ [(p, u8 d 0, u8 d 1, s.time.us)] } else s
  | 0x0601 =>
    let g := (s.lane l).image
    let s1 := s.modLane l fun x => { x with image := imgBegin (u32 d 0) (u32 d 4) f.pkt.station x.image }
    match g.commit with
    | some c => syncPending (applyEffects (some l) [.note 0xF019 c.tag (leBytes 4 g.gen ++ [1, 0, 0, 0])] s1)
    | none => s1
  | 0x0602 => s.modLane l fun x => if x.image.staged = 0 then x else { x with image := imgData (u32 d 0) (d.drop 4) x.image }
  | 0x0603 => s.modLane l fun x => if x.image.staged = 0 ∨ imgInstalling x.image then x else { x with image := imgVerifyStart tag x.image }
  | 0x0604 =>
    syncPending (s.modLane l fun x =>
      if x.image.staged = 3 ∧ x.image.gen = s.my.image.gen then
        laneInstall l (gridNow s) { earliest := u32 d 0, accepted := s.time.cycle, tag := tag } x else x)
  | 0x0605 => (stage s).modLane l fun x => { x with image := imgRollbackStart { rollback := true, accepted := s.time.cycle, tag := tag } x.image }
  | 0x0804 => stage s
  | 0x0805 => stage s
  | 0x0806 => s.modLane l fun x => { x with bus := idClear (u8 d 0) (bitOf 1 (u8 d 1)) (bitOf 0 (u8 d 1)) (u32 d 4) x.bus }
  | 0x080A =>
    let x := s.lane l
    let r := alarmAck ((s.laneImg l).getD []) (u16 d 0) s.time.cycle x.alarms
    applyEffects (some l) r.2.2 (s.setLane l { x with alarms := r.1 })
  | 0x0A01 => s.modLane l fun x => { x with counters := cntConfigWrite (u8 d 0) (u32 d 4) x.counters }
  | 0x0A03 => s.modLane l fun x => { x with counters := cntClear (u64 d 0) x.counters }
  | _ => if f.kind = .boundary then stage s else s

def acts : Actions := ⟨laneAct, wtAct⟩

/-! Staged settings at their boundary (R57 step 5). -/

/-- The channel and TAG of a setting of this module; channel 255 stands for another module's. -/
def Staged.tagOf (g : Staged) : Option (Nat × Nat) := some (g.chan, g.tag)

/-- A new site origin (R193, R234, R252): the first one after a power-on reset shifts nothing. -/
def applyOrigin (a o : Int) (x : Lane) : Lane :=
  match x.cupola.origin with
  | none => { x with cupola := { x.cupola with origin := some (a, o) } }
  | some old =>
    let d := project (a, o) old.1 old.2
    { x with
      cupola := { cupolaShift d.1 d.2 x.cupola with origin := some (a, o) }
      queued := vmodN x.queued 5 (Queue.shiftPred d.1 d.2)
      observer := observerShift d.1 d.2 x.observer
      control := controlShift d.1 d.2 x.control }

/-- A reference selection (R213). DESELECT names the reference alone; SELECT also selects its primary channel, which START_DESELECTED or a channel
command may have deselected (R117, log entry 67). -/
def applyRef (fu : Bytes) (d : Bytes) (x : Lane) : Lane :=
  match trackOf (u8 d 0) (u8 d 1) with
  | none => x
  | some k =>
    if u8 d 2 = 2 then { x with cupola := cupolaResolve (u8 d 0) k x.cupola }
    else if u8 d 2 = 1 then { x with cupola := cupolaSelect k true x.cupola }
    else { x with
      cupola := cupolaSelect k false x.cupola
      ingest := { x.ingest with deselected := vmodN x.ingest.deselected (reChan (fuEntry fu k)) fun _ => false } }

/-- One host setting takes effect in a lane. -/
def applySetting (l : LaneId) (g : Staged) (s : State) : State :=
  let x := s.lane l
  let d := g.params
  let mm := section_ s l secModes
  let ctl (c : ControlState) : State := s.setLane l { x with control := c }
  match g.opcode with
  | 0x0201 =>
    let r := hostMode mm (u8 d 0) s.time.cycle g.tagOf x.control
    applyEffects (some l) r.2 (ctl r.1)
  | 0x0301 =>
    let r := setPosition mm x.observer.init (obsPosition x.observer) (q16 d 0) (q16 d 4) g.tagOf x.control
    applyEffects (some l) r.2 (ctl r.1)
  | 0x0302 => ctl (setHeading mm (q16 d 0) x.control)
  | 0x0303 => s.setLane l (applyOrigin (s64 d 0) (s64 d 8) x)
  | 0x0304 => ctl (setTrack (q16 d 4) ((List.range (u8 d 0)).map fun i => (q16 d (8 + 8 * i), q16 d (12 + 8 * i))) x.control)
  | 0x0305 => ctl (setTarget (q16 d 0) (q16 d 4) x.control)
  | 0x0306 => ctl (setJoystick (s16 d 0) (s16 d 2) (s16 d 4) s.time.cycle x.control)
  | 0x0401 => s.setLane l (applyRef (section_ s l secFusion) d x)
  | 0x0402 => s.setLane l { x with ingest := { x.ingest with deselected := vmodN x.ingest.deselected (u16 d 0) fun _ => u8 d 2 == 1 } }
  | 0x0403 => if l = s.sel then s.modOculus (gnssSelect (u8 d 0) (u8 d 1 == 1)) else s
  | 0x0501 => s.setLane l { x with alloc := setAvailable (u8 d 0) (u8 d 1 == 1) x.alloc }
  | 0x0502 =>
    let r := startJoin (u8 d 0) x.alloc
    applyEffects (some l) (if r.2 then [.note 0xF01C g.tagOf (leBytes 1 (u8 d 0) ++ [0, 0, 0])] else []) (s.setLane l { x with alloc := r.1 })
  | 0x0503 => s.setLane l { x with alloc := startStop (u8 d 0) x.alloc }
  | 0x0607 => s.setLane l { x with pmu := applyFloor x.image.active { x.pmu with floor := u8 d 0 } }
  | 0x0C01 => ctl (gainWrite (section_ s l secGains) (u8 d 0) (u8 d 1) (if u8 d 1 = 23 then u16 d 4 else u32 d 4) x.control)
  | 0x0C02 => ctl (gainRevert (section_ s l secGains) x.control)
  | _ => s

/-- The settings due at the boundary of a cycle, in acceptance order. -/
def dueSettings (cycle : Nat) (x : Lane) : List Staged :=
  x.staged.filter fun g => decide (g.boundary ≤ cycle) && g.opcode != 0x0804 && g.opcode != 0x0805

def applyDue (l : LaneId) (s : State) : State :=
  let due := dueSettings s.time.cycle (s.lane l)
  let s1 := s.modLane l fun x =>
    { x with staged := x.staged.filter fun g => !due.contains g, jseq := due.foldl (fun n g => if later32 g.jsn n then g.jsn else n) x.jseq }
  due.foldl (fun t g => applySetting l g t) s1

end Sys2Proof.Machine
end

