-- ==== Sys2Proof/Machine/SlotOps.lean ====
section
/-! DEFINITION. What the slots of the control path have in common: their ticks, the inputs they read, the queues between the engines, overflow, the digest. -/

namespace Sys2Proof.Machine

/-- The lane runs its control path on an image (R396, R539). -/
def pathRuns (s : State) (l : LaneId) : Bool := s.laneRuns l && (s.arb.lane l).running && (s.laneImg l).isSome

/-- An island of a lane that has power and whose clock runs. -/
def clocked (s : State) (l : LaneId) (i : Nat) : Bool := s.islandRuns l i && vget (s.lane l).pmu.clockRuns i

/-- Two lanes are arbitrated: the controller role (R396; a node has one lane, R565; an arbiter-only module's lanes stay OFF, R397). -/
def arbitrates (s : State) : Bool := s.power.booted && s.isController

/-- The ACTIVE lane sends its shadow state in this cycle: one of phase 0 in which the other lane is JOINING and the bridge stands (R407). -/
def transferring (s : State) (l : LaneId) : Bool :=
  arbitrates s && s.phase == 0 && l == s.sel && s.isActive l && pathRuns s l && (s.arb.lane l.other).state == 3 && s.laneRuns l.other && !s.bridgeFault

/-- The block of Table 15.4 that a slot of a PURPOSE leaves; a fusion that was abandoned commits nothing. -/
def takeBlock (purpose tick : Nat) (x : Lane) : Shadow :=
  let b := x.shadow
  match purpose with
  | 1 => { b with filter := some (tick, x.filter) }
  | 2 => if b.store.isSome then b else { b with store := some (x.ingest.store, x.ingest.deselected) }
  | 3 => if x.abandoned.contains 3 then b else { b with cupola := some (tick, x.cupola) }
  | 4 => { b with observer := some (tick, x.observer) }
  | 5 => { b with control := some (tick, x.control) }
  | 8 => { b with alloc := some (tick, x.alloc) }
  | _ => b

/-- The work of a slot has finished in this cycle (R64); its block is taken for a joining lane (R407). -/
def finishSlot (l : LaneId) (sl : Slot) (s : State) : State :=
  s.modLane l fun x => { x with
    finished := if x.finished.contains sl.slot then x.finished else sl.slot :: x.finished
    shadow := if transferring s l then takeBlock sl.purpose s.time.tick x else x.shadow }

/-- Run the work of a PURPOSE once in a cycle, at the tick `tick` takes of its slot, when the lane runs the control path, the island has its
clock, and the purpose has not been stopped in this cycle (R50, R64). -/
def slotWork (l : LaneId) (purpose : Nat) (pick : Bytes → Option Slot) (tick : Slot → Nat) (k : Slot → State → State) (s : State) : State :=
  match (s.laneImg l).bind pick with
  | none => s
  | some sl =>
    if pathRuns s l && clocked s l sl.island && !(s.lane l).finished.contains sl.slot && !(s.lane l).abandoned.contains purpose then
      atTick (laneCodeOf (1000 + sl.slot) l) (tick sl) (fun t => finishSlot l sl (k sl t)) s
    else s

/-- The slot of a PURPOSE in the lane's image at its tier, by its start tick. -/
def slotStart (l : LaneId) (purpose : Nat) (k : Slot → State → State) (s : State) : State :=
  slotWork l purpose (fun i => imgSlotFor i (s.lane l).pmu.tier purpose) (·.start) k s

/-! Queues of the control path (R28, R29). -/

/-- The consumer takes all entries of a queue. -/
def qDrain (q : Nat) (x : Lane) : Lane := { x with queued := vmodN x.queued q Queue.drain }
/-- What the consumer of a queue holds once it has taken what waits, and whether a transfer has come since it last took one. -/
def Lane.got (x : Lane) (q : Nat) : List QEntry := (vget x.queued q).got
def Lane.fresh (x : Lane) (q : Nat) : Bool := (vget x.queued q).fresh

/-- A write of an island found its queue full: QUEUE_OVF in the island's status, and a violation. -/
def queueOvf (l : LaneId) (q island : Nat) (s : State) : State :=
  violate l 4 island q 0 (s.modLane l fun x => { x with pmu := { x.pmu with flags := vmodN x.pmu.flags island fun f => { f with queueOvf := true } } })

/-- One entry is written into a queue; one that finds it full is lost (R28), and of an item of several entries nothing is left (log entry 66). -/
def qPut (l : LaneId) (q island : Nat) (s : State) (e : QEntry) : State :=
  if (vget (s.lane l).queued q).fill + e.span ≤ qDepth q then
    s.modLane l fun x => { x with queued := vmodN x.queued q fun w => { w with waiting := w.waiting ++ [e] } }
  else queueOvf l q island s

/-- A transfer into a queue. -/
def qSend (l : LaneId) (q island : Nat) (es : List QEntry) (s : State) : State := es.foldl (qPut l q island) s

/-- The BRIDGE_LATE counts of a lane take one event (R31, R184). The PMU_ window gives the first of them no offset (DESIGN CHOICE, log entry 78). -/
def bridgeLateHit (p : PmuState) : PmuState :=
  { p with bridgeLate := satAdd (2 ^ 32 - 1) p.bridgeLate 1, bridgeLateDigest := true, bridgeLateLong := satAdd 65535 p.bridgeLateLong 1 }

/-- Something arrived late over the lane bridge. -/
def lateOnBridge (l : LaneId) (s : State) : State :=
  count (some l) 0x0902 0xFF 1 (s.modLane l fun x => { x with pmu := bridgeLateHit x.pmu })

/-! The latest-value store. -/

/-- The snapshot tick of the lane's image at its tier (R32). -/
def snapTick (s : State) (l : LaneId) : Nat := (((s.laneImg l).bind fun i => imgSlotFor i (s.lane l).pmu.tier 2).map (·.start)).getD 0

/-- An update is written into a lane's store. -/
def writeUpdate (l : LaneId) (u : ChanUpdate) (s : State) : State :=
  let x := s.lane l
  let r := storeWrite (snapTick s l) (u.lane != l.num) u x.ingest
  applyEffects (some l) r.2 (s.setLane l { x with ingest := r.1 })

/-- The updates whose release tick lies at or before a µs of device time are written, in the order of R116; `n` bounds their number. -/
def releaseUpTo (l : LaneId) (us : Nat) : Nat → State → State
  | 0, s => s
  | n + 1, s =>
    match firstUpdate (s.lane l).ingest.release with
    | none => s
    | some u =>
      if us < u.releaseUs then s
      else releaseUpTo l us n (writeUpdate l u (s.modLane l fun x => { x with ingest := { x.ingest with release := x.ingest.release.erase u } }))

/-! What each engine reads. -/

def cplIn (s : State) (l : LaneId) : CplIn :=
  let x := s.lane l
  { cfg := section_ s l secFusion, table := section_ s l secChannels, oculus := section_ s l secOculus, snap := x.cupola.chans,
    snapNs := x.ingest.snapNs, cycle := s.time.cycle, desel := fun ch => vget x.ingest.deselected ch, pred := q05Read (x.got 5) }

/-- The force and moment of the first horizon step of the committed allocation result, in Spire local memory: R316 says that this is t_cmd, whose x and y
begin each thruster record (R224, R328). -/
def thrustOf (tm block : Bytes) : V3 :=
  let f (k : Nat) : ℚ × ℚ := (q16 block (64 + 64 * k), q16 block (64 + 64 * k + 4))
  let ks := List.range (tmCount tm)
  ⟨sumQ (ks.map fun k => (f k).1), sumQ (ks.map fun k => (f k).2),
    sumQ (ks.map fun k => thX (tmEntry tm k) * (f k).2 - thY (tmEntry tm k) * (f k).1)⟩

/-- The observer's inputs: a cycle without a Q04 transfer has an empty set (Table 2.8). -/
def obsIn (s : State) (l : LaneId) : ObsIn :=
  let x := s.lane l
  let q := q07Read (x.got 7)
  { cfg := section_ s l secObserver, vessel := section_ s l secVessel, cycle := s.time.cycle,
    tauThr := thrustOf (section_ s l secThrusters) x.alloc.block,
    tauWind := if q.windNone then ⟨0, 0, 0⟩ else ⟨-q.ff.x, -q.ff.y, -q.ff.z⟩,
    q04 := if x.fresh 4 then q04Read (x.got 4) else { cycle := s.time.cycle % 2 ^ 32, empty := true } }

/-- The allocation's inputs: a demand of an earlier cycle is held (R65). -/
def allocIn (s : State) (l : LaneId) : AllocIn :=
  let x := s.lane l
  let q := q07Read (x.got 7)
  { tm := section_ s l secThrusters, sec := section_ s l secAlloc, gate := section_ s l secStart, groups := section_ s l secGroups,
    table := section_ s l secChannels, iterLimit := imgIterLimit ((s.laneImg l).getD []), cycle := s.time.cycle, snap := x.ingest.snapshot,
    snapNs := x.ingest.snapNs, q07 := { q with held := q.held || q.cycle != s.time.cycle % 2 ^ 32 } }

/-- The control engine's inputs; what has not come in this cycle is the transfer before, held (Table 2.8). Its thruster set is the one of R305.
The snapshot's values and Cupola's origin reach it beside Q08 and Q09, since no rule names their queue (DESIGN CHOICE, log entry 78). -/
def ctlIn (s : State) (l : LaneId) : CtlIn :=
  let x := s.lane l
  { modes := section_ s l secModes, regions := section_ s l secRegions, gains := section_ s l secGains, table := section_ s l secChannels,
    rollOn := obRoll (section_ s l secObserver), cycle := s.time.cycle, q06 := { q06Read (x.got 6) with held := (q06Read (x.got 6)).held || !x.fresh 6 },
    q08 := q08Read (x.got 8), q08Held := !x.fresh 8 || qHeld (x.got 8), q09 := { q09Read (x.got 9) with held := !x.fresh 9 || qHeld (x.got 9) },
    snap := x.ingest.snapshot, snapNs := x.ingest.snapNs, origin := x.cupola.origin, mask := (formMembers (allocIn s l) x.alloc).member }

/-! Overflow (R280). -/

/-- An overflow of a kind in the program of a PURPOSE: SPR_STATUS.OVF, and SPR_OVF_LAST and SPR_OVF_CYCLE for the first one of a cycle. Array and
instruction index are the program's, which the spec does not give: they are free (log entry 51). -/
def spireOverflow (l : LaneId) (purpose kind : Nat) (s : State) : State :=
  let a := (s.lane l).alloc
  let first := a.ovfLast = 0 ∨ a.ovfCycle ≠ s.time.cycle % 2 ^ 32
  let w := atF 28 4 purpose + atF 20 8 (Config.freeNat s.free) + atF 16 4 kind + Config.freeNat (s.free + 1) % 2 ^ 16
  let s1 := s.modLane l fun x => { x with alloc := { x.alloc with
    ovf := true, ovfLast := if first then w else x.alloc.ovfLast, ovfCycle := if first then s.time.cycle % 2 ^ 32 else x.alloc.ovfCycle } }
  count (some l) 0x0303 purpose 1 (s1.useFree 2)

/-! The STATE frame of the ring (R419): the control-engine state after a slot and the Q07 demand, in a layout of the model (log entry 63). -/

def stateBytes (c : ControlState) (ssn : Nat) : Bytes :=
  leBytes 1 c.mode ++ leBytes 1 c.region ++ leBytes 1 c.cls ++ leBytes 1 c.regime ++ leBytes 2 (c.upRun % 65536) ++ leBytes 2 (c.downRun % 65536)
    ++ leBytes 1 c.leg ++ leBytes 1 (at1 0 c.blendOn + at1 1 c.trackEnd) ++ leBytes 2 (c.blendK % 65536) ++ leBytes 4 (ssn % 2 ^ 32)
    ++ ([c.ref.1, c.ref.2, c.vref.1, c.vref.2, c.refPsi, c.vrefPsi, c.trackPoint.1, c.trackPoint.2, c.course, c.intNE.1, c.intNE.2, c.intYaw,
         c.blendD.x, c.blendD.y, c.blendD.z, c.fWind.x, c.fWind.y, c.fWind.z, c.q07.tau.x, c.q07.tau.y, c.q07.tau.z, c.trackFrom.1, c.trackFrom.2].flatMap fun q => leBytes 8 (toBits64 q))

/-- Value `k` of a STATE payload. -/
def stateVal (b : Bytes) (k : Nat) : ℚ := fl64 b (16 + 8 * k)

/-- The engine's own integrators, reference, track point, blend, region and regime counts give way to the received ones (R419). -/
def stateTake (b : Bytes) (c : ControlState) : ControlState :=
  { c with
    region := u8 b 1, cls := u8 b 2, regime := u8 b 3, upRun := u16 b 4, downRun := u16 b 6, leg := u8 b 8,
    blendOn := bitOf 0 (u8 b 9), trackEnd := bitOf 1 (u8 b 9), blendK := u16 b 10,
    ref := (stateVal b 0, stateVal b 1), vref := (stateVal b 2, stateVal b 3), refPsi := stateVal b 4, vrefPsi := stateVal b 5,
    trackPoint := (stateVal b 6, stateVal b 7), trackFrom := (stateVal b 21, stateVal b 22), course := stateVal b 8, intNE := (stateVal b 9, stateVal b 10), intYaw := stateVal b 11,
    blendD := ⟨stateVal b 12, stateVal b 13, stateVal b 14⟩ }

/-- The demand of a STATE frame. -/
def stateDemand (b : Bytes) : V3 := ⟨stateVal b 18, stateVal b 19, stateVal b 20⟩

/-- What the control engine starts its slot with: in a module not in control, the state received in the cycle before when the module is eligible. -/
def ctlBefore (s : State) (l : LaneId) : ControlState :=
  let c := (s.lane l).control
  match s.arb.stateFrame with
  | some b => if !s.inControl && s.arb.eligible && s.arb.stateAt.any (fun n => n + 1 == s.time.cycle) then stateTake b c else c
  | none => c

/-! The digest (R398, Table 15.2). -/

/-- The active banks of a lane as bytes, island by island in the order of PMU_VIOL_LAST: the spec names the settings and not their bytes
(log entry 62). The tier, which may differ between lanes (R70), is not among them. -/
def bankBytes (gen : Nat) (x : Lane) : Bytes :=
  let c := x.control
  let desel := ((List.range 256).map fun k => b2n (vget x.ingest.deselected k))
  leBytes 4 gen ++ leBytes 1 x.pmu.floor
    ++ desel.map (BitVec.ofNat 8) ++ leBytes 4 (maskOf ((List.range 32).filter fun k => vget x.cupola.refDesel k))
    ++ (match x.cupola.origin with
        | some o => leSigned 8 o.1 ++ leSigned 8 o.2
        | none => [])
    ++ leBytes 2 x.alloc.available ++ leBytes 2 x.alloc.removed ++ leBytes 1 (x.observer.waveSet.getD 255)
    ++ leBytes 1 c.mode ++ leBytes 1 c.region ++ leBytes 1 c.gainSet ++ leQ16 c.posSp.1 ++ leQ16 c.posSp.2 ++ leQ16 c.hdgSp ++ leQ16 c.hdgOff
    ++ leQ16 c.target.1 ++ leQ16 c.target.2 ++ (c.joy.toList.flatMap (leSigned 2)) ++ leQ16 c.trackSpeed
    ++ (c.track.flatMap fun w => leQ16 w.1 ++ leQ16 w.2) ++ (c.patches.flatMap fun p => leBytes 1 p.1 ++ leBytes 1 p.2.1 ++ leBytes 4 p.2.2)

/-- Byte 4 of a digest. -/
def digestByte4 (s : State) (l : LaneId) : Nat := l.num + atF 1 3 (s.laneState l) + atF 4 2 (s.lane l).pmu.tier

/-- UNHEALTHY of a lane's digest (Table 15.3, code 2): three consecutive misses, an uncorrectable error in a control-path region, a stopped or unlocked clock. -/
def laneUnhealthy (x : Lane) : Bool := decide (3 ≤ x.control.missRun) || x.pmu.memUnhealthy || x.pmu.clockRuns.toList.any (!·) || x.pmu.pllLost.toList.any id

/-- The digest of the present cycle. `failed` when the output stage did not complete. -/
def digestNow (s : State) (l : LaneId) (failed : Bool) : Bytes :=
  let x := s.lane l
  let img := (s.laneImg l).getD []
  let held := failed || x.control.q07.held || x.observer.q06.held || x.cupola.q04.empty
  let ovf := decide (x.alloc.ovfLast ≠ 0) && decide (x.alloc.ovfCycle = s.time.cycle % 2 ^ 32)
  let crc (t : List (List Nat)) : Nat := crc32c (transferBytes t)
  digestBytes (s.time.cycle % 2 ^ 32) (digestByte4 s l)
    (at1 0 held + at1 1 (laneUnhealthy x) + at1 2 ovf + at1 3 x.test.fail + at1 4 x.pmu.bridgeLateDigest) x.pmu.violDigest
    (crc (q10Words (tmCount (section_ s l secThrusters)) x.alloc.q10)) (crc (q07Words x.control.q07)) (crc (q06Words x.observer.q06))
    (crc (q04Words x.cupola.q04)) (crc32c (bankBytes (imgGen img) x)) (x.jseq % 2 ^ 32) (imgGen img) x.control.missRun x.test.report

/-- The digest leaves on the Watchtower link; what it reports starts anew. -/
def digestSend (l : LaneId) (failed : Bool) (s : State) : State :=
  if clocked s l 2 then
    let d := digestNow s l failed
    let s1 := if (s.lane l).wtFault then s else bwCount l 18 0 64 1 0 s
    s1.modLane l fun x => { x with
      digestOut := if x.wtFault then none else some d
      pmu := { x.pmu with violDigest := 0, bridgeLateDigest := false, memUnhealthy := false }, test := { x.test with report := 0, fail := false } }
  else s

end Sys2Proof.Machine
end

