-- ==== Sys2Proof/Machine/IngestOps.lean ====
section
/-! DEFINITION. Sensor traffic over the whole state (chapters 1, 4 and 7): frames into updates, the release of updates in both lanes, the analogue inputs. -/

namespace Sys2Proof.Machine

/-- The ingest island of a lane works on an image. -/
def ingestRuns (s : State) (l : LaneId) : Bool := s.laneRuns l && clocked s l 6 && (s.laneImg l).isSome

/-- Time moves on to a device time in ns when that lies in the present cycle. -/
def advanceDevice (ns : Nat) (s : State) : State :=
  if ns / 20000000 = s.time.cycle then advanceTo (ns / 1000 % 20000) s else s

/-- UTC less device time, ns, as Belfry had it at a device time (R154); none while the Sky die is off. -/
def utcOffset (s : State) : Option (Int → Int) := if s.power.skyOn then some s.belfry.utcAt else none

/-- The image whose tables parse a frame whose first byte came at a device time (R87, R107): the one before for bytes before its commit boundary. -/
def parseImage (s : State) (l : LaneId) (startNs : Nat) : Option Bytes :=
  let g := (s.lane l).image
  match g.prev with
  | some o => if startNs < g.boundary * 20000000 then some o else g.active
  | none => g.active

/-- The channels that an entry of a port feeds: under an older table only those that keep their entry (R87). -/
def fedChannels (s : State) (l : LaneId) (img : Bytes) (kind : Nat) (fits : Nat → Bool) (parser : Nat) : List Nat :=
  let chs := channelsFed (imgSection img secChannels) kind fits parser
  match s.laneImg l with
  | some cur => if cur = img then chs else chs.filter (channelKept img cur)
  | none => chs

/-- An update that a lane forms goes to the other lane too (R30, R102). -/
def bridgeUpdates (l : LaneId) (ups : List ChanUpdate) (s : State) : State :=
  if s.bridgeFault || !s.laneRuns l.other then s
  else s.modLane l.other fun x => { x with incoming := x.incoming ++ ups }

/-- A filter island's summary crosses the lane bridge and waits on Q16 of the other lane (R183). -/
def bridgeSummary (l : LaneId) (q : Option (Nat × List InSummary)) (s : State) : State :=
  if s.bridgeFault || !s.laneRuns l.other || q.isNone then s
  else s.modLane l.other fun x => { x with filter := { x.filter with q16 := q } }

/-- The ingest island takes what waits in Q02 or Q03 while its clock runs: the updates, and the latest summary. -/
def ingestTake (l : LaneId) (q : Nat) (s : State) : State :=
  if clocked s l 6 then
    let w := (vget (s.lane l).queued q).waiting
    let ups := w.filterMap (·.upd)
    bridgeSummary l (w.filterMap (·.sums)).getLast? <| bridgeUpdates l ups (s.modLane l fun x => { x with
      queued := vmodN x.queued q Queue.lose, ingest := { x.ingest with release := x.ingest.release ++ ups } })
  else s

/-- Entries of an island go to ingest through its queue (R25): each is taken as it comes while the ingest clock runs, so that no burst fills the queue
(R176). -/
def sendIngest (l : LaneId) (q island : Nat) (es : List QEntry) (s : State) : State := es.foldl (fun t e => ingestTake l q (qPut l q island t e)) s

/-- Channel updates of an island go to ingest; one occupies two entries of Q02 (R176). -/
def sendUpdates (l : LaneId) (q island : Nat) (ups : List ChanUpdate) (s : State) : State :=
  sendIngest l q island (ups.map fun u => { upd := some u, span := if q = 2 then 2 else 1 }) s

/-- One frame as it arrived: its result, capture instant, stamping point, and its place in the datagram. -/
structure Framed where
  result  : FrameResult
  capture : Nat
  stamp   : Nat
  pos     : Nat
  deriving Repr

/-- Take framed frames of a local port into the island and over the bridge. -/
def takeFramed (l : LaneId) (img : Bytes) (kind : Nat) (fits : Nat → Bool) (lport port : Nat) (fs : List Framed) (s : State) : State :=
  fs.foldl (fun t f =>
    let x := t.lane l
    let r := takeFrame (imgSection img secChannels) (imgSection img secParser) (fedChannels t l img kind fits) (utcOffset t) f.capture f.stamp l.num
      lport port f.pos f.result x.ingest
    bridgeUpdates l r.2.1 (applyEffects (some l) r.2.2 (t.setLane l { x with ingest := r.1 }))) s

/-- Frames of a list that were parsed, and that were discarded with a count. -/
def goodFrames (fs : List Framed) : Nat := (fs.filter fun f => match f.result with
  | .good _ _ => true
  | _ => false).length
def droppedFrames (fs : List Framed) : Nat := (fs.filter fun f => f.result == .abort || f.result == .check).length

/-- A byte found its FIFO or buffer full: its frame is lost (R109). -/
def rxOverflow (l : LaneId) (lport : Nat) (s : State) : State :=
  count (some l) 0x0708 lport 1 (bwCount l lport 0 0 0 1 (s.modLane l fun x => { x with ingest := { x.ingest with
    rxOvf := true, ports := vmodN x.ingest.ports lport fun p => { p with ovf := satAdd 0xFFFFFFFF p.ovf 1 } } }))

/-- A frame of a port is discarded before framing ends: FRAME_ABORT. -/
def abortFrame (l : LaneId) (lport : Nat) (s : State) : State :=
  count (some l) 0x0706 lport 1 (bwCount l lport 0 0 0 1 (s.modLane l fun x => { x with ingest := { x.ingest with
    rejectAny := true, ports := vmodN x.ingest.ports lport (portCount .abort) } }))

/-! Serial ports (R107 to R112). -/

/-- Bits of one character of a serial line: start, data, parity and stop bits (Table 4.3). -/
def charBits (line : Bytes) : Nat := 1 + u8 line 1 + (if u8 line 2 = 0 then 0 else 1) + u8 line 3
/-- The line is received (Table 4.3). -/
def lineOn (line : Bytes) : Bool := !line.isEmpty && u8 line 0 != 0xFF

/-- The start-bit edge of byte `n` of bytes that follow each other without a gap, the first at `startNs`. -/
def byteEdge (line : Bytes) (startNs n : Nat) : Nat := startNs + n * charBits line * 1000000000 / u32 line 8
/-- The middle of the last stop bit of byte `n`. -/
def byteDone (line : Bytes) (startNs n : Nat) : Nat := startNs + ((2 * n + 2) * charBits line - 1) * 1000000000 / (2 * u32 line 8)

/-- The frames in the bytes of a serial line. The last byte's stamping point is `endNs`; the bytes between follow the line's rate. -/
def serialFrames (parser : Bytes) (entries : List Nat) (line raw : Bytes) (startNs endNs : Nat) : List Framed :=
  let stampOf (n : Nat) : Nat := if n + 1 = raw.length then endNs else byteDone line startNs n
  let bang := entries.any fun k => peFraming (parserEntry parser k) == 0 && bitOf 1 (u8 (parserEntry parser k) 1)
  let sents := if entries.any fun k => peFraming (parserEntry parser k) == 0 then
      (splitFrames bang 0 raw none []).map fun f =>
        ⟨judgeSentence parser entries f.2.1 f.2.2, byteEdge line startNs f.1, stampOf (f.1 + f.2.1.length - 1), 0⟩
    else []
  let bins := (binaryFrames parser entries (raw.length + 1) 0 raw).map fun f =>
    ⟨f.2.2, byteEdge line startNs f.1, stampOf (f.1 + f.2.1 - 1), 0⟩
  sents ++ bins

/-- The parser entries that the image puts on serial port `port` of 1 to 16. -/
def serialEntries (img : Bytes) (port : Nat) : List Nat := entriesOf (imgSection img secChannels) 0 (· == port)

/-- The characters of a line's bytes: 7 data bits leave the eighth out (R107). -/
def lineChars (line raw : Bytes) : Bytes := if u8 line 1 = 7 then raw.map (· &&& 0x7F#8) else raw

/-- SERIAL_FRAME_COMPLETE (R102, R109, R111, R112): the bytes of a line up to the end of a frame. How full FIFOs and receive buffers are is no state of
the model: the command says with `lost` that a byte found its FIFO full (DESIGN CHOICE, log entry 70). -/
def serialFrame (l : LaneId) (port : Fin 8) (raw : Bytes) (startNs endNs : Nat) (lost : Bool) (s0 : State) : State :=
  let n := 8 * l.num + port.val + 1
  let line := (vget (s0.lane l).ingest.ports port.val).line
  if !ingestRuns s0 l || !lineOn line then s0
  else
    let s := bwCount l port.val raw.length 0 0 0 (advanceDevice endNs s0)
    if lost then rxOverflow l port.val s
    else match parseImage s l startNs with
      | none => s
      | some img =>
        let fs := serialFrames (imgSection img secParser) (serialEntries img n) line (lineChars line raw) startNs endNs
        takeFramed l img 0 (· == n) port.val n fs (bwCount l port.val 0 0 (goodFrames fs) (droppedFrames fs) s)

/-- The frames after the first sync byte of a binary frame that did not go on in time (R112). -/
def gapFrames (img : Bytes) (n : Nat) (line raw : Bytes) (startNs : Nat) : List Framed :=
  (binaryFrames (imgSection img secParser) (serialEntries img n) (raw.length + 1) 1 (raw.drop 1)).map fun f =>
    ⟨f.2.2, byteEdge line startNs f.1, byteDone line startNs (f.1 + f.2.1 - 1), 0⟩

/-- BINARY_GAP_TIMEOUT (R112): the frame under way is discarded; the search resumes at the byte after its first sync byte. -/
def binaryGap (l : LaneId) (port : Fin 8) (raw : Bytes) (startNs : Nat) (s : State) : State :=
  let n := 8 * l.num + port.val + 1
  let line := (vget (s.lane l).ingest.ports port.val).line
  if !ingestRuns s l || !lineOn line then s
  else match parseImage s l startNs with
    | none => s
    | some img =>
      let rest := gapFrames img n line raw startNs
      takeFramed l img 0 (· == n) port.val n rest (bwCount l port.val raw.length 0 (goodFrames rest) (droppedFrames rest) (abortFrame l port.val s))

/-- SERIAL_BREAK (R108): a frame in progress is discarded and counted. -/
def serialBreak (l : LaneId) (port : Fin 8) (inFrame : Bool) (s : State) : State :=
  if ingestRuns s l && lineOn (vget (s.lane l).ingest.ports port.val).line then
    let t := s.modLane l fun x => { x with ingest := { x.ingest with serBreak := x.ingest.serBreak ||| 2 ^ port.val } }
    if inFrame then abortFrame l port.val t else t
  else s

/-- SERIAL_SETTINGS_SWITCH (R107). -/
def serialSwitch (l : LaneId) (port : Fin 8) (s : State) : State :=
  if ingestRuns s l then
    s.modLane l fun x => { x with ingest := { x.ingest with ports := vmodN x.ingest.ports port.val fun p =>
      { p with line := p.pendingLine.getD p.line, pendingLine := none } } }
  else s

/-! Ethernet (R110). -/

/-- The header of an IEC 61162-450 datagram: "UdPbC" and a zero byte. -/
def udpbc : Bytes := [85, 100, 80, 98, 67, 0]

/-- A datagram to a multicast group that the port has joined. -/
def onGroup (e : Bytes) (dst : Source) : Bool :=
  (List.range 7).any fun g => u32 e (20 + 6 * g) != 0 && u32 e (20 + 6 * g) == dst.addr && u16 e (24 + 6 * g) == dst.port

/-- A frame that comes in through an Ethernet port, taken or not, shows its link up (ETH_LINK, Table 4.13). No command of the table tells of a link
otherwise, so nothing lowers the bit while the lane is powered (DESIGN CHOICE, log entry 70). -/
def linkSeen (p : EthPort) (s : State) : State :=
  s.modLane p.lane fun x => { x with bw := vmodN x.bw (8 + p.num.val) fun w => { w with heard := true } }

/-- The one binary frame of a datagram (R110): what is discarded before the first sound frame, and that frame. -/
def firstSound : List FrameResult → List FrameResult
  | [] => []
  | .good k b :: _ => [.good k b]
  | r :: l => r :: firstSound l

/-- The sentences of a payload, each judged, in order; the one after a failed tag block is discarded, which its tag block counts (R110). -/
def sentenceResults (parser : Bytes) (entries : List Nat) (items : List Tagged) : List FrameResult :=
  items.filterMap fun t => match t with
    | .badTag => none
    | .sentence raw complete bad => some (if bad then .ignored else judgeSentence parser entries raw complete)

/-- A datagram to a port's BIN_UDP_PORT holds a binary frame (R110). -/
def ethBinary (img : Bytes) (p : EthPort) (dst : Source) : Bool :=
  let e := ethEntry (imgSection img secChannels) (ethIdx p)
  u16 e 16 != 0 && dst.port == u16 e 16
/-- A sensor datagram that a port takes (R110): the port is on, and the datagram goes to its binary port or to one of its groups. -/
def ethTaken (img : Bytes) (p : EthPort) (dst : Source) : Bool :=
  let e := ethEntry (imgSection img secChannels) (ethIdx p)
  u8 e 0 == 1 && (ethBinary img p dst || onGroup e dst)

/-- The frames of a datagram (R110): one binary frame, or the failures of tag blocks and the sentences in order. -/
def ethFrames (img : Bytes) (p : EthPort) (bin : Bool) (raw : Bytes) (startNs : Nat) (stamps : List Nat) : List Framed :=
  let parser := imgSection img secParser
  let entries := entriesOf (imgSection img secChannels) (if bin then 2 else 1) fun m => bitOf (ethIdx p) m
  let bang := entries.any fun j => bitOf 1 (u8 (parserEntry parser j) 1)
  let items := if bin then [] else splitTagged bang (raw.drop 6) none none false []
  let rs := if bin then firstSound ((binaryFrames parser entries (raw.length + 1) 0 raw).map (·.2.2)) else sentenceResults parser entries items
  (items.filter (· == .badTag)).map (fun _ => (⟨.check, startNs, startNs, 0⟩ : Framed)) ++
    rs.zipIdx.map fun r => (⟨r.1, startNs, stamps.getD r.2 (stamps.getLastD startNs), r.2⟩ : Framed)

/-- ETH_SENSOR_DATAGRAM (R102, R109, R110): captured at `startNs`, its frames stamped at `stamps` in order. -/
def ethDatagram (p : EthPort) (dst : Source) (raw : Bytes) (startNs : Nat) (stamps : List Nat) (lost : Bool) (s0 : State) : State :=
  let l := p.lane
  let k := ethIdx p
  let lport := 8 + p.num.val
  match parseImage s0 l startNs with
  | none => s0
  | some img =>
    let bin := ethBinary img p dst
    if !ingestRuns s0 l then s0
    else if !ethTaken img p dst then linkSeen p s0
    else
      let s := bwCount l lport (ethBytes raw.length) 0 0 0 (advanceDevice (stamps.headD startNs) (linkSeen p s0))
      if lost then rxOverflow l lport s
      else if !bin && raw.take 6 != udpbc then abortFrame l lport s
      else takeFramed l img (if bin then 2 else 1) (fun m => bitOf k m) lport (17 + k) (ethFrames img p bin raw startNs stamps) (bwCount l lport 0 0 1 0 s)

/-! The store (R30, R31, R116). -/

/-- CHANNEL_UPDATE_RELEASE (R116): the first update in the order of R116 whose release tick lies in the present cycle or before it. -/
def releaseUpdate (l : LaneId) (s : State) : State :=
  if !ingestRuns s l then s
  else match firstUpdate (s.lane l).ingest.release with
    | none => s
    | some u =>
      if s.time.cycle < u.releaseUs / 20000 then s
      else
        let t := if u.releaseUs / 20000 = s.time.cycle then advanceTo (u.releaseUs % 20000) s else s
        writeUpdate l u (t.modLane l fun x => { x with ingest := { x.ingest with release := x.ingest.release.erase u } })

/-- An update reaches a lane: it waits for its release tick, or is written at once and counted when that has passed (R30, R31). -/
def takeUpdate (l : LaneId) (u : ChanUpdate) (s : State) : State :=
  if u.releaseUs < s.time.cycle * 20000 + s.time.tick then writeUpdate l u (lateOnBridge l s)
  else s.modLane l fun x => { x with ingest := { x.ingest with release := x.ingest.release ++ [u] } }

/-! Analogue inputs (R169, R174 to R183). -/

/-- A lane's filter island works on an image. -/
def filterRuns (s : State) (l : LaneId) : Bool := s.laneRuns l && clocked s l 4 && (s.laneImg l).isSome

/-- The RES_COS partner of a local input, by the active plane or by the one being installed (R179); an input without one stands for itself with nothing
to read. -/
def cosOf (input : Fin 12) (f : FilterState) : Fin 12 :=
  let sin (p : FiltPlane) : Bool := inMode p.entry == 3
  if (sin f.inputs[input].plane || (f.inputs[input].next.map sin).getD false) = true ∧ input.val < 11 then ⟨(input.val + 1) % 12, by omega⟩ else input

/-- The saturations of the chain of an input that this output showed are events of it (R171, Table 20.4). -/
def satEvents (l : LaneId) (input : Fin 12) (now : Bool) (s : State) : State := if now then count (some l) 0x0502 input.val 1 s else s

/-- The output of a local input at grid point `g`: it is formed, detected, and published when it is due and the input unfaulted. -/
def outputWork (l : LaneId) (input : Fin 12) (g : Nat) (new newB : List (Nat × List Bool)) (s : State) : State :=
  let f := (s.lane l).filter
  let j := cosOf input f
  let ns := s.time.cycle * 20000000 + g * 40000
  let r := filterOutput f.excPhase (500 * s.time.cycle + g) new (if j = input then [] else newB) { f.inputs[input] with sat := false } { f.inputs[j] with sat := false }
  let back (k : Fin 12) (i : FiltInput) : FiltInput := { i with sat := i.sat || f.inputs[k].sat }
  let ins := (if j = input then f.inputs else f.inputs.set j (back j r.partner)).set input (back input r.input)
  let s1 := (satEvents l j (r.partner.sat && j != input) (satEvents l input r.input.sat s)).modLane l fun x => { x with filter := { x.filter with inputs := ins } }
  if isOutputPoint f.inputs[input] g && isPublished f.inputs[input] g && !inFault (s1.lane l).filter input.val then
    sendUpdates l 2 4 (outputUpdates (section_ s l secChannels) (section_ s l secFilter) l (12 * l.num + input.val + 1) ns r.value) s1
  else s1

/-- Grid point `g` is an output instant of the active plane of an input, or while the input feeds no channel, of the plane being installed (R174, R179).
An input without any configuration passes its samples through stages 0 to 2 at every grid point unless it is OFF, and ends there, having no prototype
(R170; DEDUCED, log entry 79); a RES_COS input does so with its partner. -/
def outputDue (i : FiltInput) (g : Nat) : Bool :=
  if !i.plane.conf.isEmpty then isOutputPoint i g
  else match i.next.filter fun p => !p.conf.isEmpty with
    | some p => isOutputPoint { i with plane := p } g
    | none => inMode i.plane.entry != 0 && inMode i.plane.entry != 4

/-- FILTER_OUTPUT at grid point `g` (R174), at tick 40 g, once in a cycle. -/
def filterOut (l : LaneId) (input : Fin 12) (g : Nat) (new newB : List (Nat × List Bool)) (s : State) : State :=
  if filterRuns s l && outputDue (s.lane l).filter.inputs[input] g && decide (g < 500) then
    atTick (laneCodeOf (5000 + 512 * input.val + g) l) (40 * g) (outputWork l input g new newB) s
  else s

/-- The summaries of a lane's inputs with their detector channels (R181 to R183): stamped at tick 0, by tick 20. -/
def filterSummary (l : LaneId) (s : State) : State :=
  if !filterRuns s l || 20 < s.time.tick then s
  else atTick (laneCodeOf 65 l) s.time.tick (fun t =>
    let x := t.lane l
    let ns := t.time.cycle * 20000000
    let ins := x.filter.inputs.map summarise
    let ups := (List.range 12).flatMap fun k =>
      detectorUpdates (section_ t l secChannels) (section_ t l secFilter) l (12 * l.num + k + 1) ns (vget ins k).sum
    let t1 := t.modLane l fun y => { y with
      filter := { y.filter with inputs := ins, localCycle := t.time.cycle } }
    sendIngest l 2 4 [{ sums := some (t.time.cycle, ins.toList.map (·.sum)), span := 24 }] (sendUpdates l 2 4 ups t1)) s

/-- SUMMARY_FORWARD (R183): the queue forwarder writes the other lane's summary to the filter island on Q11. -/
def summaryForward (l : LaneId) (s : State) : State :=
  if s.laneRuns l && clocked s l 0 then
    s.modLane l fun x => match x.filter.q16 with
      | some q => { x with filter := { x.filter with remote := some q, q16 := none } }
      | none => x
  else s

/-- INPUT_FAULT_RAISE and INPUT_FAULT_CLEAR: a new fault is an event of the input (R169, Table 20.4). -/
def inputFault (l : LaneId) (input : Fin 12) (kind : Fin 4) (on : Bool) (s : State) : State :=
  if !filterRuns s l then s
  else
    let x := s.lane l
    let f := faultInput input.val kind.val on x.filter
    let was (g : FilterState) (k : Nat) : Bool := (vget g.inputs k).faults.any id
    let fresh := (List.range 12).filter fun k => was f k && !was x.filter k
    fresh.foldl (fun t k => count (some l) 0x0501 k 1 t) (s.setLane l { x with filter := f })

end Sys2Proof.Machine
end

