-- ==== Sys2Proof/Machine/SessionOps.lean ====
section
/-! DEFINITION. Packets as they arrive, sessions, the token, the notification commands (R432 to R443, R454). -/

namespace Sys2Proof.Machine

/-! Arrival. -/

/-- The channel of a source and station. -/
def channelOf (src : Source) (station : Nat) (s : State) : Option (Fin 4) :=
  ([0, 1, 2, 3] : List (Fin 4)).find? fun c => match s.host.chans[c].session with
    | some x => x.src == src && x.station == station
    | none => false

/-- A reply that belongs to no channel: SEQ and TAG copied (R436, R438). -/
def looseReply (pkt : Packet) (status : Nat) (s : State) : State :=
  replyOut pkt (replyBytes pkt (outFlags false s.sel s.moduleNo false) status s.host.token.epoch s.time.cycle []) s

/-- A discarded packet counts against the channel of its source (R436). -/
def countDiscard (src : Source) (s : State) : State :=
  s.modHost fun h => { h with chans := h.chans.map fun c =>
    if (c.session.map Session.src) = some src then { c with discards := (c.discards + 1) % 2 ^ 32 } else c }

/-- The reply that a SESSION_OPEN identical to the one that opened the station's session gets again (R437). -/
def openAgain (pkt : Packet) (c : Channel) : Option Bytes :=
  match c.session with
  | some x => if x.station = pkt.station ∧ x.openRaw = pkt.raw ∧ x.anyCmd = false then (c.cache.find? (·.seq == 0)).map fun r => withReplay r.raw else none
  | none => none

/-- A sound packet on a host channel of the serving lane (R436 to R440). -/
def takeUdp (pkt : Packet) (s : State) : State :=
  if u8 pkt.raw 2 ≠ 1 then looseReply pkt ST_VERSION s
  else if pkt.opcode = 0x0101 then
    match s.host.chans.toList.findSome? (openAgain pkt) with
    | some raw => replyOut pkt raw s
    | none => s.modHost fun h => { h with opens := h.opens ++ [pkt] }
  else match channelOf pkt.src pkt.station s with
    | none => looseReply pkt NO_SESSION s
    | some c =>
      let ch := s.host.chans[c]
      let r := channelTake pkt s.time.us ch
      let s1 := s.modHost fun h => { h with chans := vmod h.chans c fun _ => r.2 }
      let s2 := if r.2.flowDrop = ch.flowDrop then s1 else count (some s.sel) 0x0105 c.val 1 s1
      match r.1 with
      | some raw => replyOut pkt raw s2
      | none => s2

/-- PACKET_RECEIVE: `sound` says that the datagram is no fragment and that its UDP checksum is zero or holds (R432). -/
def packetReceive (p : EthPort) (src : Source) (sound : Bool) (raw : Bytes) (s : State) : State :=
  if !s.islandRuns p.lane 6 || s.power.pfail then s
  else
    let ok := sound && packetSound raw
    let s1 := bwCount p.lane (8 + p.num.val) (ethBytes raw.length) 0 1 (b2n !ok) s
    if !ok then countDiscard src s1
    else match s1.server with
      | none => s1
      | some l =>
        if p.lane ≠ l ∧ s1.bridgeFault = true then s1
        else takeUdp ⟨raw, src, some p, s.time.cycle, s.time.tick⟩ s1

/-- The service port has a command in progress (R434). -/
def svcBusy (s : State) : Bool := !s.host.svc.buf.isEmpty || s.host.svc.inFlight.isSome

/-- SVC_WRITE: one packet; with a command in progress it lies outside the window of one and is dropped (R434, log entry 60). -/
def svcWrite (raw : Bytes) (s : State) : State :=
  let pkt : Packet := ⟨raw, ⟨0, 0⟩, none, s.time.cycle, s.time.tick⟩
  let svc := s.host.svc
  if s.power.booted = false ∨ s.power.pfail = true then s
  else if packetSound raw = false then s.modHost fun h => { h with svc := { svc with discards := (svc.discards + 1) % 2 ^ 32 } }
  else if u8 raw 2 ≠ 1 then looseReply pkt ST_VERSION s
  else if svcBusy s then s.modHost fun h => { h with svc := { svc with flowDrop := (svc.flowDrop + 1) % 2 ^ 32 } }
  else if pkt.opcode = 0x0101 then
    match openAgain pkt svc with
    | some r => replyOut pkt r s
    | none => s.modHost fun h => { h with svc := { svc with buf := [pkt] } }
  else if (svc.session.map Session.station) = some pkt.station then
    if (svc.cache.any (·.seq == pkt.seq)) = false ∧ pkt.seq ≠ svc.base then
      s.modHost fun h => { h with svc := { svc with flowDrop := (svc.flowDrop + 1) % 2 ^ 32 } }
    else
      let r := channelTake pkt s.time.us svc
      let s1 := s.modHost fun h => { h with svc := r.2 }
      match r.1 with
      | some x => replyOut pkt x s1
      | none => s1
  else looseReply pkt NO_SESSION s

/-- SVC_READ: the ready reply with its length, or a length of 0 (R434). The reply is read once (log entry 60). -/
def svcRead (s : State) : State :=
  match s.host.svcReply with
  | some r => (s.emit (.spi (leBytes 2 r.length ++ r))).modHost fun h => { h with svcReply := none }
  | none => s.emit (.spi [0, 0])

def svcStatus (s : State) : State := s.emit (.spi [BitVec.ofNat 8 (at1 0 s.host.svcReply.isSome + at1 1 (svcBusy s))])

/-! Sessions. -/

/-- The checks of SESSION_OPEN (R437, Tables 16.7 and 17.2). -/
def openRefusal (svc : Bool) (pkt : Packet) (s : State) : Option Nat :=
  let d := pkt.params
  let own (c : Channel) : Bool := (c.session.map Session.station) == some pkt.station
  let engOther := (s.host.chans.toList.any fun c => isEng c && !(own c && !svc)) || (isEng s.host.svc && !svc)
  if d.length ≠ 8 then some ST_LENGTH
  else if pkt.vu && later32 (s.time.cycle % 2 ^ 32) pkt.validUntil then some EXPIRED
  else if (u16 d 0 ≠ 0 ∧ (u16 d 0 < 500 ∨ 60000 < u16 d 0)) ∨ 32 ≤ u16 d 2 ∨ 1 < u8 d 4 ∨ allZero d 5 3 = false then some RANGE
  else if u8 d 4 = 1 ∧ commissionOn s = false then some 0x0234
  else if u8 d 4 = 1 ∧ engOther = true then some STATE
  else if !svc && s.host.chans.toList.all (fun c => c.session.isSome && !own c) then some SESSION_LIMIT
  else none

def sessionOf (pkt : Packet) (us : Nat) : Session :=
  let d := pkt.params
  { src := pkt.src, port := pkt.port.getD ⟨.A, 0⟩, station := pkt.station, timeoutMs := if u16 d 0 = 0 then 2000 else u16 d 0,
    mask := u16 d 2 ||| 1, eng := u8 d 4 == 1, lastUs := us, openRaw := pkt.raw, anyCmd := false }

/-- The 16 bytes of a SESSION_OPEN reply (Table 17.2); the JSN is that of the entry this command writes, the last one (log entry 61). -/
def openReply (chan jsn : Nat) (s : State) : Bytes :=
  leBytes 1 chan ++ leBytes 1 s.moduleNo ++ [0, 0] ++ leBytes 4 s.keep.powerCycle ++ leBytes 2 s.host.token.holder ++ leBytes 2 s.host.token.epoch ++ leBytes 4 jsn

/-- The station's older session closes first, then the lowest free channel is bound (R437). -/
def openOn (pkt : Packet) (s : State) : State :=
  let s1 := ([0, 1, 2, 3] : List (Fin 4)).foldl (fun t c =>
    if (t.host.chans[c].session.map Session.station) = some pkt.station then closeChannel c t else t) s
  match ([0, 1, 2, 3] : List (Fin 4)).find? fun c => s1.host.chans[c].session.isNone with
  | none => s1
  | some c =>
    let s2 := s1.modHost fun h => h.syncToken s.time.us
    let s3 := s2.modHost fun h => HostState.syncToken s.time.us { h with chans := vmod h.chans c fun _ => { session := some (sessionOf pkt s.time.us) } }
    let jsn := (s.host.jsn + 1) % 2 ^ 32
    let rep := openReply c.val jsn s3
    let r := newEntry (.chan c) pkt 3 true false DONE none rep s3
    replyWhenDue (.chan c) ⟨pkt, .session, jsn, 0, DONE, rep, none, mirrorWaited s, false, false, true, false, s.time.us⟩ (count (some s.sel) 0x0103 c.val 1 r.1)

/-- A refused SESSION_OPEN has no channel: its reply waits for the mirror in a place of its own. -/
def refuseOpen (pkt : Packet) (status : Nat) (s : State) : State :=
  let s1 := (newEntry (.chan 0) pkt 2 true false status none [] (count (some s.sel) 0x0104 0 1 s)).1
  if mirrorWaited s then s1.modHost fun h => { h with openWait := h.openWait ++ [⟨pkt, .refusal, s1.host.jsn, 0, status, [], none, true, false, false, true, false, s.time.us⟩] }
  else looseReply pkt status s1

/-- SESSION_OPEN of the oldest waiting source, after the channels of its round (R440, R447). -/
def serveOpen (s : State) : State :=
  match s.host.opens with
  | [] => s
  | pkt :: rest =>
    if servesNow s && s.host.openTurn s.time.cycle s.time.tick && decide (s.host.bytes + heldSize pkt ≤ 163840) then
      let s1 := s.modHost fun h => { h with opens := rest }
      match s1.host.chans.toList.findSome? (openAgain pkt) with
      | some raw => replyOut pkt raw s1
      | none =>
        match openRefusal false pkt s1 with
        | some st => refuseOpen pkt st s1
        | none => openOn pkt s1
    else s

/-- SESSION_OPEN on the service port: its own session, outside the four channels. -/
def serveSvcOpen (s : State) : State :=
  match s.host.svc.buf.find? (·.opcode == 0x0101) with
  | none => s
  | some pkt =>
    if s.power.pfail then s
    else match openRefusal true pkt s with
      | some st => looseReply pkt st (s.modHost fun h => { h with svc := { h.svc with buf := [] } })
      | none =>
        answerOpen .svc pkt DONE (openReply 0xFF s.host.jsn s) (s.modHost fun h => { h with svc := { session := some (sessionOf pkt s.time.us) } })

def chkClose (_ : Packet) (_ : State) : Verdict := .read [] id

/-- A channel without a valid packet for its session timeout closes (R438). -/
def sessionTimeout (p : HostPort) (s : State) : State :=
  match (s.host.port p).session with
  | none => s
  | some x =>
    if x.lastUs + 1000 * x.timeoutMs ≤ s.time.us then
      match p with
      | .chan c => closeChannel c s
      | .svc => s.modHost fun h => { h with svc := {} }
    else s

/-! Token. -/

/-- The token goes to a station, or to none: EPOCH increases and every channel is told (R442). -/
def setToken (holder cause : Nat) (tag : Option (Nat × Nat)) (s : State) : State :=
  let s1 := s.modHost fun h => HostState.syncToken s.time.us { h with token := { holder := holder, epoch := nextEpoch h.token.epoch, lostUs := none } }
  noteAll (some s.sel) 0xF013 tag (leBytes 2 holder ++ leBytes 2 s1.host.token.epoch ++ leBytes 1 cause ++ [0, 0, 0]) s1

def tokenReply (s : State) : Bytes := leBytes 2 s.host.token.holder ++ leBytes 2 s.host.token.epoch

/-- A request that R443 decides before another: earlier arrival tick, then lower STATION. -/
def askedBefore (a b : Packet) : Bool :=
  let x := a.cycle * 20000 + a.tick
  let y := b.cycle * 20000 + b.tick
  decide (x < y) || (x == y && decide (a.station < b.station))

/-- Another channel's TOKEN_REQUEST stands at its turn and is decided first. -/
def otherAsksFirst (pkt : Packet) (s : State) : Bool :=
  s.host.chans.toList.any fun c => match c.head with
    | some q => q.opcode == 0x0103 && askedBefore q pkt && q.raw != pkt.raw
    | none => false

def chkTokenRequest (p : HostPort) (pkt : Packet) (s : State) : Verdict :=
  if !(s.host.port p).tokenReady || otherAsksFirst pkt s then .wait
  else if s.host.token.holder = 0 then .token (setToken pkt.station 0 (some (portNum p, pkt.tag))) tokenReply
  else if s.host.token.holder = pkt.station then .token id tokenReply
  else .refuseAnd TOKEN_HELD (noteAll (some s.sel) TOKEN_ASKED none (leBytes 2 pkt.station ++ [0, 0]))

def chkTokenRelease (p : HostPort) (pkt : Packet) (s : State) : Verdict :=
  let dst := u16 pkt.params 0
  let tag := some (portNum p, pkt.tag)
  if dst ≠ 0 ∧ s.host.hasSession dst = true then .token (setToken dst 2 tag) tokenReply else .token (setToken 0 1 tag) tokenReply

/-- The hold of R443 ends with tick a + 1, a being the arrival tick of the request at the channel's head. -/
def tokenHoldEnd (c : Fin 4) (s : State) : State :=
  match s.host.chans[c].head with
  | some pkt =>
    if pkt.opcode = 0x0103 ∧ pkt.cycle * 20000 + pkt.tick + 2 ≤ s.time.cycle * 20000 + s.time.tick then
      s.modHost fun h => { h with chans := vmod h.chans c fun x => { x with tokenReady := true } }
    else s
  | none => s

/-- The packet that a TOKEN entry without a command carries: all zero. -/
def noPacket (s : State) : Packet := ⟨[], ⟨0, 0⟩, none, s.time.cycle, s.time.tick⟩

/-- The token is freed 10 s after its holder's last session with the module in control (R442): a TOKEN entry with its own SSN. -/
def tokenSessionLoss (s0 : State) : State :=
  let s := s0.modHost fun h => h.syncToken s0.time.us
  match s.host.token.lostUs with
  | some t =>
    if t + 10000000 ≤ s.time.us ∧ s.inControl = true ∧ s.server.isSome = true then
      let s1 := setToken 0 3 none s
      (newEntry (.chan 0) (noPacket s) 4 true true DONE none (tokenReply s1) s1).1
    else s
  | none => s

/-! Notifications. -/

def chkKeepalive (p : HostPort) (pkt : Packet) (s : State) : Verdict :=
  let n := u32 pkt.params 0
  let c := s.host.port p
  if n ≠ 0 ∧ later32 n (c.nextNote - 1) = true then rangeBad
  else .read (leBytes 4 c.nextNote) fun t => if n = 0 then t else t.modHost fun h => h.modPort p (channelAck n)

/-- A held notification leaves again with REPLAY set (R454). -/
def resendNote (c : Fin 4) (n : HeldNote) (s : State) : State :=
  match s.host.chans[c].session with
  | none => s
  | some x =>
    sendDatagram x.port x.src (packetBytes (outFlags true s.sel s.moduleNo true) n.code n.tag n.num 0 x.station n.epoch (n.cycle % 2 ^ 32) n.payload)
      (count (some s.sel) 0x0106 c.val 1 s)

def chkNotifyResend (p : HostPort) (pkt : Packet) (s : State) : Verdict :=
  let n := u32 pkt.params 0
  let c := s.host.port p
  if n ≠ c.nextNote ∧ (c.notes.any fun h => h.num == n) = false then rangeBad
  else
    let again := c.notes.filter fun h => h.num == n || later32 h.num n
    match p with
    | .chan k => .read (leBytes 4 again.length) fun t => again.foldl (fun t h => resendNote k h t) t
    | .svc => .read (leBytes 4 again.length) id

def chkChannelStatus (p : HostPort) (_ : Packet) (s : State) : Verdict :=
  let c := s.host.port p
  .read (leBytes 4 c.base ++ leBytes 4 c.nextNote ++ leBytes 4 ((c.notes.head?.map HeldNote.num).getD c.nextNote) ++ leBytes 4 c.flowDrop ++
    leBytes 4 c.seqConflict ++ leBytes 4 c.dup ++ leBytes 4 c.discards ++ zeroBytes 4) id

/-! Journal. -/

/-- 8 µs have passed since the JOURNAL frame left, or no other module runs (R460). -/
def holdElapsed (p : HostPort) (s : State) : State :=
  match (s.host.port p).inFlight with
  | some f =>
    if f.waitHold && (decide (f.sentUs + 8 ≤ s.time.us) || !othersRun s) then replyWhenDue p { f with waitHold := false } s else s
  | none => s

/-- The Watchtower's answer reaches the lane: the entry is DONE in both journals and the reply is sent (R449). -/
def wtResult (p : HostPort) (s : State) : State :=
  match (s.host.port p).inFlight with
  | some f =>
    if f.forwarded && f.result then
      let s1 := match entryAt f.jsn s with
        | some e => putBoth { e with done := true, status := f.status, reply := f.reply.take 256 } s
        | none => s
      replyWhenDue p f s1
    else s
  | none => s

end Sys2Proof.Machine
end

