-- ==== Sys2Proof/Machine/BridgeOps.lean ====
section
/-! DEFINITION. The links between the dies (R30, R31, R33, R34, R89): what passes over the lane bridge and in which order, its failure, and that of the Sky and Watchtower links. -/

namespace Sys2Proof.Machine

/-- BRIDGE_UPDATE_ARRIVE (R30, R31): an update that arrives after its release tick is written at once. -/
def bridgeArrive (l : LaneId) (s : State) : State :=
  match (s.lane l).incoming with
  | [] => s
  | u :: rest =>
    let t := s.modLane l fun x => { x with incoming := rest }
    if !ingestRuns t l then t else takeUpdate l u t

/-! The lane bridge (R33, R34). -/

/-- The lane bridge has failed: nothing more passes, the lane in STANDBY or SYNCING meets code 7, and no mirror is awaited (R33, R446, Table 15.3). -/
def bridgeFails (s : State) : State :=
  let quiet (x : Lane) : Lane := { x with incoming := [], bridgeTry := 0 }
  let fault (l : LaneId) (a : ArbState) : ArbState := laneFault s.time.cycle s.time.tick l 7 a
  releaseMirrors acts ((((s.setBridge true).modLane .A quiet).modLane .B quiet).modArb fun a => fault .B (fault .A a))

/-- The updates on their way to a lane arrive; they pass before any other frame that waits (R34). -/
def updatesFirst (l : LaneId) (s : State) : State := (s.lane l).incoming.foldl (fun t _ => bridgeArrive l t) s

/-- The command of a channel that waits for its mirror. -/
def mirrorOf (s : State) (c : Fin 4) : Option InFlight := s.host.chans[c].inFlight.filter (·.waitMirror)

/-- The journal mirror that the bridge carries next: mirrors pass in the order of their entries (R34). -/
def firstMirror (s : State) : Option (Fin 4 × InFlight) :=
  ([0, 1, 2, 3] : List (Fin 4)).findSome? fun c => match mirrorOf s c with
    | some f => if ([0, 1, 2, 3] : List (Fin 4)).all fun d => ((mirrorOf s d).map fun g => !later32 f.jsn g.jsn).getD true then some (c, f) else none
    | none => none

/-- The image bytes of an IMAGE_DATA have come in staged-store frames and pass against the CRC-32C of its entry (R89). -/
def stagedSound (s : State) (f : InFlight) : Bool :=
  let rx := (s.lane s.sel.other).image.rx
  rx.length == f.pkt.params.length - 4 && crc32c rx == crc32c (f.pkt.params.drop 4)

/-- The other lane begins anew with staged-store frames; `tries` of the present ones have failed. -/
def stagedAgain (tries : Nat) (s : State) : State :=
  s.modLane s.sel.other fun x => { x with image := { x.image with rx := [], rxTry := tries } }

/-- A staged-store frame reaches the other lane (R89): bytes that fail the check are sent again, and a second failure faults the bridge. -/
def stagedFrame (frame : Bytes) (f : InFlight) (s0 : State) : State :=
  let s := s0.modLane s0.sel.other fun x => { x with image := { x.image with rx := x.image.rx ++ frame } }
  if (s.lane s.sel.other).image.rx.length < f.pkt.params.length - 4 ∨ stagedSound s f then s
  else if (s.lane s.sel.other).image.rxTry = 0 then stagedAgain 1 s
  else bridgeFails (count none 0x0903 0 1 (stagedAgain 0 s))

/-- The entry whose mirror passes next: of a channel's command, or of the oldest refused SESSION_OPEN (R446), in the order of the entries (R34). -/
def nextMirror (s : State) : Option (Option (Fin 4) × InFlight) :=
  let m := (firstMirror s).map fun x => (some x.1, x.2)
  match s.host.openWait.head? with
  | some g => if m.any fun x => later32 g.jsn x.2.jsn then m else some (none, g)
  | none => m

/-- At most so many mirrors wait. -/
def mirrorsWaiting (s : State) : Nat := 4 + s.host.openWait.length

/-- The mirror of a refused SESSION_OPEN is complete: its reply leaves (R446). -/
def openDone (f : InFlight) (s : State) : State := looseReply f.pkt f.status (s.modHost fun h => { h with openWait := h.openWait.tail })

/-- The mirrors up to an entry, or all, complete, in order; one whose image bytes have not passed their check holds the ones behind it (R34, R89). -/
def mirrorsUpTo (upTo : Option Nat) : Nat → State → State
  | 0, s => s
  | n + 1, s =>
    match nextMirror s with
    | none => s
    | some (c, f) =>
      if upTo.any fun j => later32 f.jsn j then s
      else match c with
        | none => mirrorsUpTo upTo n (openDone f s)
        | some c =>
          if f.pkt.opcode = 0x0602 then if stagedSound s f then mirrorsUpTo upTo n (stagedAgain 0 (mirrorDone acts (.chan c) s)) else s
          else mirrorsUpTo upTo n (mirrorDone acts (.chan c) s)

/-- The lane bridge has acknowledged the last frame of an entry: of a port's command in progress, or of the oldest refused SESSION_OPEN (R446). What waits
for the bridge before it passes first (R34). -/
def mirrorComplete (p : Option HostPort) (s : State) : State :=
  let pass (f : InFlight) : State := mirrorsUpTo (some f.jsn) (mirrorsWaiting s) (updatesFirst s.sel.other s)
  if s.bridgeFault then s
  else match p with
  | some (.chan c) => match mirrorOf s c with
    | some f => pass f
    | none => s
  | some .svc => s
  | none => match s.host.openWait with
    | [] => s
    | f :: _ => pass f

/-- What a frame that passed its check delivers: an update, then a piece of a mirror, in the order of R34. The frames of shadow state and
self-test change nothing before their transfer is whole (SHADOW_TRANSFER). -/
def bridgeDeliver (l : LaneId) (frame : Bytes) (s : State) : State :=
  if !(s.lane l).incoming.isEmpty then bridgeArrive l s
  else if l = s.sel.other then match nextMirror s with
    | some (some _, f) => if f.pkt.opcode = 0x0602 ∧ !stagedSound s f then stagedFrame frame f s else s
    | _ => s
  else s

/-- BRIDGE_FRAME_RECEIVE at lane `l`: a frame that passes its check is acknowledged to its sender, whose try ends, and delivered. -/
def bridgeReceive (l : LaneId) (frame : Bytes) (ok : Bool) (s : State) : State :=
  if s.bridgeFault || !s.laneRuns l || !ok then s
  else bridgeDeliver l frame ((bwCount l 14 frame.length 0 1 0 s).modLane l.other fun x => { x with bridgeTry := 0 })

/-- BRIDGE_ACK_TIMEOUT at the sending lane: one retransmission, then the fault. -/
def bridgeTimeout (l : LaneId) (s : State) : State :=
  if s.bridgeFault || !s.laneRuns l then s
  else if (s.lane l).bridgeTry = 0 then
    count (some l) 0x0901 0xFF 1 (bwCount l 14 0 0 0 1 (s.modLane l fun x => { x with bridgeTry := 1 }))
  else bridgeFails (count none 0x0903 0 1 s)

/-- LINK_FRAME_FAIL: a frame of a lane's Sky or Watchtower link fails its check a first or a second time. -/
def linkFail (l : LaneId) (sky : Bool) (s : State) : State :=
  let x := s.lane l
  if !s.laneRuns l then s
  else
    let port := if sky then 17 else 18
    let dead := if sky then x.skyFault else x.wtFault
    let tries := if sky then x.skyTry else x.wtTry
    if dead then s
    else
      let s1 := bwCount l port 0 0 0 1 s
      if tries = 0 then s1.modLane l fun y => if sky then { y with skyTry := 1 } else { y with wtTry := 1 }
      else
        count (some l) 0x0903 (if sky then 1 else 2) 1 (syncTimeLost (s1.modLane l fun y =>
          if sky then { y with skyTry := 0, skyFault := true } else { y with wtTry := 0, wtFault := true, digestOut := none }))

end Sys2Proof.Machine
end

