-- ==== Sys2Proof/Machine/SwitchOps.lean ====
section
/-! DEFINITION. What the Watchtower does at a boundary (R403, R412, R418): the change of the selected lane with its replay, the change of the module in control, a lane switched off; and the settings of a snapshot (R461). -/

namespace Sys2Proof.Machine

/-! Lanes off. -/

/-- The Watchtower notes which networks of the selected lane are in TEST or FAILED (R329). -/
def holdNets (s : State) : State :=
  if s.laneRuns s.sel then
    s.modArb fun a => { a with
      netHold := (s.lane s.sel).bus.nets.map fun n => if n.state = 4 ∨ n.state = 6 then n.state else 0
      netLoop := (s.lane s.sel).bus.nets.map fun n => n.state == 4 && n.loopback }
  else s

/-- A lane's domains are switched off: everything it held in them is gone (R406, R531). -/
def laneOff (l : LaneId) (s : State) : State :=
  let s0 := if l = s.sel then holdNets s else s
  let s1 := ((s0.modPower fun p => { switchOff (laneDomains l) p with starts := vmodN p.starts l.num fun _ => {} }).setLane l {}).setMem l []
  releaseMirrors acts (s1.modArb fun a => a.modLane l fun x => { x with running := false })

/-- TEST, with its LOOPBACK, and FAILED as the Watchtower holds them are put into a lane's networks (R329, R347). -/
def setHeldNets (a : ArbState) (b : BusState) : BusState :=
  { b with nets := Vector.ofFn fun k => let n := b.nets[k]
                                       if a.netHold[k] = 0 then n else { n with state := a.netHold[k], loopback := a.netLoop[k] } }

/-! Replay (R456, R457). -/

/-- The port of the same number on the new lane. -/
def swapPort (old new : LaneId) (p : EthPort) : EthPort := if p.lane = old then ⟨new, p.num⟩ else p

/-- The check of an opcode that Table 16.5 calls a Read. -/
def readCheck (op : Nat) : Option (Packet → State → Verdict) :=
  match op with
  | 0x0202 => some chkModeStatus
  | 0x0307 => some chkSpRead
  | 0x0405 => some chkRefRead
  | 0x0406 => some chkChannelRead
  | 0x0504 => some chkAllocRead
  | 0x0505 => some chkConseqRead
  | 0x0606 => some chkImageStatus
  | 0x0801 => some chkHealthRead
  | 0x0803 => some chkRegRead
  | 0x0808 => some chkGnssRawRead
  | 0x0809 => some chkTimeRead
  | 0x080B => some chkAlarmList
  | 0x0A02 => some chkCntRead
  | 0x0A04 => some chkBwRead
  | 0x0C03 => some chkGainRead
  | _ => none

/-- The command packet that an entry holds. -/
def entryPacket (e : JournalEntry) : Packet :=
  ⟨packetBytes 0 e.opcode e.tag e.seq 0 e.station e.epoch 0 e.params, e.src, e.port, e.cycle, e.tick⟩

/-- The channel of an entry still has the session of its command. -/
def entrySession (e : JournalEntry) (c : Fin 4) (s : State) : Bool :=
  match s.host.chans[c].session with
  | some x => x.station == e.station && x.src == e.src
  | none => false

/-- The reply of an entry leaves with REPLAY set; the command at BASE is answered by it. -/
def replayReply (c : Fin 4) (e : JournalEntry) (status : Nat) (reply : Bytes) (s : State) : State :=
  let raw := packetBytes (outFlags true s.sel s.moduleNo false) (e.opcode + 0x8000) e.tag e.seq status e.station e.epoch (e.cycle % 2 ^ 32) reply
  let s1 := match e.port with
    | some p => sendDatagram p e.src raw s
    | none => s
  let pkt := entryPacket e
  if entrySession e c s ∧ e.seq = s.host.chans[c].base then
    s1.modHost fun h => { h with chans := vmod h.chans c fun x =>
      let y := channelAnswer pkt raw x
      { y with cache := y.cache.map fun r => if r.seq = e.seq then { r with crc := e.crc } else r } }
  else s1

/-- One entry of the replay span on its channel. -/
def replayEntry (c : Fin 4) (s : State) (e0 : JournalEntry) : State :=
  let e := { e0 with port := e0.port.map (swapPort s.sel.other s.sel) }
  let known := (s.host.chans[c].inFlight.map (·.jsn)) == some e.jsn
  if e.done then
    if known && (s.host.chans[c].inFlight.map (·.result)) == some false then s
    else match e.kind, e.status, readCheck e.opcode with
      | 2, 0, some chk => match chk (entryPacket e) s with
        | .read reply act =>
          let s1 := act s
          replayReply c e DONE reply (putIn s1.sel { e with reply := reply.take 256 } s1)
        | .refuse st d => replayReply c e st d s
        | _ => s
      | _, _, _ => replayReply c e e.status e.reply s
  else
    let f : InFlight := ⟨entryPacket e, .watchtower, e.jsn, e.ssn, DONE, [],
      none, false, false, true, false, true, s.time.us⟩
    if s.host.wtQueue.any fun w => w.pkt.station == e.station && w.pkt.seq == e.seq then setFlight (.chan c) f s
    else forwardIt acts (.chan c) f s

/-- The span of the replay on one channel, in the order of the journal. -/
def replayChannel (declared : Nat) (s : State) (c : Fin 4) : State :=
  let es := ((s.lane s.sel).journal.filter fun e => e.chan == c.val && e.opcode != 0 && decide (declared ≤ e.cycle + 1))
  es.foldl (replayEntry c) s

/-- The notifications of the span leave again (R456). -/
def replayNotes (declared : Nat) (s : State) (c : Fin 4) : State :=
  (s.host.chans[c].notes.filter fun n => decide (declared ≤ n.cycle + 1)).foldl (fun t n => resendNote c n t) s

/-- What a channel keeps when the selected lane changes: its session on the port of the same number, the reorder buffer of a healthy old lane,
and a command whose answer comes later. -/
def passChannel (old new : LaneId) (healthy : Bool) (c : Channel) : Channel :=
  let move (p : Packet) : Packet := { p with port := p.port.map (swapPort old new) }
  { c with
    session := c.session.map fun x => { x with port := swapPort old new x.port }
    buf := if healthy then c.buf.map move else []
    inFlight := (c.inFlight.filter fun f => !f.result && !f.forwarded && !f.waitMirror).map fun f => { f with pkt := move f.pkt }
    tokenReady := false
    heldUntil := if healthy then c.heldUntil else none }

/-- The host side passes to the new lane (R456). -/
def passHost (old new : LaneId) (healthy : Bool) (s : State) : State :=
  let newest := ((s.lane new).journal.getLast?.map (·.jsn)).getD s.host.jsn
  s.modHost fun h =>
    let gone := h.chans.toList.filterMap fun c => match c.inFlight with
      | some f => if f.waitMirror then some f.ssn else none
      | none => none
    { h with
      chans := h.chans.map (passChannel old new healthy)
      opens := if healthy then h.opens.map fun p => { p with port := p.port.map (swapPort old new) } else []
      openWait := []
      sys := h.sys.filter fun e => !gone.contains e.ssn
      jsn := if healthy then h.jsn else newest }

/-- LANE_SWITCHOVER at the boundary of cycle `b` (R403 to R405, R412, R414, R456, R457). -/
def laneSwitch (b : Nat) (s : State) : State :=
  match switchDue s.image b s.arb with
  | none => s
  | some (new, cause, declared, healthy) =>
    let old := s.sel
    let h0 := holdNets s
    let h1 := if healthy then [0, 1, 2, 3].foldl (fun t c => mirrorDone acts (.chan c) t) h0 else h0
    let s1 := passHost old new healthy (h1.modArb (applySwitch b new healthy))
    let s2 := if healthy then s1.modLane old fun x => { x with bus := busSelect [] false x.bus } else laneOff old s1
    let s3 := s2.modLane new fun x => { x with bus := setHeldNets s2.arb (if s2.inControl then busSelect (section_ s2 new secMatrix) true x.bus else x.bus) }
    let s4 := ([0, 1, 2, 3] : List (Fin 4)).foldl (replayChannel declared) s3
    let s5 := ([0, 1, 2, 3] : List (Fin 4)).foldl (replayNotes declared) s4
    let p := leBytes 1 old.num ++ leBytes 1 new.num ++ leBytes 1 cause ++ [0] ++ leBytes 4 (b % 2 ^ 32)
    applyEffects (some new) [.note 0xF015 none p, .keep 6 true p] s5

/-- MODULE_CONTROL_CHANGE at the boundary of cycle `b` (R414, R418, R420). -/
def moduleChange (b : Nat) (s : State) : State :=
  let r := controlChange b s.power.module s.arb
  match r.2 with
  | none => s
  | some (took, old, new) =>
    let blend (x : Lane) : Lane := match s.arb.stateFrame with
      | some f => { x with control := { x.control with out := stateDemand f, blendEvent := true } }
      | none => x
    let s1 := s.modArb fun _ => r.1
    let s2 := if took then s1.modLanes blend else s1
    let s3 := s2.modLane s2.sel fun x => { x with bus := setHeldNets (holdNets s2).arb (busSelect (section_ s2 s2.sel secMatrix) took x.bus) }
    let p := leBytes 1 old ++ leBytes 1 new ++ [0, 0] ++ leBytes 4 (b % 2 ^ 32)
    applyEffects (some s3.sel) [.note 0xF016 none p, .keep 6 true p] s3

/-- The Watchtower acts first at a boundary: what LANE_SWITCHOVER and MODULE_CONTROL_CHANGE have not done yet is done now. -/
def boundaryArbiter (b : Nat) (s : State) : State := moduleChange b (laneSwitch b s)

/-- Something that the Watchtower does at the next boundary comes at the end of the cycle before it; `due` says whether it falls there. -/
def atBoundary (due : Nat → Bool) (k : Nat → State → State) (s : State) : State :=
  if due s.time.cycle then k s.time.cycle s
  else if due (s.time.cycle + 1) then k (s.time.cycle + 1) (advanceTo 19999 s)
  else s

/-! The snapshot of the system settings (R461), in a layout of the model (log entry 64). -/

/-- GNSS_SELECT in force: chains in bits 0 to 3, antennas in bits 4 and 5. -/
def gnssWord (o : OculusState) : Nat :=
  ((List.range 4).map fun k => at1 k (vget o.chains k).desel).sum + at1 4 (vget o.antDesel 0) + at1 5 (vget o.antDesel 1)

/-- The system settings of a lane as bytes; a table of 100 bytes, then waypoints, patches and the start queue. -/
def settingsBytes (gnss : Nat) (x : Lane) : Bytes :=
  let c := x.control
  let desel := (List.range 32).map fun k => BitVec.ofNat 8 ((List.range 8).map fun j => at1 j (vget x.ingest.deselected (8 * k + j))).sum
  leBytes 1 c.mode ++ leBytes 1 x.pmu.floor ++ leBytes 2 x.alloc.available ++ desel ++ leBytes 4 gnss ++ leBytes 4 (maskOf ((List.range 32).filter fun k => vget x.cupola.refDesel k))
    ++ leQ16 c.posSp.1 ++ leQ16 c.posSp.2 ++ leQ16 c.hdgSp ++ leQ16 c.hdgOff ++ leQ16 c.target.1 ++ leQ16 c.target.2
    ++ (c.joy.toList.flatMap (leSigned 2)) ++ leBytes 1 (b2n x.cupola.origin.isSome) ++ leBytes 1 x.alloc.queue.length
    ++ leSigned 8 (x.cupola.origin.getD (0, 0)).1 ++ leSigned 8 (x.cupola.origin.getD (0, 0)).2 ++ leQ16 c.trackSpeed
    ++ leBytes 2 c.track.length ++ leBytes 2 c.patches.length
    ++ (c.track.flatMap fun w => leQ16 w.1 ++ leQ16 w.2) ++ (c.patches.flatMap fun p => leBytes 1 p.1 ++ leBytes 1 p.2.1 ++ leBytes 4 p.2.2)
    ++ (x.alloc.queue.flatMap fun k => leBytes 1 k)

/-- The control engine's settings of a snapshot. -/
def controlTake (mm : Bytes) (cycle : Nat) (b : Bytes) (c0 : ControlState) : ControlState × List Effect :=
  let nt := u16 b 96
  let np := u16 b 98
  let r := if u8 b 0 = c0.mode then (c0, []) else applyMode mm (u8 b 0) 0 cycle c0
  let track := (List.range nt).map fun k => (q16 b (100 + 8 * k), q16 b (104 + 8 * k))
  let c := r.1
  ({ c with
      posSp := (q16 b 44, q16 b 48), hdgSp := q16 b 52, hdgOff := q16 b 56, target := (q16 b 60, q16 b 64)
      joy := #v[s16 b 68, s16 b 70, s16 b 72], joyAt := some cycle, trackSpeed := q16 b 92, track := track
      trackStart := c.trackStart || decide (track ≠ c0.track), leg := if track = c0.track then c.leg else 0
      patches := (List.range np).map fun k => (u8 b (100 + 8 * nt + 6 * k), u8 b (101 + 8 * nt + 6 * k), u32 b (102 + 8 * nt + 6 * k)) }, r.2)

/-- A lane takes the settings of a snapshot in place of its own (R461). -/
def settingsTake (mm : Bytes) (cycle : Nat) (b : Bytes) (x : Lane) : Lane × List Effect :=
  let y := if u8 b 74 = 1 then applyOrigin (s64 b 76) (s64 b 84) x else x
  let r := controlTake mm cycle b y.control
  ({ y with
      ingest := { y.ingest with deselected := Vector.ofFn fun k => bitOf (k.val % 8) (u8 b (4 + k.val / 8)) }
      cupola := { y.cupola with refDesel := Vector.ofFn fun k => bitOf k.val (u32 b 40) }
      pmu := applyFloor y.image.active { y.pmu with floor := u8 b 1 }
      alloc := { y.alloc with
        available := u16 b 2, queue := (List.range (u8 b 75)).map fun k => u8 b (100 + 8 * u16 b 96 + 6 * u16 b 98 + k) }
      control := r.1 }, r.2)

/-- The highest SSN up to which every system entry is held, counted on from `n`. -/
def ssnRun (sys : List SysEntry) (n : Nat) : Nat :=
  sys.foldl (fun k _ => if sys.any fun e => e.ssn == (k + 1) % 2 ^ 32 then (k + 1) % 2 ^ 32 else k) n

/-- In step 5 of R57 a lane adopts a snapshot; entries that it includes are not applied again. -/
def adoptSnapshot (l : LaneId) (s : State) : State :=
  match s.arb.snapIn with
  | none => s
  | some (ssn, _, _, b) =>
    let r := settingsTake (section_ s l secModes) s.time.cycle b (s.lane l)
    let x := r.1
    applyEffects (some l) r.2 (s.setLane l { x with staged := x.staged.filter fun g => g.ssn == 0 || decide (ssn < g.ssn) })

/-- The snapshot is adopted: the token state and the SSN with it. -/
def endSnapshot (s : State) : State :=
  match s.arb.snapIn with
  | none => s
  | some (ssn, holder, epoch, b) =>
    let g := u8 b 36
    let s1 := s.modOculus fun o => { o with
      chains := Vector.ofFn fun k => { o.chains[k] with desel := bitOf k.val g }, antDesel := Vector.ofFn fun k => bitOf (4 + k.val) g }
    (s1.modArb fun a => { a with snapIn := none }).modHost fun h =>
      HostState.syncToken s.time.us { h with ssn := ssnRun h.sys ssn, token := { h.token with holder := holder, epoch := epoch } }

end Sys2Proof.Machine
end

