-- ==== Sys2Proof/Machine/BoundaryOps.lean ====
section
/-! DEFINITION. The cycle boundary: commit and rollback of images, the steps of Table 2.5, what a new cycle and a new long cycle start with. -/

namespace Sys2Proof.Machine

/-! Commit and rollback (R93 to R99). -/

/-- The lanes that take part in an accepted commit (R94): with power, neither OFF nor FAULTED, the command executed in them. The lanes of an
arbiter-only module stay OFF for the control path and still hold the image (R397, R428). -/
def commitLanes (s : State) : List LaneId :=
  ([.A, .B] : List LaneId).filter fun l => s.laneRuns l && (s.power.role == 1 || (s.laneState l != 0 && s.laneState l != 7)) &&
    (match (s.lane l).image.commit with
     | some c => !c.rollback
     | none => false)

/-- The boundary of `cycle` is not before an earliest cycle named in a command; 0 names none (R93, R47). -/
def earliestMet (earliest cycle : Nat) : Bool := decide (earliest = 0) || !later32 earliest (cycle % 2 ^ 32)

/-- The agreed boundary of a multi-module image has come (R95). -/
def agreedMet (s : State) (g : ImgState) (c : CommitReq) : Bool :=
  if imgMulti g.data && decide (1 < redModules (some g.data)) then
    match c.agreed with
    | some b => decide (b ≤ s.time.cycle)
    | none => false
  else true

/-- The boundary of the present cycle commits the staged generation (R93, R94). -/
def commitDue (s : State) : Bool :=
  let ls := commitLanes s
  !ls.isEmpty && s.node.pending == 0 && s.arb.switch.isNone && s.arb.takeback.isNone && s.arb.changedAt != some s.time.cycle && ls.all fun l =>
    let g := (s.lane l).image
    match g.commit with
    | some c => g.staged == 6 && imgReady s.time.cycle (closeTick s) g && earliestMet c.earliest s.time.cycle && agreedMet s g c
    | none => false

/-- A host rollback is due in a lane: its STAGED boundary has come (R98). -/
def rollbackDue (s : State) (l : LaneId) : Bool :=
  (s.lane l).staged.any fun g => decide (g.opcode = 0x0605) && decide (g.boundary ≤ s.time.cycle)

/-- An automatic rollback is due in a lane (R99). -/
def autoDue (s : State) (l : LaneId) : Bool :=
  match (s.lane l).image.rollbackAt with
  | some b => decide (b ≤ s.time.cycle)
  | none => false

/-- A lane's port joins its multicast groups with IGMPv2 reports (R110): those of the new table that the old one did not name. -/
def igmpJoins (l : LaneId) (old : Option Bytes) (new : Bytes) (s : State) : State :=
  let groups (i : Bytes) (k : Nat) : List Nat :=
    let e := ethEntry (imgSection i secChannels) (2 * l.num + k)
    if u8 e 0 = 1 then ((List.range 7).map fun g => u32 e (20 + 6 * g)).filter (· != 0) else []
  ([0, 1] : List (Fin 2)).foldl (fun t k =>
    ((groups new k.val).filter fun g => !((old.map fun o => groups o k.val).getD []).contains g).foldl (fun u g => u.emit (.igmp ⟨l, k⟩ g)) t) s

/-- What waits in the queues at a commit boundary: updates of a channel that does not keep its source wait no longer in Q02 and Q03 (R87), and the last
Q05 and Q06 transfers, which are observer state, go with it (R90, R235). -/
def commitQueues (old : Option Bytes) (new : Bytes) (carry : Bool) (qs : Vector Queue 17) : Vector Queue 17 :=
  Vector.ofFn fun k =>
    if k.val = 2 ∨ k.val = 3 then { qs[k] with waiting := qs[k].waiting.filter fun e => (e.upd.map fun u => channelKeeps old new u.chan).getD true }
    else if (k.val = 5 ∨ k.val = 6) ∧ carry = false then {}
    else qs[k]

/-- A generation comes into force in a lane: what passes to the new image, and what starts anew (R57 step 1, R58, R87, R90). `g` is the
lane's image state after the exchange of its planes. -/
def commitUnits (l : LaneId) (rollback : Bool) (g : ImgState) (s : State) : State :=
  let x := s.lane l
  match g.active with
  | none => s
  | some new =>
    let old := x.image.active
    let carry := match old with
      | some o => imgContinuity o == imgContinuity new
      | none => false
    let tier := (entryTier old.isSome x.pmu.tier (marginMask x.pmu) new).getD x.pmu.tier
    let ctl := controlCommit old new carry s.time.cycle x.control
    let al := alarmCommit old new x.alarms
    let y : Lane := { x with
      image := g, ingest := ingestCommit old new l x.ingest, incoming := x.incoming.filter fun u => channelKeeps old new u.chan, filter := filterCommit new l rollback x.filter, cupola := cupolaCommit old new x.cupola,
      observer := if carry then x.observer else observerInit x.observer, queued := commitQueues old new carry x.queued, alloc := allocCommit new carry x.alloc, control := ctl.1, bus := busCommit ((old.map (imgSection · secMatrix)).getD []) (imgSection new secMatrix) x.bus,
      alarms := al.1, pmu := commitTier new tier x.pmu }
    let s0 := if y.pmu.tier = x.pmu.tier then s else count (some l) 0x0A02 0xFF 1 s
    let s1 := igmpJoins l old new (applyEffects (some l) (ctl.2 ++ al.2) (s0.setLane l { y with counters := (s0.lane l).counters, occurred := (s0.lane l).occurred }))
    let s2 := if y.filter.excMv = x.filter.excMv ∧ y.filter.excPhase = x.filter.excPhase then s1 else s1.emit (.excite l y.filter.excMv y.filter.excPhase)
    if l = s.sel then s2.modLantern (ltnTables (imgSection new secWaveforms) (imgSection new secScreens)) else s2

/-- The IMAGE_COMMITTED notification (Table 17.14). -/
def committedNote (g : ImgState) (rollback : Bool) (tag : Option (Nat × Nat)) : Effect :=
  .note 0xF018 tag (leBytes 4 ((g.active.map imgGen).getD 0) ++ leBytes 4 (g.boundary % 2 ^ 32) ++ leBytes 1 (b2n rollback) ++ [0, 0, 0])

/-- Lane A of a node with an image in force is ACTIVE: it has no LOADING, JOINING or SYNCING (R565). -/
def nodeActive (s : State) : State :=
  if s.isNode && (s.laneImg .A).isSome && s.laneState .A == 2 then
    s.modArb fun a => { a.modLane .A (fun x => { x with state := 6, running := true }) with started := true }
  else s

/-- A commit boundary in one lane. -/
def commitLane (l : LaneId) (s : State) : State :=
  let g0 := (s.lane l).image
  let g := imgSwap s.time.cycle g0
  applyEffects (some l) [imgRecord 0 g, committedNote g false (g0.commit.bind (·.tag))] (commitUnits l false g s)

/-- A rollback boundary in one lane. -/
def rollbackLane (auto : Bool) (l : LaneId) (s : State) : State :=
  let g0 := (s.lane l).image
  if g0.prev.isNone then s
  else
    let g := imgRollback s.time.cycle auto g0
    let s1 := commitUnits l true g s
    let s2 := s1.modLane l fun x => { x with staged := x.staged.filter fun e => e.opcode != 0x0605 }
    applyEffects (some l) [imgRecord 1 g, committedNote g true (g0.commit.bind (·.tag))] s2

/-- Probation fails without rollback (R99). -/
def probationFails (l : LaneId) (s : State) : State :=
  let g := imgProbFail (s.lane l).image
  applyEffects (some l) [imgRecord 3 g] (s.modLane l fun x => { x with image := g })

/-- A lane that takes no part in a commit holds the generation before: it loads, verifies and installs the active one before it runs in shadow again
(R94). -/
def lanesReload (took : List LaneId) (s : State) : State :=
  ([.A, .B] : List LaneId).foldl (fun t l =>
    if !took.contains l && s.power.role == 0 && [3, 4, 5].contains (s.laneState l) then t.modArb fun a => a.modLane l fun x => { x with state := 2, running := false }
    else t) s

/-- Step 1 of R57 over both lanes: answers whether the boundary committed or rolled back (R58). -/
def imageStep (s : State) : State × Bool :=
  let both : List LaneId := [.A, .B]
  if commitDue s then (lanesReload (commitLanes s) ((commitLanes s).foldl (fun t l => commitLane l t) s), true)
  else
    let host := both.filter (rollbackDue s)
    if !host.isEmpty then (host.foldl (fun t l => rollbackLane false l t) s, true)
    else
      let auto := both.filter (autoDue s)
      let forbid := auto.any fun l => rollbackForbidden ((s.lane l).control.mode == 0) (s.lane l).image
      if auto.isEmpty then (s, false)
      else if forbid then (auto.foldl (fun t l => probationFails l t) s, false)
      else (auto.foldl (fun t l => rollbackLane true l t) s, true)

/-- A violation of the cycle before rolls the image back at the boundary after this one, in both lanes (R99). -/
def watchProbation (s : State) : State :=
  let hit := ([.A, .B] : List LaneId).any fun l => (s.lane l).image.violated && (s.lane l).image.state == 1
  s.modLanes fun x => { x with image := { x.image with
    violated := false, rollbackAt := if hit && x.image.state == 1 && x.image.rollbackAt.isNone then some (s.time.cycle + 1) else x.image.rollbackAt } }

/-- A long-cycle boundary of probation; the confirmed image is written into the slot that does not hold the start-up image (R96). -/
def probationLong (s : State) : State :=
  let step (t : State) (l : LaneId) : State :=
    if !t.laneRuns l then t
    else
      let r := imgProbationStep t.time.cycle (t.lane l).image
      let t1 := t.modLane l fun x => { x with image := r.1 }
      if r.2 then
        let t2 := applyEffects (some l) [imgRecord 2 r.1] t1
        if l = t.sel then
          let d := r.1.active.getD []
          t2.modKeep (addUnit (.image (1 - t.keep.flash.startSlot) (imageUnits d.length) d (imgGen d)))
        else t2
      else t1
  ([.A, .B] : List LaneId).foldl step s

/-! Steps 2 to 5 of Table 2.5 in one lane. -/

/-- Host settings apply in a lane that runs its control path, and in the serving lane before any does. -/
def takesSettings (s : State) (l : LaneId) : Bool := pathRuns s l || s.server == some l

/-- Step 2: the margin tier (R71). -/
def tierStep (l : LaneId) (s : State) : State :=
  match (s.lane l).pmu.pendingTier with
  | some (k, c) =>
    if tierDue s.time.cycle (s.lane l).pmu then count (some l) 0x0A02 0xFF 1 (s.modLane l fun x => { x with pmu := takeTier k c x.pmu }) else s
  | none => s

/-- Step 3: thrusters that the safety island removed (R59). -/
def removalStep (l : LaneId) (s : State) : State :=
  s.modLane l fun x => { x with alloc := { x.alloc with removed := x.mask.getD x.alloc.removed } }

/-- Step 4: the region with its gain set and wave set, and the automatic transition (R226, R247, R267). -/
def regionStep (l : LaneId) (s : State) : State :=
  let x := s.lane l
  let rg := section_ s l secRegions
  let r := ctlBoundary (section_ s l secModes) rg s.time.cycle x.control
  let ob := match x.control.regionNext with
    | some k => observerRegion (rgWave rg k) x.observer
    | none => x.observer
  applyEffects (some l) r.2 (s.setLane l { x with control := r.1, observer := ob })

def laneSteps (committed : Bool) (l : LaneId) (s : State) : State :=
  if committed then s
  else
    let s1 := if pathRuns s l then regionStep l (removalStep l (tierStep l s)) else s
    if takesSettings s1 l then applyDue l (adoptSnapshot l s1) else s1

/-- What a new cycle starts with in a lane; on a long-cycle boundary also what a new long cycle starts with. -/
def newCycle (s : State) (l : LaneId) (x : Lane) : Lane :=
  let y : Lane := { x with
    pmu := pmuCycle x.pmu, filter := if clocked s l 4 && x.image.active.isSome then filterBoundary x.filter else x.filter, finished := [], abandoned := [], mask := none, shadow := {},
    bw := x.bw.map bwCycleEnd, bus := busBoundary x.image.active.isSome (decide (50 ≤ (vget s.power.starts l.num).steered) || s.node.locked) x.bus }
  if s.time.cycle % 50 = 0 then
    { y with
      pmu := ageLong { clockLong y.pmu with holdoff := y.pmu.holdoff - 1, violLong := #v[0, 0, 0, 0], bridgeLateLong := 0 },
      test := { y.test with engine := 0, passed := false, again := y.test.redo, redo := [] }, clockUse := 0, longOut := Vector.replicate 9 0,
      alloc := { y.alloc with cq := cqLongCycle (fgCount (section_ s l secGroups)) y.alloc.cq } }
  else y

/-- The cycle count, tick and device time at a boundary (R46). -/
def nextCycle (s : State) : State :=
  s.modTime fun t => { cycle := (t.cycle + 1) % 2 ^ 48, tick := 0, us := t.us + (20000 - t.tick), ran := [] }

/-- The summary of a long cycle that the ACTIVE lane sends to Keep (Tables 18.4 and 18.5). -/
def laneSummary (s : State) (l : LaneId) : KeepSample :=
  let x := s.lane l
  let c := x.control
  let q := x.observer.q06
  let dist := hypot (q.n - c.ref.1) (q.e - c.ref.2)
  let herr := absQ (fwrap180 (q.hdg - c.refPsi))
  let onPos := c.mode == 3 || c.mode == 4 || c.mode == 5
  let onYaw := mmAxis (section_ s l secModes) c.mode 2 == 2
  let use := x.clockUse
  let thr : List (Nat × Nat × Nat) := (List.range 16).map fun k =>
    let e := vget x.alloc.q10.thr k
    (12 + k, thrustBin e.inAlloc (ofThrust e.frac), 1)
  let big (v : Int) : Int := clampI (-(2 ^ 31)) (2 ^ 31 - 1) v
  { bins := [(5, min 20 (floorQ (use * 20)).toNat, 1), (6, x.pmu.tier, 1), (7, c.mode, 1), (8, c.region, 1), (9, x.filter.band, 1)]
      ++ (if onPos then [(10, tenthBin dist, 1)] else []) ++ (if onYaw then [(11, tenthBin herr, 1)] else []) ++ thr
      ++ (List.range 9).map fun k => (28, k, vget x.longOut k)
    exts := [(5, 0, toQ16 (use * 100), 65536)] ++ (if onPos then [(6, 0, toQ16 dist, 6554)] else []) ++ (if onYaw then [(7, 0, toQ16 herr, 6554)] else [])
      ++ (if x.observer.drGap = 0 then [] else [(8, 0, big (x.observer.drGap * 65536), 50 * 65536)])
      ++ (if s.belfry.state = 3 ∨ s.belfry.state = 4 then [(9, 0, big (s.belfry.estErr * 65536), 100 * 65536)] else [])
      ++ (if x.filter.started then [(10, 0, x.filter.seaS, 32768)] else []) }

/-- The summary that Keep holds for the long-cycle boundary (R496). -/
def sendSummary (s : State) : State :=
  if s.phase = 49 then s.modKeep fun k => { k with sample := s.activeLane.map (laneSummary s) } else s

/-- A violation that the evaluation of tick 19,910 did not see raises CERT_VIOLATION by the end of its cycle (R62). -/
def lateViolation (s : State) (l : LaneId) : State :=
  let x := s.lane l
  let e := alarmEntryOf (x.image.active.getD []) 1
  if (s.laneA.pmu.violNow || s.laneB.pmu.violNow) && coreRuns s l 1 && !(alarmOf x.alarms 1).raised then
    let r := alarmEval ((e.map fun k => (k, true)).toList) s.time.cycle x.alarms
    applyEffects (some l) r.2 (s.modLane l fun y => { y with alarms := r.1 })
  else s

/-- CYCLE_BOUNDARY in the order of R57. -/
def cycleBoundary (sa : State) : State :=
  if !sa.power.booted then sa
  else
    let s0 := sendSummary (([.A, .B] : List LaneId).foldl lateViolation sa)
    let s1 := boundaryArbiter (nextCycle s0).time.cycle ((nextCycle s0).setLatched none)
    let f := faultBoundary s1.time.cycle s1.arb
    let s2 := f.2.foldl (fun t l => laneOff l t) (s1.modArb fun _ => f.1)
    let s3 := s2.modHost fun h => { h with bytes := 0, cmds := 0, engBoundaries := h.engBoundaries.filter fun b => decide (s2.time.cycle ≤ b) }
    let i := imageStep s3
    let s4 := ([.A, .B] : List LaneId).foldl (fun t l => if t.laneRuns l then laneSteps i.2 l t else t) (syncPending (nodeActive i.1))
    let s5 := watchProbation (if i.2 then s4 else endSnapshot s4)
    let s6 := if s5.phase = 0 then (probationLong s5).modArb fun a => { a with longMatch := 0, longMismatch := 0 } else s5
    let s7 := ([.A, .B] : List LaneId).foldl (fun t l => if t.laneRuns l then t.modLane l (newCycle t l) else t) s6
    let s8 := syncTimeLost (if s7.power.skyOn then
        (s7.modBelfry (belfryCycle (section_ s7 s7.sel secTime) s7.time.cycle)).modPower fun p => { p with origin := p.origin || s7.belfry.originSet }
      else s7)
    if s8.isNode then s8.modNode nodeBoundary else s8

end Sys2Proof.Machine
end

