-- ==== Sys2Proof/Machine/CycleOps.lean ====
section
/-! DEFINITION. The events of the control cycle: images under way, the slots of the control path, the sequencer's end ticks, the clocks, the alarms. -/

namespace Sys2Proof.Machine

/-! Images (R92 to R97). -/

/-- A commit that has not reached its boundary within 250 cycles of acceptance (R94). -/
def abandonLane (s : State) (l : LaneId) : State :=
  let g := (s.lane l).image
  match g.commit with
  | some c =>
    if !c.rollback && decide (c.accepted + 250 ≤ s.time.cycle) then
      syncPending (applyEffects (some l) [.note 0xF019 c.tag (leBytes 4 g.gen ++ [0, 0, 0, 0])] (s.modLane l fun x => { x with image := imgAbandon x.image }))
    else s
  | none => s

/-- The end of verification in one lane (R81, R92). -/
def verifyLane (eng : Bool) (s : State) (l : LaneId) : State :=
  if s.laneRuns l then s.modLane l fun x => { x with image := imgVerifyDone (verIn s l eng) x.image } else s

/-- Both lanes have verified; the serving lane sends IMAGE_VERIFIED (R92). -/
def verifyDone (s : State) : State :=
  let was := s.my.image.staged = 2
  let tag := s.my.image.verTag
  let s1 := ([.A, .B] : List LaneId).foldl (verifyLane (anyEng s)) s
  if was then
    applyEffects (some s.sel) [.note 0xF017 tag (imgVerifiedPayload s1.my.pmu.marginTiers (laneResult s1 .A) (laneResult s1 .B) s1.my.image)] s1
  else s1

/-- An image slot of the Keep flash (R96). -/
def flashImage (s : State) (slot : Nat) : Option Bytes := if slot = 0 then s.keep.flash.image0 else s.keep.flash.image1

/-- Lantern starts on the table of the start-up image, with the book of the flash (R509, R514). -/
def lanternStart (i : Bytes) (s : State) : State :=
  if s.lantern.st = 0 ∨ s.lantern.st = 4 then
    s.modLantern fun x => ltnLoadBook s.keep.flash.lantern (ltnTables (imgSection i secWaveforms) (imgSection i secScreens) x)
  else s

/-- Step 7 of Table 21.3 in a lane: the start-up image is verified and installed, the other slot's image goes into the inactive planes when it
verifies (R97). RESULT is the code of the last of these verifications (Table 3.15). -/
def startInstall (l : LaneId) (s : State) : State :=
  match flashImage s s.keep.flash.startSlot with
  | none => s
  | some i =>
    let r := verifyWhole s l i
    if r.code = 0 then
      let slot := flashImage s (1 - s.keep.flash.startSlot)
      let other := slot.filter (verifies s l)
      commitUnits l false { (s.lane l).image with
        active := some i, state := 2, prev := other, prevHeld := other.isSome
        lastCode := (slot.map fun j => (verifyWhole s l j).code).getD 0 } (lanternStart i s)
    else s.modLane l fun x => { x with image := { x.image with lastCode := r.code } }

/-- A lane reports installation complete: of a staged image into its inactive planes, or of the start-up image. The filter island reports it only with every
new chain warm and no fade running (R179). -/
def installDone (l : LaneId) (s : State) : State :=
  let x := s.lane l
  if !s.laneRuns l then s
  else if x.image.staged = 5 then
    if clocked s l 4 && (x.filter.warming || fading x.filter) then s
    else s.setLane l { x with image := imgInstalled s.time.cycle s.time.tick x.image }
  else if (s.laneState l = 2 ∨ s.power.role = 1) ∧ x.image.active = none ∧ (s.arb.lane l.other).running = false then nodeActive (startInstall l s)
  else s

/-! The control path. -/

/-- The stream of Q01 (R32): Cupola takes it as it comes; while its clock stands, the entries pile up. -/
def streamSnapshot (l : LaneId) (s : State) : State :=
  if clocked s l 1 then
    s.modLane l fun x => { x with cupola := { x.cupola with chans := x.ingest.snapshot }, queued := vmodN x.queued 1 fun _ => {} }
  else qSend l 1 6 ((List.range 256).flatMap fun ch => q01Entries ch (vget (s.lane l).ingest.snapshot ch)) s

/-- The snapshot (R32): every update released by now precedes the copy. Cupola's copy of the one before stays for a stream that does not finish
(Table 2.8). -/
def snapshotSlot (l : LaneId) (_ : Slot) (s : State) : State :=
  let s1 := releaseUpTo l (s.time.cycle * 20000 + s.time.tick) (s.lane l).ingest.release.length s
  streamSnapshot l (s1.modLane l fun x => { x with snapPrev := x.cupola.chans, ingest := takeSnapshot s.deviceNs.toNat x.ingest })

/-- A channel fed by an analogue input is selected (R117, R185). -/
def inputSelected (s : State) (l : LaneId) (input : Nat) : Bool :=
  (analogChannels (section_ s l secChannels) input).any fun ch => !vget (s.lane l).ingest.deselected ch

def handoffSlot (l : LaneId) (_ : Slot) (s : State) : State :=
  let x := s.lane l
  let r := filterHandoff l (section_ s l secFilter) (inputSelected s l) x.filter
  let late := r.2.any fun e => e == .count 0x0902 0xFF 1
  let s1 := applyEffects (some l) r.2 (s.setLane l { x with filter := r.1, pmu := if late then bridgeLateHit x.pmu else x.pmu })
  qSend l 8 4 (qTransfer false (q08Words r.1.q08)) s1

/-- The end of Cupola's last slot: the cycle's fusion is committed (R189). -/
def fusionSlot (l : LaneId) (_ : Slot) (s : State) : State :=
  let x := s.lane l
  let r := cupolaFusion (cplIn s l) x.cupola
  let s1 := applyEffects (some l) r.2 (s.setLane l (qDrain 5 { x with cupola := r.1 }))
  qSend l 9 1 (qTransfer false (q09Words r.1.q09)) (qSend l 4 1 (qTransfer false (q04Words r.1.q04)) s1)

/-- The observer's transfers enter Q06 and Q05. -/
def observerOut (l : LaneId) (s : State) : State :=
  let o := (s.lane l).observer
  qSend l 5 2 (qTransfer (decide (o.q05.held ≠ 0)) (q05Words o.q05)) (qSend l 6 2 (qTransfer o.q06.held (q06Words o.q06)) s)

def observerSlot (l : LaneId) (_ : Slot) (s : State) : State :=
  let x := s.lane l
  let r := observerRun (obsIn s l) x.observer
  let ovf := r.2.any fun e => e == .count 0x0303 4 1
  let s1 := applyEffects (some l) (r.2.filter fun e => e != .count 0x0303 4 1) (s.setLane l (qDrain 4 { x with observer := r.1 }))
  observerOut l (if ovf then spireOverflow l 4 3 s1 else s1)

/-- The control engine's transfer enters Q07. -/
def controlOut (l : LaneId) (s : State) : State :=
  let q := (s.lane l).control.q07
  qSend l 7 3 (qTransfer q.held (q07Words q)) s

def controlLawSlot (l : LaneId) (_ : Slot) (s : State) : State :=
  let x := s.lane l
  let r := controlSlot (ctlIn s l) (ctlBefore s l)
  let y := qDrain 6 (qDrain 8 (qDrain 9 { x with control := r.1, alloc := { x.alloc with cq := cqDemand r.1.q07 x.alloc.cq } }))
  controlOut l (applyEffects (some l) r.2 (s.setLane l y))

def deltaPacketSlot (l : LaneId) (sl : Slot) (s : State) : State :=
  s.modLane l fun x => { x with alloc := deltaSlot (allocIn s l) sl.stop x.alloc }

/-- What an allocation solve leaves beside its result: its counts (Table 20.4), overflow (R280), and ITER_SHORT for a deadline (R61). -/
def allocCounts (l : LaneId) (sl : Slot) (ignored : Nat) (s : State) : State :=
  let a := (s.lane l).alloc
  let r := a.result
  let limit := imgIterLimit ((s.laneImg l).getD [])
  let s0 := s.modLane l fun x => { x with longOut := vmodN x.longOut r.outcome (· + 1) }
  let s1 := count (some l) 0x0301 r.outcome 1 (count (some l) 0x0302 0xFF r.piv (count (some l) 0x0304 0xFF (a.deltaIgn - ignored) s0))
  let s2 := match r.ovf with
    | some k => spireOverflow l 7 k s1
    | none => s1
  if r.outcome = 2 ∨ r.outcome = 3 ∨ r.outcome = 8 then violate l 2 sl.island sl.slot (limit - r.iters) s2 else s2

def allocationSlot (l : LaneId) (setupClk iterClk : Nat) (stop : Option StopAt) (sl : Slot) (s : State) : State :=
  let x := s.lane l
  let a := allocSolve (allocIn s l) sl.start setupClk iterClk stop x.alloc
  allocCounts l sl x.alloc.deltaIgn (s.setLane l (qDrain 7 { x with alloc := a }))

/-- The solve that its end tick stops. The clocks that its set-up and its longest iteration had used are free: the command carries none (log entry 51). -/
def deadlineSlot (l : LaneId) (stop : StopAt) (sl : Slot) (s : State) : State :=
  let iter := if stop = .setup ∨ stop = .between 0 ∨ stop = .within 0 then 0 else Config.freeNat (s.free + 1) % 2 ^ 32
  allocationSlot l (Config.freeNat s.free % 2 ^ 32) iter (some stop) sl (s.useFree 2)

/-- The Q10 transfer enters its queue entry by entry; an entry that finds it full is lost (R28). -/
def q10Send (l : LaneId) (words : List (List Nat)) (s : State) : State :=
  words.zipIdx.foldl (fun t p =>
    if (t.lane l).bus.q10.length < qDepth 10 then t.modLane l fun x => { x with bus := { x.bus with q10 := x.bus.q10 ++ [(p.2, p.1)] } }
    else queueOvf l 10 2 t) s

/-- The output stage at its end: the Q10 transfer and the digest; an overflow leaves the commands of the cycle before (R280, R319, R398). -/
def outputSlot (l : LaneId) (_ : Slot) (s : State) : State :=
  let x := s.lane l
  let r := outputStage (allocIn s l) x.alloc
  match r.2 with
  | some k => digestSend l true (spireOverflow l 8 k (s.setLane l { x with alloc := r.1 }))
  | none =>
    let s1 := q10Send l (q10Words (tmCount (section_ s l secThrusters)) r.1.q10) (s.setLane l { x with alloc := r.1 })
    digestSend l false s1

/-! Spare slots (R52, R299, R410). -/

/-- A spare slot named by number, whose work is run once in a cycle when it ends. -/
def spareSlot (l : LaneId) (n : Nat) (ok : Slot → Bool) (k : Slot → State → State) (s : State) : State :=
  match (s.laneImg l).bind fun i => imgSlotNum i (s.lane l).pmu.tier n with
  | some sl => if ok sl then slotWork l sl.purpose (fun _ => some sl) (·.stop) k s else s
  | none => s

/-- The failure group that LONG_CYCLE_PLAN gives to a phase; 0 is self-test. -/
def planNow (s : State) (l : LaneId) : Nat := imgPlan ((s.laneImg l).getD []) s.phase

/-- One step of the failure group of the phase; the last one that the plan gives it judges its status (R299, R300). -/
def consequenceWork (l : LaneId) (ok : Bool) (s : State) : State :=
  let i := (s.laneImg l).getD []
  let g := planNow s l
  let more := (List.range 50).any fun p => decide (s.phase < p) && imgPlan i p == g
  let x := s.lane l
  let a := cqStep (allocIn s l) s.phase (g - 1) ok (!more) x.alloc
  let s1 := s.setLane l { x with alloc := a }
  match (vget a.cq.groups (g - 1)).solve.ovf with
  | some k => if (vget x.alloc.cq.groups (g - 1)).solve.ovf = none then spireOverflow l 9 k s1 else s1
  | none => s1

/-- The engine that the rotation of R410 tests in this long cycle, as digest byte 37 numbers it: 1 Cupola, 2 control engine, 3 Spire. -/
def testEngine (s : State) : Nat := s.time.cycle / 50 % 3 + 1
/-- The engine of an island, 0 for an island without self-test segments. -/
def engineOf (island : Nat) : Nat := match island with
  | 1 => 1
  | 3 => 2
  | 2 => 3
  | _ => 0

/-- A spare slot that carries a self-test segment in this phase (Table 2.13, R410). -/
def segmentSlot (s : State) (l : LaneId) (sl : Slot) : Bool := engineOf sl.island != 0 && (sl.purpose == 10 || (sl.purpose == 9 && planNow s l == 0))
/-- A slot in which a segment runs now: of the engine in rotation, or one that was discarded in the long cycle before (R52, R410). -/
def testSlot (s : State) (l : LaneId) (sl : Slot) : Bool :=
  segmentSlot s l sl && (engineOf sl.island == testEngine s || (s.lane l).test.again.contains sl.slot)

/-- A self-test segment completes: it is reported in the next digest, and the engine in rotation in Table 15.5. -/
def testWork (l : LaneId) (e : Nat) (pass : Bool) (s : State) : State :=
  s.modLane l fun x => { x with test := { x.test with
    report := e + at1 7 pass, engine := if e = testEngine s then e else x.test.engine
    passed := if e ≠ testEngine s then x.test.passed else if x.test.engine = e then x.test.passed && pass else pass } }

/-- A segment that has run is no longer to be repeated. -/
def testRepeated (l : LaneId) (sl : Slot) (s : State) : State := s.modLane l fun x => { x with test := { x.test with again := x.test.again.erase sl.slot } }

/-- A piece of a spare slot is discarded: a self-test segment is repeated in the next long cycle (R52). -/
def testDiscard (l : LaneId) (sl : Slot) (s : State) : State :=
  if testSlot s l sl then testRepeated l sl (s.modLane l fun x => { x with test := { x.test with redo := x.test.redo ++ [sl.slot] } }) else s

/-- A failed built-in test of an island of a lane, or of the Sky and Watchtower dies (R528). -/
def builtinFail (l : Option LaneId) (island : Nat) (s : State) : State :=
  match l with
  | some k => count (some k) (256 * (island + 1) + 0xF0) 0xFF 1 (s.modLane k fun x => { x with test := { x.test with fail := true } })
  | none => count none (if island = 0 then 0x0BF0 else 0x0CF0) 0xFF 1 s

/-! The end ticks (R64, R65, Table 2.8). -/

/-- The channels that a snapshot stream of `used` clocks did not reach keep Cupola's copy from the snapshot before: an entry of 64 bytes takes four
queue entries of two clocks each. -/
def streamCut (used : Nat) (x : Lane) : Lane :=
  { x with cupola := { x.cupola with chans := Vector.ofFn fun k => if k.val < used / 8 then x.cupola.chans[k] else x.snapPrev[k] } }

/-- What an overrun of a slot of a PURPOSE leaves (Table 2.8). -/
def fallback (l : LaneId) (purpose used : Nat) (s : State) : State :=
  let x := s.lane l
  if x.abandoned.contains purpose then s
  else match purpose with
  | 1 => s.setLane l { x with filter := { x.filter with q08Held := true } }
  | 2 => s.setLane l (streamCut used x)
  | 3 =>
    let s1 := s.setLane l (qDrain 5 { x with cupola := cupolaAbandon (cplIn s l) x.cupola, abandoned := 3 :: x.abandoned })
    count (some l) 0x0204 0xFF 1 (qSend l 4 1 (qTransfer true (q04Words (s1.lane l).cupola.q04)) s1)
  | 4 =>
    let r := observerOverrun (section_ s l secObserver) x.observer
    observerOut l (applyEffects (some l) r.2 (s.setLane l (qDrain 4 { x with observer := r.1 })))
  | 5 =>
    let r := controlMiss s.time.cycle (q06Read (x.got 6)) x.control
    controlOut l (applyEffects (some l) r.2 (s.setLane l (qDrain 6 (qDrain 8 (qDrain 9 { x with control := r.1 })))))
  | 6 => s.setLane l { x with alloc := formMembers (allocIn s l) x.alloc }
  | 8 => digestSend l true s
  | _ => s

/-- The sequencer at the end tick of a slot: `used` island clocks counted, `done` when the engine had finished (R52, R61, R64). -/
def endTick (l : LaneId) (used : Nat) (done : Bool) (sl : Slot) (s0 : State) : State :=
  let finished := (s0.lane l).finished.contains sl.slot
  let limit := imgIterLimit ((s0.laneImg l).getD [])
  let cert := if sl.cls = 1 then sl.clocks + sl.iter * limit else sl.clocks
  let s := if sl.cls ≤ 1 then s0.modLane l fun x => { x with clockUse := max x.clockUse ((used : ℚ) / ((max 1 cert : Nat) : ℚ)) } else s0
  match sl.cls with
  | 0 =>
    if !done && (sl.purpose == 2 || !finished) then
      finishSlot l sl (fallback l sl.purpose used (violate l 0 sl.island sl.slot (used - sl.clocks) s))
    else if sl.clocks < used then violate l 1 sl.island sl.slot (used - sl.clocks) s
    else s
  | 1 => if done && decide (sl.clocks + sl.iter * limit < used) then violate l 1 sl.island sl.slot (used - (sl.clocks + sl.iter * limit)) s else s
  | 2 => if done then s else count (some l) 0x0102 0xFF 1 s
  | _ =>
    if !done && !finished then
      let s1 := if sl.purpose = 9 ∧ planNow s l ≠ 0 then consequenceWork l false s else testDiscard l sl s
      violate l 3 sl.island sl.slot (used - sl.clocks) (finishSlot l sl s1)
    else if sl.clocks < used then violate l 3 sl.island sl.slot (used - sl.clocks) s
    else s

def slotEnd (l : LaneId) (n used : Nat) (done : Bool) (s : State) : State :=
  match (s.laneImg l).bind fun i => imgSlotNum i (s.lane l).pmu.tier n with
  | some sl => if pathRuns s l && clocked s l sl.island then atTick (laneCodeOf (2000 + n) l) sl.stop (endTick l used done sl) s else s
  | none => s

/-! Clocks (R61, R63). -/

/-- The staging-close tick (R56); the management block is taken for a joining lane (R407). -/
def stageClose (l : LaneId) (s : State) : State :=
  s.modLane l fun x => { x with
    pmu := { x.pmu with stageClosed := true }
    shadow := if transferring s l then { x.shadow with mgmt := some (x.alarms, x.alloc, x.queued) } else x.shadow }

/-- One island's clocks counted against 1,000 ticks. -/
def clockIsland (l : LaneId) (clocks : Vector Nat 9) (s : State) (i : Nat) : State :=
  if s.islandRuns l i then
    let n := vget clocks i
    let s1 := s.modLane l fun x => { x with pmu := { x.pmu with
      clockSum := vmodN x.pmu.clockSum i (· + n), clockCnt := vmodN x.pmu.clockCnt i (· + 1) } }
    if n * 2000 < tierKhz i (s.lane l).pmu.tier * 1999 then violate l 5 i 0 0 s1 else s1
  else s

def clockMeasure (l : LaneId) (clocks : Vector Nat 9) (s : State) : State :=
  if s.laneRuns l then atTick (laneCodeOf 60 l) s.time.tick (fun t => (List.range 9).foldl (clockIsland l clocks) t) s else s

/-! The guard window. -/

/-- The removal mask (R59, R381): latched at the earlier request of a cycle, and answered to both lanes from that copy. -/
def maskRequest (l : LaneId) (s : State) : State :=
  if (s.lane l).wtFault then s
  else
    let s1 := match s.latched with
      | some _ => s
      | none =>
        let f := safLatch (safIn s) s.safety
        (s.modSafety fun _ => f).setLatched (some f.mask)
    s1.modLane l fun x => { x with mask := s1.latched }

/-- A network of a lane is configured, and in a state that the condition of its kind names. -/
def netIs (s : State) (l : LaneId) (n : Nat) (p : Nat → Bool) : Bool :=
  nhMode (cmNet (section_ s l secMatrix) n) != 0 && p (vget (s.lane l).bus.nets n).state

/-- A sender that the active safety block listens to has no live stream (R377). -/
def senderLost (s : State) : Bool :=
  match s.safety.active with
  | none => false
  | some b => [0, 1, 2].any fun m => sbListen b m && !(senderLive s.safety.a m || senderLive s.safety.b m)

/-- A built-in condition of Table 17.15 holds as a lane's core 1 sees it at tick 19,910. -/
def builtinHolds (s : State) (l : LaneId) (ident : Nat) : Bool :=
  let x := s.lane l
  let both (p : Lane → Bool) : Bool := p s.laneA || p s.laneB
  let nets (p : NetState → Bool) : Bool := x.bus.nets.toList.any p
  -- the jamming states of the latest EPOCH record (R142)
  let chains (k : Nat) : Bool := [0, 1, 2, 3].any fun i => bitsOf (8 * i + 7) (8 * i + 6) s.oculus.jamWord == k
  let lost (st : Nat) : Bool := st != 2 && st != 4
  match ident with
  | 0x01 => both fun y => y.pmu.certBreached || y.pmu.violNow
  | 0x02 => both (·.pmu.certExhausted)
  | 0x03 => s.safety.state == 3
  | 0x04 => s.safety.state == 1
  | 0x05 => nets (·.idClash)
  | 0x06 => bothLost x.bus
  | 0x07 => x.image.rolledBack
  | 0x08 => x.image.probFail
  | 0x09 => s.arb.degraded
  | 0x0A => s.arb.conflict
  | 0x0B => ringState s.image s.arb == 3
  | 0x0C => x.pmu.mem.ueAny || s.power.wtMem.ueAny
  | 0x0D => s.safety.pairFault != 0
  | 0x0E => s.safety.inputs.toList.any (·.fault)
  | 0x0F => bitOf 16 (safStatusWord (safIn s) s.safety)
  | 0x40 => x.cupola.tracks.toList.any fun t => t.state == 5
  | 0x41 => stateCount x.cupola 1 4 == 0
  | 0x42 => stateCount x.cupola 2 4 == 0
  | 0x43 => x.cupola.attUncomp
  | 0x44 => x.cupola.changes.any fun c => c.old == 4 && c.new != 4 && c.new != 5
  | 0x45 => x.cupola.changes.any fun c => c.new == 6 && c.old != 6 && c.cause == 7
  | 0x46 => let c := section_ s l secObserver; obsPosDr c x.observer || obsHdgDr c x.observer
  | 0x47 => let c := section_ s l secObserver; obsPosExp c x.observer || obsHdgExp c x.observer
  | 0x48 => x.alloc.q10.fallback && x.alloc.q10.cycle == s.time.cycle % 2 ^ 32
  | 0x49 => x.alloc.powerLimited
  | 0x4A => x.alloc.lost
  | 0x4B => x.alloc.cq.words.toList.any fun w => bitsOf 31 30 w == 2
  | 0x4C => netIs s l 0 lost || netIs s l 1 lost
  | 0x4D => netIs s l 2 lost || netIs s l 3 lost
  | 0x4E => nets (·.state == 6)
  | 0x4F => nets (·.state == 4)
  | 0x51 => nets (!·.suspended.isEmpty)
  | 0x52 => let z := safReg (safIn s) 0x100C s.safety; z / 2 ^ 24 % 256 != 0 || z / 2 ^ 8 % 256 != 0
  | 0x53 => senderLost s
  | 0x54 => (s.arb.lane .A).unhealthy || (s.arb.lane .B).unhealthy
  | 0x55 => noStandby s.arb
  | 0x56 => (s.arb.lane .A).limited || (s.arb.lane .B).limited
  | 0x57 => s.arb.modLost
  | 0x58 => ringState s.image s.arb == 2
  | 0x59 => s.arb.extInvalid
  | 0x5A => chains 1
  | 0x5B => chains 2
  | 0x5C => s.oculus.spoof == 1
  | 0x5D => s.oculus.spoof == 2
  | 0x5E => s.belfry.state == 3
  | 0x5F => s.belfry.state == 4
  | 0x60 => s.belfry.disagree
  | 0x61 => x.pmu.timeLost
  | _ => x.instant.contains ident

/-- The condition of an alarm entry (Table 3.12): a built-in one, a channel's, or an event's. Staleness is that of the last snapshot (R120). -/
def alarmHolds (s : State) (l : LaneId) (e : AlarmEntry) : Bool :=
  let x := s.lane l
  match e.source with
  | 0 => builtinHolds s l e.ident || x.instant.contains e.ident
  | 4 => x.occurred.contains e.arg
  | _ =>
    let c := vget x.ingest.store e.arg
    alarmChannel e c.empty (isStale (chanEntry (section_ s l secChannels) e.arg) x.ingest.snapNs (vget x.ingest.snapshot e.arg)) (vget c.value 0)

/-- A REF_STATE notification (R219). -/
def refNote (c : TrackChange) : Effect :=
  .note 0xF020 none (leBytes 1 c.track ++ leBytes 1 c.old ++ leBytes 1 c.new ++ leBytes 1 c.cause ++ leBytes 4 (c.nis % 2 ^ 32))

/-- Tick 19,910: every alarm in ALARM_ID order, then the track changes of the cycle (R86, R219). -/
def alarmWork (l : LaneId) (s : State) : State :=
  let x := s.lane l
  let es := (alarmEntries ((s.laneImg l).getD [])).map fun e => (e, alarmHolds s l e)
  let r := alarmEval es s.time.cycle x.alarms
  let y : Lane := { x with alarms := r.1, occurred := [], instant := [], cupola := { x.cupola with changes := [] } }
  applyEffects (some l) (r.2 ++ x.cupola.changes.map refNote) (s.setLane l y)

/-- The consequence results of the long cycle are judged and published together (R325). -/
def publishWork (l : LaneId) (s : State) : State :=
  let x := s.lane l
  let s1 := s.setLane l { x with alloc := { x.alloc with cq := cqPublish (allocIn s l) x.alloc.cq } }
  applyEffects (some l) [.note 0xF041 none (conseqBytes s1 l)] s1

/-- The standby health report on the lane that is not ACTIVE (R411, Table 15.5). -/
def healthReport (l : LaneId) (s : State) : State :=
  let o := l.other
  let x := s.lane o
  let viol := (List.range 4).foldl (fun w k => w + atF (4 * k) 4 (vget x.pmu.violLong k)) 0
  let links := at1 0 (!x.skyFault) + at1 1 (!x.wtFault) + at1 2 (!s.bridgeFault) + at1 3 x.pmu.memErrLong
  let test := x.test.engine + at1 7 x.test.passed
  let body := standbyHealth s.time.cycle (digestByte4 s o) test viol x.pmu.bridgeLateLong (slackNow x.pmu) links ((s.laneImg o).map imgGen |>.getD 0) o s.arb
  applyEffects (some l) [.note 0xF040 none body, .keep 7 false body] (s.modLane o fun y => { y with pmu := { y.pmu with memErrLong := false } })

/-- Admitted starts that are not RUNNING after START_S (R323). -/
def startTimeout (l : LaneId) (s : State) : State :=
  let x := s.lane l
  let ks := startExpired (allocIn s l) x.alloc
  applyEffects (some l) (ks.map fun k => .note 0xF01B none (leBytes 1 k ++ [0, 0, 0])) (s.setLane l { x with alloc := startDrop ks x.alloc })

end Sys2Proof.Machine
end

