-- ==== Sys2Proof/Machine/SkyOps.lean ====
section
/-! DEFINITION. The Sky die over the whole state (chapters 5 and 6): epochs and records, aiding and corrections, interference, the time origin, Belfry's updates, IEEE 1588. -/

namespace Sys2Proof.Machine

def ocuCfg (s : State) : Bytes := section_ s s.sel secOculus
def timeCfg (s : State) : Bytes := section_ s s.sel secTime

/-- Both domains of the Sky die are on. -/
def skyMeasures (s : State) : Bool := s.power.skyOn && s.power.isOn 2

/-- The present cycle holds an epoch (R128). -/
def epochDue (s : State) : Bool := skyMeasures s && decide (s.time.cycle % max 1 (ocuRateDiv (ocuCfg s)) = 0)

/-! Oculus. -/

/-- MEASUREMENT_EPOCH (R128): at tick 0. -/
def epochWork (ob : EpochObs) (s : State) : State :=
  let c := ocuCfg s
  let r := measureEpoch c s.time.cycle s.time.us s.deviceNs.toNat (blfStatus s.belfry) ob s.oculus
  count none 0x0B01 0xFF r.2 (s.modOculus fun _ => r.1)

/-- The channel that carries a record (R132). -/
def recordChannel (s : State) (l : LaneId) (source : Nat) : Option Nat :=
  (List.range 256).find? fun ch =>
    let e := chanEntry (section_ s l secChannels) ch
    chType e == 11 && chKind e == 5 && chSource e == source

/-- Records on their way to a lane. -/
def skyQueue (l : LaneId) (o : OculusState) : List OcuRecord := match l with
  | .A => o.toA
  | .B => o.toB
def skyPop (l : LaneId) (o : OculusState) : OculusState := match l with
  | .A => { o with toA := o.toA.tail }
  | .B => { o with toB := o.toB.tail }

/-- The update that a record makes: stamped by Belfry at STAMP_TICK of its epoch's cycle (R129). -/
def recordUpdate (s : State) (l : LaneId) (ch : Nat) (r : OcuRecord) : ChanUpdate :=
  { chan := ch, value := r.words, quality := 0, meas := r.meas, capture := r.meas,
    stampNs := r.meas / 20000000 * 20000000 + ocuStampTick (ocuCfg s) * 1000, srcTime := false, saturated := false, lane := l.num, port := 26, pos := 0 }

/-- SKY_RECORD_RECEIVE (R129, R130): over the lane's own Sky link; forwarded over the lane bridge when the other lane's link has failed. -/
def skyRecord (l : LaneId) (s : State) : State :=
  match skyQueue l s.oculus with
  | [] => s
  | r :: _ =>
    let s1 := s.modOculus (skyPop l)
    if !s1.laneRuns l || (s1.lane l).skyFault then s1
    else
      let s2 := bwCount l 17 32 0 1 0 (s1.modLane l fun x => { x with skyTry := 0 })
      match recordChannel s2 l r.source with
      | some ch =>
        if ingestRuns s2 l then
          let u := recordUpdate s2 l ch r
          let s3 := takeUpdate l u s2
          if (s3.lane l.other).skyFault then bridgeUpdates l [u] s3 else s3
        else s2
      | none => s2

/-- AIDING_FRAME (R135, R201): phase centres, velocity, cycle, role; none is sent without a position. -/
def aidingFrame (l : LaneId) (s : State) : State :=
  let x := s.lane l
  match x.cupola.aid, x.cupola.origin with
  | some ants, some o =>
    if x.skyFault then s
    else
      let p (k : Fin 2) : Int × Int := unproject o ants[k].pos.x ants[k].pos.y
      let f : AidFrame := {
        cycle := s.time.cycle, active := s.isActive l, lat := Vector.ofFn fun k => (p k).1, lon := Vector.ofFn fun k => (p k).2
        hgt := ants.map (·.hgt), vel := ants.map (·.vel) }
      let body := leBytes 8 f.cycle ++ leBytes 1 (b2n f.active) ++ (f.lat.toList.zip f.lon.toList).flatMap (fun q => leSigned 8 q.1 ++ leSigned 8 q.2) ++
        ants.toList.flatMap fun a => leQ16 (a.hgt.getD (-32768)) ++ leQ16 a.vel.x ++ leQ16 a.vel.y ++ leQ16 a.vel.z
      let s1 := (bwCount l 17 0 body.length 1 0 s).emit (.skyLink l body)
      if skyMeasures s1 then s1.modOculus fun q => match l with
        | .A => { q with aidA := some f }
        | .B => { q with aidB := some f }
      else s1
  | _, _ => s

/-- A lane passes an RTCM frame to Oculus over its Sky link (R136). -/
def rtcmSend (l : LaneId) (frame : Bytes) (s : State) : State :=
  if !s.laneRuns l || (s.lane l).skyFault then s
  else
    let s1 := (bwCount l 17 0 frame.length 1 0 s).emit (.skyLink l frame)
    if skyMeasures s1 then
      let r := rtcmTake s1.time.us s1.deviceNs s1.belfry.gpsNow frame s1.oculus
      applyEffects none r.2 (s1.modOculus fun _ => r.1)
    else s1

/-- The port that CORR_SOURCE names stands in the lane (R136). -/
def corrHere (s : State) (l : LaneId) : Bool :=
  let n := ocuCorrSource (ocuCfg s)
  n == 17 || (decide (n ≠ 0) && decide ((n - 1) / 8 = l.num))

/-- RTCM_FRAME (R136): framed by the ingest island, sent on the lane's own Sky link and, over the lane bridge, on the other lane's. -/
def rtcmFrame (l : LaneId) (frame : Bytes) (s : State) : State :=
  if ingestRuns s l && corrHere s l && rtcmFramed frame then
    let s1 := rtcmSend l frame s
    if s1.bridgeFault || !s1.laneRuns l.other then s1
    else rtcmSend l.other frame ((bwCount l 14 0 frame.length 1 0 s1).emit (.bridge l 1 frame))
  else s

/-- P_ref of the four chains as GNSS_NOISE_REF answers it, 0.1 dB. -/
def prefReply (o : OculusState) : Bytes := o.chains.toList.flatMap fun c => leSigned 2 (tenthDb c.pref)

/-- One noise reference whose 100 ms average is complete: P_ref is recorded or restored, and its command answered (R141). -/
def noiseDone (s : State) (w : HostPort × Nat × Nat × Nat) : State :=
  let ref (k : Nat) (c : ChainState) : ChainState := if bitOf k w.2.1 then { c with pref := if w.2.2.1 = 0 then c.power else 1 } else c
  let s1 := s.modOculus fun o => { o with chains := Vector.ofFn fun k => ref k.val o.chains[k] }
  match (s1.host.port w.1).inFlight with
  | some f =>
    if f.pkt.opcode = 0x0404 ∧ f.result = false then
      let rep := prefReply s1.oculus
      let s2 := match entryAt f.jsn s1 with
        | some e => if w.1 = .svc then s1 else putBoth { e with reply := rep } s1
        | none => s1
      replyWhenDue w.1 { f with result := true, reply := rep } s2
    else s1
  | none => s1

/-- NOTCH_MONITOR (R139, R141): one millisecond of a chain. -/
def notchMonitor (chain : Chain) (ob : MonitorObs) (s : State) : State :=
  if !skyMeasures s then s
  else
    let c := ocuCfg s
    let r := notchStep c ob s.oculus.chains[chain]
    let ch := jamStep c ob r.2.2 r.1
    let s1 := count none 0x0B03 chain.val r.2.1 (s.modOculus fun o => { o with chains := o.chains.set chain ch })
    let due (w : HostPort × Nat × Nat × Nat) : Bool := decide (w.2.2.2 + 100000 ≤ s.time.us)
    let ready := s1.host.noiseWait.filter due
    ready.foldl noiseDone (s1.modHost fun h => { h with noiseWait := h.noiseWait.filter fun w => !due w })

/-! The origin (R153, R427, R538). -/

/-- Belfry's state changes: a change of STATE is an event and a TIME record (Tables 18.3 and 20.4), and the gate of R163 takes the pulses low at once. -/
def setBelfry (b0 : BelfryState) (s : State) : State :=
  let b := utcKeep s.deviceNs (if ppsOpen (timeCfg s) b0 then b0 else { b0 with ppsUntil := b0.ppsUntil.map fun u => min u s.time.us })
  let s1 := s.modBelfry fun _ => b
  if b.state = s.belfry.state then s1
  else applyEffects none [.count 0x0B04 0xFF 1, .keep 17 false (leBytes 4 (blfStatus b) ++ leSigned 4 b.stepLast ++ leBytes 4 b.disc)] s1

/-- This module orders its sources as the time master (R155). -/
def isMaster (s : State) : Bool := decide (ringSize s.image ≤ 1) || s.arb.timeMaster

/-- The cycle count and tick from which the first boundary falls at the first multiple of 20 ms at least 5 ms after a device time in ns, and the µs that pass
first: a boundary more than 20 ms away is met from tick 0 of the cycle before it (log entry 72). -/
def firstCycle (ns : Nat) : Nat × Nat × Nat :=
  let b := (ns + 5000000 + 19999999) / 20000000
  let left := (20000000 * b - ns) / 1000
  (b - 1, 20000 - min 20000 left, left - 20000)

/-- Device time starts at an origin, on a clock edge (R151). -/
def setTime (c : Nat × Nat × Nat) (tag : Nat) (s : State) : State :=
  ((s.modTime fun t => { t with cycle := c.1 % 2 ^ 48, tick := min 19999 c.2.1, us := t.us + c.2.2 }).modArb fun a => { a with originTag := tag }).modBelfry fun b =>
    { b with count := (c.1 * 20000000 + c.2.1 * 1000) * 2 ^ 32 }

/-- TIME_WAIT_MS has passed since domain 3 started, by `more` µs. -/
def waitOver (more : Nat) (s : State) : Bool := decide (s.belfry.waitFrom + timeWaitMs (timeCfg s) * 1000 + more ≤ s.time.us)

/-- A lower-numbered module that is heard has not fixed its origin (R538). -/
def lowerUnset (s : State) : Bool :=
  decide (1 < ringSize s.image) && [1, 2, 3].any fun m => decide (m < s.power.module) &&
    ((vget s.arb.votes (m - 1)).map fun v => v.tag == 0).getD false

/-- Case 3 of R153: the origin is the start-up instant. -/
def originStart (s : State) : State :=
  let t := setTime (firstCycle (s.time.us * 1000)) (startTag s.power.module s.keep.powerCycle) s
  setBelfry (originFree t.belfry) t

/-- The uncertainty of Baique time (R626): the master's EST_ERR plus 5 ns by the latest exchange; before the first one it is that of an unset time. -/
def baiqueUnc (s : State) : ℚ := match s.arb.timeEx.result with
  | some (_, _, est, _) => est + 5
  | none => 0xFFFFF

/-- ORIGIN_FIX (R153). `adopt` gives a running module's cycle count, tick, origin flag and origin tag; `gpsNs` is GPS time now. A source is taken within
TIME_WAIT_MS; a running module also in the 2,000 ms that R538 adds. -/
def originFix (adopt : Option (Nat × Nat × Bool × Nat)) (gpsNs : Nat) (s : State) : State :=
  if !s.power.skyOn || s.belfry.originSet then s
  else match adopt, originSource (isMaster s) s.belfry, waitOver 0 s with
    | some (c, t, gnss, tag), _, _ =>
      if waitOver 2000000 s then s
      else
        let s1 := setTime (c, t, 0) tag s
        setBelfry (originAdopt gnss (baiqueUnc s) s1.belfry) s1
    | none, some src, false =>
      let s1 := setTime (firstCycle gpsNs) 1 s
      setBelfry (originFromSource src s1.belfry) s1
    | none, none, false => s
    | none, _, true => if lowerUnset s then s else originStart s

/-- ORIGIN_WAIT_EXPIRE (R538). -/
def originWaitExpire (s : State) : State :=
  if s.power.skyOn && !s.belfry.originSet && waitOver 2000000 s then originStart s else s

/-! Belfry's updates. -/

/-- The sources as Table 6.1 sees them at an epoch. -/
def sourceViews (s : State) : List SourceView :=
  let o := s.oculus
  -- the epoch of this cycle has been measured; the receiver clock less GPS time, m, is OFFSET with the sign changed
  let oc : SourceView := ⟨1, s.time.ran.contains 132 && decide (4 ≤ o.timeSats) && decide (o.timeSd ≤ 100), -(o.clk / lightSpeed * 1000000000), o.timeSd⟩
  let bq : SourceView := match s.arb.timeEx.result with
    | some (dev, off, est, ok) => ⟨2, ok && baiqueTime s, off + dev, est + 5⟩
    | none => ⟨2, false, 0, 0⟩
  [oc, bq, ptpView (timeCfg s) s.sel s.time.us s.belfry]

/-- BLF_EPOCH_EVAL (R153, R155 to R157, R162): once per epoch; HOLDOVER counts from the epoch instant. -/
def epochJudge (ob : TimeObs) (s : State) : State :=
  let vs := sourceViews s
  let b0 := match ob.leapNow with
    | some n => { s.belfry with leap := n % 256, leapNext := if s.belfry.leapPending then s.belfry.leapNext else n % 256 }
    | none => s.belfry
  let b1 := match ob.leap with
    | some n => leapAnnounce n b0
    | none => b0
  let apart := (viewOf vs 1).ok && (viewOf vs 2).ok && decide (1000 < absQ ((viewOf vs 1).measured - (viewOf vs 2).measured))
  let b2 := { b1 with disagree := apart && !isMaster s }
  setBelfry (epochEval (timeCfg s) (max 1 (ocuRateDiv (ocuCfg s))) (isMaster s) (s.time.us - s.time.tick) vs b2) s

/-- RETURN_QUALIFIED (R157): at the boundary after qualification. Between TIMEQ and its edge, TIMEQ is sent again (R164). -/
def returnWork (s : State) : State :=
  let b := belfryReturn s.belfry
  let s1 := applyEffects none [timeStepNote (s.time.cycle % 2 ^ 32) b] (setBelfry b s)
  if 26 ≤ s.phase then
    let r := timeqSend (timeCfg s) s.time.cycle s.time.us true s1.belfry
    applyEffects none r.2 (s1.modBelfry fun _ => r.1)
  else s1

/-- The master's device time less this module's, from an exchange of the last long cycles (R426). -/
def masterDev (s : State) : Option ℚ := if baiqueTime s then s.arb.timeEx.result.map (·.1) else none

/-- Belfry steers a lane's tick over its Sky link (R160). -/
def skySteers (s : State) (l : LaneId) : Bool := s.power.skyOn && s.power.isOn 2 && !(s.lane l).skyFault

/-- What a lane's tick steers to (R160, R161): Belfry; the other lane over the lane bridge, while that one has Belfry; the time master over the Baique link;
otherwise Lane A runs free and Lane B steers to it. -/
def tickRefOf (s : State) (l : LaneId) : Nat :=
  let bridge := !s.bridgeFault && s.laneRuns l.other
  if skySteers s l then 0
  else if bridge && skySteers s l.other then 1
  else if baiqueTime s then 2
  else if l = .B ∧ bridge = true then 1 else 3

/-- LANE_TICK_MARKER (R160, R161, R400, R539): the phase error of a lane against what it steers to, once per cycle, and the correction of its divider.
The spec states no correction for the steering of R161; the model takes that of R160 (log entry 72). -/
def tickMarker (l : LaneId) (dev : Int) (s : State) : State :=
  if !s.laneRuns l || s.isNode then s
  else atTick (laneCodeOf 67 l) s.time.tick (fun t =>
    let r := tickRefOf t l
    let t1 := if r = 0 then (t.modBelfry (laneMarker l dev)).modArb (laneDev t.time.cycle t.time.tick l dev) else t
    let corr : ℚ := if r = 3 then 0 else clampQ (-2000) 2000 (-(dev : ℚ) / 4)
    syncTimeLost (t1.modPower fun p => { p with starts := vmodN p.starts l.num fun x =>
      { x with steered := if r = 0 ∧ dev.natAbs ≤ 100 then x.steered + 1 else 0, tickRef := r, tickDev := dev, tickCorr := corr } })) s

/-- PPS_EDGE (R163): both pulses of a long-cycle boundary. -/
def ppsWork (s : State) : State :=
  let c := timeCfg s
  if !s.belfry.originSet || !ppsOpen c s.belfry then s
  else
    let edge (k : Nat) : ℚ := ((s.time.cycle * 20000000 : Nat) : ℚ) - (timePpsAdv c k : ℚ) + vget s.belfry.qerr k
    let s1 := (s.emit (.ppsEdge .A (edge 0) (timePpsWidth c))).emit (.ppsEdge .B (edge 1) (timePpsWidth c))
    s1.modBelfry fun b => { b with ppsUntil := Vector.ofFn fun _ => s.time.us + timePpsWidth c }

/-- TIMEQ_COMPUTE (R164). -/
def timeqWork (s : State) : State :=
  let r := timeqSend (timeCfg s) s.time.cycle (s.time.us - s.time.tick) false s.belfry
  applyEffects none r.2 (s.modBelfry fun _ => r.1)

/-! IEEE 1588 (R165). -/

/-- The UDP payload of a PTP message of IEEE 1588-2019 without extensions. -/
def ptpLength (typ : Nat) : Nat := if typ = 11 then 64 else if typ = 9 then 54 else 44

/-- PTP messages that leave count on their port. -/
def ptpOut (p : EthPort) (es : List Effect) (s : State) : State :=
  es.foldl (fun t e => match e with
    | .out (.ptp _ typ _) => applyEffect (some p.lane) (bwCount p.lane (8 + p.num.val) 0 (ethBytes (ptpLength typ)) 1 0 t) e
    | _ => applyEffect (some p.lane) t e) s

/-- PTP_MESSAGE (R165): a message of another domain is counted and has no other effect. -/
def ptpReceive (p : EthPort) (dom typ seq : Nat) (carried rx : Int) (oneStep : Bool) (cls : Nat) (s : State) : State :=
  if !s.power.skyOn || !s.laneRuns p.lane then s
  else
    let r := if dom = timePtpDomain (timeCfg s) then ptpMessage (timeCfg s) p s.time.us typ seq carried rx oneStep cls s.belfry else (s.belfry, [])
    ptpOut p r.2 (bwCount p.lane (8 + p.num.val) (ethBytes (ptpLength typ)) 0 1 0 (s.modBelfry fun _ => r.1))

/-- PTP_SYNC_SEND (R165). -/
def ptpMasterSync (p : EthPort) (s : State) : State :=
  if !s.power.skyOn || !s.laneRuns p.lane then s
  else
    let r := ptpSync (timeCfg s) p s.time.us s.deviceNs s.belfry
    ptpOut p r.2 (s.modBelfry fun _ => r.1)

end Sys2Proof.Machine
end

