-- ==== Sys2Proof/Machine/ArbOps.lean ====
section
/-! DEFINITION. The arbiter over the whole state (chapter 15): digests, lanes that rejoin, votes, the frames of the Baique ring. -/

namespace Sys2Proof.Machine

/-! Digests. -/

/-- DIGEST_RECEIVE (R398). -/
def digestIn (l : LaneId) (s : State) : State :=
  match (s.lane l).digestOut with
  | some d =>
    if s.laneRuns l && !(s.lane l).wtFault && arbitrates s then
      (s.modArb (digestReceive l d)).modLane l fun x => { x with digestOut := none, wtTry := 0 }
    else s
  | none => s

/-- The tick of the comparison: the output stage's end tick plus 200 (R399). -/
def compareTick (s : State) : Option Nat := ((s.image).bind fun i => imgSlotFor i (s.lane s.sel).pmu.tier 8).map fun sl => sl.stop + 200

/-- The two digests of the cycle are there and differ (R399). -/
def digestsDiffer (s : State) : Bool :=
  compared (s.arb.lane .A) && compared (s.arb.lane .B) && match digestOf s.time.cycle s.arb .A, digestOf s.time.cycle s.arb .B with
    | some a, some b => sliceB a 8 28 != sliceB b 8 28
    | _, _ => false

/-- A lane has one more strike than before (R401). -/
def struckNow (old new : ArbState) (cycle : Nat) (l : LaneId) : Bool :=
  (new.lane l).strikes.contains cycle && !(old.lane l).strikes.contains cycle

/-- DIGEST_COMPARE (R397, R399 to R402, R408). -/
def compareWork (s : State) : State :=
  let r := digestCompare s.image s.time.cycle s.time.tick s.arb
  let strike (l : LaneId) : Nat := b2n (struckNow s.arb r.1 s.time.cycle l)
  let s1 := count none 0x0C02 1 (strike .B) (count none 0x0C02 0 (strike .A) (count none 0x0C01 0xFF (b2n (digestsDiffer s)) s))
  r.2.foldl (fun t l => t.modLane l fun x => { x with control := { x.control with unhealthy := false } }) (s1.modArb fun _ => r.1)

/-! Rejoining (R406 to R409). -/

/-- The domains of a lane that the role wakes (Table 1.5). -/
def wokenDomains (s : State) (l : LaneId) : List Nat := if s.isNode then [4, 8] else laneDomains l

/-- LANE_WAKE (R406, R409, R549): not while the die is tripped. -/
def laneWakeUp (l : LaneId) (s : State) : State :=
  if !s.power.booted || s.power.role == 1 || (s.isNode && l == .B) || vget s.power.trip l.num then s
  else
    let r := laneWake s.image s.time.cycle l s.arb
    let s1 := s.modArb fun _ => r.1
    if r.2 then s1.modPower fun p => { wakeRequest (wokenDomains s l) p with lost := vmodN p.lost l.num fun _ => false } else s1

/-- Every domain of the lane that the role wakes is on. -/
def laneAwake (s : State) (l : LaneId) : Bool := (wokenDomains s l).all s.power.isOn

/-- LANE_SELFTEST_DONE (R406, R537). -/
def selftestDone (l : LaneId) (pass : Bool) (s : State) : State :=
  if (s.arb.lane l).state = 1 ∧ laneAwake s l = true ∧ s.laneRuns l = true then
    if pass then
      ((s.modArb fun a => a.modLane l fun x => { x with state := 2 }).modLane l fun x => { x with pmu := { x.pmu with mem := { x.pmu.mem with
        trained := x.pmu.mem.installed != 0 } } }).modPower fun p => { p with starts := vmodN p.starts l.num fun x => { x with tested := true } }
    else laneMeets l 3 s
  else s

/-- LANE_LOAD_DONE (R94): the active generation of the ACTIVE lane is verified and installed; a lane in which it does not verify stays in LOADING with the
code in RESULT. The networks that the Watchtower holds in TEST or FAILED are so in this lane too (R329). -/
def loadDone (l : LaneId) (s : State) : State :=
  if (s.arb.lane l).state = 2 ∧ s.laneRuns l = true ∧ s.isActive l.other = true ∧ pathRuns s l.other = true ∧ s.bridgeFault = false then
    let h := holdNets s
    let r := verifyWhole s l ((s.laneImg l.other).getD [])
    if r.code ≠ 0 then s.modLane l fun x => { x with image := { x.image with lastCode := r.code } }
    else
      let s1 := commitUnits l false (imgTake (s.lane l.other).image) h
      (s1.modLane l fun x => { x with bus := setHeldNets h.arb x.bus }).modArb fun a => a.modLane l fun x => { x with state := 3 }
  else s

/-- The latest-value store of the joining lane takes an entry only when it is later (R116, R407). -/
def mergeStore (from_ own : Vector StoreEntry 256) : Vector StoreEntry 256 :=
  Vector.ofFn fun k =>
    let a := from_[k]
    let b := own[k]
    if a.empty = false ∧ (b.empty = true ∨ b.meas < a.meas) then { a with seq := b.seq + 1, fromBridge := true } else b

/-- The warm-start block, the allocation result with the commands that belong to it, and the consequence workspace (Table 15.4). -/
def takeResult (x y : AllocState) : AllocState :=
  { y with warm := x.warm, block := x.block, q10 := x.q10, prev := x.prev, loads := x.loads, cq := x.cq }

/-- Core 2's state: the start gate, and the thrusters' availability, removal and budgets on which it rests. Table 15.4 does not say
what that state is (DESIGN CHOICE, log entry 78). -/
def takeGate (x y : AllocState) : AllocState :=
  { y with
    available := x.available, ramping := x.ramping, removed := x.removed, hostOff := x.hostOff, follow := x.follow, followRun := x.followRun, member := x.member
    lost := x.lost, budgets := x.budgets, total := x.total, powerStale := x.powerStale, queue := x.queue, pending := x.pending, lastStart := x.lastStart
    lastAny := x.lastAny, queueFull := x.queueFull, startFailed := x.startFailed, lastAdmitted := x.lastAdmitted, admitted := x.admitted
    fallbackRun := x.fallbackRun, powerLimited := x.powerLimited, totalLimited := x.totalLimited }

/-- The band, run counts and cross-fade weights of the filter island (Table 15.4). -/
def takeBand (x y : FilterState) : FilterState :=
  { y with
    seaS := x.seaS, band := x.band, started := x.started, rise := x.rise, fall := x.fall, bandDefault := x.bandDefault, q08 := x.q08
    inputs := Vector.ofFn fun k =>
      let i := x.inputs[k]
      { y.inputs[k] with fadeFrom := i.fadeFrom, fadeK := i.fadeK, fadeLen := i.fadeLen } }

/-- A block taken at tick `t` comes before the end of the last write grant of a PURPOSE in the joining lane. -/
def grantMet (s : State) (l : LaneId) (purpose t : Nat) : Bool :=
  ((s.laneImg l).bind fun i => imgLastSlotFor i (s.lane l).pmu.tier purpose).any fun sl => decide (t ≤ sl.stop)

/-- The joining lane with the blocks of Table 15.4, or none when one is missing or its window was missed; `a` is the ACTIVE lane. -/
def takeShadow (s : State) (l : LaneId) (a y : Lane) : Option Lane :=
  let b := a.shadow
  match b.store, b.filter, b.cupola, b.observer, b.control, b.alloc, b.mgmt with
  | some (store, off), some (tf, fi), some (tc, cu), some (tb, ob), some (tk, ct), some (ta, al), some (alarms, gate, queued) =>
    if grantMet s l 11 tc && grantMet s l 12 tb && grantMet s l 12 ta && decide (tf ≤ closeTick s) && decide (tk ≤ closeTick s) then
      some { y with
        ingest := { y.ingest with store := mergeStore store y.ingest.store, deselected := off }
        filter := takeBand fi y.filter, cupola := cu, observer := ob, alloc := takeGate gate (takeResult al y.alloc)
        control := { ct with unhealthy := y.control.unhealthy, missRun := 0, miss := false }
        queued := queued, alarms := alarms, staged := a.staged, jseq := a.jseq, pmu := applyFloor y.image.active { y.pmu with floor := a.pmu.floor } }
    else none
  | _, _, _, _, _, _, _ => none

/-- SHADOW_TRANSFER (R407): complete before tick 19,900 of a cycle of phase 0 in JOINING; SYNCING runs from the next cycle. A block that is incomplete
leaves the lane JOINING until the next cycle of phase 0. The blocks are written together at tick 19,899, with the entries of the queues and the settings
staged at that tick (DESIGN CHOICE, log entry 78). Updates and journal mirrors that wait for the bridge pass before it (R34). -/
def shadowTransfer (s : State) : State :=
  let l := s.sel.other
  if transferring s s.sel then
    atTick 142 19899 (fun u =>
      let t := mirrorsUpTo none (mirrorsWaiting u) (updatesFirst l u)
      if (nextMirror t).isSome then t
      else match takeShadow t l (t.lane t.sel) (t.lane l) with
        | none => t
        | some y => (t.setLane l y).modArb fun a =>
            a.modLane l fun x => { x with state := 4, running := true, syncRun := 0, syncFrom := t.time.cycle + 1, unhealthy := false }) s
  else s

/-! Votes (R415 to R418). -/

/-- The module takes part in the vote: a controller or an arbiter-only module (Table 15.9). -/
def votes (s : State) : Bool := s.power.booted && !s.isNode && decide (s.power.role ≤ 1)

def voteIn (lockedMask : Nat) (s : State) : VoteIn :=
  { img := s.image, module := s.power.module, role := s.power.role, cycle := s.time.cycle, gen := (s.image.map imgGen).getD 0, defer := deferOf s,
    obsInit := (s.lane s.sel).observer.init, locked := s.belfry.state == 1, lockedMask := lockedMask }

/-- An arbiter-only module selects Lane A, or Lane B while Lane A's Baique ports are down (R397). -/
def arbOnlySelect (s : State) : State :=
  if s.power.role = 1 then
    s.modArb fun a => { a with active := if (vget a.ports 0).up || (vget a.ports 1).up then .A else .B }
  else s

/-! The ring (R421 to R426). -/

/-- A frame of a type arrives on a port of a lane: checked, counted, forwarded; `k` takes its first copy in this module (R422, R424). -/
def ringIn (typ : Nat) (l : LaneId) (dir : RingDir) (f : Bytes) (k : Bytes → State → State) (s : State) : State :=
  if votes s && s.laneRuns l && (rfType f == typ || !rfValid f) then
    -- a frame that reached the other lane is relayed over the lane bridge; one that cannot be goes no further (R421)
    let cut := l != s.sel && s.bridgeFault
    let r := if cut then (portHeardIf (ringMe s) l dir f s.arb, false, []) else ringReceive (ringMe s) l dir f s.arb
    let port := if dir = .east then 15 else 16
    let s1 := bwCount l port f.length 0 1 (b2n (!rfValid f)) (s.modArb fun _ => r.1)
    let outs := if s.power.pfail then [] else ringCounts r.2.2
    let s2 := applyEffects (some s.sel) outs (arbOnlySelect s1)
    if r.2.1 then k f s2 else s2
  else s

/-- VOTE_FRAME_SEND (R416, R423): tick 15,000. -/
def voteOut (s : State) : State :=
  if votes s && decide (1 < ringSize s.image) then
    atTick 145 15000 (fun t =>
      let r := voteSend (voteIn 0 t) t.time.us t.arb
      if t.power.pfail then t else applyEffects (some t.sel) (ringCounts r.2) (t.modArb fun _ => r.1)) s
  else s

/-- STATE_FRAME_SEND (R419): tick 9,500 in the module in control. -/
def stateOut (s : State) : State :=
  if votes s && s.isController && s.inControl && decide (1 < ringSize s.image) && pathRuns s s.sel then
    atTick 146 9500 (fun t => ringOut 2 0 (stateBytes (t.lane t.sel).control t.host.ssn) t) s
  else s

/-- A STATE frame is held for the next control-law slot; it counts as received when every system entry up to its SSN is held (R460). -/
def stateIn (f : Bytes) (s : State) : State :=
  let p := rfPayload f
  s.modArb fun a => { a with
    stateFrame := some p, stateAt := if later32 (u32 p 12) s.host.ssn then a.stateAt else some s.time.cycle }

/-! System entries (R459 to R461). -/

/-- The entry of a JOURNAL frame (Table 16.6) as this module's journal holds it. -/
def entryIn (p : Bytes) (s : State) : JournalEntry :=
  let np := u16 p 30
  let nr := u16 p 40
  { jsn := (s.host.jsn + 1) % 2 ^ 32, ssn := u32 p 4, kind := u8 p 8, done := u8 p 9 == 1, chan := 255, seq := u32 p 12, station := u16 p 16,
    opcode := u16 p 18, tag := u16 p 20, status := u16 p 22, cycle := u32 p 24, tick := u16 p 28, params := sliceB p 64 np, boundary := u32 p 32,
    crc := u32 p 36, reply := sliceB p (64 + (np + 7) / 8 * 8) nr, epoch := u16 p 42, src := ⟨0, 0⟩, port := none }

/-- The cycle near the present one whose bits 31:0 are `b`. -/
def nearCycle (cycle b : Nat) : Nat :=
  let d := (b + 2 ^ 32 - cycle % 2 ^ 32) % 2 ^ 32
  if d < 2 ^ 31 then cycle + d else cycle + d - 2 ^ 32

/-- A staged setting of another module takes its place in SSN order (R460). -/
def stageInOrder (g : Staged) (l : List Staged) : List Staged :=
  l.takeWhile (fun x => x.ssn == 0 || decide (x.ssn < g.ssn)) ++ g :: l.dropWhile (fun x => x.ssn == 0 || decide (x.ssn < g.ssn))

/-- What a received setting does in one lane. -/
def stageIn (g : Staged) (l : LaneId) (s : State) : State :=
  let d := g.params
  s.modLane l fun x =>
    if g.opcode = 0x0604 then
      if x.image.staged = 3 then laneInstall l (gridNow s) { earliest := u32 d 0, accepted := s.time.cycle } x else x
    else
      let y : Lane := { x with staged := stageInOrder g x.staged }
      if g.opcode = 0x0605 then { y with image := imgRollbackStart { rollback := true, accepted := s.time.cycle } y.image } else y

/-- A system entry of the module in control is taken (R460, R461). -/
def systemEntry (p : Bytes) (s : State) : State :=
  let e0 := entryIn p s
  let b := if e0.boundary = 0xFFFFFFFF then none else some (metBoundary s (nearCycle s.time.cycle e0.boundary))
  let e := { e0 with boundary := (b.map (· % 2 ^ 32)).getD 0xFFFFFFFF }
  let sys : SysEntry := ⟨e.ssn, e.station, e.opcode, e.tag, e.crc, e.status, b.getD 0, e.reply, s.time.cycle⟩
  let s1 := putBoth e (s.modHost fun h =>
    let known := h.sys.filter (fun x => decide (s.time.cycle < x.cycle + 500) && x.ssn != e.ssn) ++ [sys]
    { h with jsn := e.jsn, bytes := h.bytes + e.size, sys := known, ssn := ssnRun known h.ssn })
  if e.kind = 4 then
    let s2 := s1.modHost fun h => HostState.syncToken s.time.us { h with token := { h.token with holder := u16 e.reply 0, epoch := e.epoch } }
    let cause := if e.opcode = 0x0103 then 0 else if e.opcode = 0 then 3 else if u16 e.reply 0 = 0 then 1 else 2
    if e.epoch = s.host.token.epoch then s2
    else noteAll (some s.sel) 0xF013 none (leBytes 2 (u16 e.reply 0) ++ leBytes 2 e.epoch ++ leBytes 1 cause ++ [0, 0, 0]) s2
  else
    let g : Staged := ⟨b.getD 0, e.jsn, e.ssn, e.opcode, e.params, e.station, 255, e.tag, false⟩
    ([LaneId.A, .B].filter fun l => s.laneRuns l && decide (s.laneState l ≠ 3)).foldl (fun t l => stageIn g l t) s1

/-- One JOURNAL frame of a snapshot: CYCLE, SSN, 0xFF, index, number of frames, 0, token holder, EPOCH, then settings (log entry 64). -/
def snapshotPiece (p : Bytes) (s : State) : State :=
  let key := (u32 p 0, u32 p 4, u8 p 10)
  s.modArb fun a =>
    let old := if a.snapKey = key then a.snapBuf else []
    let buf := if old.any (·.1 == u8 p 9) then old else old ++ [(u8 p 9, p.drop 16)]
    let all := (List.range (u8 p 10)).map fun k => buf.find? (·.1 == k)
    if all.all Option.isSome then
      { a with snapKey := key, snapBuf := [],
               snapIn := if later32 (u32 p 4) s.host.ssn then some (u32 p 4, u16 p 12, u16 p 14, all.flatMap fun x => (x.map (·.2)).getD []) else a.snapIn }
    else { a with snapKey := key, snapBuf := buf }

/-- JOURNAL_FRAME_RECEIVE (R460, R461): byte 8 of the payload, KIND, tells an entry from a piece of a snapshot. -/
def journalIn (f : Bytes) (s : State) : State :=
  let p := rfPayload f
  if u8 p 8 = 0xFF then snapshotPiece p s
  else if (s.host.sys.any fun e => e.ssn == u32 p 4 && e.crc == u32 p 36) then s
  else systemEntry p s

/-- The SSN of the last system entry in force or passed: those still staged come after it (R461). -/
def snapSsn (s : State) : Nat :=
  (s.lane s.sel).staged.foldl (fun n g => if g.ssn ≠ 0 ∧ g.ssn ≤ n then g.ssn - 1 else n) s.host.ssn

/-- The payloads of a snapshot. -/
def snapshotFrames (s : State) : List Bytes :=
  let d := settingsBytes (gnssWord s.oculus) (s.lane s.sel)
  let n := (d.length + 471) / 472
  (List.range n).map fun k =>
    leBytes 4 (s.time.cycle % 2 ^ 32) ++ leBytes 4 (snapSsn s) ++ [0xFF, BitVec.ofNat 8 k, BitVec.ofNat 8 n, 0] ++ leBytes 2 s.host.token.holder
      ++ leBytes 2 s.host.token.epoch ++ sliceB d (472 * k) 472

/-- JOURNAL_SNAPSHOT (R461): tick 17,000 of phase 25 in the module in control. -/
def snapshotOut (s : State) : State :=
  if votes s && s.inControl && decide (1 < ringSize s.image) && s.phase == 25 then
    atTick 148 17000 (fun t => (snapshotFrames t).foldl (fun u p => ringOut 6 0 p u) t) s
  else s

/-! Images of the ring (R95). -/

/-- Staged, verified and installed generation of this module. -/
def ownHold (s : State) : Nat × Nat × Nat :=
  let g := (s.lane s.sel).image
  let ready := (commitLanes s).all fun l => (s.lane l).image.staged == 6
  (if g.staged = 0 then 0 else g.gen, if g.staged = 3 ∨ g.staged = 5 ∨ g.staged = 6 then g.gen else 0, if g.staged = 6 ∧ ready = true then g.gen else 0)

/-- A module marked IMAGE_LAG installs the generation of the module in control once it is verified (R95, R428). -/
def catchUp (s : State) : State :=
  let lead := s.arb.votes.toList.any fun v => match v with
    | some x => x.inControl && x.gen == (s.lane s.sel).image.gen
    | none => false
  if s.arb.imageLag && lead && (s.lane s.sel).image.staged == 3 then
    ([LaneId.A, .B]).foldl (fun t l => t.modLane l fun x => if x.image.staged = 3 then laneInstall l (gridNow s) { accepted := s.time.cycle, agreed := some 0 } x else x) s
  else s

/-- IMAGE_HOLD, sent once per long cycle (R95, Table 15.7). -/
def holdOut (s0 : State) : State :=
  let s := catchUp s0
  if votes s && decide (1 < ringSize s.image) && s.arb.holdSent != some (s.time.cycle / 50) then
    let h := ownHold s
    ringOut 7 0 (leBytes 4 h.1 ++ leBytes 4 h.2.1 ++ leBytes 4 h.2.2) (s.modArb fun a => { a with holdSent := some (s.time.cycle / 50) })
  else s

def holdIn (f : Bytes) (s : State) : State :=
  let p := rfPayload f
  s.modArb fun a => { a with holds := vmodN a.holds (rfSrc f - 1) fun _ => (u32 p 0, u32 p 4, u32 p 8) }

/-- The agreed boundary is put into the commits of a generation. -/
def agree (gen b : Nat) (s : State) : State :=
  s.modLanes fun x => match x.image.commit with
    | some c => if x.image.gen = gen ∧ c.rollback = false then { x with image := { x.image with commit := some { c with agreed := some b } } } else x
    | none => x

/-- IMAGE_COMMIT_FRAME in the module in control: every running module holds the generation, verified and installed (R95). -/
def commitOut (s : State) : State :=
  let g := (s.lane s.sel).image
  let mine := (ownHold s).2.2
  let others := [1, 2, 3].all fun m => m == s.power.module || decide (ringSize s.image < m) ||
    !running s.image s.power.module s.time.cycle s.arb m || (vget s.arb.holds (m - 1)).2.2 == g.gen
  match g.commit with
  | some c =>
    if votes s && s.inControl && imgMulti g.data && c.agreed.isNone && !c.rollback && mine == g.gen && g.staged == 6 && others then
      let b := max (s.time.cycle + 2) (if c.earliest = 0 then 0 else nearCycle s.time.cycle c.earliest)
      ringOut 8 0 (leBytes 4 (b % 2 ^ 32) ++ leBytes 4 g.gen) (agree g.gen b s)
    else s
  | none => s

def commitIn (f : Bytes) (s : State) : State :=
  let p := rfPayload f
  agree (u32 p 4) (nearCycle s.time.cycle (u32 p 0)) s

/-- The module marked IMAGE_LAG that the module in control serves. -/
def laggard (s : State) : Option Nat :=
  [1, 2, 3].find? fun m => m != s.power.module && match vget s.arb.votes (m - 1) with
    | some v => bitOf 7 v.vflags && running s.image s.power.module s.time.cycle s.arb m
    | none => false

/-- IMAGE_DATA_FRAME in the module in control: generation, size, offset, up to 480 bytes of the active image (R423). -/
def dataOut (s : State) : State :=
  match laggard s, s.laneImg s.sel with
  | some m, some i =>
    if votes s && s.inControl then
      let off := if s.arb.dataTo.1 = m ∧ s.arb.dataTo.2 < i.length then s.arb.dataTo.2 else 0
      ringOut 9 m (leBytes 4 (imgGen i) ++ leBytes 4 i.length ++ leBytes 4 off ++ sliceB i off 480) (s.modArb fun a => { a with dataTo := (m, off + 480) })
    else s
  | _, _ => s

/-- Image bytes reach a module marked IMAGE_LAG; the complete image is verified (R95, R428). -/
def dataIn (f : Bytes) (s : State) : State :=
  let p := rfPayload f
  let take (g : ImgState) : ImgState :=
    if imgInstalling g || (g.gen == u32 p 0 && (g.staged == 2 || g.staged == 3)) then g
    else
      let g1 := if g.gen = u32 p 0 ∧ g.size = u32 p 4 ∧ g.staged ≠ 0 then g else imgBegin (u32 p 4) (u32 p 0) 0 g
      let g2 := imgData (u32 p 8) (p.drop 12) g1
      if g2.gaps = [] then imgVerifyStart none g2 else g2
  if s.arb.imageLag && decide (u32 p 8 + (p.length - 12) ≤ u32 p 4) && decide (u32 p 4 ≤ 0x600000) then s.modLanes fun x => { x with image := take x.image } else s

/-! Beacons and ports (R425). -/

/-- BEACON: a port of the selected lane sends one, or a port of a lane counts one. -/
def beaconWork (l : LaneId) (dir : RingDir) (rx : Bool) (s : State) : State :=
  if !votes s || decide (ringSize s.image ≤ 1) || !s.laneRuns l then s
  else if rx then arbOnlySelect (bwCount l (if dir = .east then 15 else 16) 20 0 1 0 (s.modArb (portHeard s.time.us l dir)))
  else if l = s.sel ∧ s.power.pfail = false then
    let me := ringMe s
    let f := ringFrame 10 (me.module + 4 * l.num) 0 (if dir = .east then 0 else 128) (vget s.arb.seqs 10) me.cycle me.gen []
    applyEffects (some l) (ringCounts [.out (.ring dir f)]) (s.modArb fun a => { a with seqs := vmodN a.seqs 10 fun n => (n + 1) % 65536 })
  else s

/-- BAIQUE_PORT_DOWN (R425). -/
def portDownWork (l : LaneId) (dir : RingDir) (lockLost : Bool) (s : State) : State :=
  if votes s then arbOnlySelect (s.modArb (portDown s.image s.time.us l dir lockLost)) else s

/-! The time exchange (R426). -/

/-- TIME_EXCHANGE_START at the time master: tick 500 of phase 10. -/
def timeStart (t1 : Int) (s : State) : State :=
  if votes s && s.arb.timeMaster && decide (1 < ringSize s.image) && s.phase == 10 then
    atTick 147 500 (fun t => ringOut 3 0 (leSigned 8 t1) t) s
  else s

/-- TIME_SYNC at the others: its arrival is stamped. -/
def timeSyncIn (t2 : Int) (f : Bytes) (s : State) : State :=
  if s.arb.timeMaster then s
  else s.modArb fun a => { a with timeEx := { a.timeEx with
    t1 := some (s64 (rfPayload f) 0), t2 := some t2, t3 := none, t4 := none, cycle := s.time.cycle, peer := rfSrc f } }

/-- TIME_DELAY at tick 700 from a module that has TIME_SYNC; its departure is stamped. -/
def timeDelayOut (t3 : Int) (s : State) : State :=
  let x := s.arb.timeEx
  if votes s && x.t2.isSome && x.t3.isNone && x.cycle == s.time.cycle && !s.arb.timeMaster then
    atTick 149 700 (fun t => ringOut 4 x.peer (leSigned 8 t3) (t.modArb fun a => { a with timeEx := { a.timeEx with t3 := some t3 } })) s
  else s

/-- TIME_DELAY at the master: its arrival goes back in TIME_REPLY, with OFFSET, EST_ERR and whether the master's state makes Baique valid (Table 6.1). -/
def timeDelayIn (t4 : Int) (f : Bytes) (s : State) : State :=
  if s.arb.timeMaster then
    let b := s.belfry
    ringOut 5 (rfSrc f) (leSigned 8 t4 ++ leSigned 8 b.offsetNs ++ leBytes 4 b.estErr ++ leBytes 1 (b2n (b.state == 1 || b.state == 2 || b.state == 3))) s
  else s

/-- TIME_REPLY: the exchange is complete. Half of t2 - t1 - t4 + t3 is this module's offset from the master. -/
def timeReplyIn (f : Bytes) (s : State) : State :=
  let p := rfPayload f
  let x := s.arb.timeEx
  match x.t1, x.t2, x.t3 with
  | some a, some b, some c =>
    if x.cycle = s.time.cycle ∧ x.peer = rfSrc f then
      let d : ℚ := -(((b - a - s64 p 0 + c : Int) : ℚ) / 2)
      syncTimeLost (s.modArb fun y => { y with timeEx := { y.timeEx with
        t4 := some (s64 p 0), result := some (d, ((s64 p 8 : Int) : ℚ), u32 p 16, u8 p 20 == 1), doneAt := s.time.cycle } })
    else s
  | _, _, _ => s

end Sys2Proof.Machine
end

