-- ==== Sys2Proof/Machine/HostExec.lean ====
section
/-! DEFINITION. The meanings of the host commands (rows of chapters 16 and 17): packets, sessions, token, every opcode, the journal. -/

namespace Sys2Proof.Machine

/-- A command always leaves a next state. -/
abbrev Out := Host.Outcome State Fault Refusal

/-- PACKET_RECEIVE (R432, R433, R436 to R440). -/
def execPacketReceive (p : EthPort) (src : Source) (sound : Bool) (raw : Bytes) (s : State) : Out := .next (packetReceive p src sound raw s)

/-- SVC_WRITE (R434). -/
def execSvcWrite (raw : Bytes) (s : State) : Out := .next (svcWrite raw s)

/-- SVC_READ (R434). -/
def execSvcRead (s : State) : Out := .next (svcRead s)

/-- SVC_STATUS (R434). -/
def execSvcStatus (s : State) : Out := .next (svcStatus s)

/-- SESSION_OPEN (R437): the oldest waiting source, or the service port. -/
def execSessionOpen (svc : Bool) (s : State) : Out := .next (if svc then serveSvcOpen s else serveOpen s)

/-- SESSION_CLOSE (R438): the session closes once the reply is sent. -/
def execSessionClose (p : HostPort) (s : State) : Out := .next (hostCommand acts p 0x0102 chkClose s)

/-- TOKEN_REQUEST (R442, R443). -/
def execTokenRequest (p : HostPort) (s : State) : Out := .next (hostCommand acts p 0x0103 (chkTokenRequest p) s)

/-- TOKEN_RELEASE (R442). -/
def execTokenRelease (p : HostPort) (s : State) : Out := .next (hostCommand acts p 0x0104 (chkTokenRelease p) s)

/-- KEEPALIVE (R454). -/
def execKeepalive (p : HostPort) (s : State) : Out := .next (hostCommand acts p 0x0105 (chkKeepalive p) s)

/-- NOTIFY_RESEND (R454). -/
def execNotifyResend (p : HostPort) (s : State) : Out := .next (hostCommand acts p 0x0106 (chkNotifyResend p) s)

/-- CHANNEL_STATUS (R439). -/
def execChannelStatus (p : HostPort) (s : State) : Out := .next (hostCommand acts p 0x0107 (chkChannelStatus p) s)

/-- MODE_SET (R248): requests a mode, checked against the mode expected at its boundary and staged for it. -/
def execModeSet (p : HostPort) (s : State) : Out := .next (hostCommand acts p 0x0201 chkModeSet s)

/-- MODE_STATUS (R468, Table 17.3). -/
def execModeStatus (p : HostPort) (s : State) : Out := .next (hostCommand acts p 0x0202 chkModeStatus s)

/-- SP_POSITION (R251): stages the position setpoint. -/
def execSpPosition (p : HostPort) (s : State) : Out := .next (hostCommand acts p 0x0301 chkSpPosition s)

/-- SP_HEADING (R251): stages the heading setpoint or offset. -/
def execSpHeading (p : HostPort) (s : State) : Out := .next (hostCommand acts p 0x0302 chkSpHeading s)

/-- SP_SITE_ORIGIN (R193): stages a site origin. -/
def execSpSiteOrigin (p : HostPort) (s : State) : Out := .next (hostCommand acts p 0x0303 chkSpSiteOrigin s)

/-- SP_TRACK (R254): stages a track. -/
def execSpTrack (p : HostPort) (s : State) : Out := .next (hostCommand acts p 0x0304 chkSpTrack s)

/-- SP_TARGET_OFFSET (R255): stages the target offset. -/
def execSpTargetOffset (p : HostPort) (s : State) : Out := .next (hostCommand acts p 0x0305 chkSpTargetOffset s)

/-- SP_JOYSTICK (R256): stages the joystick fractions. -/
def execSpJoystick (p : HostPort) (s : State) : Out := .next (hostCommand acts p 0x0306 chkSpJoystick s)

/-- SP_READ (R468): every setpoint in force. -/
def execSpRead (p : HostPort) (s : State) : Out := .next (hostCommand acts p 0x0307 chkSpRead s)

/-- REF_SELECT (R213, R469). -/
def execRefSelect (p : HostPort) (s : State) : Out := .next (hostCommand acts p 0x0401 chkRefSelect s)

/-- CHANNEL_SELECT (R117, R469). -/
def execChannelSelect (p : HostPort) (s : State) : Out := .next (hostCommand acts p 0x0402 chkChannelSelect s)

/-- GNSS_SELECT (R148). -/
def execGnssSelect (p : HostPort) (s : State) : Out := .next (hostCommand acts p 0x0403 chkGnssSelect s)

/-- GNSS_NOISE_REF (R141): its reply follows the 100 ms average (NOTCH_MONITOR). -/
def execGnssNoiseRef (p : HostPort) (s : State) : Out := .next (hostCommand acts p 0x0404 chkGnssNoiseRef s)

/-- REF_READ (R469). -/
def execRefRead (p : HostPort) (s : State) : Out := .next (hostCommand acts p 0x0405 chkRefRead s)

/-- CHANNEL_READ (R469). -/
def execChannelRead (p : HostPort) (s : State) : Out := .next (hostCommand acts p 0x0406 chkChannelRead s)

/-- THR_AVAILABLE (R306): stages selection or deselection of a thruster. -/
def execThrAvailable (p : HostPort) (s : State) : Out := .next (hostCommand acts p 0x0501 chkThrAvailable s)

/-- THR_START (R322): stages a start request. -/
def execThrStart (p : HostPort) (s : State) : Out := .next (hostCommand acts p 0x0502 chkThrOne s)

/-- THR_STOP (R323): stages the removal of a start. -/
def execThrStop (p : HostPort) (s : State) : Out := .next (hostCommand acts p 0x0503 chkThrOne s)

/-- ALLOC_READ (R470). -/
def execAllocRead (p : HostPort) (s : State) : Out := .next (hostCommand acts p 0x0504 chkAllocRead s)

/-- CONSEQ_READ (R470). -/
def execConseqRead (p : HostPort) (s : State) : Out := .next (hostCommand acts p 0x0505 chkConseqRead s)

/-- IMAGE_BEGIN (R88, R472). -/
def execImageBegin (p : HostPort) (s : State) : Out := .next (hostCommand acts p 0x0601 chkImageBegin s)

/-- IMAGE_DATA (R89, R472). -/
def execImageData (p : HostPort) (s : State) : Out := .next (hostCommand acts p 0x0602 chkImageData s)

/-- IMAGE_VERIFY (R92): verification starts in both lanes. -/
def execImageVerify (p : HostPort) (s : State) : Out := .next (hostCommand acts p 0x0603 chkImageVerify s)

/-- IMAGE_COMMIT (R93, R100, R472): installation starts. -/
def execImageCommit (p : HostPort) (s : State) : Out := .next (hostCommand acts p 0x0604 chkImageCommit s)

/-- IMAGE_ROLLBACK (R98). -/
def execImageRollback (p : HostPort) (s : State) : Out := .next (hostCommand acts p 0x0605 chkImageRollback s)

/-- IMAGE_STATUS (R471). -/
def execImageStatus (p : HostPort) (s : State) : Out := .next (hostCommand acts p 0x0606 chkImageStatus s)

/-- TIER_FLOOR (R72). -/
def execTierFloor (p : HostPort) (s : State) : Out := .next (hostCommand acts p 0x0607 chkTierFloor s)

/-- KEEP_INFO (R473), by the Watchtower. -/
def execKeepInfo (p : HostPort) (s : State) : Out := .next (hostCommand acts p 0x0701 chkForward s)

/-- KEEP_READ (R502, R473), by the Watchtower. -/
def execKeepRead (p : HostPort) (s : State) : Out := .next (hostCommand acts p 0x0702 chkForward s)

/-- KEEP_MARK (R473), by the Watchtower. -/
def execKeepMark (p : HostPort) (s : State) : Out := .next (hostCommand acts p 0x0703 chkForward s)

/-- HEALTH_READ (R474). -/
def execHealthRead (p : HostPort) (s : State) : Out := .next (hostCommand acts p 0x0801 chkHealthRead s)

/-- ARB_READ (R474), by the Watchtower. -/
def execArbRead (p : HostPort) (s : State) : Out := .next (hostCommand acts p 0x0802 chkForward s)

/-- REG_READ (R474): lane words on a host channel, Watchtower words on the service port. -/
def execRegRead (p : HostPort) (s : State) : Out := .next (hostCommand acts p 0x0803 (if p = .svc then chkForward else chkRegRead) s)

/-- NET_TEST (R347): takes effect at the next tick 19,900 (NET_PEER_COUNT). -/
def execNetTest (p : HostPort) (s : State) : Out := .next (hostCommand acts p 0x0804 chkNetTest s)

/-- NET_RESTART (R347): takes effect at the next tick 19,900 (NET_PEER_COUNT). -/
def execNetRestart (p : HostPort) (s : State) : Out := .next (hostCommand acts p 0x0805 chkNetRestart s)

/-- ID_CLEAR (R355). -/
def execIdClear (p : HostPort) (s : State) : Out := .next (hostCommand acts p 0x0806 chkIdClear s)

/-- LANE_RESTART (R409, R474), by the Watchtower. -/
def execLaneRestart (p : HostPort) (s : State) : Out := .next (hostCommand acts p 0x0807 chkForward s)

/-- GNSS_RAW_READ (R150, R474). -/
def execGnssRawRead (p : HostPort) (s : State) : Out := .next (hostCommand acts p 0x0808 chkGnssRawRead s)

/-- TIME_READ (R474). -/
def execTimeRead (p : HostPort) (s : State) : Out := .next (hostCommand acts p 0x0809 chkTimeRead s)

/-- ALARM_ACK (R475). -/
def execAlarmAck (p : HostPort) (s : State) : Out := .next (hostCommand acts p 0x080A chkAlarmAck s)

/-- ALARM_LIST (R474). -/
def execAlarmList (p : HostPort) (s : State) : Out := .next (hostCommand acts p 0x080B chkAlarmList s)

/-- SAFETY_STATUS (R476), by the Watchtower. -/
def execSafetyStatus (p : HostPort) (s : State) : Out := .next (hostCommand acts p 0x0901 chkForward s)

/-- SAFETY_BLOCK_LOAD (R386), by the Watchtower. -/
def execSafetyBlockLoad (p : HostPort) (s : State) : Out := .next (hostCommand acts p 0x0902 chkForward s)

/-- SAFETY_BLOCK_READ (R476), by the Watchtower. -/
def execSafetyBlockRead (p : HostPort) (s : State) : Out := .next (hostCommand acts p 0x0903 chkForward s)

/-- SAFETY_CONFIRM (R387, R477), by the Watchtower; an accepted one is answered after its activation. -/
def execSafetyConfirm (p : HostPort) (s : State) : Out := .next (hostCommand acts p 0x0904 chkForward s)

/-- SAFETY_ZONE_REQUEST (R393, R477), by the Watchtower. -/
def execSafetyZoneRequest (p : HostPort) (s : State) : Out := .next (hostCommand acts p 0x0905 chkForward s)

/-- SAFETY_PROOF_TEST (R390, R476), by the Watchtower. -/
def execSafetyProofTest (p : HostPort) (s : State) : Out := .next (hostCommand acts p 0x0906 chkForward s)

/-- CNT_CONFIG (R517, R478). -/
def execCntConfig (p : HostPort) (s : State) : Out := .next (hostCommand acts p 0x0A01 (fun d t => chkCntConfig d (engSession p t)) s)

/-- CNT_READ (R521, R478). -/
def execCntRead (p : HostPort) (s : State) : Out := .next (hostCommand acts p 0x0A02 chkCntRead s)

/-- CNT_CLEAR (R516, R478). -/
def execCntClear (p : HostPort) (s : State) : Out := .next (hostCommand acts p 0x0A03 (fun d t => chkCntClear d (engSession p t)) s)

/-- BW_READ (R526, R478). -/
def execBwRead (p : HostPort) (s : State) : Out := .next (hostCommand acts p 0x0A04 chkBwRead s)

/-- LTN_STATUS (R479), by the Watchtower. -/
def execLtnStatus (p : HostPort) (s : State) : Out := .next (hostCommand acts p 0x0B01 chkForward s)

/-- LTN_SHOW (R510), by the Watchtower. -/
def execLtnShow (p : HostPort) (s : State) : Out := .next (hostCommand acts p 0x0B02 chkForward s)

/-- LTN_CLEAR (R510), by the Watchtower. -/
def execLtnClear (p : HostPort) (s : State) : Out := .next (hostCommand acts p 0x0B03 chkForward s)

/-- LTN_POWER (R512), by the Watchtower. -/
def execLtnPower (p : HostPort) (s : State) : Out := .next (hostCommand acts p 0x0B04 chkForward s)

/-- GAIN_WRITE (R268, R480). -/
def execGainWrite (p : HostPort) (s : State) : Out := .next (hostCommand acts p 0x0C01 (fun d t => chkGainWrite (engSession p t) d t) s)

/-- GAIN_REVERT (R268, R480). -/
def execGainRevert (p : HostPort) (s : State) : Out := .next (hostCommand acts p 0x0C02 (fun _ t => engWrite (engSession p t) t) s)

/-- GAIN_READ (R480). -/
def execGainRead (p : HostPort) (s : State) : Out := .next (hostCommand acts p 0x0C03 chkGainRead s)

/-- OPCODE_UNKNOWN (R463): the head of the port carries an opcode of no table. -/
def execOpcodeUnknown (p : HostPort) (s : State) : Out :=
  .next (match headNow p s with
    | some pkt => if (opSpec pkt.opcode).isNone then serve acts p (fun _ _ => .refuse ST_OPCODE []) pkt (visited p s) else s
    | none => s)

/-- JOURNAL_MIRROR_COMPLETE (R446): of a port's command, or of the oldest refused SESSION_OPEN. -/
def execJournalMirrorComplete (p : Option HostPort) (s : State) : Out := .next (mirrorComplete p s)

/-- JOURNAL_HOLD_ELAPSED (R460). -/
def execJournalHoldElapsed (p : HostPort) (s : State) : Out := .next (holdElapsed p s)

/-- WATCHTOWER_ACTION_RESULT (R449). -/
def execWatchtowerActionResult (p : HostPort) (s : State) : Out := .next (wtResult p s)

/-- SESSION_TIMEOUT (R438). -/
def execSessionTimeout (p : HostPort) (s : State) : Out := .next (sessionTimeout p s)

/-- TOKEN_SESSION_LOSS (R442). -/
def execTokenSessionLoss (s : State) : Out := .next (tokenSessionLoss s)

/-- TOKEN_HOLD_END (R443). -/
def execTokenHoldEnd (c : Fin 4) (s : State) : Out := .next (tokenHoldEnd c s)

end Sys2Proof.Machine
end

