-- ==== Sys2Proof/Machine/ArbExec.lean ====
section
/-! DEFINITION. The meanings of the arbiter rows (chapter 15): lanes, votes, control, the Baique ring, and JOURNAL_SNAPSHOT. -/

namespace Sys2Proof.Machine

/-- JOURNAL_SNAPSHOT (R461). -/
def execJournalSnapshot (s : State) : Out := .next (snapshotOut s)

/-- DIGEST_RECEIVE (R398). -/
def execDigestReceive (l : LaneId) (s : State) : Out := .next (digestIn l s)

/-- DIGEST_COMPARE (R399 to R402, R408), at the output stage's end tick plus 200. -/
def execDigestCompare (s : State) : Out :=
  .next (match compareTick s with
    | some t => if arbitrates s then atTick 140 t compareWork s else s
    | none => s)

/-- LANE_SWITCHOVER (R403 to R405, R412, R456), at the effective boundary. -/
def execLaneSwitchover (s : State) : Out :=
  .next (if arbitrates s then atBoundary (fun b => (switchDue s.image b s.arb).isSome) laneSwitch s else s)

/-- TAKEBACK_EVAL (R412, R413), at tick 19,900. -/
def execTakebackEval (s : State) : Out :=
  .next (if arbitrates s then atTick 141 19900 (fun t => t.modArb (takebackEval t.image t.time.cycle (deferOf t))) s else s)

/-- LANE_WAKE (R406, R409). -/
def execLaneWake (l : LaneId) (s : State) : Out := .next (laneWakeUp l s)

/-- LANE_SELFTEST_DONE (R406, R537). -/
def execLaneSelftestDone (l : LaneId) (pass : Bool) (s : State) : Out := .next (selftestDone l pass s)

/-- LANE_LOAD_DONE (R94, R406). -/
def execLaneLoadDone (l : LaneId) (s : State) : Out := .next (loadDone l s)

/-- SHADOW_TRANSFER (R407). -/
def execShadowTransfer (s : State) : Out := .next (shadowTransfer s)

/-- VOTE_FORM (R415 to R418, R425, R427), at tick 19,900; `locked` says which other modules are LOCKED (log entry 44). -/
def execVoteForm (locked : Nat) (s : State) : Out :=
  .next (if votes s then atTick 143 19900 (fun t => t.modArb (voteForm (voteIn locked t))) s else s)

/-- MODULE_CONTROL_CHANGE (R414, R418, R420), at the boundary that follows the vote. -/
def execModuleControlChange (s : State) : Out :=
  .next (if votes s && s.arb.pendCtl.isSome then moduleChange (s.time.cycle + 1) (advanceTo 19999 s) else s)

/-- ARB_EXT_CHANGE (R417): the lines are inputs in the controller role. -/
def execArbExtChange (a b : Bool) (s : State) : Out :=
  .next (if s.power.booted && s.isController then s.modArb fun x => { x with extA := a, extB := b } else s)

/-- VOTE_FRAME_SEND (R416, R423), at tick 15,000. -/
def execVoteFrameSend (s : State) : Out := .next (voteOut s)

/-- VOTE_FRAME_RECEIVE (R424). -/
def execVoteFrameReceive (l : LaneId) (dir : RingDir) (frame : Bytes) (s : State) : Out :=
  .next (ringIn 1 l dir frame (fun f t => t.modArb (voteTake t.time.cycle f)) s)

/-- STATE_FRAME_SEND (R419), at tick 9,500. -/
def execStateFrameSend (s : State) : Out := .next (stateOut s)

/-- STATE_FRAME_RECEIVE (R419, R460). -/
def execStateFrameReceive (l : LaneId) (dir : RingDir) (frame : Bytes) (s : State) : Out := .next (ringIn 2 l dir frame stateIn s)

/-- JOURNAL_FRAME_RECEIVE (R460, R461). -/
def execJournalFrameReceive (l : LaneId) (dir : RingDir) (frame : Bytes) (s : State) : Out := .next (ringIn 6 l dir frame journalIn s)

/-- IMAGE_HOLD (R95): sent, or received. -/
def execImageHold (rx : Option (LaneId × RingDir × Bytes)) (s : State) : Out :=
  .next (match rx with
    | some (l, dir, f) => ringIn 7 l dir f holdIn s
    | none => holdOut s)

/-- IMAGE_COMMIT_FRAME (R95): sent, or received. -/
def execImageCommitFrame (rx : Option (LaneId × RingDir × Bytes)) (s : State) : Out :=
  .next (match rx with
    | some (l, dir, f) => ringIn 8 l dir f commitIn s
    | none => commitOut s)

/-- IMAGE_DATA_FRAME (R95, R428): sent, or received. -/
def execImageDataFrame (rx : Option (LaneId × RingDir × Bytes)) (s : State) : Out :=
  .next (match rx with
    | some (l, dir, f) => ringIn 9 l dir f dataIn s
    | none => dataOut s)

/-- BEACON (R425): `rx` on reception. -/
def execBeacon (l : LaneId) (dir : RingDir) (rx : Bool) (s : State) : Out := .next (beaconWork l dir rx s)

/-- BAIQUE_PORT_DOWN (R425). -/
def execBaiquePortDown (l : LaneId) (dir : RingDir) (lockLost : Bool) (s : State) : Out := .next (portDownWork l dir lockLost s)

/-- TIME_EXCHANGE_START (R426), at tick 500 of phase 10. -/
def execTimeExchangeStart (t1 : Int) (s : State) : Out := .next (timeStart t1 s)

/-- TIME_SYNC (R426). -/
def execTimeSync (l : LaneId) (dir : RingDir) (frame : Bytes) (t2 : Int) (s : State) : Out := .next (ringIn 3 l dir frame (timeSyncIn t2) s)

/-- TIME_DELAY (R426): sent by the slave, or received by the master. -/
def execTimeDelay (rx : Option (LaneId × RingDir × Bytes)) (t : Int) (s : State) : Out :=
  .next (match rx with
    | some (l, dir, f) => ringIn 4 l dir f (timeDelayIn t) s
    | none => timeDelayOut t s)

/-- TIME_REPLY (R426). -/
def execTimeReply (l : LaneId) (dir : RingDir) (frame : Bytes) (s : State) : Out := .next (ringIn 5 l dir frame timeReplyIn s)

end Sys2Proof.Machine
end

