-- ==== Sys2Proof/Machine/CycleExec.lean ====
section
/-! DEFINITION. The meanings of the rows of chapters 2, 3 and 7 to 12: the boundary, images under way, the slots of the cycle, its guard window. -/

namespace Sys2Proof.Machine

/-- CYCLE_BOUNDARY (R57). -/
def execCycleBoundary (s : State) : Out := .next (cycleBoundary s)

/-- COMMIT_ABANDON_TIMEOUT (R94). -/
def execCommitAbandonTimeout (s : State) : Out := .next (([.A, .B] : List LaneId).foldl abandonLane s)

/-- IMAGE_VERIFY_DONE (R92). -/
def execImageVerifyDone (s : State) : Out := .next (verifyDone s)

/-- IMAGE_INSTALL_DONE (R93, R97). -/
def execImageInstallDone (l : LaneId) (s : State) : Out := .next (installDone l s)

/-- SNAPSHOT (R32), at its slot's start tick. -/
def execSnapshot (l : LaneId) (s : State) : Out := .next (slotStart l 2 (snapshotSlot l) s)

/-- FILTER_HANDOFF (R184). -/
def execFilterHandoff (l : LaneId) (s : State) : Out := .next (slotStart l 1 (handoffSlot l) s)

/-- CUPOLA_FUSION (R189), at the end of Cupola's last slot. -/
def execCupolaFusion (l : LaneId) (s : State) : Out :=
  .next (slotWork l 3 (fun i => imgLastSlotFor i (s.lane l).pmu.tier 3) (·.stop) (fusionSlot l) s)

/-- OBSERVER_RUN (R221). -/
def execObserverRun (l : LaneId) (s : State) : Out := .next (slotStart l 4 (observerSlot l) s)

/-- CONTROL_LAW_SLOT (R240). -/
def execControlLawSlot (l : LaneId) (s : State) : Out := .next (slotStart l 5 (controlLawSlot l) s)

/-- DELTA_PACKET_SLOT (R284). -/
def execDeltaPacketSlot (l : LaneId) (s : State) : Out := .next (slotStart l 6 (deltaPacketSlot l) s)

/-- CONSEQ_INPUT_WRITE (R298): in the Spire write grant of a cycle of phase 0. -/
def execConseqInputWrite (l : LaneId) (s : State) : Out :=
  .next (match (s.laneImg l).bind fun i => imgSlotFor i (s.lane l).pmu.tier 12 with
    | some sl =>
      if pathRuns s l && s.phase == 0 && clocked s l 0 then
        atTick (laneCodeOf 70 l) sl.start (fun t => t.modLane l fun x => { x with alloc := cqWrite (allocIn t l) x.alloc }) s
      else s
    | none => s)

/-- ALLOCATION_SOLVE (R292): the solve finishes before its end tick. -/
def execAllocationSolve (l : LaneId) (setupClk iterClk : Nat) (s : State) : Out :=
  .next (slotStart l 7 (allocationSlot l setupClk iterClk none) s)

/-- ALLOCATION_DEADLINE (R295): the end tick finds the solve unfinished. -/
def execAllocationDeadline (l : LaneId) (stop : StopAt) (s : State) : Out :=
  .next (slotWork l 7 (fun i => imgSlotFor i (s.lane l).pmu.tier 7) (·.stop) (deadlineSlot l stop) s)

/-- OUTPUT_STAGE (R319), at its end. -/
def execOutputStage (l : LaneId) (s : State) : Out :=
  .next (slotWork l 8 (fun i => imgLastSlotFor i (s.lane l).pmu.tier 8) (·.stop) (outputSlot l) s)

/-- CONSEQUENCE_STEP (R299): `ok` when the step finished; one that did not is left to SLOT_END_TICK. -/
def execConsequenceStep (l : LaneId) (slot : Nat) (ok : Bool) (s : State) : Out :=
  .next (spareSlot l slot (fun sl => sl.purpose == 9 && planNow s l != 0 && ok) (fun _ t => consequenceWork l true t) s)

/-- SELFTEST_SEGMENT (R410): in a self-test slot, or in the consequence slot of a phase that the plan gives to self-test; of the engine in rotation, or of
a slot whose segment was discarded in the long cycle before (R52). -/
def execSelftestSegment (l : LaneId) (slot : Nat) (pass : Bool) (s : State) : Out :=
  .next (spareSlot l slot (testSlot s l) (fun sl t => testRepeated l sl (testWork l (engineOf sl.island) pass t)) s)

/-- BUILTIN_TEST (R528). -/
def execBuiltinTest (l : Option LaneId) (island : Nat) (pass : Bool) (s : State) : Out :=
  let known := match l with
    | some k => s.laneRuns k && s.islandRuns k island && [0, 4, 5, 6].contains island
    | none => decide (island < 2) && (decide (island = 1) || s.power.skyOn)
  .next (if known && !pass then builtinFail l island s else s)

/-- SLOT_END_TICK (R64). -/
def execSlotEndTick (l : LaneId) (slot used : Nat) (done : Bool) (s : State) : Out := .next (slotEnd l slot used done s)

/-- CLOCK_MEASURE (R61). -/
def execClockMeasure (l : LaneId) (clocks : Vector Nat 9) (s : State) : Out := .next (clockMeasure l clocks s)

/-- STAGING_CLOSE (R56). -/
def execStagingClose (l : LaneId) (s : State) : Out :=
  .next (if s.laneRuns l then
    atTick (laneCodeOf 61 l) (closeTick s) (stageClose l) s
  else s)

/-- REMOVAL_MASK_REQUEST (R59). -/
def execRemovalMaskRequest (l : LaneId) (s : State) : Out :=
  .next (if pathRuns s l then atTick (laneCodeOf 62 l) 19900 (maskRequest l) s else s)

/-- ALARM_EVALUATION (R86). -/
def execAlarmEvaluation (l : LaneId) (s : State) : Out :=
  .next (if coreRuns s l 1 then atTick (laneCodeOf 63 l) 19910 (alarmWork l) s else s)

/-- CONSEQ_PUBLISH (R325). -/
def execConseqPublish (l : LaneId) (s : State) : Out :=
  .next (if pathRuns s l && s.phase == 49 then atTick (laneCodeOf 64 l) 19910 (publishWork l) s else s)

/-- STANDBY_HEALTH (R411). -/
def execStandbyHealth (s : State) : Out :=
  .next (match s.activeLane with
    | some l => if s.phase = 49 then atTick 130 19910 (healthReport l) s else s
    | none => s)

/-- START_TIMEOUT (R323). -/
def execStartTimeout (l : LaneId) (s : State) : Out := .next (if pathRuns s l then startTimeout l s else s)

end Sys2Proof.Machine
end

