-- ==== Sys2Proof/Machine/IngestExec.lean ====
section
/-! DEFINITION. The meanings of the rows of chapters 1, 4 and 7: serial and Ethernet sensors, the store, the links, the analogue inputs. -/

namespace Sys2Proof.Machine

/-- SERIAL_FRAME_COMPLETE (R111). -/
def execSerialFrameComplete (l : LaneId) (port : Fin 8) (raw : Bytes) (startNs endNs : Nat) (lost : Bool) (s : State) : Out :=
  .next (serialFrame l port raw startNs endNs lost s)

/-- ETH_SENSOR_DATAGRAM (R110). -/
def execEthSensorDatagram (p : EthPort) (dst : Source) (raw : Bytes) (startNs : Nat) (stamps : List Nat) (lost : Bool) (s : State) : Out :=
  .next (ethDatagram p dst raw startNs stamps lost s)

/-- SERIAL_BREAK (R108). -/
def execSerialBreak (l : LaneId) (port : SerialLine) (s : State) : Out := .next (serialBreak l port.num port.inFrame s)

/-- BINARY_GAP_TIMEOUT (R112). -/
def execBinaryGapTimeout (l : LaneId) (port : Fin 8) (raw : Bytes) (startNs : Nat) (s : State) : Out := .next (binaryGap l port raw startNs s)

/-- SERIAL_SETTINGS_SWITCH (R107). -/
def execSerialSettingsSwitch (l : LaneId) (port : Fin 8) (s : State) : Out := .next (serialSwitch l port s)

/-- CHANNEL_UPDATE_RELEASE (R116). -/
def execChannelUpdateRelease (l : LaneId) (s : State) : Out := .next (releaseUpdate l s)

/-- BRIDGE_UPDATE_ARRIVE (R31). -/
def execBridgeUpdateArrive (l : LaneId) (s : State) : Out := .next (bridgeArrive l s)

/-- BRIDGE_FRAME_RECEIVE (R33, R34). -/
def execBridgeFrameReceive (l : LaneId) (frame : Bytes) (ok : Bool) (s : State) : Out := .next (bridgeReceive l frame ok s)

/-- BRIDGE_ACK_TIMEOUT (R33). -/
def execBridgeAckTimeout (l : LaneId) (s : State) : Out := .next (bridgeTimeout l s)

/-- LINK_FRAME_FAIL (R33). -/
def execLinkFrameFail (l : LaneId) (sky : Bool) (s : State) : Out := .next (linkFail l sky s)

/-- FILTER_OUTPUT (R174). -/
def execFilterOutput (l : LaneId) (input : Fin 12) (g : Nat) (new newB : List (Nat × List Bool)) (s : State) : Out := .next (filterOut l input g new newB s)

/-- FILTER_SUMMARY (R183). -/
def execFilterSummary (l : LaneId) (s : State) : Out := .next (filterSummary l s)

/-- SUMMARY_FORWARD (R183). -/
def execSummaryForward (l : LaneId) (s : State) : Out := .next (summaryForward l s)

/-- INPUT_FAULT_RAISE (R169). -/
def execInputFaultRaise (l : LaneId) (input : Fin 12) (kind : Fin 4) (s : State) : Out := .next (inputFault l input kind true s)

/-- INPUT_FAULT_CLEAR (R169). -/
def execInputFaultClear (l : LaneId) (input : Fin 12) (kind : Fin 4) (s : State) : Out := .next (inputFault l input kind false s)

end Sys2Proof.Machine
end

