-- ==== Sys2Proof/Machine/NetOps.lean ====
section
/-! DEFINITION. The thruster and auxiliary networks over the whole state (chapter 13): cells, transmit banks, reception, event frames, network states. -/

namespace Sys2Proof.Machine

/-- The bus island of a lane works on an image. -/
def busRuns (s : State) (l : LaneId) : Bool := s.laneRuns l && clocked s l 5 && (s.laneImg l).isSome

/-- The thruster that a node serves; none on a controller (R570). -/
def nodeThruster (s : State) : Option Nat := if s.isNode then some (nbThruster (nodeBlock s)) else none

def setBus (l : LaneId) (b : BusState) (s : State) : State := s.modLane l fun x => { x with bus := b }

/-- Output gates closed by a power failure let no frame out (R541). -/
def gateOut (outs : List Output) (s : State) : State := if s.power.pfail then s else outs.foldl State.emit s

/-- A command frame on T-A or T-B is the previous command of its thruster in every lane that receives (R404). -/
def commandOnBus (data : Bytes) (s : State) : State :=
  let step (t : State) (l : LaneId) : State :=
    if busRuns t l then t.modLane l fun x => { x with alloc := takeCommand (section_ t l secThrusters) data x.alloc } else t
  if s.isNode then s else step (step s .A) .B

/-- The frame of a node for a FEEDBACK or DIAG cell; none while it is not LOCKED (R569, R576, R577). -/
def nodeFrame (s : State) (net : Nat) (c : Cell) : Option Bytes :=
  let x := s.laneA
  let b := nodeBlock s
  let n := vget x.bus.nets net
  let up (k : Nat) : Nat := at1 k ((vget x.bus.nets (2 + k)).state == 2)
  let live : Nat := ((List.range 3).map fun m =>
    at1 m (vget s.safety.a.streams (streamIx m 0)).live + at1 (3 + m) (vget s.safety.b.streams (streamIx m 1)).live).sum
  if !s.node.locked then none
  else if c.kind = 8 then
    some (nodeFeedback b c.id (vget x.ingest.store (nbFbCh b)) (driveLost s) (safNetSingle s.safety) (safStoActive s.safety) s.node)
  else if c.kind = 9 then
    some (nodeDiag b c.id (cmId (section_ s .A secMatrix)) n.tec n.rec_ s.safety.timeouts (safStatusWord (safIn s) s.safety / 65536) live (up 0 + up 1)
      (imgGen ((s.laneImg .A).getD [])) (ofSigned 8 (vget s.power.temps 0)) (ofSigned 8 (vget s.power.temps 3)) (s.keep.powerCycle % 65536) (nodeStatus s) s.node)
  else none

/-- CELL_START (R337): at the START_TICK of a column of a network in MODE 2. -/
def cellWork (l : LaneId) (net col : Nat) (r : TxResult) (loop : Nat) (s : State) : State :=
  let m := section_ s l secMatrix
  let node := nodeThruster s
  let c := viewCell node (cmNet m net) (basicOf (cmNet m net) s.time.cycle) col
  let out := cellStart l m node (nodeFrame s net c) s.time.cycle s.time.tick net col r loop (s.lane l).bus
  let s1 := gateOut out.2.2 (applyEffects (some l) out.2.1 (setBus l out.1 s))
  if net < 2 ∧ c.kind = 2 then
    out.2.2.foldl (fun t o => match o with
      | .can _ _ _ _ d => commandOnBus d t
      | _ => t) s1
  else s1

def cellCommand (l : LaneId) (net : Fin 4) (col : Nat) (r : TxResult) (loop : Nat) (s : State) : State :=
  let blk := cmNet (section_ s l secMatrix) net.val
  if busRuns s l && nhMode blk == 2 && decide (col < nhColumns blk) then
    atTick (laneCodeOf (3000 + 32 * net.val + col) l) (colStart blk col) (cellWork l net.val col r loop) s
  else s

/-- REF_FRAME_FORM at tick 100 (R339). -/
def refCommand (l : LaneId) (s : State) : State :=
  if busRuns s l && !s.isNode then
    atTick (laneCodeOf 71 l) 100 (fun t =>
      setBus l (refForm (section_ t l secMatrix) t.time.cycle t.moduleNo l.num (t.lane l).pmu.timeLost (t.lane l).bus) t) s
  else s

/-- Q10_RECEIVE (R339). -/
def q10Command (l : LaneId) (s : State) : State :=
  if busRuns s l then setBus l (q10Receive (section_ s l secMatrix) (s.lane l).bus) s else s

/-- TX_BANK_EXCHANGE at the first command column (R339, R340). -/
def exchangeCommand (l : LaneId) (s : State) : State :=
  if busRuns s l && !s.isNode then
    match firstCommandTick (cmNet (section_ s l secMatrix) 0) s.time.cycle with
    | some tick => atTick (laneCodeOf 72 l) tick (fun t =>
        let r := bankExchange t.time.cycle (tmCount (section_ t l secThrusters)) (t.lane l).bus
        applyEffects (some l) r.2 (setBus l r.1 t)) s
    | none => s
  else s

/-! Reception. -/

/-- A change of STO_ACTIVE in a feedback frame against the value that the channel holds is recorded (Table 18.3, type 16). -/
def stoRecord (l : LaneId) (fr : CanFrame) (u : ChanUpdate) (s : State) : State :=
  let old := vget (s.lane l).ingest.store u.chan
  let sec := section_ s l secChannels
  if chType (chanEntry sec u.chan) = 8 ∧ old.empty = false ∧ bitOf 3 (vget old.value 3) ≠ bitOf 3 (vget u.value 3) then
    keepPut (some l) 16 false (leBytes 1 (u8 fr.data 2) ++ leBytes 1 (vget u.value 3 % 256) ++ [0, 0]) s
  else s

/-- A node's diagnostic frame that names another matrix than the one in force raises MATRIX_LAG (R348). -/
def matrixLag (l : LaneId) (net : Nat) (fr : CanFrame) (s : State) : State :=
  let m := section_ s l secMatrix
  let blk := cmNet m net
  let diag := nhMode blk == 2 && (List.range (nhCycles blk)).any fun b => (List.range (nhColumns blk)).any fun c =>
    let x := cellAt blk b c; x.kind == 4 && (x.xtd, cellIdent blk x) == (fr.xtd, fr.ident)
  if net < 2 ∧ diag = true ∧ fr.data.length = 32 ∧ u16 fr.data 2 ≠ cmId m then applyEffect (some l) s (.alarm 0x50) else s

/-- A command frame of another module on a thruster network, under the identifier that the matrix gives it. -/
def foreignCommand (l : LaneId) (net : Nat) (fr : CanFrame) (s : State) : State :=
  let blk := cmNet (section_ s l secMatrix) net
  let cmd := (List.range (nhCycles blk)).any fun b => (List.range (nhColumns blk)).any fun c =>
    let x := cellAt blk b c; x.kind == 2 && (x.xtd, cellIdent blk x) == (fr.xtd, fr.ident)
  if net < 2 ∧ cmd = true ∧ fr.data.length = 16 ∧ crcE2E fr.ident (sliceB fr.data 0 14) = u16 fr.data 14 then
    s.modLane l fun x => { x with alloc := takeCommand (section_ s l secThrusters) fr.data x.alloc }
  else s

/-- The lane whose bus island forms the updates of a frame: the one selected at its start-of-frame edge, and each lane while the lane bridge has failed
(R330). -/
def formsUpdates (s : State) (l : LaneId) (sofNs : Nat) : Bool :=
  let before := s.arb.changedAt == some s.time.cycle && decide (sofNs < s.time.cycle * 20000000)
  s.bridgeFault || l == (if before then s.sel.other else s.sel)

/-- A valid frame at one lane's controller; its start-of-frame edge lies `durNs` before the present instant (R116, R341). -/
def canLane (net : Nat) (fr : CanFrame) (durNs : Nat) (s : State) (l : LaneId) : State :=
  if !busRuns s l then s
  else
    let now := s.deviceNs.toNat
    let x := s.lane l
    let table := section_ s l secChannels
    let r := canReceive (section_ s l secMatrix) (section_ s l secCanFilters) table (nodeThruster s) (now - durNs) now l.num net
      (formsUpdates s l (now - durNs)) fr x.bus
    let s1 := applyEffects (some l) r.effects (s.setLane l { x with
      bus := r.bus, ingest := rejectAll r.rejects x.ingest })
    let s2 := r.rejects.foldl (fun t ch => count (some l) 0x0705 ch 1 t) s1
    let s3 := sendUpdates l 3 5 r.updates (r.updates.foldl (fun t u => stoRecord l fr u t) s2)
    if s.isNode || fr.remote || !r.took then s3 else foreignCommand l net fr (matrixLag l net fr s3)

/-- CAN_FRAME_RECEIVE (R342): both lanes' controllers receive the frame. -/
def canCommand (net : Fin 4) (fr : CanFrame) (durNs : Nat) (s : State) : State := canLane net.val fr durNs (canLane net.val fr durNs s .A) .B

/-! Event frames. -/

/-- EVENT_FRAME_SEND (R356). -/
def eventCommand (l : LaneId) (net : Fin 4) (r : TxResult) (loop : Nat) (s : State) : State :=
  if busRuns s l then
    let o := eventSend l (section_ s l secMatrix) (nodeThruster s) s.time.cycle s.time.tick net.val r loop (s.lane l).bus
    gateOut o.2.2 (applyEffects (some l) o.2.1 (setBus l o.1 s))
  else s

/-- BUS_EVT_DOORBELL (R357). -/
def doorbellCommand (l : LaneId) (net : Fin 4) (s : State) : State :=
  if busRuns s l then setBus l (doorbell net.val (entryFrame (vget (s.lane l).bus.evtEntry net.val)) (s.lane l).bus) s else s

/-! Network states. -/

/-- NET_TEST and NET_RESTART entries of a network that have executed take effect at tick 19,900 (R347). -/
def netEntries (l : LaneId) (net : Nat) (s : State) : State :=
  let mine (g : Staged) : Bool := (g.opcode == 0x0804 || g.opcode == 0x0805) && u8 g.params 0 == net
  ((s.lane l).staged.filter mine).foldl (fun t g =>
    t.modLane l fun x => { x with
      bus := if g.opcode = 0x0804 then netTest net (u8 g.params 1) x.bus else netRestart net x.bus
      staged := x.staged.filter (· != g) }) s

/-- NET_PEER_COUNT at tick 19,900 (R352); a node has no peer rule (R570). -/
def peerCommand (l : LaneId) (net : Fin 4) (s : State) : State :=
  if busRuns s l then
    atTick (laneCodeOf (80 + net.val) l) 19900 (fun t =>
      let x := t.lane l
      let r := if t.isNode then
          let q := settleExpect net.val (vget x.bus.nets net.val)
          ({ x.bus with nets := vmodN x.bus.nets net.val fun _ => q.1 }, q.2)
        else peerCount (section_ t l secMatrix) net.val x.bus
      netEntries l net.val (applyEffects (some l) r.2 (setBus l r.1 t))) s
  else s

/-- BUS_IDLE_DETECT (R346): the image is installed at the end of start-up LOADING, or once a rejoining lane is JOINING. A node's controllers are
never restricted (R565). -/
def idleCommand (l : LaneId) (net : Fin 4) (s : State) : State :=
  if busRuns s l then
    let ready := decide (3 ≤ s.laneState l) || !s.laneRuns l.other || !(s.arb.lane l.other).running
    let b := busIdle (section_ s l secMatrix) ready net.val (s.lane l).bus
    setBus l (if s.isNode then { b with nets := b.nets.map fun n => { n with restricted := false } } else b) s
  else s

/-- BUS_OFF_RECOVERY (R349). -/
def recoverCommand (l : LaneId) (net : Fin 4) (s : State) : State :=
  if busRuns s l then setBus l (busRecover net.val (s.lane l).bus) s else s

/-- MAILBOX_ACK (R344). -/
def ackCommand (l : LaneId) (net : Fin 4) (mbx : Fin 64) (s : State) : State :=
  if s.laneRuns l && clocked s l 5 then setBus l (mailboxAck net.val mbx.val (s.lane l).bus) s else s

end Sys2Proof.Machine
end

