-- ==== Sys2Proof/Machine/SafetyOps.lean ====
section
/-! DEFINITION. The safety island over the whole state (chapter 14): its events, which no lane takes part in. -/

namespace Sys2Proof.Machine

/-- Something that happens in the island while domain 0 is out of reset (R38, R394). -/
def safDo (f : SafIn → SafetyState → SafetyState × List Effect) (s : State) : State :=
  if s.power.booted then
    let r := f (safIn s) s.safety
    applyEffects none r.2 (s.modSafety fun _ => r.1)
  else s

/-- A change of the island's state that asks nothing of the others. -/
def safQuiet (f : SafIn → SafetyState → SafetyState) (s : State) : State := safDo (fun i x => (f i x, [])) s

/-- A judgement of a read-back or of the island itself: none is made during a power failure (R541). -/
def safJudge (f : SafIn → SafetyState → SafetyState × List Effect) (s : State) : State := if s.power.pfail then s else safDo f s

/-- SAFETY_CYCLE_START (R361): every 5 ms of Watchtower time from the first one of R392. -/
def safetyCycle (s : State) : State :=
  let due := s.safety.cycleUs + 5000
  if s.power.booted && s.safety.state != 0 then
    let t := advanceUs due s
    if due ≤ t.time.us then
      (safDo safCycle t).modSafety fun x => { x with cycleUs := due }
    else t
  else s

/-- What lies a fixed time after the start of the safety cycle: it happens at that instant, and no more once that instant has passed. -/
def safAt (off : Nat) (f : SafIn → SafetyState → SafetyState × List Effect) (s : State) : State :=
  let due := s.safety.cycleUs + off
  let t := advanceUs due s
  if s.power.booted && decide (s.time.us ≤ due) && decide (due ≤ t.time.us) then safDo f t else s

/-- TEST_PULSE_START (R369): 1,000 µs after the start of the safety cycle of the output's slot. -/
def pulseStart (c : SafeChan) (n : Nat) (s : State) : State :=
  if s.safety.cycle % 200 = pulseSlot c n then safAt 1000 (fun i => safPulse i c n) s else s

/-- TEST_PULSE_END (R369, R541): 300 µs after the start of the pulse. -/
def pulseEnd (c : SafeChan) (pass : Bool) (s : State) : State :=
  if (s.safety.ch c).pulse.isSome && !s.power.pfail then safAt 1300 (fun i => safPulseEnd i c pass) s else s

/-- The block that a copy in flash holds: its check value and the CRC-32C after its 256 bytes verify (R388, R389). -/
def copyBlock (copy : Bytes) : Option Bytes :=
  let b := copy.take 256
  if copy.length = 260 ∧ sbCheck b = sbCheckValue b ∧ u32 copy 256 = crc32c b then some b else none

/-- The block that both channels load: copy 1 when it verifies, else copy 2; none while Keep is in NO_FLASH (R389, R484). -/
def flashBlock (k : KeepState) : Option Bytes :=
  if k.st = 3 then none else (k.flash.safety1.bind copyBlock).orElse fun _ => k.flash.safety2.bind copyBlock

/-- SAFETY_STARTUP (R389, R392): the self-test has passed, the block is loaded, the inputs have been observed; the first safety cycle starts. -/
def safetyStartup (inA inB : Nat) (s : State) : State :=
  if s.power.booted && s.safety.state == 0 then
    (safDo (fun i x => safStart i (flashBlock s.keep) inA inB x) s).modSafety fun x => { x with cycleUs := s.time.us }
  else s

/-- A node's own proof test may begin: the latest applied command has IN_ALLOC clear, or CMD_TIMEOUT holds (R582). -/
def nodeProofReady (s : State) : Bool :=
  s.node.timeout || match s.node.cmd with
    | some k => !bitOf 4 k.flags
    | none => true

/-- The result of a SAFETY_CONFIRM: it is recorded at the Watchtower, and the command's answer is there (R388, R449). -/
def confirmAnswer (reply : Bytes) (s : State) (a : WtAction) : State :=
  let s1 := s.modHost fun h => h.record s.sel ⟨a.pkt.station, portNum a.port, a.pkt.seq, DONE, reply⟩
  match (s1.host.port a.port).inFlight with
  | some f => if f.pkt.seq = a.pkt.seq ∧ f.pkt.opcode = 0x0904 then setFlight a.port { f with result := true, status := DONE, reply := reply } s1 else s1
  | none => s1

/-- BLOCK_ACTIVATE (R388): in both channels together; then copy 1 and copy 2 in the Keep flash, and the confirmation's reply. -/
def blockActivate (s : State) : State :=
  let due := match s.safety.activateAt with
    | some c => decide (c ≤ s.safety.cycle)
    | none => false
  if s.power.booted && due && s.safety.confirmed.isSome then
    let b := s.safety.confirmed.getD []
    let s1 := pendingGone s.safety.pending.isSome (safDo safActivate s)
    let s2 := s1.modKeep fun k => addUnit (.safetyCopy 2 b) (addUnit (.safetyCopy 1 b) k)
    let s3 := s2.host.wtQueue.foldl (confirmAnswer (leBytes 4 (sbCheckValue b))) s2
    s3.modHost fun h => { h with wtQueue := [] }
  else s

/-- PENDING_BLOCK_EXPIRE (R386). -/
def blockExpire (s : State) : State :=
  if s.power.booted then pendingGone s.safety.pending.isSome (safQuiet (fun i => safExpire i.us) s) else s

end Sys2Proof.Machine
end

