-- ==== Sys2Proof/Machine/PowerOps.lean ====
section
/-! DEFINITION. Power, start-up, temperatures and ageing over the whole state (chapter 21), the lane faults that come from outside the timetable, and boundary scan. -/

namespace Sys2Proof.Machine

/-! Reset and start-up. -/

/-- Every domain, domain 0 included, is in reset: what the flash holds stays, and so do the outputs given and the commands that wait. -/
def resetAll (s : State) : State :=
  { State.reset with keep := { flash := flashAfterLoss s.keep }, outbox := s.outbox, free := s.free, pending := s.pending, jtag := s.jtag }

/-- The newest TALLY entry is of kind 2: a blackout start (R535). -/
def isBlackout (f : FlashState) : Bool := (f.tally.map (·.kind)) == some 2

/-- The role in force: an AKP-960-NX always runs as a node (R2, R564). -/
def roleOf (on : PowerOn) : Nat := if on.nx then 2 else on.role.val

/-- Byte 12 of the POWER_ON record: bit 7 for an AKP-960-NX whose strap names another role (R564). -/
def roleByte (on : PowerOn) : Nat := if on.nx ∧ on.role ≠ 2 then 0x82 else roleOf on

/-- Keep reads the flash; its TALLY entry, RECOVERY and POWER_ON records are queued (R487, R493, R498). -/
def keepBoot (on : PowerOn) (k : KeepState) : KeepState := keepStartRecords (roleByte on) on.module.val on.stepping.val (keepStart k.flash)

/-- POWER_ON_RESET (R534 to R536): domain 0 leaves reset. -/
def powerOn (on : PowerOn) (s : State) : State :=
  if s.power.booted || decide (on.vholdMv < 8000) then s
  else
    let r := resetAll s
    let p : PowerState := {
      role := roleOf on, module := on.module.val, nx := on.nx, stepping := on.stepping.val, dram := on.dram
      booted := true, blackout := isBlackout r.keep.flash, vholdMv := on.vholdMv }
    let r1 := ((r.modPower fun _ => wakeRequest (roleDomains (roleOf on) on.nx) { p with on := p.on.set 0 true }).modKeep (keepBoot on)).modNode fun n =>
      { n with strapMismatch := on.nx && on.role != 2 }
    r1.modLantern fun l => { l with st := if (flashImage r1 r1.keep.flash.startSlot).isNone then 4 else 0, lastSave := r1.keep.opBase }

/-- PFAIL_N is recognised (R541): gates close, Lantern and Keep run their sequences (R495, R513). -/
def pfailOn (s : State) : State :=
  if s.power.booted && !s.power.pfail then
    let r := ltnPowerFail s.lantern
    let s1 := (s.modPower fun p => { p with pfail := true, holdup := true, on := vmodN p.on 1 fun _ => false }).modLantern fun _ => r.1
    let s2 := match r.2 with
      | some ident => keepPut none 11 true (leBytes 4 ident) s1
      | none => s1
    s2.modKeep keepPowerFail
  else s

/-- PFAIL_N has stayed deasserted for 100 ms once the sequences are complete (R543). -/
def pfailOff (s : State) : State :=
  if s.power.booted && s.power.pfail && s.keep.pfDone && s.lantern.pfDone then resetAll s else s

/-- VHOLD below 6.0 V in a power failure (R38, R543). -/
def vholdLost (s : State) : State := if s.power.booted && s.power.pfail then resetAll s else s

/-! Domains (R530 to R533). -/

/-- Something that happens at a microsecond of Watchtower time, at the latest within the present cycle. -/
def atUs (due : Nat) (k : State → State) (s : State) : State :=
  let t := advanceUs due s
  if due ≤ t.time.us then k t else t

/-- INRUSH_ADMIT at the start of a 100 µs window; a domain that has to wait counts once. -/
def admitWork (s : State) : State :=
  let r := inrushAdmit s.time.us s.power
  count none 0x0A03 0xFF r.2.length (s.modPower fun _ => r.1)

/-- The external memory of a lane is there once its management and memory domains are on (R552, R553). -/
def memoryUp (l : LaneId) (s : State) : State :=
  if s.power.laneOn l && s.power.isOn (9 + 6 * l.num) then
    let d := vget s.power.dram l.num
    s.modLane l fun x => { x with pmu := { x.pmu with mem := { x.pmu.mem with installed := d.1, ranks := d.2, usablePages := usablePages d.1 } } }
  else s

/-- A lane's management domain leaves reset: the lane starts empty, measures at bias step 12, and passes to SELFTEST at start-up (R406, R536, R547). -/
def laneUp (l : LaneId) (s : State) : State :=
  let s1 := ((s.setLane l { pmu := biasWake {} }).setMem l []).setBridge false
  let s2 := if (s1.isController || (s1.isNode && l == .A)) && s1.laneState l == 0 && !(s1.arb.lane l).limited then
      s1.modArb fun a => a.modLane l fun x => { x with state := 1 }
    else s1
  syncTimeLost (memoryUp l s2)

/-- Domain 3 starts: Oculus anew, Belfry waits for its origin, or keeps the one it has (R153). BLF_DISC counts since power-on, and the time without a source
counts from the loss (R166); a Belfry that was off has no estimate of its error within HOLD_LIMIT_NS (log entry 72). -/
def belfryHeld (us : Nat) (b : BelfryState) : BelfryState :=
  { originSet := b.originSet, originGnss := b.originGnss, state := if !b.originSet then 0 else if b.originGnss then 4 else 5
    disc := b.disc, stepLast := b.stepLast, holdFrom := if b.held then b.holdFrom else us, count := b.count }

/-- What a domain that has left reset starts. -/
def domainUp (d : Nat) (s : State) : State :=
  match d with
  | 2 => syncTimeLost s
  | 3 => syncTimeLost ((s.modBelfry fun b => { belfryHeld s.time.us b with waitFrom := s.time.us }).modOculus fun _ => {})
  | 4 => laneUp .A s
  | 10 => laneUp .B s
  | 9 => memoryUp .A s
  | 15 => memoryUp .B s
  | _ => s

/-- DOMAIN_WAKE_DONE (R531): not before its WAKE time has passed. -/
def domainAwake (d : Nat) (s : State) : State :=
  match s.power.waking.find? (·.dom == d), inrushOf d with
  | some w, some (_, _, n, _) => atUs ((w.window + n) * 100) (fun t => domainUp d (t.modPower fun p => (wakeDone t.time.us d p).1)) s
  | _, _ => s

/-! The control path starts (R397, R539). -/

/-- The conditions of R539 hold in a lane. -/
def startReady (s : State) (l : LaneId) : Bool :=
  s.laneRuns l && s.laneState l == 2 && (s.laneImg l).isSome && (vget s.power.starts l.num).tested && decide (50 ≤ (vget s.power.starts l.num).steered)
    && decide (1 ≤ (s.lane l).pmu.measured)

/-- The preferred lane also starts at this boundary: it becomes ACTIVE (R397). -/
def otherFirst (s : State) (l : LaneId) : Bool := startReady s l.other && decide (redPrefLane s.image = l.other.num)

/-- No tier has margin: CERT_EXHAUSTED, and the lane becomes FAULTED with code 2 (R539). -/
def startFails (l : LaneId) (s : State) : State :=
  let s1 := s.modLane l fun x => { x with pmu := { x.pmu with certExhausted := true } }
  laneOff l (s1.modArb fun a => (toFaulted s1.time.cycle l a).modLane l fun x => { x with cause := 2 })

/-- The first lane to finish start-up becomes ACTIVE at its entry tier, with the observer in INIT and the networks under R346. -/
def startActive (l : LaneId) (tier : Nat) (s : State) : State :=
  let s1 := s.modArb fun a => { a.modLane l (fun x => { x with state := 6, running := true }) with active := l, started := true }
  let ctrl := s1.inControl
  s1.modLane l fun x => { x with
    pmu := biasEntry { x.pmu with tier := tier }, observer := observerInit x.observer
    bus := setHeldNets s1.arb { x.bus with nets := x.bus.nets.map fun n => { n with restricted := !ctrl, tec := 0, rec_ := 0 } } }

/-- CONTROL_PATH_START at a long-cycle boundary. -/
def controlStart (l : LaneId) (s : State) : State :=
  if s.power.booted && s.isController && s.phase == 0 && s.time.tick == 0 && startReady s l && !otherFirst s l && s.activeLane.isNone
      && !laneRunning s then
    match entryTier false 0 (marginMask (s.lane l).pmu) ((s.laneImg l).getD []) with
    | some k => startActive l k s
    | none => startFails l s
  else s

/-! Supply, clocks and temperature. -/

/-- A lane has lost its supply (Table 15.3, code 2): found at the comparison of a compared lane, at once in any other. -/
def supplyFault (l : LaneId) (s : State) : State :=
  if compared (s.arb.lane l) && !s.isNode then s.modArb fun a => a.modLane l fun x => { x with supply := true } else laneMeets l 2 s

/-- LANE_SUPPLY_LOSS (R21, R400): the lane stops; nothing more leaves it, and no mirror is awaited. -/
def supplyLost (l : LaneId) (s : State) : State :=
  if s.power.laneOn l && !vget s.power.lost l.num then
    let s1 := s.modLane l fun x => { x with digestOut := none, incoming := [] }
    syncTimeLost (supplyFault l (releaseMirrors acts (s1.modPower fun p => { p with lost := vmodN p.lost l.num fun _ => true })))
  else s

/-- PLL_LOSS_OF_LOCK (R61): a CLOCK violation at once; a clock that stops works no more. -/
def pllLoss (l : LaneId) (i : Fin 9) (stops : Bool) (s : State) : State :=
  if s.laneRuns l && s.islandRuns l i.val then
    let s1 := violate l 5 i.val 0 0 (s.modLane l fun x => { x with pmu := { x.pmu with
      pllLost := x.pmu.pllLost.set i true, clockRuns := if stops then x.pmu.clockRuns.set i false else x.pmu.clockRuns } })
    if s1.isNode then laneMeets l 2 s1 else s1
  else s

/-- A die's sensor is read: its temperature and its extremes (R497, R549). -/
def dieRead (die : Nat) (t : Int) (s : State) : State :=
  let s1 := s.modPower fun p => { p with temps := vmodN p.temps die fun _ => t }
  [(0 : Nat), 1].foldl (fun u kind =>
    let r := extremeStep (die + 1) kind (t * 65536) 65536 u.keep.powerCycle (opSecs u.time.us u.keep) u.keep.extremes
    let v := u.modKeep fun k => { k with extremes := r.1 }
    match r.2 with
    | some e => keepPut none 9 false e v
    | none => v) s1

/-- THERMAL_TRIP (R549): at 135 °C a lane die or the Sky die is switched off; the Watchtower die has no trip. -/
def tripWork (die : Fin 4) (t : Int) (s : State) : State :=
  if !s.power.booted then s
  else
    let s1 := dieRead die.val t s
    if t < 135 then s1
    else match die.val with
      | 0 => if s1.power.laneOn .A then trip 0 (laneOff .A (supplyFault .A s1)) else trip 0 s1
      | 1 => if s1.power.laneOn .B then trip 1 (laneOff .B (supplyFault .B s1)) else trip 1 s1
      | 2 => syncTimeLost (((trip 2 s1).modPower (switchOff [2, 3])).modBelfry (belfryHeld s1.time.us))
      | _ => s1
where
  trip (k : Nat) (u : State) : State := u.modPower fun p => { p with trip := vmodN p.trip k fun _ => true }

/-- A lane that was ACTIVE when it tripped has waited for its die to cool: it is woken as a FAULTED lane now (R406, R549). In the arbiter-only
role the lane's one domain is woken. -/
def coolLane (l : LaneId) (s : State) : State :=
  if s.laneState l == 6 && !s.power.laneOn l then
    s.modArb fun a => (toFaulted s.time.cycle l a).modLane l fun x => { x with wakeAt := some s.time.cycle, cause := 2 }
  else if s.power.role == 1 && !s.power.laneOn l then s.modPower (wakeRequest [4 + 6 * l.num])
  else s

/-- THERMAL_REWAKE (R549): below 115 °C. -/
def coolWork (die : Fin 4) (t : Int) (s : State) : State :=
  if !s.power.booted then s
  else
    let s1 := dieRead die.val t s
    if 115 ≤ t ∨ vget s1.power.trip die.val = false then s1
    else
      let s2 := s1.modPower fun p => { p with trip := vmodN p.trip die.val fun _ => false }
      match die.val with
      | 0 => coolLane .A s2
      | 1 => coolLane .B s2
      | _ => if s2.isController then s2.modPower (wakeRequest [2, 3]) else s2

/-! Ageing (R544 to R548). -/

/-- AGEING_SAMPLE: the planner's sample of one lane, with its die's temperature. -/
def ageWork (l : LaneId) (mons : Vector (Vector Nat 4) 9) (tj : Int) (s : State) : State :=
  if s.laneRuns l then
    dieRead l.num tj (s.modLane l fun x => { x with pmu := ageingSample x.image.active (decide (19900 < s.time.tick)) mons tj x.pmu })
  else s

/-- BODY_BIAS_STEP at tick 19,950. -/
def biasWork (l : LaneId) (i : Fin 9) (s : State) : State :=
  if s.laneRuns l && s.islandRuns l i.val then
    atTick (laneCodeOf (90 + i.val) l) 19950 (fun t => t.modLane l fun x => { x with pmu := bodyBiasStep t.time.cycle i x.pmu }) s
  else s

/-- SLACK_ESTIMATE, once per long cycle: the histogram of the lane's die in Keep, none with NO_FLASH. -/
def slackWork (l : LaneId) (s : State) : State :=
  if s.laneRuns l then
    let hist := if s.keep.st = 3 then none else some (s.keep.hists.getD l.num [])
    s.modLane l fun x => { x with pmu := slackEstimate l x.image.active hist (tempLong x.pmu) }
  else s

/-! Faults of the inputs. -/

/-- EXC_FAULT (R609): every resolver input of the lane is faulted. -/
def excWork (l : LaneId) (s : State) : State :=
  if s.laneRuns l && s.islandRuns l 4 then s.modLane l fun x => { x with filter := { x.filter with excFault := true } } else s

/-- The chains of an antenna are 2 k and 2 k + 1. -/
def chainWork (ant : Fin 2) (pll : Option Chain) (s : State) : State :=
  if s.power.skyOn then
    s.modOculus fun o => { o with chains := Vector.ofFn fun k : Fin 4 => { o.chains[k] with fault := o.chains[k].fault || (match pll with
      | some c => c == k
      | none => k.val / 2 == ant.val) } }
  else s

/-! Boundary scan (R593). -/

/-- The levels of the STO outputs as the safety island drives them. -/
def stoLevels (x : SafetyState) : List Output :=
  [SafeChan.A, .B].flatMap fun c => (List.range 16).map fun n => Output.sto c (n + 1) (bitOf n (match c with
    | .A => x.a.out
    | .B => x.b.out))

/-- One operation of the TAP; when EXTEST ends, the outputs are the island's again. -/
def scanWork (op : JtagOp) (s : State) : State :=
  let r := jtagStep s.power op s.jtag
  let s1 := r.2.foldl (fun t e => match e with
    | .out o => t.emitPin o
    | _ => t) (s.modJtag fun _ => r.1)
  if s.jtag.extest && !r.1.extest then (stoLevels s.safety).foldl State.emitPin s1 else s1

end Sys2Proof.Machine
end

