-- ==== Sys2Proof/Machine/KeepOps.lean ====
section
/-! DEFINITION. Keep and Lantern over the whole state (chapters 18 and 19): the events that drive their units. -/

namespace Sys2Proof.Machine

/-! Keep. -/

/-- The types of Table 18.3 that are integrity records; of an ALARM the lane says whether its severity makes it one (R490). -/
def recordIntegrity (typ : Nat) (asked : Bool) : Bool :=
  if typ = 3 then asked else [1, 2, 4, 5, 6, 8, 11, 13, 14, 15].contains typ

/-- KEEP_RECORD_ENQUEUE (R489, R491): from a lane's mailbox, or from the Watchtower. -/
def enqueueWork (src : Option LaneId) (typ : Nat) (integ : Bool) (payload : Bytes) (s : State) : State :=
  let runs := match src with
    | some l => s.laneRuns l && !(s.lane l).wtFault
    | none => true
  if s.power.booted && runs then keepPut src typ (recordIntegrity typ integ) payload s else s

/-- The records dropped by the budget are reported once it holds 24 bytes (R491). -/
def pollDrops (s : State) : State := s.modKeep (keepPoll s.time.us (keepCycle s))

/-- FLASH_UNIT_DONE (R486, R494). A LANTERN slot written shows in LTN_BOOK_SEQ (Table 19.5). -/
def unitDone (ok : Bool) (s : State) : State :=
  if s.power.booted then
    let s1 := pollDrops (s.modKeep (flashUnitDone s.time.us ok))
    if s1.keep.flash.lanternSeq = s.keep.flash.lanternSeq then s1
    else s1.modLantern fun x => { x with bookSeq := u32 (s1.keep.flash.lantern.getD []) 0 }
  else s

/-- A unit waits or is in progress. -/
def unitWaits (k : KeepState) (p : FlashUnit → Bool) : Bool :=
  k.units.any p || match k.busy with
    | some (u, _) => p u
    | none => false

/-- A Keep task that falls due in operating time; none during a power failure. -/
def keepDue (due : Bool) (f : State → State) (s : State) : State := if s.power.booted && !s.power.pfail && s.keep.st != 3 && due then f s else s

/-- TALLY_PERIODIC (R487): every 360 s. -/
def tallyWork (s : State) : State :=
  keepDue (decide (s.keep.lastTally + 360 ≤ opSecs s.time.us s.keep) && !unitWaits s.keep (· == .tally 1))
    (fun t => t.modKeep (addUnit (.tally 1))) s

/-- SUMMARY_WRITE (R496, R498): every 3,600 s, with the HISTOGRAM records. -/
def summaryWork (s : State) : State :=
  keepDue (decide (s.keep.lastSummary + 3600 ≤ opSecs s.time.us s.keep)) (fun t =>
    let t1 := t.modKeep fun k => addUnit (.summary summaryUnits) { k with lastSummary := opSecs t.time.us k }
    (t.keep.hists.zipIdx.flatMap fun h => histRecords (h.2 + 1) h.1).foldl (fun u b => keepPut none 10 false b u) t1) s

/-- The sectors of DESCRIPTOR, SAFETY and the image slots, with the operating second of their last write; one that this log does not name was
written when the flash was made up. -/
def refreshable (f : FlashState) : List (Nat × Nat) :=
  f.written ++ (([0x0, 0x1000] : List Nat).filter fun a => !f.written.any (·.1 == a)).map fun a => (a, 0)

/-- SECTOR_REFRESH (R500, R501): one sector per 10 s, 5 years after its last write, with 3 free STATE positions. -/
def refreshWork (s : State) : State :=
  let k := s.keep
  match (refreshable k.flash).find? fun p => decide (p.2 + 157680000 ≤ opSecs s.time.us k) with
  | some (a, _) =>
    let idle := !k.refreshing && !unitWaits k (fun u => u.prio == 8) && decide (k.flash.statePos + 3 ≤ 1024)
    keepDue (idle && decide (k.lastRefreshUs + 10000000 ≤ s.time.us))
      (fun t => t.modKeep fun k => addUnit (.refreshCopy a) { k with lastRefreshUs := t.time.us }) s
  | none => s

/-- A die's domains are on: its temperature enters its histogram (R496). -/
def dieOn (s : State) (die : Nat) : Bool :=
  match die with
  | 0 => s.power.laneOn .A
  | 1 => s.power.laneOn .B
  | 2 => s.power.skyOn
  | _ => true

def addBins (bins : List (Nat × Nat × Nat)) (s : State) : State :=
  s.modKeep fun k => { k with hists := bins.foldl (fun h b => histAdd b.1 b.2.1 b.2.2 h) k.hists }

/-- A candidate extreme (R497). -/
def addExtreme (s : State) (e : Nat × Nat × Int × Int) : State :=
  let r := extremeStep e.1 e.2.1 e.2.2.1 e.2.2.2 s.keep.powerCycle (opSecs s.time.us s.keep) s.keep.extremes
  let s1 := s.modKeep fun k => { k with extremes := r.1 }
  match r.2 with
  | some b => keepPut none 9 false b s1
  | none => s1

/-- KEEP_HISTOGRAM_SAMPLE (R496, R497) at a long-cycle boundary: the dies' temperatures, and the ACTIVE lane's summary of the long cycle that ended. -/
def histogramWork (s : State) : State :=
  if s.phase = 0 then
    keepDue true (fun t0 => atTick 151 t0.time.tick (fun t =>
      let dies := ((List.range 4).filter (dieOn t)).map fun d => (d + 1, tempBin (vget t.power.temps d), 1)
      let sm := t.keep.sample.getD {}
      sm.exts.foldl addExtreme (addBins (dies ++ sm.bins) (t.modKeep fun k => { k with sample := none }))) t0) s
  else s

/-! Lantern. -/

/-- Domain 1 is on while an update runs (R37, R505). -/
def pumpDomain (s : State) : State := s.modPower fun p => { p with on := vmodN p.on 1 fun _ => s.lantern.pumpOn }

/-- LANTERN_UPDATE_START (R510, R514). -/
def updateStart (s : State) : State :=
  if s.power.booted && !s.power.pfail then pumpDomain (s.modLantern fun _ => (ltnStart s.time.us s.lantern).1) else s

/-- PUMP_RAILS_READY (R505). -/
def railsReady (s : State) : State := s.modLantern fun x => (ltnRails s.time.us x).1

/-- PUMP_RAIL_FAULT (R505). -/
def railFault (s : State) : State := pumpDomain (s.modLantern ltnRailFault)

/-- The check-value screen of the pending block is what the update has drawn: DISPLAYED (R386). -/
def nowDisplayed (t : Target) (s : State) : Bool :=
  match s.safety.pending with
  | some b => t == checkTarget s b
  | none => false

/-- LANTERN_UPDATE_END (R508, R510): the book and the identifier follow; after the clear of start-up the status screen is drawn. -/
def updateEnd (s : State) : State :=
  match s.lantern.run with
  | some r =>
    if r.driven then
      let e := ltnEnd (statusTarget s) s.lantern
      let s1 := pumpDomain (s.modLantern fun _ => { e.1 with lastStatus := if r.target.clear && s.lantern.st == 1 then some (statusContent s) else e.1.lastStatus })
      syncReserved (if e.2 && nowDisplayed r.target s then s1.modSafety fun x => { x with displayed := true } else s1)
    else s
  | none => s

/-- PANEL_TEMP_SAMPLE (R511): in Q8.8. -/
def panelTemp (t : Int) (s : State) : State := if s.power.booted then s.modLantern (tempSample t) else s

/-- The alarms of severity 3 on a rendered status screen (R512). -/
def severeOn (content : Bytes) : List Nat :=
  let n := (content.length - 14) / 3
  ((List.range n).filter fun k => u8 content (14 + 3 * k) == 3).map fun k => u16 content (15 + 3 * k)

/-- STATUS_RENDER (R510, R512): in mode 0 a changed status screen asks for an update; in mode 1 one that shows a new alarm of severity 3. -/
def renderWork (s : State) : State :=
  let c := statusContent s
  let old := s.lantern.lastStatus.getD []
  let asks := if s.lantern.mode = 0 then s.lantern.lastStatus != some c else (severeOn c).any fun a => !(severeOn old).contains a
  if s.power.booted && !s.lantern.reserved && asks then
    s.modLantern fun x => ltnRequest (statusTarget s) { x with lastStatus := some c }
  else s

/-- BOOK_SAVE (R509): every 3,600 s of operating time. -/
def bookSave (s : State) : State :=
  let secs := opSecs s.time.us s.keep
  keepDue (decide (s.lantern.lastSave + 3600 ≤ secs) && !s.lantern.table.isEmpty && decide (0 < ltnPixels s.lantern.table)) (fun t =>
    (t.modKeep (addUnit (.lantern lanternUnits (ltnSlot secs t.lantern)))).modLantern fun x => { x with lastSave := secs }) s

end Sys2Proof.Machine
end

