-- ==== Sys2Proof/Machine/KeepExec.lean ====
section
/-! DEFINITION. The meanings of the rows of Keep and Lantern (chapters 18 and 19). -/

namespace Sys2Proof.Machine

/-- KEEP_RECORD_ENQUEUE (R489, R491). -/
def execKeepRecordEnqueue (src : Option LaneId) (typ : Nat) (integrity : Bool) (payload : Bytes) (s : State) : Out :=
  .next (enqueueWork src typ integrity payload s)

/-- FLASH_UNIT_DONE (R486, R494). -/
def execFlashUnitDone (ok : Bool) (s : State) : Out := .next (unitDone ok s)

/-- TALLY_PERIODIC (R487). -/
def execTallyPeriodic (s : State) : Out := .next (tallyWork s)

/-- SUMMARY_WRITE (R498). -/
def execSummaryWrite (s : State) : Out := .next (summaryWork s)

/-- SECTOR_REFRESH (R501). -/
def execSectorRefresh (s : State) : Out := .next (refreshWork s)

/-- KEEP_HISTOGRAM_SAMPLE (R496). -/
def execKeepHistogramSample (s : State) : Out := .next (histogramWork s)

/-- LANTERN_UPDATE_START (R510). -/
def execLanternUpdateStart (s : State) : Out := .next (updateStart s)

/-- PUMP_RAILS_READY (R505). -/
def execPumpRailsReady (s : State) : Out := .next (railsReady s)

/-- PUMP_RAIL_FAULT (R505). -/
def execPumpRailFault (s : State) : Out := .next (railFault s)

/-- LANTERN_UPDATE_END (R510). -/
def execLanternUpdateEnd (s : State) : Out := .next (updateEnd s)

/-- PANEL_TEMP_SAMPLE (R511). -/
def execPanelTempSample (t : Int) (s : State) : Out := .next (panelTemp t s)

/-- STATUS_RENDER (R512). -/
def execStatusRender (s : State) : Out := .next (renderWork s)

/-- BOOK_SAVE (R509). -/
def execBookSave (s : State) : Out := .next (bookSave s)

end Sys2Proof.Machine
end

