-- ==== Sys2Proof/Machine/MemOps.lean ====
section
/-! DEFINITION. Memory protection and the management complex's accesses over the whole state (chapters 1 and 22). -/

namespace Sys2Proof.Machine

/-! Errors (R557 to R559, Tables 22.2 and 22.3). -/

/-- ISLAND of PMU_MEM_ERR_INFO for a region. -/
def regionIsland (region : Nat) : Nat :=
  match region with
  | 0 => 7 | 1 => 7 | 4 => 1 | 5 => 2 | 6 => 2 | 7 => 2 | 8 => 2 | 9 => 6 | 10 => 5 | 11 => 4 | 12 => 3
  | _ => 0

/-- The island whose power the words of a region need. -/
def regionOn (s : State) (l : LaneId) (region : Nat) : Bool := s.laneRuns l && s.islandRuns l (regionIsland region)

/-- The memory registers of a lane, or the Watchtower's. -/
def modMem (l : Option LaneId) (f : MemRegs → MemRegs) (s : State) : State :=
  match l with
  | some k => s.modLane k fun x => { x with pmu := { x.pmu with mem := f x.pmu.mem } }
  | none => s.modPower fun p => { p with wtMem := f p.wtMem }
def memOf (s : State) (l : Option LaneId) : MemRegs :=
  match l with
  | some k => (s.lane k).pmu.mem
  | none => s.power.wtMem

/-- Corrected symbols (R557): counted; a persistent location is recorded. -/
def correctedWork (l : Option LaneId) (region init addr n pass : Nat) (scrub : Bool) (s : State) : State :=
  let r := memCorrected (opSecs s.time.us s.keep) region addr n pass scrub (memOf s l)
  let s1 := count l 0x0801 0xFF n (modMem l (fun _ => r.1) s)
  if r.2 then keepPut l 15 true (memoryRecord 0 region init addr (memErrInfo region (regionIsland region) init (!scrub) 0)) s1 else s1

/-- An uncorrectable error in any region (R558). -/
def badWork (l : Option LaneId) (region init addr syndrome : Nat) (demand : Bool) (s : State) : State :=
  let info := memErrInfo region (regionIsland region) init demand syndrome
  let s1 := count l 0x0802 0xFF 1 (modMem l (memBad addr info) s)
  let s2 := keepPut l 15 true (memoryRecord (if demand then 2 else 1) region init addr info) s1
  let s3 := applyEffect l s2 (.alarm 0x0C)
  match l with
  | some k => s3.modLane k fun x => { x with pmu := { x.pmu with memErrLong := true } }
  | none => s3

/-- UNHEALTHY stands for the lane's next digest; a node's lane, which sends none, meets code 2 at once (R559, R565). -/
def unhealthyMark (l : LaneId) (s : State) : State :=
  if s.isNode then laneMeets l 2 s else s.modLane l fun x => { x with pmu := { x.pmu with memUnhealthy := true } }

/-- A slot of a PURPOSE delivers nothing in this cycle: its fallback, once (Table 2.8). -/
def giveUp (l : LaneId) (purpose : Nat) (s : State) : State :=
  (fallback l purpose 0 s).modLane l fun x => { x with abandoned := if x.abandoned.contains purpose then x.abandoned else purpose :: x.abandoned }

/-- A Spire run is invalidated as R280 states: by the PURPOSE of its slot. -/
def spireInvalid (l : LaneId) (purpose : Nat) (s : State) : State :=
  match purpose with
  | 7 => s.modLane l fun x => { x with
      alloc := { x.alloc with
        result := { outcome := 6 }, solved := some s.time.cycle, outcomes := vmodN x.alloc.outcomes 6 (satAdd (2 ^ 32 - 1) · 1) }
      longOut := vmodN x.longOut 6 (· + 1), abandoned := 7 :: x.abandoned }
  | 9 => s.modLane l fun x => { x with alloc := { x.alloc with cq := { x.alloc.cq with
      groups := vmodN x.alloc.cq.groups (planNow s l - 1) fun g => { g with start := true, solve := { g.solve with outcome := some 6 } } } } }
  | p => giveUp l p s

/-- A transfer through Q01 to Q10 that is treated as not delivered (Table 2.8). -/
def queueLost (l : LaneId) (q : Nat) (s : State) : State :=
  match q with
  | 1 => giveUp l 2 s
  | 10 => s.modLane l fun x => { x with bus := { x.bus with q10 := x.bus.q10.drop 1 } }
  | _ => if 2 ≤ q ∧ q ≤ 9 then s.modLane l fun x => { x with queued := vmodN x.queued q Queue.lose } else s

/-- The transmit banks of a thruster network stay unexchanged in this cycle (R340). -/
def bankHeld (l : LaneId) (net : Nat) (s : State) : State :=
  if 2 ≤ net ∨ (vget (s.lane l).bus.nets net).exchanged then s
  else count (some l) 0x0607 net 1 (s.modLane l fun x => { x with bus := { x.bus with repeat_ := true, nets := vmodN x.bus.nets net fun n =>
      { n with got := 0, exchanged := true, repeating := true, repeats := satAdd 0xFF n.repeats 1 } } })

/-- The page of the staged image is fetched again from the other lane's store, or STAGED becomes 4 with RESULT 3 (Table 22.3, code 0). -/
def refetch (l : LaneId) (s : State) : State :=
  let g := (s.lane l).image
  let o := (s.lane l.other).image
  if g.staged = 0 then s
  else if s.laneRuns l.other && !s.bridgeFault && o.staged != 0 && o.gen == g.gen && o.size == g.size then s
  else s.modLane l fun x => { x with image := { x.image with staged := 4, lastCode := 3, result := { x.image.result with code := 3 } } }

/-- The engine-level action of Table 22.3. `part` says which use of the region's words met the error (log entry 65). -/
def regionAction (l : LaneId) (region part : Nat) (demand : Bool) (s : State) : State :=
  match region with
  | 0 => refetch l s
  | 6 => if (s.lane l).image.staged = 5 then s else s.modLane l fun x => { x with image := { x.image with prevHeld := false } }
  | _ =>
    if !demand then s
    else match region with
    | 4 => giveUp l 3 s
    | 5 => spireInvalid l part s
    | 7 => s.modLane l fun x => { x with alloc := { x.alloc with staging := x.alloc.staging.spoil } }
    | 8 => testWork l (testEngine s) false s
    | 9 => s.modLane l fun x => { x with
        ingest := { x.ingest with snapshot := vmodN x.ingest.snapshot part fun _ => {} }
        cupola := { x.cupola with chans := vmodN x.cupola.chans part fun _ => {} } }
    | 10 =>
      if part < 4 then bankHeld l part s
      else s.modLane l fun x => { x with bus := { x.bus with nets := vmodN x.bus.nets ((part - 4) / 64) fun n =>
        { n with mailboxes := vmodN n.mailboxes ((part - 4) % 64) fun _ => {} } } }
    | 11 => s.modLane l fun x => { x with filter := { x.filter with inputs := vmodN x.filter.inputs part fun i => { i with cur := { i.cur with faulted := true } } } }
    | 12 => giveUp l 5 s
    | 15 => queueLost l part s
    | _ => s

/-- Region 14: part 0 a mailbox frame, which its sender's link sends again; parts 1 to 4095 a queued record; from 4096 on the 16 pixels of a book
word (Table 22.3). -/
def watchtowerWord (part : Nat) (s : State) : State :=
  if part = 0 then s
  else if part < 4096 then
    s.modKeep fun k => if part ≤ k.queue.length then { k with queue := k.queue.eraseIdx (part - 1), dropQueue := satAdd 0xFFFF k.dropQueue 1 } else k
  else
    s.modLantern fun x => { x with book := x.book.zipIdx.map fun p => if p.2 / 16 = part - 4096 then 0xF0 else p.1 }

/-- What an uncorrectable error does beyond R558, by its region. -/
def regionError (l : Option LaneId) (region part : Nat) (demand : Bool) (s : State) : State :=
  match l with
  | some k =>
    let s1 := regionAction k region part demand s
    if regionUnhealthy region demand && !(region == 15 && decide (10 < part)) then unhealthyMark k s1 else s1
  | none => if region = 13 then safJudge (fun i => safIsland i 5 .A false) s else watchtowerWord part s

/-- The page of the next external scrub, and the completed passes (Table 22.5). -/
def scrubbedPage (addr : Nat) (m : MemRegs) : MemRegs :=
  let p := (addr - 0x100000000) / 4096
  if m.scrubPage = p then
    if m.usablePages ≤ p + 1 then { m with scrubPage := 0, scrubPasses := (m.scrubPasses + 1) % 4096 } else { m with scrubPage := p + 1 }
  else m

/-- The word can be reached: a region of its die with its memory powered. -/
def scrubReach (s : State) (l : Option LaneId) (region : Nat) : Bool :=
  s.power.booted && match l with
    | some k => decide (region ≠ 13) && decide (region ≠ 14) && regionOn s k region
    | none => region == 13 || region == 14

/-- SCRUB_ACCESS (R556 to R559), or a demand read of the same word by its engine. -/
def scrubWork (l : Option LaneId) (region addr : Nat) (code : CodeResult) (pass part : Nat) (demand : Bool) (s : State) : State :=
  if !scrubReach s l region || (region == 15 && !demand) then s
  else
    let init := if !demand then 5 else if l.isNone then 7 else 6
    let s1 := match code with
      | .clean => s
      | .corrected n => correctedWork l region init addr n pass (!demand) s
      | .bad syn => regionError l region part demand (badWork l region init addr syn demand s)
    if region ≤ 1 ∧ demand = false then modMem l (scrubbedPage addr) s1 else s1

/-! Requests to external memory (R554, R560). -/

/-- One request is served. -/
def serveRequest (l : LaneId) (s : State) (q : MemAccess) : State :=
  let init := q.source.val
  let reply (d : Option Bytes) (t : State) : State := t.modLane l fun x => { x with pmu := { x.pmu with q14 := x.pmu.q14 ++ [⟨q.source, q.addr, d⟩] } }
  let whole := q.wdata.isSome && decide (q.addr % 32 = 0) && decide (q.len % 32 = 0)
  let ext := match regionAt q.addr with
    | some (.external, _, _) => true
    | _ => false
  if !ext || busError s l q.addr (max 1 q.len) q.wdata.isSome then reply none s
  else
    let bad := match q.code with
      | .bad _ => !whole
      | _ => false
    let s1 := match q.code with
      | .corrected n => if whole then s else correctedWork (some l) 1 init q.addr n 0 false s
      | .bad syn => if whole then s else regionError (some l) 1 0 true (badWork (some l) 1 init q.addr syn true s)
      | .clean => s
    if bad then reply none s1
    else match q.wdata with
      | some d => reply (some []) (s1.setMem l ((s1.mem l).store q.addr d))
      | none => reply (some ((s1.mem l).load q.addr q.len)) s1

/-- The requests in the order of service: rounds over the five sources from `first`, each visit taking the source's oldest request. -/
def roundOrder : Nat → Nat → List MemAccess → List MemAccess
  | 0, _, qs => qs
  | n + 1, first, qs =>
    let visit (acc : List MemAccess × List MemAccess) (k : Nat) : List MemAccess × List MemAccess :=
      match acc.2.find? fun q => q.source.val == (first + k) % 5 with
      | some q => (acc.1 ++ [q], acc.2.erase q)
      | none => acc
    let r := (List.range 5).foldl visit ([], qs)
    if r.2.isEmpty then r.1 else r.1 ++ roundOrder n first r.2

/-- MEM_REQUEST: the memory island serves the sources of the tick. -/
def requestWork (l : LaneId) (reqs : List MemAccess) (s : State) : State :=
  if s.laneRuns l && s.islandRuns l 7 then
    (roundOrder reqs.length (s.time.tick % 5) reqs).foldl (serveRequest l) (s.modLane l fun x => { x with pmu := { x.pmu with q14 := [] } })
  else s

/-! Accesses of the management cores (R39 to R43). -/

def setAccess (l : LaneId) (err : Bool) (d : Bytes) (s : State) : State := s.modLane l fun x => { x with access := ⟨err, d⟩ }

/-- The island that takes an access of a management core through its queue Q11 (R25): the memory island stands behind Q13. -/
def accessIsland (x : Nat) : Option Nat :=
  match regionAt x with
  | some (.cupola, _, _) => some 1
  | some (.spire, _, _) => some 2
  | some (.windows, b, _) => some (winIsland (x - b))
  | some (.external, _, _) => some 7
  | _ => none

/-- The access waits in the queue of an island whose clock stands (R25, R28). -/
def accessWaits (s : State) (l : LaneId) (x : Nat) : Bool := (accessIsland x).any fun i => !vget (s.lane l).pmu.clockRuns i

/-- An access of a core enters the queue of its island: the core, the address, the length, and the bytes of a write. Beyond the depth the core waits with it
(R28, coreStalled). -/
def accessQueued (l : LaneId) (c x n : Nat) (d : Bytes) (s : State) : State :=
  s.modLane l fun y => { y with queued := vmodN y.queued (if accessIsland x = some 7 then 13 else 11) fun q =>
    { q with waiting := q.waiting ++ [{ place := (accessIsland x).getD 0, words := [c, x, n] ++ d.map (·.toNat) }] } }

/-- A read: a bus error, or its bytes with what reading them clears and latches. -/
def accessRead (l : LaneId) (c x n : Nat) (s : State) : State :=
  if busError s l x (max 1 n) false then setAccess l true [] s
  else if accessWaits s l x then accessQueued l c x n [] s
  else
    let r := mgmtRead l x n s
    setAccess l false r.1 r.2

/-- A write of Cupola or Spire memory outside its slots is not performed and counts (R42). -/
def refuseSlot (l : LaneId) (island : Nat) (s : State) : State :=
  count (some l) 0x0101 0xFF 1 (s.modLane l fun x => { x with pmu := { x.pmu with flags := vmodN x.pmu.flags island fun f => { f with slotRefused := true } } })

def accessWrite (l : LaneId) (c x : Nat) (d : Bytes) (s : State) : State :=
  if busError s l x (max 1 d.length) true then setAccess l true [] s
  else if accessWaits s l x then accessQueued l c x d.length d s
  else match slotRefused s l x with
    | some island => setAccess l true [] (refuseSlot l island s)
    | none => setAccess l false [] (mgmtWrite l x d s)

/-- MGMT_ACCESS. -/
def accessWork (l : LaneId) (core x n : Nat) (w : Option Bytes) (s : State) : State :=
  if coreRuns s l core then
    match w with
    | some d => accessWrite l core x d s
    | none => accessRead l core x n s
  else s

/-- A register read by core 0 at an offset of the lane's windows. -/
def windowRead (l : LaneId) (off : Nat) (s : State) : State :=
  if coreRuns s l 0 then accessRead l 0 (0x04000000 + off) 4 s else s

end Sys2Proof.Machine
end

