-- ==== Sys2Proof/Machine/MemExec.lean ====
section
/-! DEFINITION. The meanings of the rows of memory protection (chapter 22), of the management cores' accesses and of the registers without a row of their own. -/

namespace Sys2Proof.Machine

/-- SCRUB_ACCESS (R556 to R559): by the scrubber, or, with `demand`, a read of the word by its engine. -/
def execScrubAccess (l : Option LaneId) (region addr : Nat) (code : CodeResult) (pass part : Nat) (demand : Bool) (s : State) : Out :=
  .next (scrubWork l region addr code pass part demand s)

/-- MEM_REQUEST (R560). -/
def execMemRequest (l : LaneId) (reqs : List MemAccess) (s : State) : Out := .next (requestWork l reqs s)

/-- MGMT_ACCESS (R39 to R42). -/
def execMgmtAccess (l : LaneId) (core : Fin 4) (addr len : Nat) (wdata : Option Bytes) (s : State) : Out :=
  .next (accessWork l core.val addr len wdata s)

/-- REGISTER_WRITE (R17): by the field access codes of the register. -/
def execRegisterWrite (l : LaneId) (addr w : Nat) (s : State) : Out :=
  .next (if coreRuns s l 0 then accessWrite l 0 addr (leBytes 4 w) s else s)

/-- REGISTER_READ_CLEAR (R17). -/
def execRegisterReadClear (l : LaneId) (addr : Nat) (s : State) : Out := .next (if coreRuns s l 0 then accessRead l 0 addr 4 s else s)

/-- CYCLE_LO_READ (R49). -/
def execCycleLoRead (l : LaneId) (s : State) : Out := .next (windowRead l 0x60100 s)

/-- OFFSET_LO_READ (R166): over the lane's Sky link. -/
def execOffsetLoRead (l : LaneId) (s : State) : Out := .next (if coreRuns s l 0 then accessRead l 0 0x05080008 4 s else s)

/-- ERR_ADDR_LO_READ (R563). -/
def execErrAddrLoRead (l : LaneId) (s : State) : Out := .next (windowRead l 0x60310 s)

/-- CNT_VALUE_LOW_READ (R521). -/
def execCntValueLowRead (l : LaneId) (k : Fin 64) (s : State) : Out := .next (windowRead l (0x70000 + 16 * k.val) s)

/-- The windows of a lane change at a long-cycle boundary; it takes those of the other lane as they stood before (R527). -/
def windowChange (l : LaneId) (other : Option (Vector BwWindow 19)) (s : State) : State :=
  if s.laneRuns l then s.modLane l fun x => { x with bw := x.bw.map bwLongEnd, bwRemote := other.getD x.bwRemote } else s

/-- BW_WINDOW_UPDATE (R526), within 1 µs of tick 0 of phase 0. -/
def execBwWindowUpdate (s : State) : Out :=
  let sent (l : LaneId) : Option (Vector BwWindow 19) := if s.laneRuns l && !s.bridgeFault then some (s.lane l).bw else none
  .next (if s.power.booted && s.phase == 0 then atTick 150 1 (fun t => windowChange .B (sent .A) (windowChange .A (sent .B) t)) s else s)

end Sys2Proof.Machine
end

