-- ==== Sys2Proof/Machine/NetExec.lean ====
section
/-! DEFINITION. The meanings of the rows of chapter 13. -/

namespace Sys2Proof.Machine

/-- CELL_START (R337). -/
def execCellStart (l : LaneId) (net : Fin 4) (col : Nat) (r : TxTry) (s : State) : Out :=
  .next (cellCommand l net col r.result r.loop s)

/-- REF_FRAME_FORM (R339). -/
def execRefFrameForm (l : LaneId) (s : State) : Out := .next (refCommand l s)

/-- Q10_RECEIVE (R339). -/
def execQ10Receive (l : LaneId) (s : State) : Out := .next (q10Command l s)

/-- TX_BANK_EXCHANGE (R339). -/
def execTxBankExchange (l : LaneId) (s : State) : Out := .next (exchangeCommand l s)

/-- CAN_FRAME_RECEIVE (R342). -/
def execCanFrameReceive (net : Fin 4) (fr : CanFrame) (durNs : Nat) (s : State) : Out := .next (canCommand net fr durNs s)

/-- EVENT_FRAME_SEND (R356). -/
def execEventFrameSend (l : LaneId) (net : Fin 4) (r : TxTry) (s : State) : Out := .next (eventCommand l net r.result r.loop s)

/-- NET_PEER_COUNT (R352). -/
def execNetPeerCount (l : LaneId) (net : Fin 4) (s : State) : Out := .next (peerCommand l net s)

/-- BUS_IDLE_DETECT (R346). -/
def execBusIdleDetect (l : LaneId) (net : Fin 4) (s : State) : Out := .next (idleCommand l net s)

/-- BUS_OFF_RECOVERY (R349). -/
def execBusOffRecovery (l : LaneId) (net : Fin 4) (s : State) : Out := .next (recoverCommand l net s)

/-- MAILBOX_ACK (R344). -/
def execMailboxAck (l : LaneId) (net : Fin 4) (mbx : Fin 64) (s : State) : Out := .next (ackCommand l net mbx s)

/-- BUS_EVT_DOORBELL (R357). -/
def execBusEvtDoorbell (l : LaneId) (net : Fin 4) (s : State) : Out := .next (doorbellCommand l net s)

end Sys2Proof.Machine
end

