-- ==== Sys2Proof/Machine/NodeOps.lean ====
section
/-! DEFINITION. The thruster node over the whole state (chapter 23): reference frames, pending matrices, commands, the drive link. -/

namespace Sys2Proof.Machine

/-- A node whose bus island works on an image. -/
def nodeRuns (s : State) : Bool := s.power.booted && s.isNode && busRuns s .A

/-- The CAN_MATRIX of the staged image. -/
def stagedMatrix (s : State) : Bytes := imgSection s.laneA.image.data secMatrix

/-- The block of a thruster network that the receivers run on: the pending matrix's while its timing is tried (R571). -/
def nodeNet (s : State) (net : Nat) : Bytes :=
  cmNet (if s.node.altTiming.isSome then stagedMatrix s else section_ s .A secMatrix) net

/-- The pending matrix changes the bit timing of a thruster network (R571). -/
def timingChanges (s : State) : Bool :=
  let old := section_ s .A secMatrix
  let new := stagedMatrix s
  ([0, 1] : List Nat).any fun k => sliceB (cmNet old k) 1 11 != sliceB (cmNet new k) 1 11

/-- A frame of the thruster network as the controller receives it beside the node's own use of it; its start-of-frame edge lies `durNs` back. -/
def nodeTakes (net ident : Nat) (xtd : Bool) (d : Bytes) (durNs : Nat) (s : State) : State :=
  canLane net { ident := ident, xtd := xtd, fd := true, brs := true, esi := false, remote := false, res := false, bad := false, data := d, rec8 := 0 } durNs s .A

/-- The pending image is in force from this reference frame on (R571). -/
def commitPending (id : Nat) (s : State) : State :=
  if s.node.pending ≠ 0 ∧ s.node.pending = id ∧ s.laneA.image.staged = 6 then
    syncPending (nodeActive ((commitLane .A s).modNode fun n => { n with altTiming := none }))
  else syncPending s

/-- NODE_REFERENCE_RECEIVE (R568, R571). -/
def referenceWork (net : Fin 4) (frame : Bytes) (sofNs : Int) (s : State) : State :=
  if !nodeRuns s || decide (2 ≤ net.val) || frame.length != 8 then s
  else
    let blk := nodeNet s net.val
    let t := nodeTakes net.val (nhRef blk) (nhXtd blk) frame (s.deviceNs - ((s.time.cycle * 20000000 : Nat) + sofNs)).toNat s
    let r := nodeReference (colStart blk 0) t.time.cycle sofNs frame t.node
    let steer (x : TimeState) : TimeState := match r.2.1 with
      | some d => { x with tick := (clampI 0 19999 ((x.tick : Int) + d)).toNat }
      | none => x
    let t1 := (t.modNode fun _ => r.1).modTime fun x => { steer x with cycle := r.2.2 }
    commitPending (u16 frame 6) t1

/-- NODE_HOLDOVER_EXPIRE (R569). -/
def holdoverWork (s : State) : State := if nodeRuns s then s.modNode (nodeHoldover (nodeBlock s) s.time.cycle) else s

/-- NODE_TIMING_FALLBACK (R571), at tick 19,900. -/
def timingWork (s : State) : State :=
  if nodeRuns s then atTick 152 19900 (fun t => t.modNode (nodeTiming (timingChanges t))) s else s

/-- The drive command frame goes to the event queues of the drive links (R573). -/
def driveSend (s : State) : State := s.modLane .A fun x => { x with bus := driveQueue (nodeBlock s) s.node x.bus }

/-- NODE_COMMAND_RECEIVE (R572 to R575): a command of THRUSTER. -/
def commandWork (net : Fin 4) (ident : Nat) (d : Bytes) (durNs : Nat) (s : State) : State :=
  let blk := nodeNet s net.val
  if !nodeRuns s || decide (2 ≤ net.val) || ident != nhCmd blk + nbThruster (nodeBlock s) then s
  else
    let t := nodeTakes net.val ident (nhXtd blk) d durNs s
    let r := nodeCommand (nodeBlock t) t.time.us net.val ident d t.node
    let t1 := t.modNode fun _ => r.1
    if r.2 then driveSend t1 else t1

/-- DRIVE_CMD_RESEND (R573, log entry 46), at tick 15,000. -/
def resendWork (s : State) : State :=
  if nodeRuns s && !s.node.appliedThis then atTick 153 15000 driveSend s else s

/-- CMD_HOLD_TIMEOUT (R574). -/
def holdTimeoutWork (s : State) : State := if nodeRuns s then s.modNode (nodeHoldTimeout (nodeBlock s) s.time.us) else s

/-- RAMP_STEP (R574, R575). -/
def rampWork (s : State) : State := if nodeRuns s then s.modNode (nodeRamp (nodeBlock s) s.time.us) else s

end Sys2Proof.Machine
end

