-- ==== Sys2Proof/Machine/NodeExec.lean ====
section
/-! DEFINITION. The meanings of the rows of the thruster node (chapter 23). -/

namespace Sys2Proof.Machine

/-- NODE_REFERENCE_RECEIVE (R568, R571). -/
def execNodeReferenceReceive (net : Fin 4) (frame : Bytes) (sofNs : Int) (s : State) : Out := .next (referenceWork net frame sofNs s)

/-- NODE_HOLDOVER_EXPIRE (R569). -/
def execNodeHoldoverExpire (s : State) : Out := .next (holdoverWork s)

/-- NODE_TIMING_FALLBACK (R571). -/
def execNodeTimingFallback (s : State) : Out := .next (timingWork s)

/-- NODE_COMMAND_RECEIVE (R572). -/
def execNodeCommandReceive (net : Fin 4) (ident : Nat) (d : TimedData) (s : State) : Out := .next (commandWork net ident d.data d.durNs s)

/-- DRIVE_CMD_RESEND (R573). -/
def execDriveCmdResend (s : State) : Out := .next (resendWork s)

/-- CMD_HOLD_TIMEOUT (R574). -/
def execCmdHoldTimeout (s : State) : Out := .next (holdTimeoutWork s)

/-- RAMP_STEP (R574, R575). -/
def execRampStep (s : State) : Out := .next (rampWork s)

end Sys2Proof.Machine
end

