-- ==== Sys2Proof/Machine/PowerExec.lean ====
section
/-! DEFINITION. The meanings of the rows of power, start-up and ageing (chapter 21), of supply and clock losses, input faults and boundary scan. -/

namespace Sys2Proof.Machine

/-- PFAIL_ASSERT (R541). -/
def execPfailAssert (s : State) : Out := .next (pfailOn s)

/-- PFAIL_DEASSERT (R543). -/
def execPfailDeassert (s : State) : Out := .next (pfailOff s)

/-- VHOLD_LOSS (R543). -/
def execVholdLoss (s : State) : Out := .next (vholdLost s)

/-- POWER_ON_RESET (R534 to R536). -/
def execPowerOnReset (on : PowerOn) (s : State) : Out := .next (powerOn on s)

/-- ORIGIN_WAIT_EXPIRE (R538). -/
def execOriginWaitExpire (s : State) : Out := .next (originWaitExpire s)

/-- CONTROL_PATH_START (R539). -/
def execControlPathStart (l : LaneId) (s : State) : Out := .next (controlStart l s)

/-- INRUSH_ADMIT (R532): at the start of the next window of 100 µs. -/
def execInrushAdmit (s : State) : Out :=
  .next (if s.power.booted then atUs ((s.time.us + 99) / 100 * 100) admitWork s else s)

/-- DOMAIN_WAKE_DONE (R531). -/
def execDomainWakeDone (d : Nat) (s : State) : Out := .next (if s.power.booted then domainAwake d s else s)

/-- THERMAL_TRIP (R549). -/
def execThermalTrip (die : Fin 4) (temp : Int) (s : State) : Out := .next (tripWork die temp s)

/-- THERMAL_REWAKE (R549). -/
def execThermalRewake (die : Fin 4) (temp : Int) (s : State) : Out := .next (coolWork die temp s)

/-- AGEING_SAMPLE (R544, R546). -/
def execAgeingSample (l : LaneId) (mons : Vector (Vector Nat 4) 9) (tj : Int) (s : State) : Out := .next (ageWork l mons tj s)

/-- BODY_BIAS_STEP (R545). -/
def execBodyBiasStep (l : LaneId) (island : Fin 9) (s : State) : Out := .next (biasWork l island s)

/-- SLACK_ESTIMATE (R548). -/
def execSlackEstimate (l : LaneId) (s : State) : Out := .next (slackWork l s)

/-- LANE_SUPPLY_LOSS (R21, R400). -/
def execLaneSupplyLoss (l : LaneId) (s : State) : Out := .next (supplyLost l s)

/-- PLL_LOSS_OF_LOCK (R61). -/
def execPllLossOfLock (l : LaneId) (island : Fin 9) (stops : Bool) (s : State) : Out := .next (pllLoss l island stops s)

/-- EXC_FAULT (R609). -/
def execExcFault (l : LaneId) (s : State) : Out := .next (excWork l s)

/-- CHAIN_FAULT (R611). -/
def execChainFault (ant : Fin 2) (pll : Option Chain) (s : State) : Out := .next (chainWork ant pll s)

/-- BOUNDARY_SCAN (R593). -/
def execBoundaryScan (op : JtagOp) (s : State) : Out := .next (scanWork op s)

end Sys2Proof.Machine
end

