-- ==== Sys2Proof/Machine/SafetyExec.lean ====
section
/-! DEFINITION. The meanings of the rows of chapter 14. -/

namespace Sys2Proof.Machine

/-- SAFETY_INPUT_CHANGE (R362). -/
def execSafetyInputChange (c : SafeChan) (p : Fin 8) (on : Bool) (s : State) : Out := .next (safDo (fun i => safInput i c p.val on) s)

/-- SAFETY_CYCLE_START (R361). -/
def execSafetyCycleStart (s : State) : Out := .next (safetyCycle s)

/-- RESET_INPUT_OPERATION (R365): the operation carries the reset (log entry 42). -/
def execResetInputOperation (p : Fin 8) (durUs : Nat) (s : State) : Out := .next (safQuiet (fun i => safReset i p.val durUs) s)

/-- OUTPUT_STUCK_FAULT (R366, R541). -/
def execOutputStuckFault (n : Fin 16) (s : State) : Out := .next (safJudge (fun i => safPairFault i n.val) s)

/-- TEST_PULSE_START (R369). -/
def execTestPulseStart (c : SafeChan) (n : Fin 16) (s : State) : Out := .next (pulseStart c n.val s)

/-- TEST_PULSE_END (R370). -/
def execTestPulseEnd (c : SafeChan) (pass : Bool) (s : State) : Out := .next (pulseEnd c pass s)

/-- SAFE_MESSAGE_RECEIVE (R372, R373, R376). -/
def execSafeMessageReceive (net : Fin 2) (ident : Nat) (x : SafeBus) (s : State) : Out := .next (safDo (fun i => safBus i net.val ident x) s)

/-- STREAM_TIMEOUT (R377). -/
def execStreamTimeout (e : Fin 3) (net : Fin 2) (s : State) : Out := .next (safDo (fun i => safTimeout i e.val net.val) s)

/-- SENDER_DISCREPANT (R379). -/
def execSenderDiscrepant (e : Fin 3) (s : State) : Out := .next (safQuiet (fun i => safDiscrepant i e.val) s)

/-- ISLAND_FAULT (R382, R541). -/
def execIslandFault (cause : Nat) (c : SafeChan) (own : Bool) (s : State) : Out := .next (safJudge (fun i => safIsland i cause c own) s)

/-- PROOF_TEST_BEGIN (R390, R582). -/
def execProofTestBegin (n : Fin 16) (s : State) : Out := .next (safDo (fun i => safProofBegin i n.val (nodeProofReady s)) s)

/-- PROOF_PHASE_END (R390, R391). -/
def execProofPhaseEnd (n : Fin 16) (pass : Bool) (s : State) : Out := .next (safJudge (fun i => safProofPhase i n.val pass) s)

/-- BLOCK_ACTIVATE (R388). -/
def execBlockActivate (s : State) : Out := .next (blockActivate s)

/-- PENDING_BLOCK_EXPIRE (R386). -/
def execPendingBlockExpire (s : State) : Out := .next (blockExpire s)

/-- COMMISSION_EN_CHANGE (R387). -/
def execCommissionEnChange (on : Bool) (s : State) : Out := .next (safQuiet (fun i => safCommission i.us on) s)

/-- SAFETY_STARTUP (R392). -/
def execSafetyStartup (inA inB : Nat) (s : State) : Out := .next (safetyStartup inA inB s)

end Sys2Proof.Machine
end

