-- ==== Sys2Proof/Machine/SkyExec.lean ====
section
/-! DEFINITION. The meanings of the rows of chapters 5 and 6: Oculus and Belfry. -/

namespace Sys2Proof.Machine

/-- MEASUREMENT_EPOCH (R128), at tick 0 of the cycles that hold an epoch. -/
def execMeasurementEpoch (ob : EpochObs) (s : State) : Out := .next (if epochDue s then atTick 132 0 (epochWork ob) s else s)

/-- SKY_RECORD_RECEIVE (R130). -/
def execSkyRecordReceive (l : LaneId) (s : State) : Out := .next (skyRecord l s)

/-- AIDING_FRAME (R135), once per cycle before tick 19,900. -/
def execAidingFrame (l : LaneId) (s : State) : Out :=
  .next (if pathRuns s l && decide (s.time.tick < 19900) then atTick (laneCodeOf 66 l) s.time.tick (aidingFrame l) s else s)

/-- RTCM_FRAME (R136). -/
def execRtcmFrame (l : LaneId) (frame : Bytes) (s : State) : Out := .next (rtcmFrame l frame s)

/-- NOTCH_MONITOR (R139). -/
def execNotchMonitor (chain : Chain) (ob : MonitorObs) (s : State) : Out := .next (notchMonitor chain ob s)

/-- ORIGIN_FIX (R153). -/
def execOriginFix (adopt : Option (Nat × Nat × Bool × Nat)) (gpsNs : Nat) (s : State) : Out := .next (originFix adopt gpsNs s)

/-- BLF_EPOCH_EVAL (R156). -/
def execBlfEpochEval (ob : TimeObs) (s : State) : Out := .next (if epochDue s then atTick 131 s.time.tick (epochJudge ob) s else s)

/-- RETURN_QUALIFIED (R157), at a boundary. -/
def execReturnQualified (s : State) : Out := .next (if s.power.skyOn && s.belfry.qualified then atTick 134 0 returnWork s else s)

/-- BLF_LONG_CYCLE_UPDATE (R158), after the pulse edge of a long-cycle boundary. -/
def execBlfLongCycleUpdate (s : State) : Out :=
  .next (if s.power.skyOn && s.phase == 0 then
    atTick 133 0 (fun t => setBelfry (longCycleUpdate (timeCfg t) (masterDev t) t.belfry) t) s
  else s)

/-- BLF_BOUNDARY_UPDATE (R159), with the Sky die's temperature. -/
def execBlfBoundaryUpdate (temp : ℚ) (s : State) : Out :=
  .next (if s.power.skyOn then atTick 135 0 (fun t => setBelfry (boundaryUpdate (timeCfg t) t.time.us temp t.belfry) t) s else s)

/-- LANE_TICK_MARKER (R160, R161). -/
def execLaneTickMarker (l : LaneId) (dev : Int) (s : State) : Out := .next (tickMarker l dev s)

/-- PPS_EDGE (R163), at a long-cycle boundary. -/
def execPpsEdge (s : State) : Out := .next (if s.power.skyOn && s.phase == 0 then atTick 136 0 ppsWork s else s)

/-- TIMEQ_COMPUTE (R164), by tick 100 of phase 25. -/
def execTimeqCompute (s : State) : Out := .next (if s.power.skyOn && s.phase == 25 then atTick 137 100 timeqWork s else s)

/-- LEAP_SECOND (R154). -/
def execLeapSecond (s : State) : Out := .next (if s.power.skyOn then s.modBelfry (fun b => utcKeep s.deviceNs (leapSecond b)) else s)

/-- PTP_MESSAGE (R165). -/
def execPtpMessage (p : EthPort) (typ : PtpHead) (seq : Nat) (carried rx : Int) (oneStep : Bool) (cls : Nat) (s : State) : Out :=
  .next (ptpReceive p typ.domain typ.typ seq carried rx oneStep cls s)

/-- PTP_SYNC_SEND (R165). -/
def execPtpSyncSend (p : EthPort) (s : State) : Out := .next (ptpMasterSync p s)

end Sys2Proof.Machine
end

