-- ==== Sys2Proof/Machine/Dispatch.lean ====
section
/-! DEFINITION. exec: the one dispatch from a command to its meaning, one arm per constructor of Instr in the opcode table's order. -/

namespace Sys2Proof.Machine

/-- The effect of one command on everything but the queue. -/
def exec (i : Instr) (s : State) : Host.Outcome State Fault Refusal :=
  match i with
  | .packetReceive p src sound raw => Sys2Proof.Machine.execPacketReceive p src sound raw s
  | .svcWrite raw => Sys2Proof.Machine.execSvcWrite raw s
  | .svcRead => Sys2Proof.Machine.execSvcRead s
  | .svcStatus => Sys2Proof.Machine.execSvcStatus s
  | .sessionOpen svc => Sys2Proof.Machine.execSessionOpen svc s
  | .sessionClose p => Sys2Proof.Machine.execSessionClose p s
  | .tokenRequest p => Sys2Proof.Machine.execTokenRequest p s
  | .tokenRelease p => Sys2Proof.Machine.execTokenRelease p s
  | .keepalive p => Sys2Proof.Machine.execKeepalive p s
  | .notifyResend p => Sys2Proof.Machine.execNotifyResend p s
  | .channelStatus p => Sys2Proof.Machine.execChannelStatus p s
  | .modeSet p => Sys2Proof.Machine.execModeSet p s
  | .modeStatus p => Sys2Proof.Machine.execModeStatus p s
  | .spPosition p => Sys2Proof.Machine.execSpPosition p s
  | .spHeading p => Sys2Proof.Machine.execSpHeading p s
  | .spSiteOrigin p => Sys2Proof.Machine.execSpSiteOrigin p s
  | .spTrack p => Sys2Proof.Machine.execSpTrack p s
  | .spTargetOffset p => Sys2Proof.Machine.execSpTargetOffset p s
  | .spJoystick p => Sys2Proof.Machine.execSpJoystick p s
  | .spRead p => Sys2Proof.Machine.execSpRead p s
  | .refSelect p => Sys2Proof.Machine.execRefSelect p s
  | .channelSelect p => Sys2Proof.Machine.execChannelSelect p s
  | .gnssSelect p => Sys2Proof.Machine.execGnssSelect p s
  | .gnssNoiseRef p => Sys2Proof.Machine.execGnssNoiseRef p s
  | .refRead p => Sys2Proof.Machine.execRefRead p s
  | .channelRead p => Sys2Proof.Machine.execChannelRead p s
  | .thrAvailable p => Sys2Proof.Machine.execThrAvailable p s
  | .thrStart p => Sys2Proof.Machine.execThrStart p s
  | .thrStop p => Sys2Proof.Machine.execThrStop p s
  | .allocRead p => Sys2Proof.Machine.execAllocRead p s
  | .conseqRead p => Sys2Proof.Machine.execConseqRead p s
  | .imageBegin p => Sys2Proof.Machine.execImageBegin p s
  | .imageData p => Sys2Proof.Machine.execImageData p s
  | .imageVerify p => Sys2Proof.Machine.execImageVerify p s
  | .imageCommit p => Sys2Proof.Machine.execImageCommit p s
  | .imageRollback p => Sys2Proof.Machine.execImageRollback p s
  | .imageStatus p => Sys2Proof.Machine.execImageStatus p s
  | .tierFloor p => Sys2Proof.Machine.execTierFloor p s
  | .keepInfo p => Sys2Proof.Machine.execKeepInfo p s
  | .keepRead p => Sys2Proof.Machine.execKeepRead p s
  | .keepMark p => Sys2Proof.Machine.execKeepMark p s
  | .healthRead p => Sys2Proof.Machine.execHealthRead p s
  | .arbRead p => Sys2Proof.Machine.execArbRead p s
  | .regRead p => Sys2Proof.Machine.execRegRead p s
  | .netTest p => Sys2Proof.Machine.execNetTest p s
  | .netRestart p => Sys2Proof.Machine.execNetRestart p s
  | .idClear p => Sys2Proof.Machine.execIdClear p s
  | .laneRestart p => Sys2Proof.Machine.execLaneRestart p s
  | .gnssRawRead p => Sys2Proof.Machine.execGnssRawRead p s
  | .timeRead p => Sys2Proof.Machine.execTimeRead p s
  | .alarmAck p => Sys2Proof.Machine.execAlarmAck p s
  | .alarmList p => Sys2Proof.Machine.execAlarmList p s
  | .safetyStatus p => Sys2Proof.Machine.execSafetyStatus p s
  | .safetyBlockLoad p => Sys2Proof.Machine.execSafetyBlockLoad p s
  | .safetyBlockRead p => Sys2Proof.Machine.execSafetyBlockRead p s
  | .safetyConfirm p => Sys2Proof.Machine.execSafetyConfirm p s
  | .safetyZoneRequest p => Sys2Proof.Machine.execSafetyZoneRequest p s
  | .safetyProofTest p => Sys2Proof.Machine.execSafetyProofTest p s
  | .cntConfig p => Sys2Proof.Machine.execCntConfig p s
  | .cntRead p => Sys2Proof.Machine.execCntRead p s
  | .cntClear p => Sys2Proof.Machine.execCntClear p s
  | .bwRead p => Sys2Proof.Machine.execBwRead p s
  | .ltnStatus p => Sys2Proof.Machine.execLtnStatus p s
  | .ltnShow p => Sys2Proof.Machine.execLtnShow p s
  | .ltnClear p => Sys2Proof.Machine.execLtnClear p s
  | .ltnPower p => Sys2Proof.Machine.execLtnPower p s
  | .gainWrite p => Sys2Proof.Machine.execGainWrite p s
  | .gainRevert p => Sys2Proof.Machine.execGainRevert p s
  | .gainRead p => Sys2Proof.Machine.execGainRead p s
  | .opcodeUnknown p => Sys2Proof.Machine.execOpcodeUnknown p s
  | .journalMirrorComplete p => Sys2Proof.Machine.execJournalMirrorComplete p s
  | .journalHoldElapsed p => Sys2Proof.Machine.execJournalHoldElapsed p s
  | .watchtowerActionResult p => Sys2Proof.Machine.execWatchtowerActionResult p s
  | .sessionTimeout p => Sys2Proof.Machine.execSessionTimeout p s
  | .tokenSessionLoss => Sys2Proof.Machine.execTokenSessionLoss s
  | .journalSnapshot => Sys2Proof.Machine.execJournalSnapshot s
  | .cycleBoundary => Sys2Proof.Machine.execCycleBoundary s
  | .commitAbandonTimeout => Sys2Proof.Machine.execCommitAbandonTimeout s
  | .imageVerifyDone => Sys2Proof.Machine.execImageVerifyDone s
  | .imageInstallDone l => Sys2Proof.Machine.execImageInstallDone l s
  | .snapshot l => Sys2Proof.Machine.execSnapshot l s
  | .filterHandoff l => Sys2Proof.Machine.execFilterHandoff l s
  | .cupolaFusion l => Sys2Proof.Machine.execCupolaFusion l s
  | .observerRun l => Sys2Proof.Machine.execObserverRun l s
  | .controlLawSlot l => Sys2Proof.Machine.execControlLawSlot l s
  | .deltaPacketSlot l => Sys2Proof.Machine.execDeltaPacketSlot l s
  | .conseqInputWrite l => Sys2Proof.Machine.execConseqInputWrite l s
  | .allocationSolve l setupClk iterClk => Sys2Proof.Machine.execAllocationSolve l setupClk iterClk s
  | .allocationDeadline l stop => Sys2Proof.Machine.execAllocationDeadline l stop s
  | .outputStage l => Sys2Proof.Machine.execOutputStage l s
  | .consequenceStep l slot ok => Sys2Proof.Machine.execConsequenceStep l slot ok s
  | .selftestSegment l slot pass => Sys2Proof.Machine.execSelftestSegment l slot pass s
  | .builtinTest l island pass => Sys2Proof.Machine.execBuiltinTest l island pass s
  | .slotEndTick l slot used done => Sys2Proof.Machine.execSlotEndTick l slot used done s
  | .clockMeasure l clocks => Sys2Proof.Machine.execClockMeasure l clocks s
  | .stagingClose l => Sys2Proof.Machine.execStagingClose l s
  | .removalMaskRequest l => Sys2Proof.Machine.execRemovalMaskRequest l s
  | .alarmEvaluation l => Sys2Proof.Machine.execAlarmEvaluation l s
  | .conseqPublish l => Sys2Proof.Machine.execConseqPublish l s
  | .standbyHealth => Sys2Proof.Machine.execStandbyHealth s
  | .startTimeout l => Sys2Proof.Machine.execStartTimeout l s
  | .serialFrameComplete l port raw startNs endNs lost => Sys2Proof.Machine.execSerialFrameComplete l port raw startNs endNs lost s
  | .ethSensorDatagram p dst raw startNs stamps lost => Sys2Proof.Machine.execEthSensorDatagram p dst raw startNs stamps lost s
  | .serialBreak l port => Sys2Proof.Machine.execSerialBreak l port s
  | .binaryGapTimeout l port raw startNs => Sys2Proof.Machine.execBinaryGapTimeout l port raw startNs s
  | .serialSettingsSwitch l port => Sys2Proof.Machine.execSerialSettingsSwitch l port s
  | .channelUpdateRelease l => Sys2Proof.Machine.execChannelUpdateRelease l s
  | .bridgeUpdateArrive l => Sys2Proof.Machine.execBridgeUpdateArrive l s
  | .bridgeFrameReceive l frame ok => Sys2Proof.Machine.execBridgeFrameReceive l frame ok s
  | .bridgeAckTimeout l => Sys2Proof.Machine.execBridgeAckTimeout l s
  | .linkFrameFail l sky => Sys2Proof.Machine.execLinkFrameFail l sky s
  | .filterOutput l input g new newB => Sys2Proof.Machine.execFilterOutput l input g new newB s
  | .filterSummary l => Sys2Proof.Machine.execFilterSummary l s
  | .summaryForward l => Sys2Proof.Machine.execSummaryForward l s
  | .inputFaultRaise l input kind => Sys2Proof.Machine.execInputFaultRaise l input kind s
  | .inputFaultClear l input kind => Sys2Proof.Machine.execInputFaultClear l input kind s
  | .measurementEpoch ob => Sys2Proof.Machine.execMeasurementEpoch ob s
  | .skyRecordReceive l => Sys2Proof.Machine.execSkyRecordReceive l s
  | .aidingFrame l => Sys2Proof.Machine.execAidingFrame l s
  | .rtcmFrame l frame => Sys2Proof.Machine.execRtcmFrame l frame s
  | .notchMonitor chain ob => Sys2Proof.Machine.execNotchMonitor chain ob s
  | .originFix adopt gpsNs => Sys2Proof.Machine.execOriginFix adopt gpsNs s
  | .blfEpochEval ob => Sys2Proof.Machine.execBlfEpochEval ob s
  | .returnQualified => Sys2Proof.Machine.execReturnQualified s
  | .blfLongCycleUpdate => Sys2Proof.Machine.execBlfLongCycleUpdate s
  | .blfBoundaryUpdate temp => Sys2Proof.Machine.execBlfBoundaryUpdate temp s
  | .laneTickMarker l dev => Sys2Proof.Machine.execLaneTickMarker l dev s
  | .ppsEdge => Sys2Proof.Machine.execPpsEdge s
  | .timeqCompute => Sys2Proof.Machine.execTimeqCompute s
  | .leapSecond => Sys2Proof.Machine.execLeapSecond s
  | .ptpMessage p typ seq carried rx oneStep cls => Sys2Proof.Machine.execPtpMessage p typ seq carried rx oneStep cls s
  | .ptpSyncSend p => Sys2Proof.Machine.execPtpSyncSend p s
  | .cellStart l net col r => Sys2Proof.Machine.execCellStart l net col r s
  | .refFrameForm l => Sys2Proof.Machine.execRefFrameForm l s
  | .q10Receive l => Sys2Proof.Machine.execQ10Receive l s
  | .txBankExchange l => Sys2Proof.Machine.execTxBankExchange l s
  | .canFrameReceive net fr durNs => Sys2Proof.Machine.execCanFrameReceive net fr durNs s
  | .eventFrameSend l net r => Sys2Proof.Machine.execEventFrameSend l net r s
  | .netPeerCount l net => Sys2Proof.Machine.execNetPeerCount l net s
  | .busIdleDetect l net => Sys2Proof.Machine.execBusIdleDetect l net s
  | .busOffRecovery l net => Sys2Proof.Machine.execBusOffRecovery l net s
  | .mailboxAck l net mbx => Sys2Proof.Machine.execMailboxAck l net mbx s
  | .busEvtDoorbell l net => Sys2Proof.Machine.execBusEvtDoorbell l net s
  | .safetyInputChange c p on => Sys2Proof.Machine.execSafetyInputChange c p on s
  | .safetyCycleStart => Sys2Proof.Machine.execSafetyCycleStart s
  | .resetInputOperation p durUs => Sys2Proof.Machine.execResetInputOperation p durUs s
  | .outputStuckFault n => Sys2Proof.Machine.execOutputStuckFault n s
  | .testPulseStart c n => Sys2Proof.Machine.execTestPulseStart c n s
  | .testPulseEnd c pass => Sys2Proof.Machine.execTestPulseEnd c pass s
  | .safeMessageReceive net ident x => Sys2Proof.Machine.execSafeMessageReceive net ident x s
  | .streamTimeout e net => Sys2Proof.Machine.execStreamTimeout e net s
  | .senderDiscrepant e => Sys2Proof.Machine.execSenderDiscrepant e s
  | .islandFault cause c own => Sys2Proof.Machine.execIslandFault cause c own s
  | .proofTestBegin n => Sys2Proof.Machine.execProofTestBegin n s
  | .proofPhaseEnd n pass => Sys2Proof.Machine.execProofPhaseEnd n pass s
  | .blockActivate => Sys2Proof.Machine.execBlockActivate s
  | .pendingBlockExpire => Sys2Proof.Machine.execPendingBlockExpire s
  | .commissionEnChange on => Sys2Proof.Machine.execCommissionEnChange on s
  | .safetyStartup inA inB => Sys2Proof.Machine.execSafetyStartup inA inB s
  | .digestReceive l => Sys2Proof.Machine.execDigestReceive l s
  | .digestCompare => Sys2Proof.Machine.execDigestCompare s
  | .laneSwitchover => Sys2Proof.Machine.execLaneSwitchover s
  | .takebackEval => Sys2Proof.Machine.execTakebackEval s
  | .laneWake l => Sys2Proof.Machine.execLaneWake l s
  | .laneSelftestDone l pass => Sys2Proof.Machine.execLaneSelftestDone l pass s
  | .laneLoadDone l => Sys2Proof.Machine.execLaneLoadDone l s
  | .shadowTransfer => Sys2Proof.Machine.execShadowTransfer s
  | .voteForm locked => Sys2Proof.Machine.execVoteForm locked s
  | .moduleControlChange => Sys2Proof.Machine.execModuleControlChange s
  | .arbExtChange a b => Sys2Proof.Machine.execArbExtChange a b s
  | .voteFrameSend => Sys2Proof.Machine.execVoteFrameSend s
  | .voteFrameReceive l dir frame => Sys2Proof.Machine.execVoteFrameReceive l dir frame s
  | .stateFrameSend => Sys2Proof.Machine.execStateFrameSend s
  | .stateFrameReceive l dir frame => Sys2Proof.Machine.execStateFrameReceive l dir frame s
  | .journalFrameReceive l dir frame => Sys2Proof.Machine.execJournalFrameReceive l dir frame s
  | .imageHold rx => Sys2Proof.Machine.execImageHold rx s
  | .imageCommitFrame rx => Sys2Proof.Machine.execImageCommitFrame rx s
  | .imageDataFrame rx => Sys2Proof.Machine.execImageDataFrame rx s
  | .beacon l dir rx => Sys2Proof.Machine.execBeacon l dir rx s
  | .baiquePortDown l dir lockLost => Sys2Proof.Machine.execBaiquePortDown l dir lockLost s
  | .timeExchangeStart t1 => Sys2Proof.Machine.execTimeExchangeStart t1 s
  | .timeSync l dir frame t2 => Sys2Proof.Machine.execTimeSync l dir frame t2 s
  | .timeDelay rx t => Sys2Proof.Machine.execTimeDelay rx t s
  | .timeReply l dir frame => Sys2Proof.Machine.execTimeReply l dir frame s
  | .pfailAssert => Sys2Proof.Machine.execPfailAssert s
  | .pfailDeassert => Sys2Proof.Machine.execPfailDeassert s
  | .vholdLoss => Sys2Proof.Machine.execVholdLoss s
  | .powerOnReset on => Sys2Proof.Machine.execPowerOnReset on s
  | .originWaitExpire => Sys2Proof.Machine.execOriginWaitExpire s
  | .controlPathStart l => Sys2Proof.Machine.execControlPathStart l s
  | .inrushAdmit => Sys2Proof.Machine.execInrushAdmit s
  | .domainWakeDone d => Sys2Proof.Machine.execDomainWakeDone d s
  | .thermalTrip die temp => Sys2Proof.Machine.execThermalTrip die temp s
  | .thermalRewake die temp => Sys2Proof.Machine.execThermalRewake die temp s
  | .ageingSample l mons tj => Sys2Proof.Machine.execAgeingSample l mons tj s
  | .bodyBiasStep l island => Sys2Proof.Machine.execBodyBiasStep l island s
  | .slackEstimate l => Sys2Proof.Machine.execSlackEstimate l s
  | .scrubAccess l region addr code pass part demand => Sys2Proof.Machine.execScrubAccess l region addr code pass part demand s
  | .memRequest l reqs => Sys2Proof.Machine.execMemRequest l reqs s
  | .mgmtAccess l core addr len wdata => Sys2Proof.Machine.execMgmtAccess l core addr len wdata s
  | .registerWrite l addr w => Sys2Proof.Machine.execRegisterWrite l addr w s
  | .registerReadClear l addr => Sys2Proof.Machine.execRegisterReadClear l addr s
  | .cycleLoRead l => Sys2Proof.Machine.execCycleLoRead l s
  | .offsetLoRead l => Sys2Proof.Machine.execOffsetLoRead l s
  | .errAddrLoRead l => Sys2Proof.Machine.execErrAddrLoRead l s
  | .cntValueLowRead l k => Sys2Proof.Machine.execCntValueLowRead l k s
  | .bwWindowUpdate => Sys2Proof.Machine.execBwWindowUpdate s
  | .keepRecordEnqueue src typ integrity payload => Sys2Proof.Machine.execKeepRecordEnqueue src typ integrity payload s
  | .flashUnitDone ok => Sys2Proof.Machine.execFlashUnitDone ok s
  | .tallyPeriodic => Sys2Proof.Machine.execTallyPeriodic s
  | .summaryWrite => Sys2Proof.Machine.execSummaryWrite s
  | .sectorRefresh => Sys2Proof.Machine.execSectorRefresh s
  | .keepHistogramSample => Sys2Proof.Machine.execKeepHistogramSample s
  | .lanternUpdateStart => Sys2Proof.Machine.execLanternUpdateStart s
  | .pumpRailsReady => Sys2Proof.Machine.execPumpRailsReady s
  | .pumpRailFault => Sys2Proof.Machine.execPumpRailFault s
  | .lanternUpdateEnd => Sys2Proof.Machine.execLanternUpdateEnd s
  | .panelTempSample t => Sys2Proof.Machine.execPanelTempSample t s
  | .statusRender => Sys2Proof.Machine.execStatusRender s
  | .bookSave => Sys2Proof.Machine.execBookSave s
  | .nodeReferenceReceive net frame sofNs => Sys2Proof.Machine.execNodeReferenceReceive net frame sofNs s
  | .nodeHoldoverExpire => Sys2Proof.Machine.execNodeHoldoverExpire s
  | .nodeTimingFallback => Sys2Proof.Machine.execNodeTimingFallback s
  | .nodeCommandReceive net ident d => Sys2Proof.Machine.execNodeCommandReceive net ident d s
  | .driveCmdResend => Sys2Proof.Machine.execDriveCmdResend s
  | .cmdHoldTimeout => Sys2Proof.Machine.execCmdHoldTimeout s
  | .rampStep => Sys2Proof.Machine.execRampStep s
  | .laneSupplyLoss l => Sys2Proof.Machine.execLaneSupplyLoss l s
  | .pllLossOfLock l island stops => Sys2Proof.Machine.execPllLossOfLock l island stops s
  | .tokenHoldEnd c => Sys2Proof.Machine.execTokenHoldEnd c s
  | .excFault l => Sys2Proof.Machine.execExcFault l s
  | .chainFault ant pll => Sys2Proof.Machine.execChainFault ant pll s
  | .boundaryScan op => Sys2Proof.Machine.execBoundaryScan op s

end Sys2Proof.Machine
end

