-- ==== Sys2Proof/Safety.lean ====
section
/-! DEFINITION. The terms in which statements speak of the block: a command that leaves a next state, what a command changes and nothing else,
a host command taken at its turn, and memories in canonical form. -/

namespace Sys2Proof.Machine

/-- Both memories are in canonical form. -/
def State.memWf (s : State) : Bool := Memory.wf s.memA && Memory.wf s.memB

/-- The command leaves a next state, of which `p` holds. -/
def leaves (c : Instr) (s : State) (p : State → Prop) : Prop := ∃ t, exec c s = .next t ∧ p t

/-- The commands that may write a lane's memory: accesses by its management complex, and what switches or resets a lane's domains. -/
def writesMemory (c : Instr) : Bool :=
  match c with
  | .mgmtAccess _ _ _ _ _ | .registerWrite _ _ _ | .memRequest _ _ => true
  | .cycleBoundary | .laneSwitchover | .thermalTrip _ _ | .domainWakeDone _ | .controlPathStart _ => true
  | .pfailDeassert | .vholdLoss | .powerOnReset _ => true
  | _ => false

/-- From `s` to `t` these outputs have left the block, in this order, and no others. -/
def emits (o : List Output) (s t : State) : Prop := t.outbox = s.outbox ++ o

/-! Frames. -/

/-- The parts of State outside the two lanes, one for each field. -/
inductive Part where
  | time | memA | memB | arb | power | safety | keep | lantern | host | oculus | belfry | node | jtag | bridgeFault | latched | outbox | free | pending
  deriving DecidableEq, Repr

/-- The parts of a lane, one for each field. -/
inductive LanePart where
  | pmu | counters | bw | bwRemote | ingest | filter | cupola | observer | control | alloc | bus | image | alarms | journal | staged | finished
  | abandoned | occurred | test | access | incoming | bridgeTry | skyTry | skyFault | wtTry | wtFault | jseq | queued | snapPrev | digestOut | mask
  | shadow | clockUse | longOut | instant
  deriving DecidableEq, Repr

/-- `y` differs from `x` in nothing but the listed parts. -/
structure Lane.Same (ps : List LanePart) (x y : Lane) : Prop where
  pmu : .pmu ∉ ps → y.pmu = x.pmu
  counters : .counters ∉ ps → y.counters = x.counters
  bw : .bw ∉ ps → y.bw = x.bw
  bwRemote : .bwRemote ∉ ps → y.bwRemote = x.bwRemote
  ingest : .ingest ∉ ps → y.ingest = x.ingest
  filter : .filter ∉ ps → y.filter = x.filter
  cupola : .cupola ∉ ps → y.cupola = x.cupola
  observer : .observer ∉ ps → y.observer = x.observer
  control : .control ∉ ps → y.control = x.control
  alloc : .alloc ∉ ps → y.alloc = x.alloc
  bus : .bus ∉ ps → y.bus = x.bus
  image : .image ∉ ps → y.image = x.image
  alarms : .alarms ∉ ps → y.alarms = x.alarms
  journal : .journal ∉ ps → y.journal = x.journal
  staged : .staged ∉ ps → y.staged = x.staged
  finished : .finished ∉ ps → y.finished = x.finished
  abandoned : .abandoned ∉ ps → y.abandoned = x.abandoned
  occurred : .occurred ∉ ps → y.occurred = x.occurred
  test : .test ∉ ps → y.test = x.test
  access : .access ∉ ps → y.access = x.access
  incoming : .incoming ∉ ps → y.incoming = x.incoming
  bridgeTry : .bridgeTry ∉ ps → y.bridgeTry = x.bridgeTry
  skyTry : .skyTry ∉ ps → y.skyTry = x.skyTry
  skyFault : .skyFault ∉ ps → y.skyFault = x.skyFault
  wtTry : .wtTry ∉ ps → y.wtTry = x.wtTry
  wtFault : .wtFault ∉ ps → y.wtFault = x.wtFault
  jseq : .jseq ∉ ps → y.jseq = x.jseq
  queued : .queued ∉ ps → y.queued = x.queued
  snapPrev : .snapPrev ∉ ps → y.snapPrev = x.snapPrev
  digestOut : .digestOut ∉ ps → y.digestOut = x.digestOut
  mask : .mask ∉ ps → y.mask = x.mask
  shadow : .shadow ∉ ps → y.shadow = x.shadow
  clockUse : .clockUse ∉ ps → y.clockUse = x.clockUse
  longOut : .longOut ∉ ps → y.longOut = x.longOut
  instant : .instant ∉ ps → y.instant = x.instant

/-- `t` differs from `s` in nothing but the listed parts of the module and, in each lane, the parts listed for it. -/
structure Same (ps : List Part) (lp : LaneId → List LanePart) (s t : State) : Prop where
  time : .time ∉ ps → t.time = s.time
  memA : .memA ∉ ps → t.memA = s.memA
  memB : .memB ∉ ps → t.memB = s.memB
  arb : .arb ∉ ps → t.arb = s.arb
  power : .power ∉ ps → t.power = s.power
  safety : .safety ∉ ps → t.safety = s.safety
  keep : .keep ∉ ps → t.keep = s.keep
  lantern : .lantern ∉ ps → t.lantern = s.lantern
  host : .host ∉ ps → t.host = s.host
  oculus : .oculus ∉ ps → t.oculus = s.oculus
  belfry : .belfry ∉ ps → t.belfry = s.belfry
  node : .node ∉ ps → t.node = s.node
  jtag : .jtag ∉ ps → t.jtag = s.jtag
  bridgeFault : .bridgeFault ∉ ps → t.bridgeFault = s.bridgeFault
  latched : .latched ∉ ps → t.latched = s.latched
  outbox : .outbox ∉ ps → t.outbox = s.outbox
  free : .free ∉ ps → t.free = s.free
  pending : .pending ∉ ps → t.pending = s.pending
  lanes : ∀ l, Lane.Same (lp l) (s.lane l) (t.lane l)

/-- No part of either lane. -/
def noLane (_ : LaneId) : List LanePart := []
/-- The same parts of both lanes. -/
def bothLanes (ps : List LanePart) (_ : LaneId) : List LanePart := ps
/-- Parts of one lane. -/
def inLane (l : LaneId) (ps : List LanePart) (k : LaneId) : List LanePart := if k = l then ps else []
/-- Parts of one lane, and `qs` of both. -/
def inLaneAnd (l : LaneId) (ps qs : List LanePart) (k : LaneId) : List LanePart := if k = l then ps ++ qs else qs
/-- What counting an event changes in a lane (R519, R525). -/
def countedParts : List LanePart := [.counters, .occurred]
/-- What counts, Keep records, notifications and outputs change in a lane. -/
def toldParts : List LanePart := [.counters, .occurred, .bw]
/-- What counts, Keep records, notifications, violations, bandwidth and alarm conditions change in a lane. -/
def notedParts : List LanePart := [.counters, .occurred, .bw, .pmu, .image, .instant]
/-- What they change outside the lanes: Keep's queue, the channels' notification rings, and what leaves the block. -/
def noted : List Part := [.keep, .host, .outbox]

/-- What an event row at a fixed tick of the cycle needs: the tick has not passed, and the event has not taken place in this cycle (log entry 1). -/
def dueAt (code tick : Nat) (s : State) : Prop := s.time.tick ≤ tick ∧ code ∉ s.time.ran

/-! The Baique ring. -/

/-- A valid frame of a type reaches this module on a lane's port for the first time, and is for this module (R422, R424). -/
structure Heard (typ : Nat) (l : LaneId) (f : Bytes) (s : State) : Prop where
  votes : votes s = true
  runs : s.laneRuns l = true
  ring : 1 < ringSize s.image
  type : rfType f = typ
  valid : rfValid f = true
  other : rfSrc f ≠ s.power.module
  fresh : (rfSrc f, rfType f, rfSeq f) ∉ s.arb.taken
  forUs : rfDst f = 0 ∨ rfDst f = s.power.module
  bridge : l = s.sel ∨ s.bridgeFault = false

/-! The safety island. -/

/-- An instant of the safety cycle lies in this control cycle and has not passed (R369). -/
def safInstant (off : Nat) (s : State) : Prop :=
  s.time.us ≤ s.safety.cycleUs + off ∧ s.time.tick + (s.safety.cycleUs + off - s.time.us) ≤ 19999

/-- The safety island's own events, which no lane takes part in. -/
def islandEvent (c : Instr) : Bool :=
  match c with
  | .safetyInputChange _ _ _ | .safetyCycleStart | .resetInputOperation _ _ | .outputStuckFault _ | .testPulseStart _ _ | .testPulseEnd _ _ => true
  | .safeMessageReceive _ _ _ | .streamTimeout _ _ | .senderDiscrepant _ | .islandFault _ _ _ | .proofTestBegin _ | .proofPhaseEnd _ _ => true
  | .blockActivate | .pendingBlockExpire | .commissionEnChange _ | .safetyStartup _ _ => true
  | _ => false

/-- The commands that put domain 0 into reset or out of it. -/
def resetsDomain0 (c : Instr) : Bool :=
  match c with
  | .powerOnReset _ | .pfailDeassert | .vholdLoss => true
  | _ => false

/-- Every safe-torque output of both channels is at the level that the island's state gives it, and in RUN both latches hold the thruster of every proof test
that is pending or running. -/
structure State.Driven (s : State) : Prop where
  outputs : ∀ (c : SafeChan) (n : Fin 16), bitOf n.val (s.safety.ch c).out = wantOn (safIn s) s.safety c n.val
  latched : s.safety.state = 2 → ∀ b, s.safety.active = some b → ∀ p ∈ s.safety.proofs, p.stage ≤ 2 → ∀ c : SafeChan,
    (s.safety.ch c).latch &&& pairBit s.isNode b p.pair = pairBit s.isNode b p.pair

/-- The channel that serves a safety network: A on S-A, B on S-B (R372). -/
def netChan (net : Fin 2) : SafeChan := if net.val = 0 then .A else .B

/-- A safety message is valid for a channel (R376): from a module that the block listens to, whole, on its network, with the expected identity and a later SEQ. -/
def messageValid (i : SafIn) (b : Bytes) (x : Stream) (m e net ident : Nat) (d : Bytes) : Prop :=
  d.length = 16 ∧ u32 d 12 = crc32c (leBytes 4 ident ++ sliceB d 0 12) ∧ u8 d 2 = m + 4 * ((ident - sbIdBase b) % 2) ∧
  (bitOf 2 (u8 d 2) = true ↔ net = 1) ∧ sbListen b e = true ∧ u32 d 8 = sbExpect b e ∧ (i.node = true ∨ m ≠ i.module) ∧
  (x.seen = true → 1 ≤ (u16 d 0 + 65536 - x.lastSeq) % 65536 ∧ (u16 d 0 + 65536 - x.lastSeq) % 65536 ≤ 32767)

/-! Host commands. -/

/-- A command packet that its row serves now: it is the head at its turn (R440), carries the row's opcode, finds room in this cycle's journal (R447), is no
resubmission (R461), and passes checks 1 to 6 of R445. -/
structure Served (p : HostPort) (op : Nat) (pkt : Packet) (s : State) : Prop where
  turn : headNow p s = some pkt
  opcode : pkt.opcode = op
  room : p = .svc ∨ s.host.bytes + heldSize pkt ≤ 163840
  fresh : resubMatch pkt s = none
  passes : firstChecks p pkt s = none

/-- The reply bytes that a command is answered with (R435, Table 16.1). -/
def replyTo (pkt : Packet) (status : Nat) (params : Bytes) (s : State) : Bytes :=
  replyBytes pkt (outFlags false s.sel s.moduleNo false) status s.host.token.epoch s.time.cycle params

/-- A channel has answered the packet: BASE has moved on from `b`, and the reply is the last one cached (R439). -/
def answered (c : Fin 4) (pkt : Packet) (raw : Bytes) (b : Nat) (t : State) : Prop :=
  t.host.chans[c].base = nextSeq b ∧ t.host.chans[c].inFlight = none ∧ t.host.chans[c].cache.getLast? = some ⟨pkt.seq, pkt.crc, raw⟩

/-- The port and the opcode of a row that serves a host command (chapter 17). -/
def hostRow (c : Instr) : Option (HostPort × Nat) :=
  match c with
  | .sessionClose p => some (p, 0x0102)
  | .tokenRequest p => some (p, 0x0103)
  | .tokenRelease p => some (p, 0x0104)
  | .keepalive p => some (p, 0x0105)
  | .notifyResend p => some (p, 0x0106)
  | .channelStatus p => some (p, 0x0107)
  | .modeSet p => some (p, 0x0201)
  | .modeStatus p => some (p, 0x0202)
  | .spPosition p => some (p, 0x0301)
  | .spHeading p => some (p, 0x0302)
  | .spSiteOrigin p => some (p, 0x0303)
  | .spTrack p => some (p, 0x0304)
  | .spTargetOffset p => some (p, 0x0305)
  | .spJoystick p => some (p, 0x0306)
  | .spRead p => some (p, 0x0307)
  | .refSelect p => some (p, 0x0401)
  | .channelSelect p => some (p, 0x0402)
  | .gnssSelect p => some (p, 0x0403)
  | .gnssNoiseRef p => some (p, 0x0404)
  | .refRead p => some (p, 0x0405)
  | .channelRead p => some (p, 0x0406)
  | .thrAvailable p => some (p, 0x0501)
  | .thrStart p => some (p, 0x0502)
  | .thrStop p => some (p, 0x0503)
  | .allocRead p => some (p, 0x0504)
  | .conseqRead p => some (p, 0x0505)
  | .imageBegin p => some (p, 0x0601)
  | .imageData p => some (p, 0x0602)
  | .imageVerify p => some (p, 0x0603)
  | .imageCommit p => some (p, 0x0604)
  | .imageRollback p => some (p, 0x0605)
  | .imageStatus p => some (p, 0x0606)
  | .tierFloor p => some (p, 0x0607)
  | .keepInfo p => some (p, 0x0701)
  | .keepRead p => some (p, 0x0702)
  | .keepMark p => some (p, 0x0703)
  | .healthRead p => some (p, 0x0801)
  | .arbRead p => some (p, 0x0802)
  | .regRead p => some (p, 0x0803)
  | .netTest p => some (p, 0x0804)
  | .netRestart p => some (p, 0x0805)
  | .idClear p => some (p, 0x0806)
  | .laneRestart p => some (p, 0x0807)
  | .gnssRawRead p => some (p, 0x0808)
  | .timeRead p => some (p, 0x0809)
  | .alarmAck p => some (p, 0x080A)
  | .alarmList p => some (p, 0x080B)
  | .safetyStatus p => some (p, 0x0901)
  | .safetyBlockLoad p => some (p, 0x0902)
  | .safetyBlockRead p => some (p, 0x0903)
  | .safetyConfirm p => some (p, 0x0904)
  | .safetyZoneRequest p => some (p, 0x0905)
  | .safetyProofTest p => some (p, 0x0906)
  | .cntConfig p => some (p, 0x0A01)
  | .cntRead p => some (p, 0x0A02)
  | .cntClear p => some (p, 0x0A03)
  | .bwRead p => some (p, 0x0A04)
  | .ltnStatus p => some (p, 0x0B01)
  | .ltnShow p => some (p, 0x0B02)
  | .ltnClear p => some (p, 0x0B03)
  | .ltnPower p => some (p, 0x0B04)
  | .gainWrite p => some (p, 0x0C01)
  | .gainRevert p => some (p, 0x0C02)
  | .gainRead p => some (p, 0x0C03)
  | _ => none

/-- A packet of channel `k` is served by the row of its opcode, and no reply of this module waits for a mirror or a ring. -/
structure Alone (k : Fin 4) (c : Instr) (pkt : Packet) (s : State) : Prop where
  row    : hostRow c = some (.chan k, pkt.opcode)
  served : Served (.chan k) pkt.opcode pkt s
  mirror : mirrorWaited s = false
  ring   : redModules s.image ≤ 1

/-- What a boundary setting asks of its parameters and of the present state (Tables 17.3 to 17.6 and 17.12). -/
def settingOk (k : Fin 4) (pkt : Packet) (s : State) : Prop :=
  let d := pkt.params
  match pkt.opcode with
  | 0x0201 => u8 d 0 ≤ 6 ∧ allZero d 1 3 = true ∧
      (u8 d 0 = expectedMode s ∨ ∃ m ∈ mmTransitions (s.mySec secModes), m.auto = false ∧ m.leads (expectedMode s) (u8 d 0) = true)
  | 0x0301 => within d 0 20000 = true ∧ within d 4 20000 = true
  | 0x0302 => -180 * 65536 ≤ s32 d 0 ∧ s32 d 0 < 360 * 65536
  | 0x0303 => -85000000000 ≤ s64 d 0 ∧ s64 d 0 ≤ 85000000000 ∧ -180000000000 ≤ s64 d 8 ∧ s64 d 8 < 180000000000
  | 0x0304 => 2 ≤ u8 d 0 ∧ u8 d 0 ≤ 16 ∧ allZero d 1 3 = true ∧ 1 / 20 ≤ q16 d 4 ∧ q16 d 4 ≤ 2 ∧ ∀ i < 2 * u8 d 0, within d (8 + 4 * i) 20000 = true
  | 0x0305 => within d 0 10000 = true ∧ within d 4 10000 = true
  | 0x0306 => allZero d 6 2 = true ∧ mmJoySource (s.mySec secModes) ≠ 1
  | 0x0401 => 1 ≤ u8 d 0 ∧ u8 d 0 ≤ 5 ∧ u8 d 2 ≤ 2 ∧ u8 d 3 = 0 ∧ ¬(u8 d 2 = 2 ∧ u8 d 0 = 5) ∧
      ∃ t, trackOf (u8 d 0) (u8 d 1) = some t ∧ reClass (fuEntry (s.mySec secFusion) t) ≠ 0
  | 0x0402 => u16 d 0 ≤ 255 ∧ u8 d 2 ≤ 1 ∧ u8 d 3 = 0 ∧ chType (chanEntry (s.mySec secChannels) (u16 d 0)) ≠ 0
  | 0x0403 => u8 d 0 ≤ 5 ∧ u8 d 1 ≤ 1 ∧ allZero d 2 2 = true
  | 0x0501 => 1 ≤ u8 d 0 ∧ u8 d 0 ≤ 16 ∧ u8 d 0 ≤ tmCount (s.mySec secThrusters) ∧ u8 d 1 ≤ 1 ∧ allZero d 2 2 = true
  | 0x0502 => 1 ≤ u8 d 0 ∧ u8 d 0 ≤ 16 ∧ u8 d 0 ≤ tmCount (s.mySec secThrusters) ∧ allZero d 1 3 = true
  | 0x0503 => 1 ≤ u8 d 0 ∧ u8 d 0 ≤ 16 ∧ u8 d 0 ≤ tmCount (s.mySec secThrusters) ∧ allZero d 1 3 = true
  | 0x0605 => (s.lane s.sel).image.commit = none ∧ (s.lane s.sel).image.prevHeld = true ∧ ∃ a b, (s.lane s.sel).image.active = some a ∧
      (s.lane s.sel).image.prev = some b ∧ verifies s s.sel b = true ∧ (imgContinuity a = imgContinuity b ∨ (s.lane s.sel).control.mode = 0)
  | 0x0607 => u8 d 0 ≤ 3 ∧ allZero d 1 3 = true
  | 0x0C01 => (expectedMode s = 6 ∨ engSession (.chan k) s = true) ∧ u8 d 0 < gsCount (s.mySec secGains) ∧ u8 d 1 ≤ 23 ∧ allZero d 2 2 = true ∧
      gainInRange (u8 d 1) d = true ∧ namedBoundary s ∉ s.host.engBoundaries
  | 0x0C02 => (expectedMode s = 6 ∨ engSession (.chan k) s = true) ∧ namedBoundary s ∉ s.host.engBoundaries
  | _ => False

/-- The setting that an accepted boundary command stages (R56). -/
def stagedBy (k : Fin 4) (pkt : Packet) (s : State) : Staged :=
  ⟨namedBoundary s, (s.host.jsn + 1) % 2 ^ 32, (s.host.ssn + 1) % 2 ^ 32, pkt.opcode, pkt.params, pkt.station, k.val, pkt.tag, engSession (.chan k) s⟩

/-- What a read asks of its parameters and of the present state (Tables 17.3 to 17.12). -/
def readOk (k : Fin 4) (pkt : Packet) (s : State) : Prop :=
  let d := pkt.params
  match pkt.opcode with
  | 0x0107 | 0x0202 | 0x0307 | 0x0505 | 0x0606 | 0x0801 | 0x0809 => True
  | 0x0405 => u8 d 0 ≤ 31 ∧ allZero d 1 3 = true
  | 0x0406 => u16 d 0 ≤ 255 ∧ allZero d 2 2 = true
  | 0x0504 => 1 ≤ u8 d 0 ∧ u8 d 0 ≤ 16 ∧ 1 ≤ u8 d 1 ∧ u8 d 1 ≤ 14 ∧ u8 d 0 + u8 d 1 ≤ 17 ∧ allZero d 2 2 = true
  | 0x0803 => engSession (.chan k) s = true ∧ 1 ≤ u16 d 8 ∧ u16 d 8 ≤ 256 ∧ allZero d 10 2 = true ∧ u64 d 0 % 4 = 0 ∧ runError s s.sel (u16 d 8) (u64 d 0) = none
  | 0x0808 => (u8 d 0 ≤ 7 ∨ u8 d 0 = 0xFF) ∧ u8 d 1 = 0
  | 0x080B => allZero d 2 2 = true
  | 0x0A02 => 1 ≤ u8 d 1 ∧ u8 d 0 + u8 d 1 ≤ 64 ∧ allZero d 2 2 = true
  | 0x0A04 => allZero d 1 3 = true ∧ (u8 d 0 ≤ 18 ∨ (32 ≤ u8 d 0 ∧ u8 d 0 ≤ 50 ∧ s.laneState s.sel.other ≠ 0 ∧ s.laneState s.sel.other ≠ 7 ∧ s.bridgeFault = false))
  | 0x0C03 => u8 d 0 < gsCount (s.mySec secGains) ∧ allZero d 1 3 = true
  | _ => False

/-- What the parameters `r` of a read's reply say (Tables 17.2 to 17.12). -/
def readSays (k : Fin 4) (pkt : Packet) (s : State) (r : Bytes) : Prop :=
  let d := pkt.params
  let x := s.lane s.sel
  match pkt.opcode with
  | 0x0107 => r.length = 32 ∧ u32 r 0 = s.host.chans[k].base % 2 ^ 32 ∧ u32 r 4 = s.host.chans[k].nextNote % 2 ^ 32 ∧ u32 r 12 = s.host.chans[k].flowDrop % 2 ^ 32 ∧
      u32 r 16 = s.host.chans[k].seqConflict % 2 ^ 32 ∧ u32 r 20 = s.host.chans[k].dup % 2 ^ 32
  | 0x0202 => r.length = 16 ∧ u8 r 0 = x.control.mode % 256 ∧ u8 r 1 = nextMode s % 256 ∧ u8 r 2 = b2n (modePending s s.sel) ∧ u16 r 4 = x.control.cond % 65536 ∧
      u32 r 12 = x.control.modeCycle % 2 ^ 32
  | 0x0307 => sliceB r 0 4 = leQ16 x.control.posSp.1 ∧ sliceB r 4 4 = leQ16 x.control.posSp.2 ∧ (x.control.mode ≤ 3 → sliceB r 8 4 = leQ16 x.control.hdgSp) ∧
      sliceB r 28 4 = leQ16 x.control.target.1 ∧ sliceB r 32 4 = leQ16 x.control.target.2
  | 0x0405 => r = (trackBytes (vget x.cupola.tracks (u8 d 0))).take 192
  | 0x0406 => r = storeBytes (vget x.ingest.store (u16 d 0)) ++ leBytes 4 (vget x.ingest.counters (u16 d 0)).upd
  | 0x0504 => sliceB r 0 64 = padTo 64 (x.alloc.block.take 64) ∧ u32 r 64 = alcStatus x.alloc % 2 ^ 32 ∧ u32 r 68 = alcMask x.alloc % 2 ^ 32 ∧
      r.length = 116 + 64 * u8 d 1 ∧ r.drop 116 = padTo (64 * u8 d 1) (sliceB x.alloc.block (64 * u8 d 0) (64 * u8 d 1))
  | 0x0505 => u32 r 0 = x.alloc.cq.cycle % 2 ^ 32 ∧ r.length = 36 ∧ ∀ g : Fin 8, u32 r (4 + 4 * g.val) = x.alloc.cq.words[g] % 2 ^ 32
  | 0x0606 => r = imgStatusReply x.pmu.marginTiers (laneResult s .A) (laneResult s .B) x.image
  | 0x0801 => r.length = 64 ∧ u32 r 0 = cplStatus s s.sel % 2 ^ 32 ∧ u32 r 4 = sprStatus s s.sel % 2 ^ 32 ∧ u32 r 8 = ctlStatus s s.sel % 2 ^ 32 ∧
      u32 r 12 = fltStatus s s.sel % 2 ^ 32 ∧ u32 r 16 = busStatus s s.sel % 2 ^ 32 ∧ u32 r 20 = ingestStatus s s.sel % 2 ^ 32 ∧ u32 r 24 = pmuStatus s s.sel % 2 ^ 32 ∧
      u32 r 32 = x.pmu.violLast % 2 ^ 32 ∧ u16 r 40 = slackNow x.pmu % 65536
  | 0x0803 => r = (mgmtWords s.sel (u16 d 8) (u64 d 0) s).1 ∧ r.length = 4 * u16 d 8
  | 0x0808 => u64 r 0 = (vget s.oculus.ring (if u8 d 0 = 0xFF then s.oculus.ringSeq % 8 else u8 d 0)).cycle % 2 ^ 64 ∧ u16 r 12 = u16 d 2
  | 0x0809 => r = timeReadReply s.time.us s.belfry
  | 0x080B => u16 r 0 = ((alarmListed (myImg s) (u16 d 0) x.alarms).take 127).length
  | 0x0A02 => r = (cntRead (s.isActive s.sel) (u8 d 1) (u8 d 0) x.counters).1
  | 0x0A04 => r.length = 16 ∧ ∃ w, bwWindow x (u8 d 0) = some w ∧ u32 r 0 = bwWord w 0 % 2 ^ 32 ∧ u32 r 4 = bwWord w 1 % 2 ^ 32 ∧ u32 r 8 = bwWord w 2 % 2 ^ 32
  | 0x0C03 => r = gainReadReply (s.mySec secGains) (u8 d 0) x.control
  | _ => False

/-- What a lane action, or IMAGE_COMMIT, asks of its parameters and of the serving lane (Tables 17.4, 17.6, 17.8 and 17.10). -/
def actionOk (k : Fin 4) (pkt : Packet) (s : State) : Prop :=
  let d := pkt.params
  let g := (s.lane s.sel).image
  match pkt.opcode with
  | 0x0404 => u8 d 0 ≤ 15 ∧ u8 d 1 ≤ 1 ∧ allZero d 2 2 = true
  | 0x0601 => u32 d 0 % 64 = 0 ∧ u32 d 0 ≤ 0x600000 ∧ u32 d 4 ≠ 0 ∧ u32 d 4 ≠ 0xFFFFFFFF
  | 0x0602 => g.staged ≠ 0 ∧ g.staged ≠ 5 ∧ g.staged ≠ 6 ∧ pkt.station = g.loader ∧ u32 d 0 + (d.length - 4) ≤ g.size
  | 0x0603 => g.staged ≠ 0 ∧ g.staged ≠ 5 ∧ g.staged ≠ 6 ∧ g.gaps = []
  | 0x0604 => g.commit = none ∧ g.staged = 3 ∧ g.gen ∉ g.rejected ∧ combinedCode (laneResult s .A) (laneResult s .B) = 0 ∧ standbyBehind s = false ∧ g.state ≠ 1 ∧
      (imgEngineering g.data = true → anyEng s = true) ∧ ∀ a, g.active = some a → (imgVessel a = imgVessel g.data ∨ commissionOn s = true) ∧
        (imgContinuity a = imgContinuity g.data ∨ (s.lane s.sel).control.mode = 0) ∧ modeExists (imgSection g.data secModes) (s.lane s.sel).control.mode = true
  | 0x0804 => u8 d 0 ≤ 3 ∧ u8 d 1 ≤ 2 ∧ allZero d 2 2 = true ∧ (u8 d 1 = 0 ∨ (vget (s.lane s.sel).bus.nets (twinOf (u8 d 0))).state = 2)
  | 0x0805 => u8 d 0 ≤ 3 ∧ allZero d 1 3 = true ∧ (vget (s.lane s.sel).bus.nets (u8 d 0)).state ≠ 0 ∧ (vget (s.lane s.sel).bus.nets (u8 d 0)).state ≠ 4
  | 0x0806 => u8 d 0 ≤ 3 ∧ u8 d 1 ≤ 3 ∧ allZero d 2 2 = true ∧
      (bitOf 1 (u8 d 1) = true ∨ (bitOf 0 (u8 d 1), u32 d 4) ∈ (vget (s.lane s.sel).bus.nets (u8 d 0)).suspended)
  | 0x080A => allZero d 2 2 = true ∧ (u16 d 0 = 0xFFFF ∨ (alarmEntryOf (myImg s) (u16 d 0)).isSome = true)
  | 0x0A01 => u8 d 0 ≤ 63 ∧ allZero d 1 3 = true ∧ cntConfigOk (u8 d 0) (u32 d 4) = true ∧ (u8 d 0 < 56 ∨ engSession (.chan k) s = true)
  | 0x0A03 => u64 d 0 < 2 ^ 56 ∨ engSession (.chan k) s = true
  | _ => False

/-- The status of the reply to a lane action. -/
def actionStatus (op : Nat) : Nat := if op = 0x0603 ∨ op = 0x0604 then STARTED else DONE

/-- The parameters of the reply to a lane action: the number of alarms acknowledged, and nothing for the others. -/
def actionReply (pkt : Packet) (s : State) : Bytes :=
  if pkt.opcode = 0x080A then
    leBytes 2 ((s.lane s.sel).alarms.filter fun a => a.raised && !a.acked && (u16 pkt.params 0 == 0xFFFF || a.ident == u16 pkt.params 0)).length
  else []

/-- What an accepted lane action has done in a lane: `x` before, `y` after (Table 16.5, R88 to R93, R347, R355, R475, R516, R517). -/
def actionDone (k : Fin 4) (pkt : Packet) (s : State) (x y : Lane) : Prop :=
  let d := pkt.params
  match pkt.opcode with
  | 0x0601 => y.image.staged = 1 ∧ y.image.size = u32 d 0 ∧ y.image.gen = u32 d 4 ∧ y.image.loader = pkt.station ∧ y.image.gaps = [(0, u32 d 0)] ∧ y.image.commit = none ∧
      y.image.active = x.image.active
  | 0x0602 => x.image.staged ≠ 0 → y.image = { x.image with
      data := patchB x.image.data (u32 d 0) (d.drop 4), gaps := cutGaps (u32 d 0) (u32 d 0 + (d.length - 4)) x.image.gaps, staged := 1 }
  | 0x0603 => x.image.staged ≠ 0 → x.image.staged ≠ 5 → x.image.staged ≠ 6 → y.image = { x.image with staged := 2, verTag := some (k.val, pkt.tag) }
  | 0x0604 => x.image.staged = 3 → x.image.gen = (s.lane s.sel).image.gen → y.image = { x.image with
      commit := some { earliest := u32 d 0, accepted := s.time.cycle, tag := some (k.val, pkt.tag) }, staged := 5, prev := none, prevHeld := false, installed := none } ∧
      ∀ i : Fin 12, (y.filter.inputs[i]).next.isSome = true ∧ (y.filter.inputs[i]).plane = (x.filter.inputs[i]).plane
  | 0x0804 | 0x0805 => ∃ g, y.staged = x.staged ++ [g] ∧ g.opcode = pkt.opcode ∧ g.params = d
  | 0x0806 => ∀ n ≤ 3, (vget y.bus.nets n).suspended =
      if n ≠ u8 d 0 then (vget x.bus.nets n).suspended
      else if bitOf 1 (u8 d 1) then [] else (vget x.bus.nets n).suspended.filter (· != (bitOf 0 (u8 d 1), u32 d 4))
  | 0x080A => ∀ a ∈ x.alarms, a.raised = true → (u16 d 0 = 0xFFFF ∨ a.ident = u16 d 0) → (x.alarms.filter (·.ident == a.ident)).length = 1 →
      ∃ b ∈ y.alarms, b.ident = a.ident ∧ b.raised = true ∧ b.acked = true
  | 0x0A01 => let c := vget y.counters (u8 d 0)
      c.enable = bitOf 31 (u32 d 4) ∧ c.mode = bitOf 30 (u32 d 4) ∧ c.event = bitsOf 15 0 (u32 d 4) ∧ c.qual = bitsOf 23 16 (u32 d 4) ∧ c.gate = bitsOf 28 27 (u32 d 4)
  | 0x0A03 => ∀ n < 64, bitOf n (u64 d 0) = true → (vget y.counters n).value = 0 ∧ (vget y.counters n).ovf = false
  | _ => True

/-- What an accepted setting changes in a lane at its acceptance. -/
def settingParts (op : Nat) : List LanePart :=
  if op = 0x0605 then [.image, .journal, .staged, .counters, .occurred, .bw] else [.journal, .staged, .counters, .occurred, .bw]

/-- What an accepted lane action changes in a lane: its entry, counts and traffic, and the part it writes. -/
def actionParts (op : Nat) : List LanePart :=
  match op with
  | 0x0601 | 0x0602 | 0x0603 => [.image, .journal, .counters, .occurred, .bw]
  | 0x0604 => [.image, .filter, .journal, .counters, .occurred, .bw]
  | 0x0804 | 0x0805 => [.staged, .journal, .counters, .occurred, .bw]
  | 0x0806 => [.bus, .journal, .counters, .occurred, .bw]
  | 0x080A => [.alarms, .journal, .counters, .occurred, .bw]
  | _ => [.journal, .counters, .occurred, .bw]

/-- What it changes outside the lanes: an acknowledged alarm may leave a Keep record, and a node's commit its pending identifier. -/
def actionOutside (op : Nat) : List Part :=
  match op with
  | 0x0601 => [.host, .outbox, .node]
  | 0x0604 => [.host, .outbox, .node, .arb]
  | 0x080A => [.host, .outbox, .keep]
  | _ => [.host, .outbox]

/-- What a Watchtower action asks of its parameters and of the device (Tables 14.7, 17.7 to 17.11). -/
def wtOk (pkt : Packet) (s : State) : Prop :=
  let d := pkt.params
  match pkt.opcode with
  | 0x0701 | 0x0703 | 0x0802 | 0x0901 | 0x0B01 | 0x0B03 => True
  | 0x0702 => allZero d 1 3 = true ∧ 64 ≤ u16 d 8 ∧ u16 d 8 ≤ 1000
  | 0x0803 => 1 ≤ u16 d 8 ∧ u16 d 8 ≤ 256 ∧ allZero d 10 2 = true ∧ u64 d 0 % 4 = 0 ∧ u64 d 0 + 4 * u16 d 8 ≤ 0xC0000
  | 0x0807 => u8 d 0 ≤ 1 ∧ allZero d 1 3 = true ∧ (s.arb.lane (if u8 d 0 = 0 then .A else .B)).state = 0 ∧ (s.arb.lane (if u8 d 0 = 0 then .A else .B)).limited = true
  | 0x0902 => sbBad s.isNode s.power.module d = none ∧ sbCheck d = sbCheckValue d
  | 0x0903 => u8 d 0 ≤ 1 ∧ allZero d 1 3 = true ∧ (if u8 d 0 = 0 then s.safety.active else s.safety.pending).isSome = true
  | 0x0904 => ∃ b, s.safety.pending = some b ∧ s.safety.displayed = true ∧ commissionReady s.time.us s.safety = true ∧ u32 d 0 = sbCheckValue b ∧ safetyBusy s.safety = false
  | 0x0905 => 1 ≤ u8 d 0 ∧ u8 d 0 ≤ 8 ∧ u8 d 1 ≤ 1 ∧ allZero d 2 2 = true ∧ zoneConfigured (u8 d 0 - 1) s = true ∧ (u8 d 1 = 1 ∨ s.server = some s.sel)
  | 0x0906 => 1 ≤ u8 d 0 ∧ u8 d 0 ≤ 16 ∧ 1 ≤ u8 d 1 ∧ u8 d 1 ≤ 3 ∧ allZero d 2 2 = true ∧ (∀ x ∈ s.safety.proofs, x.pair = u8 d 0 - 1 → 3 < x.stage) ∧ s.safety.state ≠ 3 ∧
      ∃ b, s.safety.active = some b ∧ (sbUse b (u8 d 0 - 1) = true ∨ u8 d 1 = 3)
  | 0x0B02 => s.lantern.reserved = false ∧ allZero d 2 2 = true ∧ u16 d 0 ≤ screenCount s.lantern.screens
  | 0x0B04 => s.lantern.reserved = false ∧ u8 d 0 ≤ 1 ∧ allZero d 1 3 = true
  | _ => False

/-- What the parameters `r` of a Watchtower action's answer say, and what it has done from `s` to `t` (R386, R387, R390, R393, R409, R473 to R479, R502, R510, R512). -/
def wtDid (pkt : Packet) (s t : State) (r : Bytes) : Prop :=
  let d := pkt.params
  match pkt.opcode with
  | 0x0701 => r.length = 32 ∧ u32 r 0 = s.keep.powerCycle % 2 ^ 32 ∧ u32 r 4 = opSecs s.time.us s.keep / 3600 % 2 ^ 32 ∧ u32 r 12 = oldestIndex s.keep % 2 ^ 32 ∧ t.keep = s.keep
  | 0x0702 => r = keepReadReply (u8 d 0) (u32 d 4) (u16 d 8) s.keep ∧ t.keep = s.keep
  | 0x0703 => r.length = 4 ∧ (s.keep.st ≠ 3 → s.keep.dropRecs = 0 → s.keep.pfail = false → ((⟨12, 0, false, d, 0, 0⟩ : KeepRec).len : Int) ≤ budgetAt s.time.us s.keep →
      queuedBytes s.keep + (⟨12, 0, false, d, 0, 0⟩ : KeepRec).len ≤ 32768 →
      u32 r 0 = (s.keep.nextIndex + s.keep.queue.length) % 2 ^ 32 ∧ ∃ m, t.keep.queue = s.keep.queue ++ [m] ∧ m.typ = 12 ∧ m.payload = d)
  | 0x0802 => r.length = 20 ∧ u32 r 0 = wtRead s 0 % 2 ^ 32 ∧ u32 r 4 = wtRead s 4 % 2 ^ 32 ∧ u32 r 8 = wtRead s 8 % 2 ^ 32 ∧ u32 r 12 = wtRead s 12 % 2 ^ 32 ∧
      u32 r 16 = wtRead s 20 % 2 ^ 32 ∧ t.arb = s.arb
  | 0x0803 => r.length = 4 * u16 d 8 ∧ u32 r 0 = wtRead s (u64 d 0) % 2 ^ 32
  | 0x0807 => r = [] ∧ (t.arb.lane (if u8 d 0 = 0 then .A else .B)).limited = false ∧ (t.arb.lane (if u8 d 0 = 0 then .A else .B)).rejoins = [] ∧
      (t.arb.lane (if u8 d 0 = 0 then .A else .B)).wakeAt = some (s.time.cycle + 1)
  | 0x0901 => r = safStatusReply (safIn s) s.safety
  | 0x0902 => r = leBytes 4 (sbCheckValue d) ∧ t.safety = { s.safety with pending := some d, pendUs := s.time.us, refusals := 0, displayed := false }
  | 0x0903 => (if u8 d 0 = 0 then s.safety.active else s.safety.pending) = some r ∧ t.safety = s.safety
  | 0x0905 => r.length = 1 ∧ (vget t.safety.zones (u8 d 0 - 1)).req = (u8 d 1 == 1) ∧ t.safety.active = s.safety.active
  | 0x0906 => r = [] ∧ (∃ x ∈ t.safety.proofs, x.pair = u8 d 0 - 1 ∧ x.outs = u8 d 1) ∧ t.safety.active = s.safety.active
  | 0x0B01 => r = ltnReply s.time.us s.lantern ∧ t.lantern = s.lantern
  | 0x0B02 => r = [] ∧ t.lantern = ltnRequest (if u16 d 0 = 0 then statusTarget s else screenTarget s.lantern.table s.lantern.screens (u16 d 0)) s.lantern
  | 0x0B03 => r = [] ∧ (s.lantern.reserved = false → t.lantern = ltnRequest ⟨0, true, []⟩ s.lantern) ∧
      ∀ b, s.lantern.reserved = true → s.safety.pending = some b → t.lantern = ltnRequest (checkTarget s b) s.lantern
  | 0x0B04 => r = [] ∧ t.lantern = { s.lantern with mode := u8 d 0 }
  | _ => False

/-- A command packet arrives whole at a port of a running lane, and the lane that serves the channels gets it (R432, R433, R436). -/
structure Arrives (p : EthPort) (sound : Bool) (raw : Bytes) (s : State) : Prop where
  runs    : s.islandRuns p.lane 6 = true
  power   : s.power.pfail = false
  sound   : sound = true
  whole   : packetSound raw = true
  version : u8 raw 2 = 1
  served  : ∃ l, s.server = some l ∧ (p.lane = l ∨ s.bridgeFault = false)

/-! The control cycle. -/

/-- The slot of a purpose in a lane's image at its tier, and the last one of several. -/
def slotOf (l : LaneId) (purpose : Nat) (s : State) : Option Slot := (s.laneImg l).bind fun i => imgSlotFor i (s.lane l).pmu.tier purpose
def lastSlotOf (l : LaneId) (purpose : Nat) (s : State) : Option Slot := (s.laneImg l).bind fun i => imgLastSlotFor i (s.lane l).pmu.tier purpose

/-- The work of a slot takes place at `tick` in this cycle: the lane runs its control path, the island has its clock, and the slot has neither finished nor
been abandoned nor passed (R50, R64). -/
structure SlotDue (l : LaneId) (purpose tick : Nat) (sl : Slot) (s : State) : Prop where
  runs  : pathRuns s l = true
  clock : clocked s l sl.island = true
  fresh : sl.slot ∉ (s.lane l).finished
  kept  : purpose ∉ (s.lane l).abandoned
  due   : dueAt (laneCodeOf (1000 + sl.slot) l) tick s

/-- A lane's slot has run: its tick is reached, and it is noted as finished. -/
def ranSlot (l : LaneId) (tick : Nat) (sl : Slot) (s t : State) : Prop :=
  t.time.tick = tick ∧ t.time.cycle = s.time.cycle ∧ sl.slot ∈ (t.lane l).finished ∧ t.lane l.other = s.lane l.other

/-- A boundary at which nothing changes but the cycle: no switchover, take-back, change of control, snapshot, fault, commit or rollback is due. -/
structure QuietBoundary (s : State) : Prop where
  booted   : s.power.booted = true
  switch   : s.arb.switch = none
  takeback : s.arb.takeback = none
  control  : s.arb.pendCtl = none
  snapshot : s.arb.snapIn = none
  fault    : ∀ l, (s.arb.lane l).faultAt = none
  commit   : ∀ l, (s.lane l).image.commit = none
  rollback : ∀ l, (s.lane l).image.rollbackAt = none ∧ ∀ g ∈ (s.lane l).staged, g.opcode ≠ 0x0605

/-! Sensors. -/

/-- Updates formed in lane `l` wait for their release there, and the same ones are on their way to the other lane when the bridge and that lane run (R30). -/
def updatesFrom (l : LaneId) (ups : List ChanUpdate) (s t : State) : Prop :=
  (t.lane l).ingest.release = (s.lane l).ingest.release ++ ups ∧
  (t.lane l.other).incoming = (if s.bridgeFault || !s.laneRuns l.other then (s.lane l.other).incoming else (s.lane l.other).incoming ++ ups)

/-- The updates that the frames of a port form, in order (R102, R103). -/
def framedUpdates (s : State) (l : LaneId) (img : Bytes) (kind : Nat) (fits : Nat → Bool) (port : Nat) (fs : List Framed) : List ChanUpdate :=
  fs.flatMap fun f => match f.result with
    | .good k body => (frameUpdates (imgSection img secChannels) (imgSection img secParser) (fedChannels s l img kind fits k) k body (utcOffset s) f.capture f.stamp
        l.num port f.pos).1
    | _ => []

/-- Every update carries what the parser decoded from one of the frames, its capture instant and its stamping point (R102, R113). -/
def carries (img : Bytes) (fs : List Framed) (u : ChanUpdate) : Prop :=
  ∃ f ∈ fs, ∃ k body, f.result = .good k body ∧ u.value = (parseFrame (imgSection img secParser) k body).value ∧
    u.quality = (parseFrame (imgSection img secParser) k body).quality ∧ u.capture = f.capture ∧ u.stampNs = f.stamp

/-- The frames of a local port have been counted, and their updates formed (R102, R121). -/
structure FramesTaken (l : LaneId) (img : Bytes) (kind : Nat) (fits : Nat → Bool) (lport port : Nat) (fs : List Framed) (p : PortState) (s t : State) : Prop where
  formed  : updatesFrom l (framedUpdates s l img kind fits port fs) s t
  carried : ∀ u ∈ framedUpdates s l img kind fits port fs, carries img fs u
  counted : vget (t.lane l).ingest.ports lport = fs.foldl (fun q f => portCount f.result q) p
  store   : (t.lane l).ingest.store = (s.lane l).ingest.store

/-- The parts that arriving sensor traffic changes: the receiving lane's island and counts, and what is on its way to the other lane. -/
def sensedParts (l k : LaneId) : List LanePart := if k = l then [.ingest, .counters, .occurred, .bw] else [.incoming]

/-! The Sky die. -/

/-- The aiding frame that Oculus holds from a lane. -/
def aidHeld (l : LaneId) (o : OculusState) : Option AidFrame := match l with
  | .A => o.aidA
  | .B => o.aidB

/-- The CRC-24Q of an RTCM frame, its last three bytes, is right (R136). -/
def rtcmSound (f : Bytes) : Bool :=
  crc24q (f.take (f.length - 3)) == (u8 f (f.length - 3) * 256 + u8 f (f.length - 2)) * 256 + u8 f (f.length - 1)

/-- Oculus has taken a frame of the same length and CRC within the last second (R137). -/
def rtcmKnown (f : Bytes) (s : State) : Bool :=
  s.oculus.rtcmSeen.any fun x => decide (s.time.us ≤ x.2.2 + 1000000) && x.1 == f.length &&
    x.2.1 == (u8 f (f.length - 3) * 256 + u8 f (f.length - 2)) * 256 + u8 f (f.length - 1)

/-! The thruster and auxiliary networks. -/

/-- A lane's controller of a network, and the network's block of the lane's communication matrix. -/
def netOf (l : LaneId) (n : Fin 4) (s : State) : NetState := (s.lane l).bus.nets[n]
def netBlock (l : LaneId) (n : Fin 4) (s : State) : Bytes := cmNet (section_ s l secMatrix) n.val

/-! Memory. -/

/-- The part of State that holds a lane's memory. -/
def memPart (l : LaneId) : Part := match l with
  | .A => .memA
  | .B => .memB

end Sys2Proof.Machine
end

