-- ==== Sys2Proof/WellFormed.lean ====
section
/-! DEFINITION. Well-formed commands: the sizes and ranges that what stands outside the block can present. -/

namespace Sys2Proof

/-- A slot number of a slot table (R50). -/
def slotOk (n : Nat) : Bool := decide (1 ≤ n) && decide (n ≤ 512)

/-- A CAN or CAN FD frame: an identifier of its format, at most 8 data bytes in a classic frame and 64 in an FD frame (R331). -/
def frameOk (f : CanFrame) : Bool :=
  decide (f.ident < if f.xtd then 536870912 else 2048) && decide (f.data.length ≤ if f.fd then 64 else 8)

/-- A Baique frame: 16 header bytes, at most 492 payload bytes, 4 CRC bytes (R422). -/
def ringOk (f : Bytes) : Bool := decide (20 ≤ f.length) && decide (f.length ≤ 512)

/-- A received Baique frame, or none when this module sends. -/
def ringRxOk (rx : Option (LaneId × RingDir × Bytes)) : Bool :=
  match rx with
  | some x => ringOk x.2.2
  | none => true

/-- Written bytes have the length of the access. -/
def dataOk (n : Nat) (d : Option Bytes) : Bool :=
  match d with
  | some b => decide (b.length = n)
  | none => true

/-- The command can be presented to the block. -/
def Instr.wf (i : Instr) : Bool :=
  match i with
  | .packetReceive _ _ _ raw => decide (raw.length ≤ 1472)
  | .svcWrite raw => decide (raw.length ≤ 4096)
  | .svcRead => true
  | .svcStatus => true
  | .sessionOpen _ => true
  | .sessionClose _ => true
  | .tokenRequest _ => true
  | .tokenRelease _ => true
  | .keepalive _ => true
  | .notifyResend _ => true
  | .channelStatus _ => true
  | .modeSet _ => true
  | .modeStatus _ => true
  | .spPosition _ => true
  | .spHeading _ => true
  | .spSiteOrigin _ => true
  | .spTrack _ => true
  | .spTargetOffset _ => true
  | .spJoystick _ => true
  | .spRead _ => true
  | .refSelect _ => true
  | .channelSelect _ => true
  | .gnssSelect _ => true
  | .gnssNoiseRef _ => true
  | .refRead _ => true
  | .channelRead _ => true
  | .thrAvailable _ => true
  | .thrStart _ => true
  | .thrStop _ => true
  | .allocRead _ => true
  | .conseqRead _ => true
  | .imageBegin _ => true
  | .imageData _ => true
  | .imageVerify _ => true
  | .imageCommit _ => true
  | .imageRollback _ => true
  | .imageStatus _ => true
  | .tierFloor _ => true
  | .keepInfo _ => true
  | .keepRead _ => true
  | .keepMark _ => true
  | .healthRead _ => true
  | .arbRead _ => true
  | .regRead _ => true
  | .netTest _ => true
  | .netRestart _ => true
  | .idClear _ => true
  | .laneRestart _ => true
  | .gnssRawRead _ => true
  | .timeRead _ => true
  | .alarmAck _ => true
  | .alarmList _ => true
  | .safetyStatus _ => true
  | .safetyBlockLoad _ => true
  | .safetyBlockRead _ => true
  | .safetyConfirm _ => true
  | .safetyZoneRequest _ => true
  | .safetyProofTest _ => true
  | .cntConfig _ => true
  | .cntRead _ => true
  | .cntClear _ => true
  | .bwRead _ => true
  | .ltnStatus _ => true
  | .ltnShow _ => true
  | .ltnClear _ => true
  | .ltnPower _ => true
  | .gainWrite _ => true
  | .gainRevert _ => true
  | .gainRead _ => true
  | .opcodeUnknown _ => true
  | .journalMirrorComplete _ => true
  | .journalHoldElapsed _ => true
  | .watchtowerActionResult _ => true
  | .sessionTimeout _ => true
  | .tokenSessionLoss => true
  | .journalSnapshot => true
  | .cycleBoundary => true
  | .commitAbandonTimeout => true
  | .imageVerifyDone => true
  | .imageInstallDone _ => true
  | .snapshot _ => true
  | .filterHandoff _ => true
  | .cupolaFusion _ => true
  | .observerRun _ => true
  | .controlLawSlot _ => true
  | .deltaPacketSlot _ => true
  | .conseqInputWrite _ => true
  | .allocationSolve _ _ _ => true
  | .allocationDeadline _ _ => true
  | .outputStage _ => true
  | .consequenceStep _ slot _ => slotOk slot
  | .selftestSegment _ slot _ => slotOk slot
  | .builtinTest _ island _ => decide (island < 9)
  | .slotEndTick _ slot _ _ => slotOk slot
  | .clockMeasure _ _ => true
  | .stagingClose _ => true
  | .removalMaskRequest _ => true
  | .alarmEvaluation _ => true
  | .conseqPublish _ => true
  | .standbyHealth => true
  | .startTimeout _ => true
  | .serialFrameComplete _ _ _ _ _ _ => true
  | .ethSensorDatagram _ _ raw _ _ _ => decide (raw.length ≤ 1472)
  | .serialBreak _ _ => true
  | .binaryGapTimeout _ _ _ _ => true
  | .serialSettingsSwitch _ _ => true
  | .channelUpdateRelease _ => true
  | .bridgeUpdateArrive _ => true
  | .bridgeFrameReceive _ frame _ => decide (frame.length ≤ 256)
  | .bridgeAckTimeout _ => true
  | .linkFrameFail _ _ => true
  | .filterOutput _ _ g new newB => decide (g < 500) && (new ++ newB).all (fun x => x.2.length == 250)
  | .filterSummary _ => true
  | .summaryForward _ => true
  | .inputFaultRaise _ _ _ => true
  | .inputFaultClear _ _ _ => true
  | .measurementEpoch _ => true
  | .skyRecordReceive _ => true
  | .aidingFrame _ => true
  | .rtcmFrame _ frame => decide (frame.length ≤ 1029)
  | .notchMonitor _ ob => decide (98304 ≤ ob.samples.length)
  | .originFix _ _ => true
  | .blfEpochEval _ => true
  | .returnQualified => true
  | .blfLongCycleUpdate => true
  | .blfBoundaryUpdate _ => true
  | .laneTickMarker _ _ => true
  | .ppsEdge => true
  | .timeqCompute => true
  | .leapSecond => true
  | .ptpMessage _ typ seq _ _ _ cls => decide (typ.domain < 256) && decide (typ.typ < 16) && decide (seq < 65536) && decide (cls < 256)
  | .ptpSyncSend _ => true
  | .cellStart _ _ col _ => decide (col < 32)
  | .refFrameForm _ => true
  | .q10Receive _ => true
  | .txBankExchange _ => true
  | .canFrameReceive _ fr _ => frameOk fr
  | .eventFrameSend _ _ _ => true
  | .netPeerCount _ _ => true
  | .busIdleDetect _ _ => true
  | .busOffRecovery _ _ => true
  | .mailboxAck _ _ _ => true
  | .busEvtDoorbell _ _ => true
  | .safetyInputChange _ _ _ => true
  | .safetyCycleStart => true
  | .resetInputOperation _ _ => true
  | .outputStuckFault _ => true
  | .testPulseStart _ _ => true
  | .testPulseEnd _ _ => true
  | .safeMessageReceive _ ident (.frame d) => decide (ident < 2048) && decide (d.length ≤ 64)
  | .safeMessageReceive _ ident _ => decide (ident = 0)
  | .streamTimeout _ _ => true
  | .senderDiscrepant _ => true
  | .islandFault cause _ _ => decide (cause < 16)
  | .proofTestBegin _ => true
  | .proofPhaseEnd _ _ => true
  | .blockActivate => true
  | .pendingBlockExpire => true
  | .commissionEnChange _ => true
  | .safetyStartup inA inB => decide (inA < 256) && decide (inB < 256)
  | .digestReceive _ => true
  | .digestCompare => true
  | .laneSwitchover => true
  | .takebackEval => true
  | .laneWake _ => true
  | .laneSelftestDone _ _ => true
  | .laneLoadDone _ => true
  | .shadowTransfer => true
  | .voteForm locked => decide (locked < 8)
  | .moduleControlChange => true
  | .arbExtChange _ _ => true
  | .voteFrameSend => true
  | .voteFrameReceive _ _ frame => ringOk frame
  | .stateFrameSend => true
  | .stateFrameReceive _ _ frame => ringOk frame
  | .journalFrameReceive _ _ frame => ringOk frame
  | .imageHold rx => ringRxOk rx
  | .imageCommitFrame rx => ringRxOk rx
  | .imageDataFrame rx => ringRxOk rx
  | .beacon _ _ _ => true
  | .baiquePortDown _ _ _ => true
  | .timeExchangeStart _ => true
  | .timeSync _ _ frame _ => ringOk frame
  | .timeDelay rx _ => ringRxOk rx
  | .timeReply _ _ frame => ringOk frame
  | .pfailAssert => true
  | .pfailDeassert => true
  | .vholdLoss => true
  | .powerOnReset _ => true
  | .originWaitExpire => true
  | .controlPathStart _ => true
  | .inrushAdmit => true
  | .domainWakeDone d => decide (d < 16)
  | .thermalTrip _ _ => true
  | .thermalRewake _ _ => true
  | .ageingSample _ _ _ => true
  | .bodyBiasStep _ _ => true
  | .slackEstimate _ => true
  | .scrubAccess _ region addr _ _ _ _ => decide (region < 16) && decide (addr < 1099511627776)
  | .memRequest _ reqs => reqs.all fun r => decide (r.addr + r.len ≤ 1099511627776) && dataOk r.len r.wdata
  | .mgmtAccess _ _ addr len wdata => decide (addr + len ≤ 1099511627776) && dataOk len wdata
  | .registerWrite _ addr w => decide (addr < 1099511627776) && decide (addr % 4 = 0) && decide (w < 4294967296)
  | .registerReadClear _ addr => decide (addr < 1099511627776) && decide (addr % 4 = 0)
  | .cycleLoRead _ => true
  | .offsetLoRead _ => true
  | .errAddrLoRead _ => true
  | .cntValueLowRead _ _ => true
  | .bwWindowUpdate => true
  | .keepRecordEnqueue _ typ _ payload => decide (typ < 256) && decide (payload.length ≤ 232)
  | .flashUnitDone _ => true
  | .tallyPeriodic => true
  | .summaryWrite => true
  | .sectorRefresh => true
  | .keepHistogramSample => true
  | .lanternUpdateStart => true
  | .pumpRailsReady => true
  | .pumpRailFault => true
  | .lanternUpdateEnd => true
  | .panelTempSample _ => true
  | .statusRender => true
  | .bookSave => true
  | .nodeReferenceReceive _ frame _ => decide (frame.length ≤ 64)
  | .nodeHoldoverExpire => true
  | .nodeTimingFallback => true
  | .nodeCommandReceive _ ident d => decide (ident < 536870912) && decide (d.data.length ≤ 64)
  | .driveCmdResend => true
  | .cmdHoldTimeout => true
  | .rampStep => true
  | .laneSupplyLoss _ => true
  | .pllLossOfLock _ _ _ => true
  | .tokenHoldEnd _ => true
  | .excFault _ => true
  | .chainFault _ _ => true
  | .boundaryScan _ => true

end Sys2Proof
end

