-- ==== Sys2Proof/Certificates/Slice0/Obligations.lean ====
section
/-! DEFINITION. The statements about the block: whole-machine rules first, then one group of rows after another. Each docstring says what is stated and which
rule it comes from; where a clause rests on a choice of the model, it names the log entry. -/

open Sys2Proof Sys2Proof.Machine

/-- With a command at the front of the queue, a step is exec of that command on the state whose queue is the rest; whatever else the state holds. (Derived
from opcode_table.json.) -/
def Obligations.StepRunsFrontCommand : Prop :=
  ∀ (c : Instr) (rest : List Instr) (s : State), s.pending = c :: rest → step s = exec c { s with pending := rest }

/-- On an empty queue a step is the model's choice of log entry 1: while domain 0 runs, the tick and the microsecond count of R46 and R48 each advance by
one, the last tick of a cycle lasting until CYCLE_BOUNDARY; in reset nothing changes. Nothing but time changes. (Derived from 02_control_cycle.md.) -/
def Obligations.IdleStepPassesOneTick : Prop :=
  ∀ s : State, s.pending = [] → ∃ t, step s = .next t ∧ Same [.time] noLane s t ∧ t.time.cycle = s.time.cycle ∧ t.time.ran = s.time.ran ∧
    (s.power.booted = false → t.time = s.time) ∧
    (s.power.booted = true → s.time.tick < 19999 → t.time.tick = s.time.tick + 1 ∧ t.time.us = s.time.us + 1) ∧
    (s.power.booted = true → 19999 ≤ s.time.tick → t.time = s.time)

/-- After reset no domain has power, domain 0 is held in reset (R534), both lanes are OFF and their mode is STANDBY (R243), no module is in control, no
safe-torque output is energised, no session is open and no station holds the token, both journals are empty, no memory byte is listed, and no command
waits. Where a field map states no reset value the model's own value stands (log entry 5); none of those is named here. (Derived from
10_control_law.md, 15_redundancy.md, 16_command_protocol.md, 21_power_startup_ageing.md.) -/
def Obligations.ResetHoldsEverythingOff : Prop :=
  State.reset.power.booted = false ∧ (∀ d : Fin 16, State.reset.power.on[d] = false) ∧
  (∀ l, (State.reset.arb.lane l).state = 0 ∧ (State.reset.lane l).control.mode = 0 ∧ (State.reset.lane l).journal = [] ∧ State.reset.mem l = []) ∧
  State.reset.arb.inControl = false ∧ State.reset.safety.a.out = 0 ∧ State.reset.safety.b.out = 0 ∧
  (∀ c : Fin 4, State.reset.host.chans[c].session = none) ∧ State.reset.host.token.holder = 0 ∧
  State.reset.time.cycle = 0 ∧ State.reset.outbox = [] ∧ State.reset.pending = []

/-- The memories of both lanes have the canonical form at reset: the addresses rise strictly and no listed byte equals what an unlisted address reads as
(log entry 54). (Derived from 22_memory.md.) -/
def Obligations.ResetMemoryIsCanonical : Prop :=
  State.reset.memWf = true

/-- From every state whose two memories have the canonical form, whatever command stands at the front of the queue, the next state's memories have it too:
equal memories stay equal data. (Derived from 22_memory.md.) -/
def Obligations.StepKeepsMemoryCanonical : Prop :=
  ∀ s t : State, s.memWf = true → step s = .next t → t.memWf = true

/-- Every command in every state leaves a next state, and its effect is on everything but the queue: no command adds to, drops from or reorders the
commands that wait. (Derived from opcode_table.json.) -/
def Obligations.CommandsLeaveTheQueue : Prop :=
  ∀ (c : Instr) (s : State), leaves c s fun t => t.pending = s.pending

/-- A byte of either lane's memory can change only by MGMT_ACCESS, REGISTER_WRITE or MEM_REQUEST, by a lane's domains being switched or reset
(CYCLE_BOUNDARY, LANE_SWITCHOVER, THERMAL_TRIP, DOMAIN_WAKE_DONE, CONTROL_PATH_START, PFAIL_DEASSERT, VHOLD_LOSS, POWER_ON_RESET). After every other
command each address reads as before. (Derived from 01_module_architecture.md, 22_memory.md, 21_power_startup_ageing.md.) -/
def Obligations.OnlyNamedCommandsWriteMemory : Prop :=
  ∀ (c : Instr) (s : State), writesMemory c = false → leaves c s fun t => ∀ (l : LaneId) (x : Nat), (t.mem l).read x = (s.mem l).read x

/-- While EXTEST is in force the outputs are driven from the scan chain (the model's reading of R593, log entry 47): every command other than
BOUNDARY_SCAN leaves what has left the block unchanged. In every state the TAP's instruction, chain and latched values change by BOUNDARY_SCAN alone.
(Derived from 24_signals_ball_map.md.) -/
def Obligations.ExtestHoldsThePins : Prop :=
  ∀ (c : Instr) (s : State), (∀ op, c ≠ .boundaryScan op) → leaves c s fun t => t.jtag = s.jtag ∧ (s.jtag.extest = true → t.outbox = s.outbox)

/-- POWER_ON_RESET that finds its conditions takes the role from the strap, or the node role for an AKP-960-NX; with the strap's module number, ordering
code and stepping. Every command other than POWER_ON_RESET and those that put domain 0 back into reset (PFAIL_DEASSERT as a power-on reset,
VHOLD_LOSS) leaves role, module number, ordering code and stepping as they are, and while domain 0 runs POWER_ON_RESET does too. (Stated: R1.) -/
def Obligations.RoleFixedUntilPowerOnReset : Prop :=
  (∀ (on : PowerOn) (s : State), s.power.booted = false → 8000 ≤ on.vholdMv → leaves (.powerOnReset on) s fun t =>
    t.power.role = (if on.nx then 2 else on.role.val) ∧ t.power.module = on.module.val ∧ t.power.nx = on.nx ∧ t.power.stepping = on.stepping.val) ∧
  ∀ (c : Instr) (s : State), (∀ on, c = .powerOnReset on → s.power.booted = true) → c ≠ .pfailDeassert → c ≠ .vholdLoss → leaves c s fun t =>
    t.power.role = s.power.role ∧ t.power.module = s.power.module ∧ t.power.nx = s.power.nx ∧ t.power.stepping = s.power.stepping

/-- While domain 0 runs, every command leaves it running but the two that stand for its supply: VHOLD_LOSS, VHOLD below its operating range, and
PFAIL_DEASSERT, the power-on reset that ends a supply dip (R543). Both act only in a power failure: with PFAIL_N not asserted even they leave domain 0
running. (Stated: R38.) -/
def Obligations.Domain0StaysOn : Prop :=
  ∀ (c : Instr) (s : State), s.power.booted = true → (s.power.pfail = true → c ≠ .pfailDeassert ∧ c ≠ .vholdLoss) → leaves c s fun t => t.power.booted = true

/-- With domain 0 in reset, POWER_ON_RESET below VHOLD_OK (8.0 V, R534) changes nothing. Otherwise domain 0 runs and is the only domain on, every domain
of the role's row of Table 1.5 waits for its wake-up, the start is BLACKOUT exactly when the newest TALLY entry that the power failure left is of kind
2 (R535), device time is cycle 0 tick 0, both lanes are OFF, empty and without memory, and no output of the safety island is energised. What has left
the block, the queue and the TAP stay. (Derived from 21_power_startup_ageing.md, 01_module_architecture.md.) -/
def Obligations.PowerOnResetStartsDomain0 : Prop :=
  ∀ (on : PowerOn) (s : State), s.power.booted = false →
    (on.vholdMv < 8000 → exec (.powerOnReset on) s = .next s) ∧
    (8000 ≤ on.vholdMv → leaves (.powerOnReset on) s fun t =>
      t.power.booted = true ∧ (∀ d : Fin 16, t.power.on[d] = decide (d = 0)) ∧
      t.power.waiting.map (·.dom) = roleDomains (if on.nx then 2 else on.role.val) on.nx ∧ t.power.waking = [] ∧
      (t.power.blackout = true ↔ (flashAfterLoss s.keep).tally.map (·.kind) = some 2) ∧ t.time = {} ∧
      (∀ l, t.lane l = {} ∧ t.mem l = [] ∧ (t.arb.lane l).state = 0) ∧ t.safety.a.out = 0 ∧ t.safety.b.out = 0 ∧
      t.outbox = s.outbox ∧ t.pending = s.pending ∧ t.jtag = s.jtag)

/-- In a running domain 0 the first PFAIL_ASSERT sets PFAIL and HOLDUP, switches Lantern's domain 1 off and marks Lantern's and Keep's sequences (R541,
R495, R513); a second one changes nothing. Nothing else changes but Keep, Lantern, what a dropped Keep record counts, and Lantern's queue; in
particular the safety island records no fault. (Derived from 21_power_startup_ageing.md, 19_lantern_panel.md, 18_keep_recorder.md.) -/
def Obligations.PowerFailureIsTakenOnce : Prop :=
  ∀ s : State, s.power.booted = true →
    (s.power.pfail = true → exec .pfailAssert s = .next s) ∧
    (s.power.pfail = false → leaves .pfailAssert s fun t =>
      t.power.pfail = true ∧ t.power.holdup = true ∧ t.power.isOn 1 = false ∧ (∀ d, d ≠ 1 → t.power.isOn d = s.power.isOn d) ∧
      t.keep.pfail = true ∧ t.lantern.st = 5 ∧ t.lantern.pending = none ∧ t.lantern.run = none ∧
      Same [.power, .keep, .lantern] (bothLanes countedParts) s t)

/-- In a power failure VHOLD_LOSS, and PFAIL_DEASSERT once the sequences of Keep and Lantern are complete (R543), leave the module as reset leaves it, but
for the flash contents, what has left the block, the queue, the TAP and the model's own counter of free values. Without a power failure, and
PFAIL_DEASSERT before the sequences are complete, change nothing. (Derived from 21_power_startup_ageing.md.) -/
def Obligations.ResetAfterPowerFailure : Prop :=
  ∀ s : State,
    (s.power.booted = true → s.power.pfail = true → leaves .vholdLoss s fun t =>
      t.keep = { flash := flashAfterLoss s.keep } ∧ Same [.keep, .outbox, .free, .pending, .jtag] noLane State.reset t ∧
      t.outbox = s.outbox ∧ t.pending = s.pending ∧ t.jtag = s.jtag ∧ t.free = s.free) ∧
    (s.power.pfail = false → exec .vholdLoss s = .next s ∧ exec .pfailDeassert s = .next s) ∧
    (s.keep.pfDone = true → s.lantern.pfDone = true → exec .pfailDeassert s = exec .vholdLoss s) ∧
    (s.keep.pfDone = false ∨ s.lantern.pfDone = false → exec .pfailDeassert s = .next s)

/-- When the waking domains load each core rail with at most 1.5 A in every 100 µs window (R532; currents in 0.1 A), INRUSH_ADMIT keeps that so. It drops
no domain: each that waited still waits, or now wakes; it switches none on or off. Only time, the waiting and waking domains, and the counts of
INRUSH_WAIT change. (Derived from 21_power_startup_ageing.md.) -/
def Obligations.InrushBudgetHolds : Prop :=
  ∀ s : State, s.power.booted = true → (∀ rail w, railLoad rail w s.power.waking ≤ 15) → leaves .inrushAdmit s fun t =>
    (∀ rail w, railLoad rail w t.power.waking ≤ 15) ∧
    (∀ x ∈ s.power.waiting, (∃ y ∈ t.power.waiting, y.dom = x.dom) ∨ ∃ y ∈ t.power.waking, y.dom = x.dom) ∧
    t.power.on = s.power.on ∧ Same [.time, .power] (bothLanes countedParts) s t

/-- DOMAIN_WAKE_DONE of a domain that is waking and whose WAKE time since the window of its admission has passed (Table 21.1, R531) leaves that domain on
and no longer waking, and every other domain as it was. A lane whose management domain wakes has lost its memory (R406). Of a domain that is not
waking it changes nothing. (Derived from 21_power_startup_ageing.md, 01_module_architecture.md.) -/
def Obligations.WakeTakesItsTime : Prop :=
  ∀ (d : Nat) (s : State), s.power.booted = true →
    (s.power.waking.find? (·.dom == d) = none → exec (.domainWakeDone d) s = .next s) ∧
    (∀ w r i n q, s.power.waking.find? (·.dom == d) = some w → inrushOf d = some (r, i, n, q) → (w.window + n) * 100 ≤ s.time.us →
      leaves (.domainWakeDone d) s fun t =>
        t.power.isOn d = true ∧ (∀ e, e ≠ d → t.power.isOn e = s.power.isOn e) ∧ (∀ x ∈ t.power.waking, x.dom ≠ d) ∧
        (d = 4 → t.memA = []) ∧ (d = 10 → t.memB = []) ∧ (d ≠ 4 → t.memA = s.memA) ∧ (d ≠ 10 → t.memB = s.memB))

/-- A reading of 135 °C or more sets the trip of a lane die and leaves its six domains off, or sets that of the Sky die and leaves domains 2 and 3 off;
below 135 °C and for the Watchtower die no domain changes (R549). The reading is the die's temperature from then on. THERMAL_REWAKE clears the trip
below 115 °C and not before. (Derived from 21_power_startup_ageing.md.) -/
def Obligations.DieTripsAt135 : Prop :=
  ∀ (temp : Int) (s : State), s.power.booted = true →
    (∀ die : Fin 4, (temp < 135 ∨ die = 3) → leaves (.thermalTrip die temp) s fun t => vget t.power.temps die.val = temp ∧ t.power.on = s.power.on ∧ t.power.trip = s.power.trip) ∧
    (135 ≤ temp → ∀ l : LaneId, leaves (.thermalTrip (match l with | .A => 0 | .B => 1) temp) s fun t =>
      vget t.power.trip l.num = true ∧ (s.power.laneOn l = true → ∀ d ∈ laneDomains l, t.power.isOn d = false)) ∧
    (135 ≤ temp → leaves (.thermalTrip 2 temp) s fun t => vget t.power.trip 2 = true ∧ t.power.isOn 2 = false ∧ t.power.isOn 3 = false) ∧
    (∀ die : Fin 4, leaves (.thermalRewake die temp) s fun t =>
      vget t.power.temps die.val = temp ∧ t.power.on = s.power.on ∧
      (115 ≤ temp → t.power.trip = s.power.trip) ∧ (temp < 115 → die ≠ 3 → vget t.power.trip die.val = false))

/-- LANE_SUPPLY_LOSS of a lane that has power leaves it without: it runs no more, and while two lanes are arbitrated the Watchtower holds the loss for the
comparison (code 2 of Table 15.3) of a compared lane. PLL_LOSS_OF_LOCK of a running island clears CLK_LOCK, stops the clock if it stops, and records a
violation of kind 5 with the island's number and the cycle (Table 2.6, R62) at once. (Derived from 15_redundancy.md, 02_control_cycle.md,
21_power_startup_ageing.md.) -/
def Obligations.LossOfSupplyOrClock : Prop :=
  (∀ (l : LaneId) (s : State), s.power.laneOn l = true → vget s.power.lost l.num = false → leaves (.laneSupplyLoss l) s fun t =>
    t.laneRuns l = false ∧ t.laneRuns l.other = s.laneRuns l.other ∧ t.power.on = s.power.on ∧
    (compared (s.arb.lane l) = true → s.isNode = false → (t.arb.lane l).supply = true)) ∧
  ∀ (l : LaneId) (i : Fin 9) (stops : Bool) (s : State), s.laneRuns l = true → s.islandRuns l i.val = true → leaves (.pllLossOfLock l i stops) s fun t =>
    (t.lane l).pmu.pllLost[i] = true ∧ (stops = true → (t.lane l).pmu.clockRuns[i] = false) ∧
    (t.lane l).pmu.violLast = violWord 5 i.val 0 0 ∧ (t.lane l).pmu.violCycle = s.time.cycle % 2 ^ 32 ∧ (t.lane l).pmu.certBreached = true ∧
    Same (.arb :: noted) (inLaneAnd l [.pmu] notedParts) s t

/-- EXC_FAULT of a lane whose island runs sets the excitation fault of that lane and changes nothing else (R609). CHAIN_FAULT sets the fault of the two
chains of the antenna, or of the chain whose PLL lost lock alone, keeps faults already set, and changes nothing else of the Sky die (R611). Without
power each changes nothing. (Derived from 25_electrical_package.md.) -/
def Obligations.InputAndChainFaults : Prop :=
  (∀ (l : LaneId) (s : State), (s.laneRuns l && s.islandRuns l 4) = true → leaves (.excFault l) s fun t =>
    (t.lane l).filter = { (s.lane l).filter with excFault := true } ∧ Same [] (inLane l [.filter]) s t) ∧
  (∀ (l : LaneId) (s : State), (s.laneRuns l && s.islandRuns l 4) = false → exec (.excFault l) s = .next s) ∧
  (∀ (ant : Fin 2) (pll : Option Chain) (s : State), s.power.skyOn = true → leaves (.chainFault ant pll) s fun t =>
    (∀ k : Fin 4, (t.oculus.chains[k]).fault = ((s.oculus.chains[k]).fault || (match pll with | some c => c == k | none => k.val / 2 == ant.val)) ∧
      t.oculus.chains[k] = { s.oculus.chains[k] with fault := (t.oculus.chains[k]).fault }) ∧
    { t.oculus with chains := s.oculus.chains } = s.oculus ∧ Same [.oculus] noLane s t) ∧
  ∀ (ant : Fin 2) (pll : Option Chain) (s : State), s.power.skyOn = false → exec (.chainFault ant pll) s = .next s

/-- AGEING_SAMPLE of a running lane takes for each island the largest of its four replica delays and forms the worst-case delay of R544 with the step in
force and the die temperature. BODY_BIAS_STEP at its place at tick 19,950 raises the step of its island by one when the margin is below 5 %, lowers it
by one when the margin would still be 7 % after the change, never passes step 12, and changes it at most once in 50 cycles (R545); no other island's
step changes. SLACK_ESTIMATE leaves a value of 16 bits, 0 once the certificate is exhausted (R548). (Derived from 21_power_startup_ageing.md.) -/
def Obligations.AgeingAndBodyBias : Prop :=
  (∀ (l : LaneId) (mons : Vector (Vector Nat 4) 9) (tj : Int) (s : State), s.laneRuns l = true → leaves (.ageingSample l mons tj) s fun t =>
    (∀ i : Fin 9, ((t.lane l).pmu.age[i]).d125 = d125Of (max mons[i][0] (max mons[i][1] (max mons[i][2] mons[i][3]))) ((s.lane l).pmu.age[i]).step tj ∧
      ((t.lane l).pmu.age[i]).step = ((s.lane l).pmu.age[i]).step) ∧ (t.lane l).pmu.tj = tj ∧ vget t.power.temps l.num = tj ∧
    Same [.power, .keep] (inLaneAnd l [.pmu] countedParts) s t) ∧
  (∀ (l : LaneId) (i : Fin 9) (s : State), s.laneRuns l = true → s.islandRuns l i.val = true → s.time.tick ≤ 19950 → laneCodeOf (90 + i.val) l ∉ s.time.ran →
    leaves (.bodyBiasStep l i) s fun t =>
      let a := (s.lane l).pmu.age[i]
      let b := (t.lane l).pmu.age[i]
      let m := fun k => margin a.d125 i.val (s.lane l).pmu.tier k
      let free := 0 < (s.lane l).pmu.measured ∧ ∀ c, a.lastChange = some c → c + 50 ≤ s.time.cycle
      t.time.tick = 19950 ∧ (¬free → b = a) ∧ (free → m a.step < 5 / 100 → a.step < 12 → b.step = a.step + 1) ∧
      (free → 5 / 100 ≤ m a.step → 0 < a.step → 7 / 100 ≤ m (a.step - 1) → b.step = a.step - 1) ∧ (a.step ≤ 12 → b.step ≤ 12) ∧
      (b.step ≠ a.step → b.lastChange = some s.time.cycle) ∧ (∀ j : Fin 9, j ≠ i → (t.lane l).pmu.age[j] = (s.lane l).pmu.age[j]) ∧
      Same [.time] (inLane l [.pmu]) s t) ∧
  ∀ (l : LaneId) (s : State), s.laneRuns l = true → leaves (.slackEstimate l) s fun t =>
    (t.lane l).pmu.slack ≤ 65535 ∧ ((s.lane l).pmu.certExhausted = true → (t.lane l).pmu.slack = 0) ∧ Same [] (inLane l [.pmu]) s t

/-- CONTROL_PATH_START of a controller at tick 0 of phase 0, with no lane ACTIVE or running and this lane ready under R539 (and the preferred lane not
ready at the same boundary), leaves it ACTIVE and selected at its entry tier when some tier has margin; with none the certificate is exhausted and the
lane FAULTED with code 2. Off such a boundary it changes nothing. ORIGIN_WAIT_EXPIRE changes nothing while the origin is fixed or the wait has not
passed, and starts an origin of the module's own otherwise (R538, case 3 of R153). (Derived from 21_power_startup_ageing.md, 06_belfry_time.md.) -/
def Obligations.FirstLaneReadyBecomesActive : Prop :=
  (∀ (l : LaneId) (s : State) (img : Bytes), s.power.booted = true → s.isController = true → s.phase = 0 → s.time.tick = 0 → startReady s l = true → otherFirst s l = false →
    s.activeLane = none → laneRunning s = false → s.laneImg l = some img →
    (∀ k, entryTier false 0 (marginMask (s.lane l).pmu) img = some k → leaves (.controlPathStart l) s fun t =>
      (t.arb.lane l).state = 6 ∧ (t.arb.lane l).running = true ∧ t.arb.active = l ∧ t.arb.started = true ∧ (t.lane l).pmu.tier = k ∧
      t.lane l.other = s.lane l.other ∧ t.time = s.time) ∧
    (entryTier false 0 (marginMask (s.lane l).pmu) img = none → leaves (.controlPathStart l) s fun t =>
      (t.arb.lane l).state = 7 ∧ (t.arb.lane l).cause = 2 ∧ ∀ d ∈ laneDomains l, t.power.isOn d = false)) ∧
  (∀ (l : LaneId) (s : State), (s.phase ≠ 0 ∨ s.time.tick ≠ 0 ∨ startReady s l = false) → exec (.controlPathStart l) s = .next s) ∧
  (∀ s : State, (s.belfry.originSet = true ∨ s.power.skyOn = false) → exec .originWaitExpire s = .next s) ∧
  ∀ s : State, s.power.skyOn = true → s.belfry.originSet = false → waitOver 2000000 s = true → leaves .originWaitExpire s fun t => t.belfry.originSet = true

/-- A shift takes the TDI level into the chain of the powered dies, whose length is the chain's (R593), and shows a TDO level; an update latches the
chain, and under EXTEST drives each safe-torque output with its cell's level; Test-Logic-Reset ends EXTEST and clears the latched values, and drives
nothing from them. Nothing but the TAP and what leaves the pins changes. The cells' places are the model's own (log entry 47). (Derived from
24_signals_ball_map.md.) -/
def Obligations.BoundaryScanMovesTheChain : Prop :=
  (∀ (b : Bool) (s : State), leaves (.boundaryScan (.shift b)) s fun t =>
    t.jtag = { s.jtag with chain := (b :: s.jtag.chain).take (chainLength s.power) } ∧ (∃ v, t.outbox = s.outbox ++ [.tdo v]) ∧ Same [.jtag, .outbox] noLane s t) ∧
  (∀ s : State, leaves (.boundaryScan .update) s fun t =>
    t.jtag = { s.jtag with latch := s.jtag.chain } ∧ (s.jtag.extest = false → t.outbox = s.outbox) ∧
    (s.jtag.extest = true → ∀ c : SafeChan, ∀ n : Fin 16,
      Output.sto c (n.val + 1) (s.jtag.chain.getD (Config.stoCell (match c with | .A => 0 | .B => 1) n.val) false) ∈ t.outbox.drop s.outbox.length) ∧
    Same [.jtag, .outbox] noLane s t) ∧
  (∀ (e : Bool) (s : State), leaves (.boundaryScan (.instruction e)) s fun t =>
    t.jtag = { s.jtag with extest := e } ∧ (e = false → s.jtag.extest = false → t.outbox = s.outbox) ∧ Same [.jtag, .outbox] noLane s t) ∧
  ∀ s : State, leaves (.boundaryScan .reset) s fun t =>
    t.jtag.extest = false ∧ t.jtag.latch = [] ∧ (s.jtag.extest = false → t.outbox = s.outbox) ∧
    (s.jtag.extest = true → t.outbox = s.outbox ++ stoLevels s.safety) ∧ Same [.jtag, .outbox] noLane s t

/-- DIGEST_RECEIVE takes the digest of a running lane whose link holds (R398). At its tick DIGEST_COMPARE of two compared lanes whose digests name this
cycle and give no fault code finds a match when bytes 8 to 35 are equal: the matching run grows, the mismatching one ends and no mismatch is counted;
when they differ and both or neither show a bit of VIOL, OVF or HELD, the mismatch is unattributed: it is counted, saturating at 255, and sets DEGRADED (R399,
R402; that two HELD digests count so is the model's reading, log entry 79). Both digests are then gone. (Derived from 15_redundancy.md.) -/
def Obligations.DigestComparisonJudgesLanes : Prop :=
  (∀ (l : LaneId) (d : Bytes) (s : State), (s.lane l).digestOut = some d → s.laneRuns l = true → (s.lane l).wtFault = false → arbitrates s = true →
    leaves (.digestReceive l) s fun t => (t.arb.lane l).digest = some d ∧ (t.lane l).digestOut = none ∧ t.arb.lane l.other = s.arb.lane l.other ∧
      Same [.arb] (inLane l [.digestOut, .wtTry]) s t) ∧
  ∀ (s : State) (tick : Nat) (a b : Bytes), arbitrates s = true → compareTick s = some tick → dueAt 140 tick s → compared (s.arb.lane .A) = true → compared (s.arb.lane .B) = true →
    digestOf s.time.cycle s.arb .A = some a → digestOf s.time.cycle s.arb .B = some b → (∀ l, laneCode s.time.cycle s.arb l = none) →
    (sliceB a 8 28 = sliceB b 8 28 → leaves .digestCompare s fun t =>
      t.arb.matchRun = s.arb.matchRun + 1 ∧ t.arb.mismatchRun = 0 ∧ t.arb.cntMismatch = s.arb.cntMismatch ∧ ∀ l, (t.arb.lane l).digest = none) ∧
    (sliceB a 8 28 ≠ sliceB b 8 28 → dgShows a = dgShows b → leaves .digestCompare s fun t =>
      t.arb.matchRun = 0 ∧ t.arb.degraded = true ∧ t.arb.cntMismatch = satAdd 0xFF s.arb.cntMismatch 1 ∧ ∀ l, (t.arb.lane l).digest = none)

/-- At the comparison of two compared lanes of which one is SYNCING, with digests of this cycle and no condition of its own: a match that is the SYNC_CYC-
th in a row makes the lane STANDBY; an earlier one counts; a mismatch that strikes no lane sets the count to 0; and the lane that is not STANDBY after
10 × SYNC_CYC cycles in SYNCING is FAULTED with cause 6 at the next boundary. (Stated: R408.) -/
def Obligations.SyncingLaneBecomesStandby : Prop :=
  ∀ (s : State) (l : LaneId) (tick : Nat) (a b : Bytes), arbitrates s = true → compareTick s = some tick → dueAt 140 tick s →
    (s.arb.lane l).state = 4 → compared (s.arb.lane .A) = true → compared (s.arb.lane .B) = true → (s.arb.lane l).condNow = false → 0 < redSyncCyc s.image →
    digestOf s.time.cycle s.arb .A = some a → digestOf s.time.cycle s.arb .B = some b → (∀ k, laneCode s.time.cycle s.arb k = none) →
    (sliceB a 8 28 = sliceB b 8 28 → redSyncCyc s.image ≤ (s.arb.lane l).syncRun + 1 → leaves .digestCompare s fun t => (t.arb.lane l).state = 5) ∧
    (sliceB a 8 28 = sliceB b 8 28 → (s.arb.lane l).syncRun + 1 < redSyncCyc s.image → leaves .digestCompare s fun t =>
      (t.arb.lane l).syncRun = (s.arb.lane l).syncRun + 1 ∧
      (10 * redSyncCyc s.image ≤ s.time.cycle + 1 - (s.arb.lane l).syncFrom → (t.arb.lane l).cause = 6 ∧ (t.arb.lane l).faultAt = some (effBoundary s.time.cycle tick)) ∧
      (s.time.cycle + 1 - (s.arb.lane l).syncFrom < 10 * redSyncCyc s.image → (t.arb.lane l).state = 4 ∧ (t.arb.lane l).faultAt = none)) ∧
    (sliceB a 8 28 ≠ sliceB b 8 28 → dgShows a = false → dgShows b = false → leaves .digestCompare s fun t => (t.arb.lane l).syncRun = 0)

/-- At its boundary LANE_SWITCHOVER makes the lane that is due ACTIVE and selected; after a fault the old lane is FAULTED, its domains off, after a take-
back it is STANDBY (R403, R412); the boundary and the count of WT_ARB_CNT follow; with nothing due it changes nothing. At tick 19,900 TAKEBACK_EVAL
schedules the take-back for the next boundary when TAKEBACK is set, the preferred lane is selectable and healthy for HOLDOFF cycles, the other one is
ACTIVE, no switchover runs and nothing of R413 defers it; otherwise the schedule stays. (Derived from 15_redundancy.md, 16_command_protocol.md.) -/
def Obligations.SwitchoverSelectsTheNewLane : Prop :=
  (∀ (s : State) (n : LaneId) (cause declared : Nat) (healthy : Bool), arbitrates s = true → s.arb.active ≠ n → switchDue s.image s.time.cycle s.arb = some (n, cause, declared, healthy) →
    leaves .laneSwitchover s fun t =>
      t.arb.active = n ∧ (t.arb.lane n).state = 6 ∧ (t.arb.lane n.other).state = (if healthy then 5 else 7) ∧ t.arb.switch = none ∧ t.arb.takeback = none ∧
      t.arb.lastChange = s.time.cycle % 2 ^ 32 ∧ t.arb.cntSwitch = (if healthy then s.arb.cntSwitch else satAdd 0xFF s.arb.cntSwitch 1) ∧
      t.arb.cntTake = (if healthy then satAdd 0xFF s.arb.cntTake 1 else s.arb.cntTake) ∧ (healthy = false → ∀ d ∈ laneDomains n.other, t.power.isOn d = false)) ∧
  (∀ s : State, switchDue s.image s.time.cycle s.arb = none → switchDue s.image (s.time.cycle + 1) s.arb = none → exec .laneSwitchover s = .next s) ∧
  ∀ s : State, arbitrates s = true → dueAt 141 19900 s → leaves .takebackEval s fun t =>
    let p : LaneId := if redPrefLane s.image = 0 then .A else .B
    let due := redTakeback s.image = 1 ∧ s.arb.switch = none ∧ s.arb.takeback = none ∧ p ≠ s.arb.active ∧ (s.arb.lane s.arb.active).state = 6 ∧
      (s.arb.lane p).state = 5 ∧ (s.arb.lane p).faultAt = none ∧ redHoldoff s.image ≤ (s.arb.lane p).healthyRun ∧ deferOf (advanceTo 19900 s) = 0
    t.time.tick = 19900 ∧ (due → t.arb = { s.arb with takeback := some (s.time.cycle + 1) }) ∧ (¬due → t.arb = s.arb) ∧ Same [.time, .arb] noLane s t

/-- LANE_WAKE before the lane's wake cycle changes nothing; from then on a lane with fewer than REJOIN_MAX wakes in the last 180,000 cycles passes to
SELFTEST and its domains are asked for, and one that has reached the limit is OFF with cause 8 and waits for LANE_RESTART (R406, R409). A passed
self-test leads to LOADING; a failed one gives cause 3 (R410). LANE_LOAD_DONE leads from LOADING to JOINING with the ACTIVE lane's image when the
lane's own verification accepts it, and leaves the lane LOADING with the code held when it does not (R94); over a failed lane bridge nothing is loaded
(R33). In phase 0 with a lane JOINING, the ACTIVE lane takes the observer block as its slot finishes and the management block as staging closes.
SHADOW_TRANSFER with every block taken inside its window leads from JOINING to SYNCING with the blocks so taken, runs from the next cycle and leaves the
image plane, the problem values and the counts of the lane as they are; a block that is missing leaves the lane JOINING as it was (R407). (Derived from 15_redundancy.md,
21_power_startup_ageing.md.) -/
def Obligations.RejoinIsLimitedAndOrdered : Prop :=
  (∀ (l : LaneId) (s : State) (w : Nat), s.power.booted = true → s.isController = true → vget s.power.trip l.num = false → (s.arb.lane l).state = 7 → (s.arb.lane l).wakeAt = some w →
    (s.time.cycle < w → leaves (.laneWake l) s fun t => t.arb = s.arb ∧ t.power = s.power) ∧
    (w ≤ s.time.cycle → (recentRejoins s.time.cycle (s.arb.lane l)).length < redRejoinMax s.image → leaves (.laneWake l) s fun t =>
      (t.arb.lane l).state = 1 ∧ (t.arb.lane l).rejoins = recentRejoins s.time.cycle (s.arb.lane l) ++ [s.time.cycle] ∧
      (∀ d ∈ laneDomains l, t.power.isOn d = true ∨ (t.power.waiting.any (·.dom == d) || t.power.waking.any (·.dom == d)) = true) ∧ Same [.arb, .power] noLane s t) ∧
    (w ≤ s.time.cycle → redRejoinMax s.image ≤ (recentRejoins s.time.cycle (s.arb.lane l)).length → leaves (.laneWake l) s fun t =>
      (t.arb.lane l).state = 0 ∧ (t.arb.lane l).cause = 8 ∧ (t.arb.lane l).limited = true ∧ t.power = s.power ∧ Same [.arb] noLane s t)) ∧
  (∀ (l : LaneId) (s : State), (s.arb.lane l).state = 1 → laneAwake s l = true → s.laneRuns l = true →
    (leaves (.laneSelftestDone l true) s fun t => (t.arb.lane l).state = 2 ∧ (vget t.power.starts l.num).tested = true ∧ Same [.arb, .power] (inLane l [.pmu]) s t) ∧
    ((s.arb.lane l).faultAt = none → leaves (.laneSelftestDone l false) s fun t =>
      (t.arb.lane l).cause = 3 ∧ (t.arb.lane l).faultAt = some (effBoundary s.time.cycle s.time.tick) ∧ Same [.arb] noLane s t)) ∧
  (∀ (l : LaneId) (s : State), (s.arb.lane l).state = 2 → s.laneRuns l = true → s.isActive l.other = true → pathRuns s l.other = true → s.bridgeFault = false →
    leaves (.laneLoadDone l) s fun t =>
      let r := verifyWhole s l ((s.laneImg l.other).getD [])
      (r.code = 0 → (t.arb.lane l).state = 3 ∧ (t.lane l).image.active = (s.lane l.other).image.active ∧ Lane.Same notedParts (s.lane l.other) (t.lane l.other)) ∧
      (r.code ≠ 0 → (t.lane l).image = { (s.lane l).image with lastCode := r.code } ∧ Same [] (inLane l [.image]) s t)) ∧
  (∀ (l : LaneId) (s : State), s.bridgeFault = true → exec (.laneLoadDone l) s = .next s) ∧
  (∀ (l : LaneId) (sl : Slot) (s : State), slotOf l 4 s = some sl → SlotDue l 4 sl.start sl s → transferring s l = true → leaves (.observerRun l) s fun t =>
    (t.lane l).shadow.observer = some (sl.start, (t.lane l).observer)) ∧
  (∀ (l : LaneId) (s : State), transferring s l = true → dueAt (laneCodeOf 61 l) (closeTick s) s → leaves (.stagingClose l) s fun t =>
    (t.lane l).shadow.mgmt = some ((s.lane l).alarms, (s.lane l).alloc, (s.lane l).queued)) ∧
  ∀ (s : State), transferring s s.sel = true → dueAt 142 19899 s → nextMirror s = none → (s.lane s.sel.other).incoming = [] →
    (∀ y, takeShadow s s.sel.other (s.lane s.sel) (s.lane s.sel.other) = some y → leaves .shadowTransfer s fun t =>
      let b := (s.lane s.sel).shadow
      (t.arb.lane s.sel.other).state = 4 ∧ (t.arb.lane s.sel.other).running = true ∧ (t.arb.lane s.sel.other).syncFrom = s.time.cycle + 1 ∧
      b.cupola.map (·.2) = some (t.lane s.sel.other).cupola ∧ b.observer.map (·.2) = some (t.lane s.sel.other).observer ∧
      b.alloc.map (fun x => (x.2.warm, x.2.block, x.2.cq)) = some ((t.lane s.sel.other).alloc.warm, (t.lane s.sel.other).alloc.block, (t.lane s.sel.other).alloc.cq) ∧
      b.mgmt.map (·.1) = some (t.lane s.sel.other).alarms ∧ (t.lane s.sel.other).staged = (s.lane s.sel).staged ∧
      (t.lane s.sel.other).alloc.plane = (s.lane s.sel.other).alloc.plane ∧ (t.lane s.sel.other).alloc.pivCount = (s.lane s.sel.other).alloc.pivCount ∧
      (t.lane s.sel.other).alloc.vals = (s.lane s.sel.other).alloc.vals ∧ t.lane s.sel = s.lane s.sel) ∧
    ((s.lane s.sel).shadow.observer = none ∨ (s.lane s.sel).shadow.cupola = none ∨ (s.lane s.sel).shadow.mgmt = none → leaves .shadowTransfer s fun t =>
      (t.arb.lane s.sel.other).state = 3 ∧ t.lane s.sel.other = s.lane s.sel.other ∧ Same [.time] noLane s t)

/-- At tick 19,900 in a system of several modules, the vote formed is 0 or names a module whose VOTE frame of this cycle carried ELIGIBLE; it is 0 under
ORIGIN_CONFLICT (R416, R427); MODULE_RUN counts cycles of eligibility, saturating, and is 0 without it (R415). A module not in control decides to take
it only with two or more votes that name it and no conflict (R418). An arbiter-only module drives at most one of its two external lines (R417). A
single module is its own time master. (Derived from 15_redundancy.md.) -/
def Obligations.VoteNamesAnEligibleModule : Prop :=
  ∀ (locked : Nat) (s : State), votes s = true → dueAt 143 19900 s → leaves (.voteForm locked) s fun t =>
    t.time.tick = 19900 ∧
    (ringSize s.image ≤ 1 → t.arb.timeMaster = true ∧ t.arb.pendCtl = s.arb.pendCtl) ∧
    (1 < ringSize s.image → t.arb.voteFor = 0 ∨ ∃ v, vget s.arb.votes (t.arb.voteFor - 1) = some v ∧ v.cycle = s.time.cycle ∧ v.eligible = true) ∧
    (1 < ringSize s.image → t.arb.conflict = true → t.arb.voteFor = 0) ∧
    (1 < ringSize s.image → t.arb.modRun = if t.arb.eligible then min 0xFFFFFFFF (s.arb.modRun + 1) else 0) ∧
    (s.arb.inControl = false → t.arb.pendCtl ≠ s.arb.pendCtl → 2 ≤ t.arb.votesFor ∧ t.arb.conflict = false) ∧
    (s.power.role = 1 → 1 < ringSize s.image → ¬(t.arb.outA = true ∧ t.arb.outB = true)) ∧ Same [.time, .arb] noLane s t

/-- MODULE_CONTROL_CHANGE with a decision pending puts it in force for the next boundary, counts it and clears the decision (R418); without one it changes
nothing. ARB_EXT_CHANGE stores both filtered levels in a running controller and nothing elsewhere (R417). VOTE_FRAME_SEND at tick 15,000 sends the
module's vote and holds it as heard in this cycle. A VOTE frame heard for the first time is held with the cycle of its arrival; one already taken
changes no vote (R424). (Derived from 15_redundancy.md.) -/
def Obligations.ControlChangesAtTheBoundary : Prop :=
  (∀ (s : State) (take : Bool) (other : Nat), votes s = true → s.arb.pendCtl = some (take, other) → leaves .moduleControlChange s fun t =>
    t.arb.inControl = take ∧ t.arb.pendCtl = none ∧ t.arb.lastChange = (s.time.cycle + 1) % 2 ^ 32 ∧ t.arb.cntModule = satAdd 0xFF s.arb.cntModule 1 ∧
    t.arb.active = s.arb.active ∧ (∀ l, t.arb.lane l = s.arb.lane l) ∧ t.power = s.power ∧ t.safety = s.safety) ∧
  (∀ s : State, s.arb.pendCtl = none → exec .moduleControlChange s = .next s) ∧
  (∀ (a b : Bool) (s : State), (s.power.booted && s.isController) = true → exec (.arbExtChange a b) s = .next { s with arb := { s.arb with extA := a, extB := b } }) ∧
  (∀ (a b : Bool) (s : State), (s.power.booted && s.isController) = false → exec (.arbExtChange a b) s = .next s) ∧
  (∀ s : State, votes s = true → 1 < ringSize s.image → dueAt 145 15000 s → s.power.pfail = false → 1 ≤ s.power.module → s.power.module ≤ 3 → leaves .voteFrameSend s fun t =>
    t.time.tick = 15000 ∧ (∃ v, vget t.arb.votes (s.power.module - 1) = some v ∧ v.cycle = s.time.cycle ∧ v.voteFor = (if s.arb.conflict then 0 else s.arb.voteFor)) ∧
    vget t.arb.heardAt (s.power.module - 1) = some s.time.cycle ∧ vget t.arb.seqs 1 = (vget s.arb.seqs 1 + 1) % 65536 ∧
    Same [.time, .arb, .outbox] (inLane s.sel [.bw]) s t) ∧
  (∀ (l : LaneId) (dir : RingDir) (f : Bytes) (s : State), Heard 1 l f s → leaves (.voteFrameReceive l dir f) s fun t =>
    vget t.arb.votes (rfSrc f - 1) = some (voteOf s.time.cycle f) ∧ vget t.arb.heardAt (rfSrc f - 1) = some s.time.cycle ∧ Same [.arb, .outbox] (bothLanes [.bw]) s t) ∧
  ∀ (l : LaneId) (dir : RingDir) (f : Bytes) (s : State), (rfSrc f, rfType f, rfSeq f) ∈ s.arb.taken → leaves (.voteFrameReceive l dir f) s fun t =>
    t.arb.votes = s.arb.votes ∧ t.arb.heardAt = s.arb.heardAt

/-- The module in control sends its STATE frame at tick 9,500 (R419); the others hold the last one heard, and count the cycle as received unless it names
a system entry that is not held yet (R460). IMAGE_HOLD leaves once in a long cycle and is held by its source (R95). IMAGE_COMMIT_FRAME heard puts its
boundary into every commit of its generation. IMAGE_DATA_FRAME heard by a module not marked IMAGE_LAG changes no image; sent by the module in control
to one that lags, it moves on by 480 bytes. (Derived from 15_redundancy.md, 03_schedule_image.md.) -/
def Obligations.RingFramesCarryStateAndImages : Prop :=
  (∀ s : State, votes s = true → s.isController = true → s.inControl = true → 1 < ringSize s.image → pathRuns s s.sel = true → dueAt 146 9500 s → s.power.pfail = false →
    leaves .stateFrameSend s fun t => t.time.tick = 9500 ∧ vget t.arb.seqs 2 = (vget s.arb.seqs 2 + 1) % 65536 ∧ Same [.time, .arb, .outbox] (inLane s.sel [.bw]) s t) ∧
  (∀ s : State, s.inControl = false → exec .stateFrameSend s = .next s) ∧
  (∀ (l : LaneId) (dir : RingDir) (f : Bytes) (s : State), Heard 2 l f s → leaves (.stateFrameReceive l dir f) s fun t =>
    t.arb.stateFrame = some (rfPayload f) ∧ t.arb.stateAt = (if later32 (u32 (rfPayload f) 12) s.host.ssn then s.arb.stateAt else some s.time.cycle) ∧
    Same [.arb, .outbox] (bothLanes [.bw]) s t) ∧
  (∀ s : State, votes s = true → 1 < ringSize s.image → s.arb.imageLag = false → s.power.pfail = false →
    (s.arb.holdSent ≠ some (s.time.cycle / 50) → leaves (.imageHold none) s fun t =>
      t.arb.holdSent = some (s.time.cycle / 50) ∧ vget t.arb.seqs 7 = (vget s.arb.seqs 7 + 1) % 65536 ∧ Same [.arb, .outbox] (inLane s.sel [.bw]) s t) ∧
    (s.arb.holdSent = some (s.time.cycle / 50) → exec (.imageHold none) s = .next s)) ∧
  (∀ (l : LaneId) (dir : RingDir) (f : Bytes) (s : State), Heard 7 l f s → leaves (.imageHold (some (l, dir, f))) s fun t =>
    vget t.arb.holds (rfSrc f - 1) = (u32 (rfPayload f) 0, u32 (rfPayload f) 4, u32 (rfPayload f) 8) ∧ Same [.arb, .outbox] (bothLanes [.bw]) s t) ∧
  (∀ (l : LaneId) (dir : RingDir) (f : Bytes) (s : State), Heard 8 l f s → leaves (.imageCommitFrame (some (l, dir, f))) s fun t =>
    (∀ k c, s.laneRuns k = true → (s.lane k).image.commit = some c → (s.lane k).image.gen = u32 (rfPayload f) 4 → c.rollback = false →
      (t.lane k).image.commit = some { c with agreed := some (nearCycle s.time.cycle (u32 (rfPayload f) 0)) }) ∧ Same [.arb, .outbox] (bothLanes [.bw, .image]) s t) ∧
  (∀ s : State, (s.lane s.sel).image.commit = none → exec (.imageCommitFrame none) s = .next s) ∧
  (∀ (l : LaneId) (dir : RingDir) (f : Bytes) (s : State), Heard 9 l f s → s.arb.imageLag = false → leaves (.imageDataFrame (some (l, dir, f))) s fun t =>
    Same [.arb, .outbox] (bothLanes [.bw]) s t) ∧
  ∀ (s : State) (m : Nat) (img : Bytes), votes s = true → s.inControl = true → s.power.pfail = false → 1 < ringSize s.image → laggard s = some m → s.laneImg s.sel = some img →
    leaves (.imageDataFrame none) s fun t => t.arb.dataTo = (m, (if s.arb.dataTo.1 = m ∧ s.arb.dataTo.2 < img.length then s.arb.dataTo.2 else 0) + 480) ∧
      vget t.arb.seqs 9 = (vget s.arb.seqs 9 + 1) % 65536 ∧ Same [.arb, .outbox] (inLane s.sel [.bw]) s t

/-- A JOURNAL frame heard with an entry whose SSN and CRC are not yet held is held as a system entry; a TOKEN entry puts its holder and EPOCH in force,
and a setting (but IMAGE_COMMIT) is staged in every running lane that is not JOINING (R460, R461). One already held changes neither the host side nor
a lane but its port's traffic. JOURNAL_SNAPSHOT at tick 17,000 of phase 25 in the module in control sends every piece both ways, and at another phase
nothing. (Derived from 16_command_protocol.md.) -/
def Obligations.SystemEntriesArriveOnce : Prop :=
  (∀ (l : LaneId) (dir : RingDir) (f : Bytes) (s : State), Heard 6 l f s → u8 (rfPayload f) 8 ≠ 0xFF →
    ((s.host.sys.any fun e => e.ssn == u32 (rfPayload f) 4 && e.crc == u32 (rfPayload f) 36) = true → leaves (.journalFrameReceive l dir f) s fun t =>
      Same [.arb, .outbox] (bothLanes [.bw]) s t) ∧
    ((s.host.sys.any fun e => e.ssn == u32 (rfPayload f) 4 && e.crc == u32 (rfPayload f) 36) = false → leaves (.journalFrameReceive l dir f) s fun t =>
      (∃ e ∈ t.host.sys, e.ssn = u32 (rfPayload f) 4 ∧ e.crc = u32 (rfPayload f) 36) ∧
      (u8 (rfPayload f) 8 ≠ 4 → u16 (rfPayload f) 18 ≠ 0x0604 → ∀ k, s.laneRuns k = true → s.laneState k ≠ 3 →
        ∃ g ∈ (t.lane k).staged, g.ssn = u32 (rfPayload f) 4 ∧ g.opcode = u16 (rfPayload f) 18 ∧ g.params = sliceB (rfPayload f) 64 (u16 (rfPayload f) 30)))) ∧
  (∀ (l : LaneId) (dir : RingDir) (f : Bytes) (s : State), Heard 6 l f s → u8 (rfPayload f) 8 = 4 →
    (s.host.sys.any fun e => e.ssn == u32 (rfPayload f) 4 && e.crc == u32 (rfPayload f) 36) = false → leaves (.journalFrameReceive l dir f) s fun t =>
      t.host.token.epoch = u16 (rfPayload f) 42 ∧
      t.host.token.holder = u16 (sliceB (rfPayload f) (64 + (u16 (rfPayload f) 30 + 7) / 8 * 8) (u16 (rfPayload f) 40)) 0) ∧
  (∀ s : State, votes s = true → s.inControl = true → 1 < ringSize s.image → s.phase = 25 → dueAt 148 17000 s → s.power.pfail = false → s.jtag.extest = false →
    leaves .journalSnapshot s fun t => t.time.tick = 17000 ∧ t.outbox.length = s.outbox.length + 2 * (snapshotFrames s).length ∧
      Same [.time, .arb, .outbox] (inLane s.sel [.bw]) s t) ∧
  ∀ s : State, s.phase ≠ 25 → exec .journalSnapshot s = .next s

/-- A beacon heard on a port renews its time; a DOWN port comes up with its hundredth valid beacon and not before. A monitored port without symbol lock,
or silent for 400 µs, goes DOWN; an unmonitored one does not (R425). The time master sends TIME_SYNC at tick 500 of phase 10; a slave holds its
departure and arrival, sends TIME_DELAY at tick 700, and with TIME_REPLY holds half of t2 - t1 - t4 + t3, negated, as what the master's time is ahead
of its own (R426). (Derived from 15_redundancy.md, 06_belfry_time.md.) -/
def Obligations.RingPortsAndTimeExchange : Prop :=
  (∀ (l : LaneId) (dir : RingDir) (s : State), votes s = true → 1 < ringSize s.image → s.laneRuns l = true → leaves (.beacon l dir true) s fun t =>
    let p := vget s.arb.ports (portIx l dir)
    let q := vget t.arb.ports (portIx l dir)
    q.lastUs = s.time.us ∧ (p.up = true → q.up = true) ∧ (p.up = false → (q.up = true ↔ 99 ≤ p.valid)) ∧ (p.up = false → q.up = false → q.valid = p.valid + 1) ∧
    Same [.arb] (inLane l [.bw]) s t) ∧
  (∀ (dir : RingDir) (s : State), votes s = true → 1 < ringSize s.image → s.laneRuns s.sel = true → s.power.pfail = false → s.jtag.extest = false → leaves (.beacon s.sel dir false) s fun t =>
    (∃ f, t.outbox = s.outbox ++ [.ring dir f]) ∧ vget t.arb.seqs 10 = (vget s.arb.seqs 10 + 1) % 65536 ∧ Same [.arb, .outbox] (inLane s.sel [.bw]) s t) ∧
  (∀ (l : LaneId) (dir : RingDir) (lost : Bool) (s : State), votes s = true → leaves (.baiquePortDown l dir lost) s fun t =>
    let due := portMonitored s.image l dir s.arb = true ∧ (lost = true ∨ (vget s.arb.ports (portIx l dir)).lastUs + 400 ≤ s.time.us)
    (due → (vget t.arb.ports (portIx l dir)).up = false) ∧ (¬due → t.arb.ports = s.arb.ports) ∧ Same [.arb] noLane s t) ∧
  (∀ (t1 : Int) (s : State), votes s = true → s.arb.timeMaster = true → 1 < ringSize s.image → s.phase = 10 → dueAt 147 500 s → s.power.pfail = false → leaves (.timeExchangeStart t1) s fun t =>
    t.time.tick = 500 ∧ vget t.arb.seqs 3 = (vget s.arb.seqs 3 + 1) % 65536 ∧ Same [.time, .arb, .outbox] (inLane s.sel [.bw]) s t) ∧
  (∀ (l : LaneId) (dir : RingDir) (f : Bytes) (t2 : Int) (s : State), Heard 3 l f s → leaves (.timeSync l dir f t2) s fun t =>
    (s.arb.timeMaster = true → t.arb.timeEx = s.arb.timeEx) ∧
    (s.arb.timeMaster = false → t.arb.timeEx = { s.arb.timeEx with t1 := some (s64 (rfPayload f) 0), t2 := some t2, t3 := none, t4 := none, cycle := s.time.cycle, peer := rfSrc f }) ∧
    Same [.arb, .outbox] (bothLanes [.bw]) s t) ∧
  (∀ (t3 : Int) (s : State), votes s = true → s.arb.timeMaster = false → s.arb.timeEx.t2.isSome = true → s.arb.timeEx.t3 = none → s.arb.timeEx.cycle = s.time.cycle → dueAt 149 700 s →
    leaves (.timeDelay none t3) s fun t => t.time.tick = 700 ∧ t.arb.timeEx = { s.arb.timeEx with t3 := some t3 } ∧ Same [.time, .arb, .outbox] (inLane s.sel [.bw]) s t) ∧
  (∀ (l : LaneId) (dir : RingDir) (f : Bytes) (t4 : Int) (s : State), Heard 4 l f s → s.arb.timeMaster = true → s.power.pfail = false → leaves (.timeDelay (some (l, dir, f)) t4) s fun t =>
    vget t.arb.seqs 5 = (vget s.arb.seqs 5 + 1) % 65536 ∧ t.arb.timeEx = s.arb.timeEx ∧ Same [.arb, .outbox] (bothLanes [.bw]) s t) ∧
  ∀ (l : LaneId) (dir : RingDir) (f : Bytes) (s : State) (a b c : Int), Heard 5 l f s → s.arb.timeEx.t1 = some a → s.arb.timeEx.t2 = some b → s.arb.timeEx.t3 = some c →
    s.arb.timeEx.cycle = s.time.cycle → s.arb.timeEx.peer = rfSrc f → leaves (.timeReply l dir f) s fun t =>
      (t.arb.timeEx.result.map (·.1)) = some (-(((b - a - s64 (rfPayload f) 0 + c : Int) : ℚ) / 2)) ∧ t.arb.timeEx.doneAt = s.time.cycle ∧
      Same [.arb, .outbox] (bothLanes [.bw, .pmu]) s t

/-- When every STO output is at the level that its channel's latch, running test pulse and running proof test give it, and both latches hold the thruster
of every pending or running proof test, every step leaves that so, whatever the command. An energised output then means: the island is in RUN with an
active block, the pair is used, and the channel's latch is clear for its thruster, or the pair's own proof test is running (R358, R361, R368, R390).
(Derived from 14_diver_zone_safety.md.) -/
def Obligations.TorqueOutputsFollowTheIsland : Prop :=
  ∀ s t : State, s.Driven → step s = .next t → t.Driven ∧
    ∀ (c : SafeChan) (n : Fin 16), bitOf n.val (t.safety.ch c).out = true → t.safety.state = 2 ∧ ∃ b, t.safety.active = some b ∧ sbUse b n.val = true ∧
      ((runningProof t.safety n.val).isSome = true ∨ (t.safety.ch c).latch &&& pairBit t.isNode b n.val = 0)

/-- The invariant of the outputs holds at reset: no output is energised (R392), and none is due to be. (Derived from 14_diver_zone_safety.md.) -/
def Obligations.ResetOutputsAreOff : Prop :=
  State.reset.Driven ∧ ∀ (c : SafeChan) (n : Fin 16), bitOf n.val (State.reset.safety.ch c).out = false

/-- From a state whose outputs follow the island's state: every command that is no event of the island itself and does not reset domain 0 energises no
output, cancels no removal, releases no zone, keeps the active block, starts and ends no test pulse, keeps SAFE_STATE (it keeps the island's state
altogether), every pair fault and every input fault. Host commands, images and their commit, lane faults, switchover, the loss of lanes and of their
domains are all among them; lane requests and proof tests only remove. (Stated: R394.) -/
def Obligations.NoLaneOrCommandWeakensSafety : Prop :=
  ∀ (c : Instr) (s : State), islandEvent c = false → resetsDomain0 c = false → s.Driven → leaves c s fun t =>
    (∀ (k : SafeChan) (n : Fin 16), bitOf n.val (s.safety.ch k).out = false → bitOf n.val (t.safety.ch k).out = false) ∧
    t.safety.state = s.safety.state ∧ t.safety.active = s.safety.active ∧ t.safety.pairFault = s.safety.pairFault ∧
    (∀ p : Fin 8, (t.safety.inputs[p]).fault = (s.safety.inputs[p]).fault) ∧ (∀ z : Fin 8, (s.safety.zones[z]).wait = true → (t.safety.zones[z]).wait = true) ∧
    ∀ k : SafeChan, (t.safety.ch k).pulse.map (·.1) = (s.safety.ch k).pulse.map (·.1)

/-- On a controller whose island is in RUN, SAFETY_INPUT_CHANGE to de-energised in either channel makes every zone with that input active, and de-
energises in the same step, in each channel that reads the input so, the output of every thruster in such a zone, a running proof test included (R358,
R360, R361, R362, R364). On its own it has no effect on the other channel's outputs, when they follow the island's state, no proof test stands, that
channel's latch holds its causes and every active zone has a demand (R363). A change to energised stores the level and releases no zone. That each channel
removes by its own view of the inputs is the model's reading, log entry 77. (Derived from 14_diver_zone_safety.md.) -/
def Obligations.DemandRemovesTorqueAtOnce : Prop :=
  ∀ (c : SafeChan) (p : Fin 8) (s : State) (b : Bytes), s.power.booted = true → s.isNode = false → s.safety.state = 2 → s.safety.active = some b →
    (leaves (.safetyInputChange c p false) s fun t =>
      bitOf p.val (t.safety.ch c).energised = false ∧
      (∀ z : Fin 8, bitOf p.val (szInput b z.val) = true → (t.safety.zones[z]).act = true ∧ (t.safety.zones[z]).wait = true ∧
        ∀ n : Fin 16, bitOf n.val (szThr b z.val) = true → ∀ k : SafeChan, bitOf p.val (t.safety.ch k).energised = false → bitOf n.val (t.safety.ch k).out = false) ∧
      (s.Driven → s.safety.proofs = [] → causes (safIn s) s.safety c.other ||| (s.safety.ch c.other).latch = (s.safety.ch c.other).latch →
        (∀ z : Fin 8, (s.safety.zones[z]).act = true → zoneDemand b s.safety .A z.val = true ∨ zoneDemand b s.safety .B z.val = true) →
        ∀ n : Fin 16, bitOf n.val (t.safety.ch c.other).out = bitOf n.val (s.safety.ch c.other).out) ∧
      Same (.safety :: noted) (bothLanes toldParts) s t) ∧
    (leaves (.safetyInputChange c p true) s fun t =>
      bitOf p.val (t.safety.ch c).energised = true ∧ (∀ z : Fin 8, (s.safety.zones[z]).wait = true → (t.safety.zones[z]).wait = true) ∧
      Same (.safety :: noted) (bothLanes toldParts) s t)

/-- SAFETY_CYCLE_START every 5 ms counts the cycle. In RUN, a zone that is neither demanded nor active is released when it is automatic and has been
inactive for RESTART_MS, or when its reset has been operated, and keeps waiting otherwise (R365); running tests apart, an output is energised
afterwards only when its channel sees no demand of a zone of its thruster and none awaits its release, and is energised anew only when every such zone
is inactive in both channels and released (R361; a channel's own view of a demand is log entry 77). RESET_INPUT_OPERATION arms the reset of the waiting zones that name its input,
when it lasted 100 ms to 5,000 ms and began after the zone became inactive (log entry 42), and does nothing otherwise. (Derived from
14_diver_zone_safety.md.) -/
def Obligations.SafetyCycleReleasesUnderItsRules : Prop :=
  (∀ (s : State) (b : Bytes), s.power.booted = true → s.isNode = false → s.safety.state = 2 → s.safety.active = some b → s.safety.cycleUs + 5000 ≤ s.time.us →
    leaves .safetyCycleStart s fun t =>
      t.safety.cycle = s.safety.cycle + 1 ∧ t.safety.cycleUs = s.safety.cycleUs + 5000 ∧ t.safety.startLeft = s.safety.startLeft - 1 ∧
      (∀ z : Fin 8, (s.safety.zones[z]).act = false → (t.safety.zones[z]).act = false →
        ((t.safety.zones[z]).wait = true ↔ (s.safety.zones[z]).wait = true ∧
          (if szAuto b z.val then s.time.us < (s.safety.zones[z]).since + 1000 * sbRestartMs b else (s.safety.zones[z]).reset = false))) ∧
      (∀ (c : SafeChan) (n : Fin 16), bitOf n.val (t.safety.ch c).out = true → (runningProof t.safety n.val).isNone = true →
        ∀ z : Fin 8, bitOf n.val (szThr b z.val) = true → zoneDemand b t.safety c z.val = false ∧ ((t.safety.zones[z]).wait = false ∨ (t.safety.zones[z]).act = true)) ∧
      (∀ (c : SafeChan) (n : Fin 16), s.Driven → (s.safety.ch c).pulse = none → runningProof s.safety n.val = none → bitOf n.val (s.safety.ch c).out = false →
        bitOf n.val (t.safety.ch c).out = true → ∀ z : Fin 8, bitOf n.val (szThr b z.val) = true → (t.safety.zones[z]).act = false ∧ (t.safety.zones[z]).wait = false) ∧
      Same (.safety :: noted) (bothLanes toldParts) s t) ∧
  ∀ (p : Fin 8) (dur : Nat) (s : State) (b : Bytes), s.power.booted = true → s.safety.active = some b → leaves (.resetInputOperation p dur) s fun t =>
    (∀ z : Fin 8,
      let x := s.safety.zones[z]
      let armed := sbFunction b p.val = 2 ∧ 100000 ≤ dur ∧ dur ≤ 5000000 ∧ (s.safety.inputs[p]).fault = false ∧
        szReset b z.val = p.val + 1 ∧ x.wait = true ∧ x.act = false ∧ x.since + dur ≤ s.time.us
      (armed → t.safety.zones[z] = { x with reset := true }) ∧ (¬armed → t.safety.zones[z] = x)) ∧
    { t.safety with zones := s.safety.zones } = s.safety ∧ Same [.safety] noLane s t

/-- OUTPUT_STUCK_FAULT of a used pair latches its pair fault and de-energises both of its outputs (R366), and is not judged during a power failure (R541).
TEST_PULSE_START de-energises its output 1,000 us into the safety cycle of its slot alone (R369); off the slot, or once that instant has passed, nothing
changes. At TEST_PULSE_END, 300 us later, the pulse is over: a passed one leaves faults and counts, a discarded one is counted as a discard without
judgement (R371), a failed one counts as a failure and latches the pair fault (R370). (Derived from 14_diver_zone_safety.md.) -/
def Obligations.PulsesAndPairFaults : Prop :=
  (∀ (n : Fin 16) (s : State) (b : Bytes), s.power.booted = true → s.isNode = false → s.power.pfail = false → s.safety.state = 2 → s.safety.active = some b → sbUse b n.val = true →
    (s.safety.proofs.all fun p => p.pair != n.val) = true → leaves (.outputStuckFault n) s fun t =>
      t.safety.pairFault = s.safety.pairFault ||| 2 ^ n.val ∧ (∀ k : SafeChan, bitOf n.val (t.safety.ch k).out = false) ∧ Same (.safety :: noted) (bothLanes toldParts) s t) ∧
  (∀ (n : Fin 16) (s : State), s.power.pfail = true → exec (.outputStuckFault n) s = .next s) ∧
  (∀ (c : SafeChan) (n : Fin 16) (s : State) (b : Bytes), s.power.booted = true → s.safety.state = 2 → s.safety.active = some b → sbUse b n.val = true →
    (s.safety.proofs.all fun p => p.pair != n.val) = true → (s.safety.ch c).pulse = none → bitOf n.val (s.safety.ch c).out = true →
    vget (s.safety.ch c).onCycle n.val + 1 < s.safety.cycle →
    (s.safety.cycle % 200 = 12 * n.val + (match c with | .A => 0 | .B => 6) → safInstant 1000 s → leaves (.testPulseStart c n) s fun t =>
      t.time.us = s.safety.cycleUs + 1000 ∧
      bitOf n.val (t.safety.ch c).out = false ∧ (t.safety.ch c).pulse.map (·.1) = some n.val ∧ t.safety.pairFault = s.safety.pairFault ∧
      Same (.time :: .safety :: noted) (bothLanes toldParts) s t) ∧
    (s.safety.cycleUs + 1000 < s.time.us → exec (.testPulseStart c n) s = .next s) ∧
    (s.safety.cycle % 200 ≠ 12 * n.val + (match c with | .A => 0 | .B => 6) → exec (.testPulseStart c n) s = .next s)) ∧
  (∀ (c : SafeChan) (n : Fin 16) (s : State) (b : Bytes), s.power.booted = true → s.power.pfail = false → s.safety.state = 2 → s.safety.active = some b → sbUse b n.val = true →
    (s.safety.proofs.all fun p => p.pair != n.val) = true → safInstant 1300 s →
    ((s.safety.ch c).pulse = some (n.val, false) → leaves (.testPulseEnd c true) s fun t =>
      (t.safety.ch c).pulse = none ∧ t.safety.pairFault = s.safety.pairFault ∧ t.safety.pulseFail = s.safety.pulseFail ∧ t.safety.pulseDisc = s.safety.pulseDisc) ∧
    (∀ pass, (s.safety.ch c).pulse = some (n.val, true) → leaves (.testPulseEnd c pass) s fun t =>
      (t.safety.ch c).pulse = none ∧ t.safety.pairFault = s.safety.pairFault ∧ t.safety.pulseFail = s.safety.pulseFail ∧
      t.safety.pulseDisc = satAdd 0xFFFF s.safety.pulseDisc 1) ∧
    ((s.safety.ch c).pulse = some (n.val, false) → leaves (.testPulseEnd c false) s fun t =>
      (t.safety.ch c).pulse = none ∧ t.safety.pairFault = s.safety.pairFault ||| 2 ^ n.val ∧ t.safety.pulseFail = satAdd 0xFFFF s.safety.pulseFail 1))

/-- A valid message on a network whose controller is up is taken into its stream of a channel, which is live from the second one on; one of the wrong
length from a known sender is counted as invalid and changes no stream (R376). A controller that is not up receives nothing; a bad frame raises REC, an own
frame that fails raises TEC, is sent again and takes the controller to bus-off above 255, and its recovery starts both at 0 (R349, R372, R373; the steps
of the counts are log entry 39). STREAM_TIMEOUT ends a stream silent for TIMEOUT_MS and counts it (R377). SENDER_DISCREPANT reports a difference
that has lasted more than DISC_MS and does nothing else (R379). ISLAND_FAULT puts the module in SAFE_STATE at once, de-energises every output and
records its first cause only; a later one still ends its channel's part; none is judged in a power failure (R382, R541). (Derived from 14_diver_zone_safety.md.) -/
def Obligations.MessagesStreamsAndIslandFault : Prop :=
  (∀ (net : Fin 2) (ident : Nat) (d : Bytes) (s : State) (b : Bytes) (m e : Nat), s.power.booted = true → s.safety.active = some b → senderOf (safIn s) b ident = some (m, e) → e < 3 →
    (s.safety.ch (netChan net)).up = true →
    (d.length ≠ 16 → leaves (.safeMessageReceive net ident (.frame d)) s fun t =>
      t.safety.invalid = satAdd 0xFFFF s.safety.invalid 1 ∧ t.safety.a.streams = s.safety.a.streams ∧ t.safety.b.streams = s.safety.b.streams) ∧
    (∀ c : SafeChan, messageValid (safIn s) b (vget (s.safety.ch c).streams (streamIx e net.val)) m e net.val ident d → leaves (.safeMessageReceive net ident (.frame d)) s fun t =>
      let x := vget (s.safety.ch c).streams (streamIx e net.val)
      let y := vget (t.safety.ch c).streams (streamIx e net.val)
      y.lastSeq = u16 d 0 ∧ y.seen = true ∧ y.live = (x.live || decide (2 ≤ x.run + 1)) ∧ y.lastUs = s.time.us ∧ y.remove = u16 d 4 ∧ y.act = u8 d 6 ∧
      y.carried = u8 d 7 ∧ y.safe = bitOf 0 (u8 d 3) ∧ Same (.safety :: noted) (bothLanes toldParts) s t)) ∧
  (∀ (net : Fin 2) (s : State) (b : Bytes), s.power.booted = true → s.safety.active = some b →
    let c := netChan net
    let k := (s.safety.ch c).can
    ((s.safety.ch c).up = false → ∀ ident d, leaves (.safeMessageReceive net ident (.frame d)) s fun t => t.safety = s.safety) ∧
    ((s.safety.ch c).up = true →
      (∀ n, leaves (.safeMessageReceive net 0 (.bad n)) s fun t => (t.safety.ch c).can = { k with rec_ := k.rec_ + 1 + 8 * n } ∧ Same [.safety] noLane s t) ∧
      (k.wire = true → leaves (.safeMessageReceive net 0 (.own .acked)) s fun t => (t.safety.ch c).can.tec ≤ k.tec - 1) ∧
      (k.wire = true → k.taken = true → ∀ r, r = .bitError ∨ r = .startError ∨ r = .frameError → leaves (.safeMessageReceive net 0 (.own r)) s fun t =>
        (t.safety.ch c).can = { k with tec := k.tec + 8, off := decide (255 < k.tec + 8), wire := false, waits := true } ∧ (t.safety.ch c).seq = (s.safety.ch c).seq) ∧
      (k.waits = false → leaves (.safeMessageReceive net 0 (.taken true)) s fun t => (t.safety.ch c).can = { k with taken := true })) ∧
    (k.off = true → (s.safety.ch c).netUp = true → k.taken = true → leaves (.safeMessageReceive net 0 .recovered) s fun t =>
      (t.safety.ch c).can = { k with off := false, tec := 0, rec_ := 0 })) ∧
  (∀ (e : Fin 3) (net : Fin 2) (s : State) (b : Bytes), s.power.booted = true → s.safety.active = some b →
    (∀ c : SafeChan, (vget (s.safety.ch c).streams (streamIx e.val net.val)).seen = true →
      (vget (s.safety.ch c).streams (streamIx e.val net.val)).lastUs + 1000 * sbTimeoutMs b ≤ s.time.us → leaves (.streamTimeout e net) s fun t =>
        (vget (t.safety.ch c).streams (streamIx e.val net.val)).live = false ∧ (vget (t.safety.ch c).streams (streamIx e.val net.val)).seen = false ∧
        t.safety.timeouts = satAdd 0xFFFF s.safety.timeouts 1) ∧
    ((∀ c : SafeChan, s.time.us < (vget (s.safety.ch c).streams (streamIx e.val net.val)).lastUs + 1000 * sbTimeoutMs b) → exec (.streamTimeout e net) s = .next s)) ∧
  (∀ (e : Fin 3) (s : State) (b : Bytes), s.power.booted = true → s.safety.active = some b → leaves (.senderDiscrepant e) s fun t =>
    (∀ c : SafeChan, (∃ since, (s.safety.ch c).discSince[e] = some since ∧ since + 1000 * sbStreamDiscMs b < s.time.us) → (t.safety.ch c).discrep[e] = true) ∧
    (∀ c : SafeChan, (∀ since, (s.safety.ch c).discSince[e] = some since → s.time.us ≤ since + 1000 * sbStreamDiscMs b) → t.safety.ch c = s.safety.ch c) ∧
    (∀ c : SafeChan, { t.safety.ch c with discrep := (s.safety.ch c).discrep } = s.safety.ch c) ∧
    { t.safety with a := s.safety.a, b := s.safety.b } = s.safety ∧ Same [.safety] noLane s t) ∧
  ∀ (cause : Nat) (c : SafeChan) (own : Bool) (s : State), s.power.booted = true →
    (s.power.pfail = true → exec (.islandFault cause c own) s = .next s) ∧
    (s.power.pfail = false → s.safety.state = 3 → leaves (.islandFault cause c own) s fun t =>
      t.safety.state = 3 ∧ t.safety.fault = s.safety.fault ∧ (t.safety.ch c).ok = false ∧ (t.safety.ch c).dead = ((s.safety.ch c).dead || own) ∧
      Same (.safety :: noted) (bothLanes toldParts) s t) ∧
    (s.power.pfail = false → s.safety.state ≠ 3 → leaves (.islandFault cause c own) s fun t =>
      t.safety.state = 3 ∧ t.safety.a.out = 0 ∧ t.safety.b.out = 0 ∧ (t.safety.ch c).ok = false ∧ (t.safety.ch c).dead = ((s.safety.ch c).dead || own) ∧
      t.safety.fault = atF 28 4 cause + atF 27 1 (match c with | .A => 0 | .B => 1) + atF 0 16 s.safety.cycle ∧ t.safety.active = s.safety.active ∧
      Same (.safety :: noted) (bothLanes toldParts) s t)

/-- On a controller PROOF_TEST_BEGIN starts a pending pair's test after the second mask latch with its bit, with the first named output, unless another
removal cause ends it at once; before, nothing changes. PROOF_PHASE_END before PROOF_MS has passed changes nothing. Of the last phase, a passing test
of both outputs clears the pair fault, one that fails latches it, and one of a single output that passes leaves it (R390). (Derived from
14_diver_zone_safety.md.) -/
def Obligations.ProofTestsRunAndJudge : Prop :=
  (∀ (n : Fin 16) (s : State) (p : ProofTest), s.power.booted = true → s.isNode = false → (s.safety.proofs.find? fun q => q.pair == n.val && q.stage == 0) = some p →
    (p.latches < 2 → exec (.proofTestBegin n) s = .next s) ∧
    (2 ≤ p.latches → leaves (.proofTestBegin n) s fun t =>
      (∃ q ∈ t.safety.proofs, q.pair = n.val ∧ q.outs = p.outs ∧ q.startUs = s.time.us ∧ (q.stage = 4 ∨ q.stage = if bitOf 0 p.outs then 1 else 2)) ∧
      Same (.safety :: noted) (bothLanes toldParts) s t)) ∧
  ∀ (n : Fin 16) (pass : Bool) (s : State) (b : Bytes) (p : ProofTest), s.power.booted = true → s.power.pfail = false → s.safety.active = some b →
    (s.safety.proofs.find? fun q => q.pair == n.val && (q.stage == 1 || q.stage == 2 || q.stage == 3)) = some p →
    (s.time.us < p.startUs + 1000 * sbProofMs b → exec (.proofPhaseEnd n pass) s = .next s) ∧
    (p.startUs + 1000 * sbProofMs b ≤ s.time.us → p.stage = 2 → leaves (.proofPhaseEnd n pass) s fun t =>
      (p.failA = true ∨ pass = false → t.safety.pairFault = s.safety.pairFault ||| 2 ^ n.val) ∧
      (p.failA = false → pass = true → p.outs = 3 → bitOf n.val s.safety.pairFault = true → t.safety.pairFault = s.safety.pairFault - 2 ^ n.val) ∧
      (p.failA = false → pass = true → p.outs ≠ 3 → t.safety.pairFault = s.safety.pairFault) ∧ Same (.safety :: noted) (bothLanes toldParts) s t) ∧
    (p.startUs + 1000 * sbProofMs b ≤ s.time.us → p.stage = 1 → p.outs = 1 → leaves (.proofPhaseEnd n pass) s fun t =>
      t.safety.pairFault = (if pass then s.safety.pairFault else s.safety.pairFault ||| 2 ^ n.val)) ∧
    (p.startUs + 1000 * sbProofMs b ≤ s.time.us → p.stage = 3 → leaves (.proofPhaseEnd n pass) s fun t => t.safety.pairFault = s.safety.pairFault)

/-- BLOCK_ACTIVATE at or after the safety cycle of a confirmation makes the confirmed block the active one, the island RUN unless it is in SAFE_STATE, and
has Keep write both copies; a block loaded since the confirmation stays pending; without a confirmation that is due nothing changes (R386, R388). PENDING_BLOCK_EXPIRE discards a pending block 900 s after its
load, not before and not once confirmed (R386). COMMISSION_EN_CHANGE stores in both channels since when it is asserted (R387). SAFETY_STARTUP without
a valid copy leaves every output off and sends nothing; with one it is in RUN with that block and 200 cycles of START (R389, R392). (Derived from
14_diver_zone_safety.md, 18_keep_recorder.md.) -/
def Obligations.BlocksActivateOnlyWhenConfirmed : Prop :=
  (∀ (s : State) (b : Bytes) (c : Nat), s.power.booted = true → s.safety.confirmed = some b → s.safety.activateAt = some c →
    (c ≤ s.safety.cycle → leaves .blockActivate s fun t =>
      t.safety.active = some b ∧ t.safety.pending = (if s.safety.pending = some b then none else s.safety.pending) ∧ t.safety.activateAt = none ∧ t.safety.state = (if s.safety.state = 3 then 3 else 2) ∧ t.host.wtQueue = [] ∧
      (s.keep.st ≠ 3 → (t.keep.units.any fun u => u == .safetyCopy 2 b) = true ∧ ((t.keep.units.any fun u => u == .safetyCopy 1 b) || (t.keep.busy.any fun u => u.1 == .safetyCopy 1 b)) = true) ∧
      Same ([.safety, .lantern] ++ noted) (bothLanes toldParts) s t) ∧
    (s.safety.cycle < c → exec .blockActivate s = .next s)) ∧
  (∀ s : State, s.safety.activateAt = none → exec .blockActivate s = .next s) ∧
  (∀ (s : State) (b : Bytes), s.power.booted = true → s.safety.pending = some b → leaves .pendingBlockExpire s fun t =>
    (s.safety.activateAt = none → s.safety.pendUs + 900000000 ≤ s.time.us → t.safety.pending = none ∧ t.safety.displayed = false) ∧
    (s.safety.activateAt ≠ none ∨ s.time.us < s.safety.pendUs + 900000000 → t.safety = s.safety) ∧ t.safety.active = s.safety.active ∧ Same [.safety, .lantern] noLane s t) ∧
  (∀ (on : Bool) (s : State), s.power.booted = true → leaves (.commissionEnChange on) s fun t =>
    (∀ c : SafeChan, t.safety.ch c = { s.safety.ch c with commission := if on then some ((s.safety.ch c).commission.getD s.time.us) else none }) ∧
    { t.safety with a := s.safety.a, b := s.safety.b } = s.safety ∧ Same [.safety] noLane s t) ∧
  ∀ (inA inB : Nat) (s : State), s.power.booted = true → s.safety.state = 0 →
    (flashBlock s.keep = none → leaves (.safetyStartup inA inB) s fun t =>
      t.safety.state = 1 ∧ t.safety.active = none ∧ t.safety.a.out = s.safety.a.out ∧ t.safety.b.out = s.safety.b.out ∧ Same [.safety] noLane s t) ∧
    (∀ b, flashBlock s.keep = some b → leaves (.safetyStartup inA inB) s fun t =>
      t.safety.state = 2 ∧ t.safety.active = some b ∧ t.safety.startLeft = 200 ∧ t.safety.a.energised = inA ∧ t.safety.b.energised = inB ∧
      (∀ z : Fin 8, szInput b z.val ≠ 0 ∨ szThr b z.val ≠ 0 → ((t.safety.zones[z]).act = true ↔ zoneDemand b t.safety .A z.val = true ∨ zoneDemand b t.safety .B z.val = true)) ∧
      Same (.safety :: noted) (bothLanes toldParts) s t)

/-- PACKET_RECEIVE of a sound packet of an open session: in the window of 64 it joins the reorder buffer with its arrival cycle and tick; outside it is
dropped and counted in FLOW_DROP; with an answered SEQ and the same CRC the cached reply leaves again with REPLAY (R439). Without a session NO_SESSION
is answered and no channel changes (R438); an unsound one is counted and nothing leaves (R436). A SESSION_OPEN that repeats none waits. SVC_WRITE
stores a session's next command, SVC_READ returns the ready reply and SVC_STATUS the two status bits (R434). That the service port's reply is read
once is log entry 60. (Derived from 16_command_protocol.md.) -/
def Obligations.PacketsTakeTheirPlace : Prop :=
  (∀ (p : EthPort) (src : Source) (sound : Bool) (raw : Bytes) (s : State) (c : Fin 4), Arrives p sound raw s →
    let pkt : Packet := ⟨raw, src, some p, s.time.cycle, s.time.tick⟩
    let ch := s.host.chans[c]
    pkt.opcode ≠ 0x0101 → channelOf src pkt.station s = some c →
    (ch.cache.find? (·.seq == pkt.seq) = none → pkt.seq ≠ 0 → seqDist pkt.seq ch.base < 64 → (∀ q ∈ ch.buf, q.seq ≠ pkt.seq) → (ch.inFlight.map (·.pkt.seq)) ≠ some pkt.seq →
      leaves (.packetReceive p src sound raw) s fun t => t.host.chans[c].buf = ch.buf ++ [pkt] ∧ t.host.chans[c].base = ch.base ∧ (∀ d, d ≠ c → t.host.chans[d] = s.host.chans[d]) ∧
        t.outbox = s.outbox ∧ Same [.host] (bothLanes [.bw]) s t) ∧
    (ch.cache.find? (·.seq == pkt.seq) = none → (64 ≤ seqDist pkt.seq ch.base ∨ pkt.seq = 0) → leaves (.packetReceive p src sound raw) s fun t =>
      t.host.chans[c].flowDrop = (ch.flowDrop + 1) % 2 ^ 32 ∧ t.host.chans[c].buf = ch.buf ∧ Same [.host] (bothLanes [.bw, .counters, .occurred]) s t) ∧
    (∀ r, ch.cache.find? (·.seq == pkt.seq) = some r → r.crc = pkt.crc → s.jtag.extest = false → leaves (.packetReceive p src sound raw) s fun t =>
      emits [.datagram p src (withReplay r.raw)] s t ∧ t.host.chans[c].buf = ch.buf ∧ t.host.chans[c].base = ch.base ∧ Same [.host, .outbox] (bothLanes [.bw]) s t) ∧
    (∀ r, ch.cache.find? (·.seq == pkt.seq) = some r → r.crc ≠ pkt.crc → leaves (.packetReceive p src sound raw) s fun t =>
      t.host.chans[c].seqConflict = (ch.seqConflict + 1) % 2 ^ 32 ∧ t.host.chans[c].buf = ch.buf ∧ Same [.host] (bothLanes [.bw]) s t)) ∧
  (∀ (p : EthPort) (src : Source) (sound : Bool) (raw : Bytes) (s : State), Arrives p sound raw s →
    let pkt : Packet := ⟨raw, src, some p, s.time.cycle, s.time.tick⟩
    (pkt.opcode ≠ 0x0101 → channelOf src pkt.station s = none → s.jtag.extest = false → leaves (.packetReceive p src sound raw) s fun t =>
      emits [.datagram p src (replyTo pkt NO_SESSION [] s)] s t ∧ Same [.outbox] (bothLanes [.bw]) s t) ∧
    (pkt.opcode = 0x0101 → (∀ c : Fin 4, openAgain pkt s.host.chans[c] = none) → leaves (.packetReceive p src sound raw) s fun t =>
      t.host.opens = s.host.opens ++ [pkt] ∧ t.host.chans = s.host.chans ∧ Same [.host] (bothLanes [.bw]) s t)) ∧
  (∀ (p : EthPort) (src : Source) (sound : Bool) (raw : Bytes) (s : State), s.islandRuns p.lane 6 = true → s.power.pfail = false → (sound && packetSound raw) = false →
    leaves (.packetReceive p src sound raw) s fun t => (∀ c : Fin 4, t.host.chans[c].buf = s.host.chans[c].buf ∧ t.host.chans[c].session = s.host.chans[c].session) ∧
      Same [.host] (inLane p.lane [.bw]) s t) ∧
  (∀ (p : EthPort) (src : Source) (sound : Bool) (raw : Bytes) (s : State), s.power.pfail = true → exec (.packetReceive p src sound raw) s = .next s) ∧
  (∀ (raw : Bytes) (s : State) (x : Session), s.power.booted = true → s.power.pfail = false → packetSound raw = true → u8 raw 2 = 1 → u16 raw 4 ≠ 0x0101 → s.host.svc.session = some x →
    x.station = u16 raw 16 → s.host.svc.buf = [] → s.host.svc.inFlight = none → u32 raw 8 = s.host.svc.base → 1 ≤ s.host.svc.base → s.host.svc.base < 2 ^ 32 →
    (∀ r ∈ s.host.svc.cache, r.seq ≠ u32 raw 8) → leaves (.svcWrite raw) s fun t =>
      (∃ pkt, t.host.svc.buf = [pkt] ∧ pkt.raw = raw) ∧ t.host.chans = s.host.chans ∧ Same [.host] noLane s t) ∧
  (∀ s : State, s.jtag.extest = false → leaves .svcRead s fun t =>
    emits [.spi (match s.host.svcReply with | some r => leBytes 2 r.length ++ r | none => [0, 0])] s t ∧ t.host.svcReply = none ∧ Same [.host, .outbox] noLane s t) ∧
  ∀ s : State, s.jtag.extest = false → leaves .svcStatus s fun t =>
    emits [.spi [BitVec.ofNat 8 (b2n s.host.svcReply.isSome + 2 * b2n (svcBusy s))]] s t ∧ Same [.outbox] noLane s t

/-- SESSION_OPEN of the oldest waiting source at its turn, not refused, opens its session on a channel below which every channel is in use, with BASE 1;
no other channel then holds a session of its station; a refused one changes no channel (R437, R440). SESSION_CLOSE is answered and the channel is
closed; SESSION_TIMEOUT closes a channel that has received no valid packet for its timeout, and no other (R438). KEEPALIVE frees every notification up
to its number, and NOTIFY_RESEND sends every held one from its number again and answers how many (R454). (Derived from 16_command_protocol.md,
17_opcode_reference.md.) -/
def Obligations.SessionsOpenAndClose : Prop :=
  (∀ (pkt : Packet) (rest : List Packet) (s : State), s.host.opens = pkt :: rest → pkt.opcode = 0x0101 → servesNow s = true → s.host.openTurn s.time.cycle s.time.tick = true →
    s.host.bytes + heldSize pkt ≤ 163840 → (∀ c : Fin 4, openAgain pkt s.host.chans[c] = none) →
    (openRefusal false pkt s = none → leaves (.sessionOpen false) s fun t => ∃ c : Fin 4,
      t.host.chans[c].session = some (sessionOf pkt s.time.us) ∧ t.host.chans[c].base = 1 ∧ (∀ d : Fin 4, d < c → t.host.chans[d].session.isSome = true) ∧
      (∀ d : Fin 4, d ≠ c → (t.host.chans[d].session.map Session.station) ≠ some pkt.station ∧
        ((s.host.chans[d].session.map Session.station) ≠ some pkt.station → t.host.chans[d] = s.host.chans[d])) ∧
      t.host.opens = rest ∧ t.host.jsn = (s.host.jsn + 1) % 2 ^ 32 ∧ Same [.host, .outbox] (bothLanes [.journal, .counters, .occurred, .bw]) s t) ∧
    (∀ st, openRefusal false pkt s = some st → leaves (.sessionOpen false) s fun t =>
      t.host.chans = s.host.chans ∧ t.host.opens = rest ∧ (∃ e ∈ (t.lane s.sel).journal, e.jsn = (s.host.jsn + 1) % 2 ^ 32 ∧ e.kind = 2 ∧ e.status = st) ∧
      Same [.host, .outbox] (bothLanes [.journal, .counters, .occurred, .bw]) s t)) ∧
  (∀ (pkt : Packet) (s : State), s.host.svc.buf = [pkt] → pkt.opcode = 0x0101 → s.power.pfail = false → openRefusal true pkt s = none → leaves (.sessionOpen true) s fun t =>
    t.host.svc.session = some (sessionOf pkt s.time.us) ∧ t.host.svc.base = 1 ∧ t.host.chans = s.host.chans ∧ Same [.host, .outbox] (bothLanes [.bw]) s t) ∧
  (∀ (k : Fin 4) (pkt : Packet) (s : State), Alone k (.sessionClose (.chan k)) pkt s → leaves (.sessionClose (.chan k)) s fun t =>
    t.host.chans[k] = {} ∧ (∀ d : Fin 4, d ≠ k → t.host.chans[d] = s.host.chans[d]) ∧
    (∃ e ∈ (t.lane s.sel).journal, e.jsn = (s.host.jsn + 1) % 2 ^ 32 ∧ e.kind = 3 ∧ e.status = DONE ∧ e.crc = pkt.crc) ∧
    (s.jtag.extest = false → ∀ p, pkt.port = some p → emits [.datagram p pkt.src (replyTo pkt DONE [] s)] s t) ∧
    Same [.host, .outbox] (bothLanes [.journal, .counters, .occurred, .bw]) s t) ∧
  (∀ (k : Fin 4) (x : Session) (s : State), s.host.chans[k].session = some x →
    (x.lastUs + 1000 * x.timeoutMs ≤ s.time.us → leaves (.sessionTimeout (.chan k)) s fun t =>
      t.host.chans[k] = {} ∧ (∀ d : Fin 4, d ≠ k → t.host.chans[d] = s.host.chans[d]) ∧ t.host.token.epoch = s.host.token.epoch ∧ Same [.host] noLane s t) ∧
    (s.time.us < x.lastUs + 1000 * x.timeoutMs → exec (.sessionTimeout (.chan k)) s = .next s)) ∧
  (∀ (k : Fin 4) (pkt : Packet) (s : State), Alone k (.keepalive (.chan k)) pkt s →
    (u32 pkt.params 0 = 0 ∨ later32 (u32 pkt.params 0) (s.host.chans[k].nextNote - 1) = false) → leaves (.keepalive (.chan k)) s fun t =>
      answered k pkt (replyTo pkt DONE (leBytes 4 s.host.chans[k].nextNote) s) s.host.chans[k].base t ∧ t.host.chans[k].session = s.host.chans[k].session ∧
      (u32 pkt.params 0 = 0 → t.host.chans[k].notes = s.host.chans[k].notes) ∧
      (u32 pkt.params 0 ≠ 0 → t.host.chans[k].notes = s.host.chans[k].notes.filter fun h => h.num ≠ u32 pkt.params 0 ∧ later32 (u32 pkt.params 0) h.num = false) ∧
      Same [.host, .outbox] (bothLanes [.journal, .counters, .occurred, .bw]) s t) ∧
  ∀ (k : Fin 4) (pkt : Packet) (s : State), Alone k (.notifyResend (.chan k)) pkt s → s.host.chans[k].session.isSome = true →
    (u32 pkt.params 0 = s.host.chans[k].nextNote ∨ ∃ h ∈ s.host.chans[k].notes, h.num = u32 pkt.params 0) → leaves (.notifyResend (.chan k)) s fun t =>
      let again := s.host.chans[k].notes.filter fun h => h.num == u32 pkt.params 0 || later32 h.num (u32 pkt.params 0)
      answered k pkt (replyTo pkt DONE (leBytes 4 again.length) s) s.host.chans[k].base t ∧ t.host.chans[k].notes = s.host.chans[k].notes ∧
      (s.jtag.extest = false → pkt.port.isSome = true → t.outbox.length = s.outbox.length + again.length + 1) ∧
      Same [.host, .outbox] (bothLanes [.journal, .counters, .occurred, .bw]) s t

/-- A TOKEN_REQUEST waits at its turn until TOKEN_HOLD_END, which comes when tick a + 1 is over (R443); then it is granted when no station holds the
token, with the next EPOCH; it changes nothing when its own station does; otherwise it is TOKEN_HELD and the token stays. TOKEN_RELEASE passes the
token to the station it names when that has an open session, else frees it, with the next EPOCH. TOKEN_SESSION_LOSS frees it when the holder has had
no session for 10 s, and changes neither holder nor EPOCH while it has one (R442). (Derived from 16_command_protocol.md.) -/
def Obligations.TokenHasOneHolder : Prop :=
  (∀ (c : Fin 4) (pkt : Packet) (s : State), s.host.chans[c].head = some pkt → pkt.opcode = 0x0103 →
    (pkt.cycle * 20000 + pkt.tick + 2 ≤ s.time.cycle * 20000 + s.time.tick → leaves (.tokenHoldEnd c) s fun t =>
      t.host.chans[c] = { s.host.chans[c] with tokenReady := true } ∧ (∀ d, d ≠ c → t.host.chans[d] = s.host.chans[d]) ∧ t.host.token = s.host.token ∧ Same [.host] noLane s t) ∧
    (s.time.cycle * 20000 + s.time.tick < pkt.cycle * 20000 + pkt.tick + 2 → exec (.tokenHoldEnd c) s = .next s)) ∧
  (∀ (k : Fin 4) (pkt : Packet) (s : State), Alone k (.tokenRequest (.chan k)) pkt s → s.server = some s.sel → (∀ c : Fin 4, s.host.chans[c].notes.length < 1024) →
    (s.host.chans[k].tokenReady = false → leaves (.tokenRequest (.chan k)) s fun t => t.host.token = s.host.token ∧ t.host.chans = s.host.chans ∧ Same [.host] noLane s t) ∧
    (s.host.chans[k].tokenReady = true → otherAsksFirst pkt s = false →
      (s.host.token.holder = 0 → leaves (.tokenRequest (.chan k)) s fun t => t.host.token.holder = pkt.station ∧ t.host.token.epoch = nextEpoch s.host.token.epoch ∧
        answered k pkt (replyTo pkt DONE (tokenReply t) t) s.host.chans[k].base t ∧ t.host.ssn = (s.host.ssn + 1) % 2 ^ 32 ∧
        (∀ (c : Fin 4) (x : Session), s.host.chans[c].session = some x → bitOf 1 x.mask = true → ∃ n ∈ t.host.chans[c].notes, n.code = 0xF013 ∧ n.num = s.host.chans[c].nextNote) ∧
        Same [.host, .arb, .outbox] (bothLanes [.journal, .counters, .occurred, .bw]) s t) ∧
      (s.host.token.holder = pkt.station → s.host.token.holder ≠ 0 → leaves (.tokenRequest (.chan k)) s fun t => t.host.token = s.host.token ∧
        answered k pkt (replyTo pkt DONE (tokenReply s) s) s.host.chans[k].base t ∧ Same [.host, .arb, .outbox] (bothLanes [.journal, .counters, .occurred, .bw]) s t) ∧
      (s.host.token.holder ≠ 0 → s.host.token.holder ≠ pkt.station → leaves (.tokenRequest (.chan k)) s fun t => t.host.token = s.host.token ∧
        answered k pkt (replyTo pkt TOKEN_HELD [] s) s.host.chans[k].base t ∧ Same [.host, .outbox] (bothLanes [.journal, .counters, .occurred, .bw]) s t))) ∧
  (∀ (k : Fin 4) (pkt : Packet) (s : State), Alone k (.tokenRelease (.chan k)) pkt s → s.server = some s.sel → (∀ c : Fin 4, s.host.chans[c].notes.length < 1024) →
    leaves (.tokenRelease (.chan k)) s fun t => t.host.token.epoch = nextEpoch s.host.token.epoch ∧
      t.host.token.holder = (if u16 pkt.params 0 ≠ 0 ∧ s.host.hasSession (u16 pkt.params 0) = true then u16 pkt.params 0 else 0) ∧
      answered k pkt (replyTo pkt DONE (tokenReply t) t) s.host.chans[k].base t ∧ Same [.host, .arb, .outbox] (bothLanes [.journal, .counters, .occurred, .bw]) s t) ∧
  (∀ (us : Nat) (s : State), s.host.token.holder ≠ 0 → s.host.hasSession s.host.token.holder = false → s.host.token.lostUs = some us → us + 10000000 ≤ s.time.us →
    s.inControl = true → s.server.isSome = true → leaves .tokenSessionLoss s fun t => t.host.token.holder = 0 ∧ t.host.token.epoch = nextEpoch s.host.token.epoch ∧
      t.host.ssn = (s.host.ssn + 1) % 2 ^ 32 ∧ Same [.host, .arb, .outbox] (bothLanes [.journal, .counters, .occurred, .bw]) s t) ∧
  ∀ s : State, s.host.hasSession s.host.token.holder = true → leaves .tokenSessionLoss s fun t =>
    t.host.token.holder = s.host.token.holder ∧ t.host.token.epoch = s.host.token.epoch ∧ Same [.host] noLane s t

/-- For every row of a boundary setting (MODE_SET, SP_ but SP_READ, REF_, CHANNEL_ and GNSS_SELECT, THR_AVAILABLE, THR_START, THR_STOP, IMAGE_ROLLBACK,
TIER_FLOOR, GAIN_WRITE, GAIN_REVERT), served at its turn with parameters and a state that its table accepts: the serving lane's journal holds its
COMMAND entry with the next JSN and SSN and the boundary of R56; without a mirror to wait for it is staged in the serving lane, and in the other lane
when that takes the mirror, and in a one-module system answered STAGED with that boundary; with one to wait for, nothing is staged yet and the reply
waits (R446). Nothing else changes; IMAGE_ROLLBACK also marks the pending commit. (Derived from 16_command_protocol.md, 17_opcode_reference.md,
02_control_cycle.md.) -/
def Obligations.SettingsAreJournalledThenStaged : Prop :=
  ∀ (k : Fin 4) (c : Instr) (pkt : Packet) (s : State), hostRow c = some (.chan k, pkt.opcode) → Served (.chan k) pkt.opcode pkt s → s.host.cmds < 96 → settingOk k pkt s →
    leaves c s fun t =>
      let g := stagedBy k pkt s
      t.host.jsn = g.jsn ∧ t.host.ssn = g.ssn ∧ t.host.cmds = s.host.cmds + 1 ∧ t.host.token = s.host.token ∧
      (∃ e ∈ (t.lane s.sel).journal, e.jsn = g.jsn ∧ e.ssn = g.ssn ∧ e.kind = 1 ∧ e.done = true ∧ e.opcode = pkt.opcode ∧ e.seq = pkt.seq ∧ e.status = STAGED ∧
        e.boundary = g.boundary % 2 ^ 32 ∧ e.params = pkt.params ∧ e.crc = pkt.crc) ∧
      (mirrorWaited s = false → (t.lane s.sel).staged = (s.lane s.sel).staged ++ [g] ∧
        (t.lane s.sel.other).staged = (if mirrorTaken s then (s.lane s.sel.other).staged ++ [g] else (s.lane s.sel.other).staged)) ∧
      (mirrorWaited s = false → redModules s.image ≤ 1 →
        answered k pkt (replyTo pkt STAGED (leBytes 4 (g.boundary % 2 ^ 32)) s) s.host.chans[k].base t) ∧
      (mirrorWaited s = true → (∀ l, (t.lane l).staged = (s.lane l).staged) ∧ t.host.chans[k].base = s.host.chans[k].base ∧
        ∃ f, t.host.chans[k].inFlight = some f ∧ f.pkt = pkt ∧ f.waitMirror = true ∧ f.status = STAGED ∧ f.boundary = some g.boundary) ∧
      Same [.host, .arb, .outbox] (bothLanes (settingParts pkt.opcode)) s t

/-- CHANNEL_STATUS, MODE_STATUS, SP_READ, REF_READ, CHANNEL_READ, ALLOC_READ, CONSEQ_READ, IMAGE_STATUS, HEALTH_READ, REG_READ of an engineering session,
GNSS_RAW_READ, TIME_READ, ALARM_LIST, CNT_READ, BW_READ and GAIN_READ, served at their turn with parameters their tables accept and no mirror to wait
for, are answered DONE with the bytes of their tables; a POSITION entry is written; nothing is staged, no COMMAND is counted, and, REG_READ apart,
only counts and read-to-clear parts of the lanes change. (Derived from 16_command_protocol.md, 17_opcode_reference.md.) -/
def Obligations.ReadsAnswerWhatTheStateHolds : Prop :=
  ∀ (k : Fin 4) (c : Instr) (pkt : Packet) (s : State), Alone k c pkt s → readOk k pkt s → leaves c s fun t =>
    (∃ r, readSays k pkt s r ∧ answered k pkt (replyTo pkt DONE r s) s.host.chans[k].base t) ∧
    (∃ e ∈ (t.lane s.sel).journal, e.jsn = (s.host.jsn + 1) % 2 ^ 32 ∧ e.kind = 2 ∧ e.status = DONE ∧ e.opcode = pkt.opcode) ∧
    t.host.cmds = s.host.cmds ∧ t.host.token = s.host.token ∧ (∀ l, (t.lane l).staged = (s.lane l).staged) ∧
    (pkt.opcode ≠ 0x0803 → Same [.host, .outbox] (bothLanes [.journal, .counters, .occurred, .bw, .bwRemote]) s t)

/-- GNSS_NOISE_REF, IMAGE_BEGIN, IMAGE_DATA, IMAGE_VERIFY, IMAGE_COMMIT, NET_TEST, NET_RESTART, ID_CLEAR, ALARM_ACK, CNT_CONFIG and CNT_CLEAR, served at
their turn with what their tables accept and no mirror to wait for: each lane that takes the entry has executed it, and nothing else of it has
changed; the reply is DONE, or STARTED for IMAGE_VERIFY and IMAGE_COMMIT, with the acknowledged alarms counted for ALARM_ACK; that of GNSS_NOISE_REF
comes later, with the average that it now waits for (R141). With notification rings this full, no session closes meanwhile. (Derived from
16_command_protocol.md, 17_opcode_reference.md, 03_schedule_image.md.) -/
def Obligations.LaneActionsAreExecutedOnce : Prop :=
  ∀ (k : Fin 4) (c : Instr) (pkt : Packet) (s : State), Alone k c pkt s → s.host.cmds < 96 → actionOk k pkt s →
    (∀ j : Fin 4, s.host.chans[j].notes.length + (s.lane .A).alarms.length + (s.lane .B).alarms.length < 1023) → leaves c s fun t =>
      actionDone k pkt s (s.lane s.sel) (t.lane s.sel) ∧ (mirrorTaken s = true → actionDone k pkt s (s.lane s.sel.other) (t.lane s.sel.other)) ∧
      (∃ e ∈ (t.lane s.sel).journal, e.jsn = (s.host.jsn + 1) % 2 ^ 32 ∧ e.kind = 1 ∧ e.done = true ∧ e.opcode = pkt.opcode) ∧
      (pkt.opcode ≠ 0x0404 → answered k pkt (replyTo pkt (actionStatus pkt.opcode) (actionReply pkt s) s) s.host.chans[k].base t) ∧
      (pkt.opcode = 0x0404 → t.host.noiseWait = s.host.noiseWait ++ [(.chan k, u8 pkt.params 0, u8 pkt.params 1, s.time.us)] ∧
        t.host.chans[k].base = s.host.chans[k].base ∧ ∃ f, t.host.chans[k].inFlight = some f ∧ f.pkt = pkt ∧ f.result = false) ∧
      t.host.token.epoch = s.host.token.epoch ∧
      Same (actionOutside pkt.opcode) (bothLanes (actionParts pkt.opcode)) s t

/-- KEEP_, ARB_READ, LANE_RESTART, SAFETY_ and LTN_ actions of a host channel, with no record of an earlier execution, leave a PENDING entry, are
executed, and their result is recorded for the lane and held for WATCHTOWER_ACTION_RESULT; SAFETY_CONFIRM is accepted only with the conditions of R387
and its answer comes after the activation. A recorded action changes neither Keep, nor safety, nor Lantern, nor the arbiter, and holds the recorded
result (R449). Notification rings that full close no session meanwhile. On the service port the actions that it takes, REG_READ among them, answer at
once and write no entry. (Derived from 16_command_protocol.md, 17_opcode_reference.md, 14_diver_zone_safety.md, 18_keep_recorder.md,
19_lantern_panel.md.) -/
def Obligations.WatchtowerActionsAreDoneOnce : Prop :=
  (∀ (k : Fin 4) (c : Instr) (pkt : Packet) (s : State), Alone k c pkt s → s.host.cmds < 96 → pkt.opcode ≠ 0x0803 → wtOk pkt s →
    (∀ j : Fin 4, s.host.chans[j].notes.length + s.safety.proofs.length < 1023) → s.host.recorded pkt.station k.val pkt.seq = none → leaves c s fun t =>
      (∃ f, t.host.chans[k].inFlight = some f ∧ f.pkt = pkt ∧ f.forwarded = true ∧ f.result = (pkt.opcode != 0x0904) ∧
        (pkt.opcode ≠ 0x0904 → f.status = (if pkt.opcode = 0x0906 then STARTED else DONE) ∧ wtDid pkt s t f.reply ∧
          (match s.sel with | .A => t.host.recA | .B => t.host.recB).getLast? = some ⟨pkt.station, k.val, pkt.seq, f.status, f.reply⟩)) ∧
      (pkt.opcode = 0x0904 → t.safety.activateAt.isSome = true ∧ t.host.wtQueue = s.host.wtQueue ++ [⟨some s.sel, .chan k, pkt⟩]) ∧
      (∃ e ∈ (t.lane s.sel).journal, e.jsn = (s.host.jsn + 1) % 2 ^ 32 ∧ e.kind = 1 ∧ e.done = false ∧ e.opcode = pkt.opcode) ∧
      t.host.chans[k].base = s.host.chans[k].base ∧ ∀ l, (t.lane l).staged = (s.lane l).staged) ∧
  (∀ (k : Fin 4) (c : Instr) (pkt : Packet) (s : State) (r : WtRecord), Alone k c pkt s → s.host.cmds < 96 → pkt.opcode ≠ 0x0803 → wtOk pkt s →
    s.host.recorded pkt.station k.val pkt.seq = some r → leaves c s fun t =>
      (∃ f, t.host.chans[k].inFlight = some f ∧ f.forwarded = true ∧ f.result = true ∧ f.status = r.status ∧ f.reply = r.reply) ∧
      Same [.host, .outbox] (bothLanes [.journal, .counters, .occurred, .bw]) s t) ∧
  (∀ (c : Instr) (pkt : Packet) (s : State), hostRow c = some (.svc, pkt.opcode) → Served .svc pkt.opcode pkt s → pkt.port = none → wtOk pkt s → leaves c s fun t =>
    (∃ r, wtDid pkt s t r ∧ t.host.svcReply = some (replyTo pkt DONE r s)) ∧ t.host.svc.base = nextSeq s.host.svc.base ∧ t.host.jsn = s.host.jsn ∧ t.host.chans = s.host.chans) ∧
  ∀ (k : Fin 4) (c : Instr) (pkt : Packet) (b : Bytes) (s : State), c = .safetyConfirm (.chan k) → Alone k c pkt s → s.host.cmds < 96 → s.safety.pending = some b → s.safety.displayed = true →
    commissionReady s.time.us s.safety = true → u32 pkt.params 0 ≠ sbCheckValue b → s.host.recorded pkt.station k.val pkt.seq = none → leaves c s fun t =>
      (∃ f, t.host.chans[k].inFlight = some f ∧ f.status = 0x0235 ∧ f.result = true) ∧ t.safety = safRefuse s.safety

/-- The first failing check of R445 decides; a refusal writes a POSITION entry with its status, is answered, and changes nothing else; an opcode of no
table is refused by OPCODE_UNKNOWN; a match of R461 is answered again from its entry; a command without room in the journal waits for the next cycle
(R447). JOURNAL_MIRROR_COMPLETE of the one mirror waited for, with no update before it on the bridge (R34), releases a read's reply and stages a
waiting setting at the boundary it still meets; a refused SESSION_OPEN leaves its
place; JOURNAL_HOLD_ELAPSED and WATCHTOWER_ACTION_RESULT release theirs (R446, R449, R460). (Derived from 16_command_protocol.md.) -/
def Obligations.RefusalsAndMirrorsSettleACommand : Prop :=
  (∀ (p : HostPort) (pkt : Packet) (s : State),
    (opSpec pkt.opcode = none → firstChecks p pkt s = some ST_OPCODE) ∧
    ∀ sp, opSpec pkt.opcode = some sp →
      (lengthOk pkt.opcode pkt.params sp = false → firstChecks p pkt s = some ST_LENGTH) ∧
      (lengthOk pkt.opcode pkt.params sp = true → (p = .svc ∧ sp.svc = false) → firstChecks p pkt s = some NOT_ON_PORT) ∧
      (lengthOk pkt.opcode pkt.params sp = true → ¬(p = .svc ∧ sp.svc = false) → pkt.vu = true → later32 (s.time.cycle % 2 ^ 32) pkt.validUntil = true → firstChecks p pkt s = some EXPIRED) ∧
      (lengthOk pkt.opcode pkt.params sp = true → ¬(p = .svc ∧ sp.svc = false) → pkt.vu = false → redModules s.image ≤ 1 → sp.token = true →
        (pkt.station ≠ s.host.token.holder ∨ pkt.epoch ≠ s.host.token.epoch) → firstChecks p pkt s = some REJECTED_NO_TOKEN)) ∧
  (∀ (k : Fin 4) (c : Instr) (op st : Nat) (pkt : Packet) (s : State), hostRow c = some (.chan k, op) → headNow (.chan k) s = some pkt → pkt.opcode = op →
    s.host.bytes + heldSize pkt ≤ 163840 → resubMatch pkt s = none → firstChecks (.chan k) pkt s = some st → leaves c s fun t =>
      (∃ e ∈ (t.lane s.sel).journal, e.jsn = (s.host.jsn + 1) % 2 ^ 32 ∧ e.kind = 2 ∧ e.status = st ∧ e.crc = pkt.crc) ∧
      (mirrorWaited s = false → answered k pkt (replyTo pkt st [] s) s.host.chans[k].base t) ∧ t.host.token = s.host.token ∧ t.host.cmds = s.host.cmds ∧
      Same [.host, .outbox] (bothLanes [.journal, .counters, .occurred, .bw]) s t) ∧
  (∀ (k : Fin 4) (pkt : Packet) (s : State), headNow (.chan k) s = some pkt → opSpec pkt.opcode = none → s.host.bytes + heldSize pkt ≤ 163840 → resubMatch pkt s = none →
    mirrorWaited s = false → leaves (.opcodeUnknown (.chan k)) s fun t => answered k pkt (replyTo pkt ST_OPCODE [] s) s.host.chans[k].base t ∧
      Same [.host, .outbox] (bothLanes [.journal, .counters, .occurred, .bw]) s t) ∧
  (∀ (k : Fin 4) (c : Instr) (pkt : Packet) (e : SysEntry) (s : State), hostRow c = some (.chan k, pkt.opcode) → headNow (.chan k) s = some pkt → pkt.opcode ≠ 0x0102 →
    s.host.bytes + heldSize pkt ≤ 163840 → resubMatch pkt s = some e → mirrorWaited s = false → leaves c s fun t =>
      answered k pkt (replyBytes pkt (outFlags true s.sel s.moduleNo false) e.status s.host.token.epoch s.time.cycle e.reply) s.host.chans[k].base t ∧
      t.host.ssn = s.host.ssn ∧ Same [.host, .outbox] (bothLanes [.journal, .counters, .occurred, .bw]) s t) ∧
  (∀ (k : Fin 4) (c : Instr) (pkt : Packet) (s : State), hostRow c = some (.chan k, pkt.opcode) → headNow (.chan k) s = some pkt → 163840 < s.host.bytes + heldSize pkt →
    leaves c s fun t => t.host.chans[k] = { s.host.chans[k] with heldUntil := some (s.time.cycle + 1) } ∧ Same [.host] noLane s t) ∧
  (∀ (k : Fin 4) (f : InFlight) (s : State), s.host.chans[k].inFlight = some f → f.waitMirror = true → s.bridgeFault = false → f.boundary = none → f.kind = .read →
    (∀ j, j ≠ k → mirrorOf s j = none) → s.host.openWait = [] → (s.lane s.sel.other).incoming = [] → f.pkt.opcode ≠ 0x0602 → f.waitHold = false → f.result = true → f.replay = false → f.pkt.opcode ≠ 0x0101 → f.pkt.opcode ≠ 0x0102 → leaves (.journalMirrorComplete (some (.chan k))) s fun t =>
      answered k f.pkt (replyTo f.pkt f.status f.reply s) s.host.chans[k].base t ∧ Same [.host, .outbox] (bothLanes [.journal, .bw]) s t) ∧
  (∀ (k : Fin 4) (f : InFlight) (b : Nat) (s : State), s.host.chans[k].inFlight = some f → f.waitMirror = true → s.bridgeFault = false → f.boundary = some b → f.kind = .boundary →
    (∀ j, j ≠ k → mirrorOf s j = none) → s.host.openWait = [] → (s.lane s.sel.other).incoming = [] → f.pkt.opcode = 0x0301 → leaves (.journalMirrorComplete (some (.chan k))) s fun t =>
      ∃ g : Staged, g.boundary = metBoundary s b ∧ g.jsn = f.jsn ∧ g.ssn = f.ssn ∧ g.params = f.pkt.params ∧ (t.lane s.sel).staged = (s.lane s.sel).staged ++ [g] ∧
        (t.lane s.sel.other).staged = (if mirrorTaken s then (s.lane s.sel.other).staged ++ [g] else (s.lane s.sel.other).staged)) ∧
  (∀ (f : InFlight) (rest : List InFlight) (s : State), s.host.openWait = f :: rest → s.bridgeFault = false → (∀ j, mirrorOf s j = none) →
    (s.lane s.sel.other).incoming = [] → (∀ g ∈ rest.head?, later32 g.jsn f.jsn = true) → leaves (.journalMirrorComplete none) s fun t =>
    t.host.openWait = rest ∧ t.host.chans = s.host.chans ∧ Same [.host, .outbox] (bothLanes [.bw]) s t) ∧
  (∀ (k : Fin 4) (f : InFlight) (s : State), s.host.chans[k].inFlight = some f → f.waitHold = true →
    (f.waitMirror = false → f.result = true → f.replay = false → f.pkt.opcode ≠ 0x0101 → f.pkt.opcode ≠ 0x0102 → (f.sentUs + 8 ≤ s.time.us ∨ othersRun s = false) →
      leaves (.journalHoldElapsed (.chan k)) s fun t => answered k f.pkt (replyTo f.pkt f.status f.reply s) s.host.chans[k].base t ∧ Same [.host, .outbox] (bothLanes [.bw]) s t) ∧
    (s.time.us < f.sentUs + 8 → othersRun s = true → exec (.journalHoldElapsed (.chan k)) s = .next s)) ∧
  ∀ (k : Fin 4) (f : InFlight) (e : JournalEntry) (s : State), s.host.chans[k].inFlight = some f → f.forwarded = true → f.result = true → f.waitMirror = false → f.waitHold = false →
    f.replay = false → f.pkt.opcode ≠ 0x0101 → f.pkt.opcode ≠ 0x0102 → entryAt f.jsn s = some e → leaves (.watchtowerActionResult (.chan k)) s fun t =>
      (∃ d ∈ (t.lane s.sel).journal, d.jsn = f.jsn ∧ d.done = true ∧ d.status = f.status ∧ d.reply = f.reply.take 256) ∧
      answered k f.pkt (replyTo f.pkt f.status f.reply s) s.host.chans[k].base t ∧ Same [.host, .outbox] (bothLanes [.journal, .bw]) s t

/-- CYCLE_BOUNDARY advances the cycle count modulo 2^48, returns the tick to 0 and lets 20 ms pass (R46); the counts of R447 start anew, and a running
lane has no finished slot, no mask and open staging. At a boundary with nothing of R57 steps 1 and 2 of the arbiter due, a lane that runs its control
path takes its latched removal mask (R59) and every setting due, and only those, in order (R56): a target offset and a channel selection among them
stand. COMMIT_ABANDON_TIMEOUT ends a commit of 250 cycles (R94); IMAGE_VERIFY_DONE gives each verifying lane its result (R92); IMAGE_INSTALL_DONE,
once the new filter planes have run long enough and no fade runs (R179), puts the staged image into the inactive planes (R93); STAGING_CLOSE closes
staging at its tick. (Derived from 02_control_cycle.md, 03_schedule_image.md.) -/
def Obligations.BoundaryBeginsTheCycle : Prop :=
  (∀ s : State, s.power.booted = true → leaves .cycleBoundary s fun t =>
    t.time.cycle = (s.time.cycle + 1) % 2 ^ 48 ∧ t.time.tick = 0 ∧ t.time.ran = [] ∧ t.time.us = s.time.us + (20000 - s.time.tick) ∧ t.latched = none ∧
    t.host.bytes = 0 ∧ t.host.cmds = 0 ∧
    ∀ l, t.laneRuns l = true → (t.lane l).finished = [] ∧ (t.lane l).abandoned = [] ∧ (t.lane l).mask = none ∧ (t.lane l).pmu.stageClosed = false) ∧
  (∀ s : State, s.power.booted = false → exec .cycleBoundary s = .next s) ∧
  (∀ (l : LaneId) (s : State), QuietBoundary s → pathRuns s l = true → leaves .cycleBoundary s fun t =>
    let due := dueSettings ((s.time.cycle + 1) % 2 ^ 48) (s.lane l)
    (t.lane l).staged = (s.lane l).staged.filter (fun g => !due.contains g) ∧ (t.lane l).alloc.removed = ((s.lane l).mask).getD (s.lane l).alloc.removed ∧
    (due = [] → (t.lane l).control.target = (s.lane l).control.target ∧ (t.lane l).ingest.deselected = (s.lane l).ingest.deselected) ∧
    (∀ g, due = [g] → g.opcode = 0x0305 → (t.lane l).control.target = (q16 g.params 0, q16 g.params 4)) ∧
    ∀ g, due = [g] → g.opcode = 0x0402 → u16 g.params 0 ≤ 255 → vget (t.lane l).ingest.deselected (u16 g.params 0) = (u8 g.params 2 == 1)) ∧
  (∀ s : State, leaves .commitAbandonTimeout s fun t =>
    (∀ l, (t.lane l).image = (match (s.lane l).image.commit with
      | some c => if c.rollback = false ∧ c.accepted + 250 ≤ s.time.cycle then imgAbandon (s.lane l).image else (s.lane l).image
      | none => (s.lane l).image)) ∧ Same [.host, .outbox, .node] (bothLanes [.image, .counters, .occurred, .bw]) s t) ∧
  (∀ s : State, leaves .imageVerifyDone s fun t =>
    (∀ l, (t.lane l).image = (if s.laneRuns l then imgVerifyDone (verIn s l (anyEng s)) (s.lane l).image else (s.lane l).image)) ∧
    Same [.host, .outbox] (bothLanes [.image, .counters, .occurred, .bw]) s t) ∧
  (∀ (l : LaneId) (s : State), s.laneRuns l = true → (s.lane l).image.staged = 5 →
    let busy := clocked s l 4 && ((s.lane l).filter.warming || fading (s.lane l).filter)
    (busy = false → leaves (.imageInstallDone l) s fun t =>
      (t.lane l).image = { (s.lane l).image with staged := 6, prev := some (s.lane l).image.data, installed := some (s.time.cycle, s.time.tick) } ∧
      Same [] (inLane l [.image]) s t) ∧
    (busy = true → exec (.imageInstallDone l) s = .next s)) ∧
  (∀ (l : LaneId) (s : State), s.laneRuns l = false → exec (.imageInstallDone l) s = .next s) ∧
  ∀ (l : LaneId) (s : State), s.laneRuns l = true → dueAt (laneCodeOf 61 l) (closeTick s) s → leaves (.stagingClose l) s fun t =>
    (t.lane l).pmu = { (s.lane l).pmu with stageClosed := true } ∧ t.time.tick = closeTick s ∧ Same [.time] (inLane l [.pmu, .shadow]) s t

/-- In a lane that runs its control path, at its slot's tick and once in a cycle: the snapshot copies the store with every update released by then,
and Cupola takes the stream while its clock runs (R32); the filter, Cupola, the observer and the control engine commit their results, put their
transfers behind what waits in the queues they write, as these have room, and have taken what waited in the ones they read (R28, R29, R184, R189,
R221, R240); a write into a full Q08 marks the overflow (R28); the delta packet and the consequence inputs are formed (R284, R298); a solve, or a stop
at its deadline, leaves its result (R292, R295); the output stage sends Q10 and, with the Watchtower link up, a digest of this cycle, and on overflow
keeps the commands of the cycle before (R280, R319, R398). A lane that does not run its control path changes nothing. (Derived from
02_control_cycle.md, 07_filter_chain.md, 08_cupola_fusion.md, 09_vessel_observer.md, 10_control_law.md, 12_thrust_allocation.md.) -/
def Obligations.ControlPathSlotsDoTheirWork : Prop :=
  (∀ (l : LaneId) (s : State) (c : Instr), pathRuns s l = false → (c ∈ [.snapshot l, .filterHandoff l, .cupolaFusion l, .observerRun l, .controlLawSlot l, .deltaPacketSlot l, .conseqInputWrite l, .outputStage l] ∨
    (∃ a b, c = .allocationSolve l a b) ∨ ∃ a, c = .allocationDeadline l a) → exec c s = .next s) ∧
  (∀ (l : LaneId) (sl : Slot) (s : State), slotOf l 2 s = some sl → SlotDue l 2 sl.start sl s → leaves (.snapshot l) s fun t =>
    t.time.tick = sl.start ∧ sl.slot ∈ (t.lane l).finished ∧ (t.lane l).snapPrev = (s.lane l).cupola.chans ∧
    (t.lane l).ingest.snapshot = (t.lane l).ingest.store ∧ (t.lane l).ingest.snapNs = s.time.cycle * 20000000 + sl.start * 1000 ∧
    (∀ u ∈ (t.lane l).ingest.release, u ∈ (s.lane l).ingest.release ∧ s.time.cycle * 20000 + sl.start < u.releaseUs) ∧
    ((∀ u ∈ (s.lane l).ingest.release, s.time.cycle * 20000 + sl.start < u.releaseUs) → (t.lane l).ingest.store = (s.lane l).ingest.store ∧
      (t.lane l).ingest.release = (s.lane l).ingest.release) ∧
    (clocked s l 1 = true → (t.lane l).cupola = { (s.lane l).cupola with chans := (t.lane l).ingest.store } ∧ vget (t.lane l).queued 1 = {} ∧
      Same [.time] (inLane l [.ingest, .cupola, .queued, .snapPrev, .counters, .occurred, .finished, .shadow]) s t) ∧
    Same (.time :: noted) (inLaneAnd l [.ingest, .cupola, .queued, .snapPrev, .finished, .shadow] notedParts) s t) ∧
  (∀ (l : LaneId) (sl : Slot) (s : State), slotOf l 1 s = some sl → SlotDue l 1 sl.start sl s → leaves (.filterHandoff l) s fun t =>
    let r := (filterHandoff l (section_ s l secFilter) (inputSelected s l) (s.lane l).filter).1
    t.time.tick = sl.start ∧ sl.slot ∈ (t.lane l).finished ∧ (t.lane l).filter = r ∧
    ((vget (s.lane l).queued 8).waiting = [] → (vget (t.lane l).queued 8).waiting = qTransfer false (q08Words r.q08)) ∧
    ((vget (s.lane l).queued 8).waiting ≠ [] → (vget (t.lane l).pmu.flags 4).queueOvf = true) ∧
    Same (.time :: noted) (inLaneAnd l [.filter, .queued, .finished, .shadow] notedParts) s t) ∧
  (∀ (l : LaneId) (sl : Slot) (s : State), lastSlotOf l 3 s = some sl → SlotDue l 3 sl.stop sl s →
    let r := (cupolaFusion (cplIn s l) (s.lane l).cupola).1
    let q := fun k => vget (s.lane l).queued k
    (q 4).fill + (q04Words r.q04).length ≤ 32 → (q 9).fill + 2 ≤ 8 → leaves (.cupolaFusion l) s fun t =>
      t.time.tick = sl.stop ∧ sl.slot ∈ (t.lane l).finished ∧ (t.lane l).cupola = r ∧ vget (t.lane l).queued 5 = (q 5).drain ∧
      (vget (t.lane l).queued 4).waiting = (q 4).waiting ++ qTransfer false (q04Words r.q04) ∧
      (vget (t.lane l).queued 9).waiting = (q 9).waiting ++ qTransfer false (q09Words r.q09) ∧
      Same (.time :: noted) (inLaneAnd l [.cupola, .queued, .finished, .shadow] notedParts) s t) ∧
  (∀ (l : LaneId) (sl : Slot) (s : State), slotOf l 4 s = some sl → SlotDue l 4 sl.start sl s →
    let r := (observerRun (obsIn s l) (s.lane l).observer).1
    let q := fun k => vget (s.lane l).queued k
    (q 6).fill + 5 ≤ 16 → (q 5).fill + 3 ≤ 16 → leaves (.observerRun l) s fun t =>
      t.time.tick = sl.start ∧ sl.slot ∈ (t.lane l).finished ∧ (t.lane l).observer = r ∧ vget (t.lane l).queued 4 = (q 4).drain ∧
      (vget (t.lane l).queued 6).waiting = (q 6).waiting ++ qTransfer r.q06.held (q06Words r.q06) ∧
      (vget (t.lane l).queued 5).waiting = (q 5).waiting ++ qTransfer (decide (r.q05.held ≠ 0)) (q05Words r.q05) ∧
      Same (.free :: .time :: noted) (inLaneAnd l [.observer, .alloc, .queued, .finished, .shadow] notedParts) s t) ∧
  (∀ (l : LaneId) (sl : Slot) (s : State), slotOf l 5 s = some sl → SlotDue l 5 sl.start sl s →
    let r := (controlSlot (ctlIn s l) (ctlBefore s l)).1
    let q := fun k => vget (s.lane l).queued k
    (q 7).fill + 3 ≤ 16 → leaves (.controlLawSlot l) s fun t =>
      t.time.tick = sl.start ∧ sl.slot ∈ (t.lane l).finished ∧ (t.lane l).control = r ∧ (∀ k ∈ [6, 8, 9], vget (t.lane l).queued k = (q k).drain) ∧
      (vget (t.lane l).queued 7).waiting = (q 7).waiting ++ qTransfer r.q07.held (q07Words r.q07) ∧
      (t.lane l).alloc = { (s.lane l).alloc with cq := cqDemand r.q07 (s.lane l).alloc.cq } ∧
      Same (.time :: noted) (inLaneAnd l [.control, .alloc, .queued, .finished, .shadow] notedParts) s t) ∧
  (∀ (l : LaneId) (sl : Slot) (s : State), slotOf l 6 s = some sl → SlotDue l 6 sl.start sl s → leaves (.deltaPacketSlot l) s fun t => ranSlot l sl.start sl s t ∧
    (t.lane l).alloc = deltaSlot (allocIn s l) sl.stop (s.lane l).alloc ∧ Same [.time] (inLane l [.alloc, .finished, .shadow]) s t) ∧
  (∀ (l : LaneId) (sl : Slot) (s : State), slotOf l 12 s = some sl → pathRuns s l = true → s.phase = 0 → clocked s l 0 = true → dueAt (laneCodeOf 70 l) sl.start s →
    leaves (.conseqInputWrite l) s fun t => (t.lane l).alloc = cqWrite (allocIn s l) (s.lane l).alloc ∧ t.time.tick = sl.start ∧ Same [.time] (inLane l [.alloc]) s t) ∧
  (∀ (l : LaneId) (setup iter : Nat) (sl : Slot) (s : State), slotOf l 7 s = some sl → SlotDue l 7 sl.start sl s →
    let a := allocSolve (allocIn s l) sl.start setup iter none (s.lane l).alloc
    leaves (.allocationSolve l setup iter) s fun t => t.time.tick = sl.start ∧ sl.slot ∈ (t.lane l).finished ∧ (t.lane l).alloc.result = a.result ∧
      vget (t.lane l).queued 7 = (vget (s.lane l).queued 7).drain ∧
      (a.result.outcome ≠ 6 → (t.lane l).alloc = a) ∧ (a.result.outcome = 6 → (t.lane l).alloc.ovf = true) ∧
      Same (.free :: .time :: noted) (inLaneAnd l [.alloc, .queued, .longOut, .finished, .shadow] notedParts) s t) ∧
  (∀ (l : LaneId) (stop : StopAt) (sl : Slot) (s : State), slotOf l 7 s = some sl → SlotDue l 7 sl.stop sl s → leaves (.allocationDeadline l stop) s fun t =>
    t.time.tick = sl.stop ∧ sl.slot ∈ (t.lane l).finished ∧ (t.lane l).alloc.result = (allocSolve (allocIn s l) sl.start 0 0 (some stop) (s.lane l).alloc).result ∧
    Same (.free :: .time :: noted) (inLaneAnd l [.alloc, .queued, .longOut, .finished, .shadow] notedParts) s t) ∧
  ∀ (l : LaneId) (sl : Slot) (s : State), lastSlotOf l 8 s = some sl → SlotDue l 8 sl.stop sl s →
    let r := outputStage (allocIn s l) (s.lane l).alloc
    leaves (.outputStage l) s fun t => t.time.tick = sl.stop ∧ sl.slot ∈ (t.lane l).finished ∧
      (r.2 = none → (t.lane l).alloc = r.1) ∧ (r.2 ≠ none → (t.lane l).alloc.q10 = (s.lane l).alloc.q10 ∧ (t.lane l).alloc.ovf = true) ∧
      (clocked s l 2 = true → (s.lane l).wtFault = false → ∃ d, (t.lane l).digestOut = some d ∧ d.length = 64 ∧ u32 d 0 = s.time.cycle % 2 ^ 32 ∧ (r.2 ≠ none → dgHeld d = true)) ∧
      Same (.free :: .time :: noted) (inLaneAnd l [.alloc, .bus, .digestOut, .test, .finished, .shadow] notedParts) s t

/-- SLOT_END_TICK of a hard slot that is not done records violation kind 0 and finishes the slot; one done within its certificate records none; a
discarded self-test segment records kind 3 and is to be repeated in the next long cycle (R52, R62, R64). A consequence step and a self-test segment
run in their slots once, a segment only when its engine is in rotation or it is repeated (R299, R410); a failed built-in test of a lane sets its test
fault (R528). CLOCK_MEASURE adds the counted clocks of each powered island to its sum over the long cycle (R61, R82). REMOVAL_MASK_REQUEST answers
both lanes from one latched copy (R59); ALARM_EVALUATION runs at tick 19,910 and clears the events of the cycle (R86); CONSEQ_PUBLISH and
STANDBY_HEALTH report in phase 49 (R325, R411); START_TIMEOUT drops starts past START_S (R323). (Derived from 02_control_cycle.md,
12_thrust_allocation.md, 15_redundancy.md, 20_counters_and_service_test.md.) -/
def Obligations.SequencerAndGuardWindow : Prop :=
  (∀ (l : LaneId) (n used : Nat) (sl : Slot) (s : State), (s.laneImg l).bind (fun i => imgSlotNum i (s.lane l).pmu.tier n) = some sl → pathRuns s l = true → clocked s l sl.island = true →
    dueAt (laneCodeOf (2000 + n) l) sl.stop s →
    (sl.cls = 0 → n ∉ (s.lane l).finished → sl.slot = n → sl.purpose ∉ (s.lane l).abandoned → (sl.purpose = 3 → (vget (s.lane l).queued 4).fill < 32) →
      leaves (.slotEndTick l n used false) s fun t =>
      t.time.tick = sl.stop ∧ n ∈ (t.lane l).finished ∧ (sl.purpose = 1 → (t.lane l).filter.q08Held = true) ∧ (sl.purpose = 3 → 3 ∈ (t.lane l).abandoned) ∧
      (sl.purpose ≤ 3 → bitsOf 31 29 (t.lane l).pmu.violLast = 0 ∧ (t.lane l).pmu.violCycle = s.time.cycle % 2 ^ 32)) ∧
    (sl.cls = 0 → used ≤ sl.clocks → leaves (.slotEndTick l n used true) s fun t =>
      t.time.tick = sl.stop ∧ (t.lane l).pmu = (s.lane l).pmu ∧ (t.lane l).finished = (s.lane l).finished ∧ Same [.time] (inLane l [.clockUse]) s t) ∧
    (sl.cls = 2 → leaves (.slotEndTick l n used false) s fun t => t.time.tick = sl.stop ∧ Same [.time] (inLane l countedParts) s t) ∧
    (sl.cls = 3 → n ∉ (s.lane l).finished → sl.slot = n → testSlot s l sl = true → leaves (.slotEndTick l n used false) s fun t =>
      t.time.tick = sl.stop ∧ n ∈ (t.lane l).finished ∧ n ∈ (t.lane l).test.redo ∧ (t.lane l).test.report = (s.lane l).test.report ∧
      bitsOf 31 29 (t.lane l).pmu.violLast = 3 ∧ Same (.time :: noted) (inLaneAnd l [.test, .finished, .shadow] notedParts) s t)) ∧
  (∀ (l : LaneId) (n : Nat) (sl : Slot) (s : State), (s.laneImg l).bind (fun i => imgSlotNum i (s.lane l).pmu.tier n) = some sl → SlotDue l sl.purpose sl.stop sl s →
    (sl.purpose = 9 → planNow s l ≠ 0 → leaves (.consequenceStep l n true) s fun t => t.time.tick = sl.stop ∧ sl.slot ∈ (t.lane l).finished ∧
      (t.lane l).alloc.cq = (cqStep (allocIn s l) s.phase (planNow s l - 1) true (!(List.range 50).any fun p => decide (s.phase < p) && imgPlan ((s.laneImg l).getD []) p == planNow s l) (s.lane l).alloc).cq ∧
      Same [.time, .free] (inLaneAnd l [.alloc, .finished, .shadow] countedParts) s t) ∧
    (sl.purpose = 9 → exec (.consequenceStep l n false) s = .next s) ∧
    (∀ pass, testSlot s l sl = true → leaves (.selftestSegment l n pass) s fun t => t.time.tick = sl.stop ∧ sl.slot ∈ (t.lane l).finished ∧
      (t.lane l).test.report = engineOf sl.island + 128 * b2n pass ∧ (t.lane l).test.again = (s.lane l).test.again.erase sl.slot ∧
      (engineOf sl.island = testEngine s → (t.lane l).test.engine = testEngine s ∧ (pass = false → (t.lane l).test.passed = false)) ∧
      Same [.time] (inLane l [.test, .finished, .shadow]) s t) ∧
    (∀ pass, testSlot s l sl = false → exec (.selftestSegment l n pass) s = .next s)) ∧
  (∀ (l : LaneId) (i : Nat) (s : State), (s.laneRuns l && s.islandRuns l i && [0, 4, 5, 6].contains i) = true → leaves (.builtinTest (some l) i false) s fun t =>
    (t.lane l).test.fail = true ∧ Same [] (inLane l [.test, .counters, .occurred]) s t) ∧
  (∀ (l : Option LaneId) (i : Nat) (s : State), exec (.builtinTest l i true) s = .next s) ∧
  (∀ (l : LaneId) (clocks : Vector Nat 9) (s : State), s.laneRuns l = true → dueAt (laneCodeOf 60 l) s.time.tick s → leaves (.clockMeasure l clocks) s fun t =>
    (∀ i : Fin 9, (s.islandRuns l i.val = true → vget (t.lane l).pmu.clockSum i.val = vget (s.lane l).pmu.clockSum i.val + clocks[i] ∧
        vget (t.lane l).pmu.clockCnt i.val = vget (s.lane l).pmu.clockCnt i.val + 1) ∧
      (s.islandRuns l i.val = false → vget (t.lane l).pmu.clockSum i.val = vget (s.lane l).pmu.clockSum i.val)) ∧
    Same (.time :: noted) (inLaneAnd l notedParts notedParts) s t) ∧
  (∀ (l : LaneId) (s : State), pathRuns s l = true → dueAt (laneCodeOf 62 l) 19900 s → (s.lane l).wtFault = false →
    (∀ m, s.latched = some m → leaves (.removalMaskRequest l) s fun t => (t.lane l).mask = some m ∧ t.time.tick = 19900 ∧ Same [.time] (inLane l [.mask]) s t) ∧
    (s.latched = none → leaves (.removalMaskRequest l) s fun t => (t.lane l).mask = t.latched ∧ t.latched = some t.safety.mask ∧
      (s.safety.active = none → t.safety.mask = 0xFFFF) ∧ t.safety.active = s.safety.active ∧ Same [.time, .safety, .latched] (inLane l [.mask]) s t)) ∧
  (∀ (l : LaneId) (s : State), coreRuns s l 1 = true → dueAt (laneCodeOf 63 l) 19910 s → leaves (.alarmEvaluation l) s fun t =>
    t.time.tick = 19910 ∧ (t.lane l).cupola.changes = [] ∧
    (∀ e ∈ alarmEntries ((s.laneImg l).getD []), ∃ a ∈ (t.lane l).alarms, a.ident = e.ident) ∧
    Same (.time :: noted) (inLaneAnd l [.alarms, .cupola] notedParts) s t) ∧
  (∀ (l : LaneId) (s : State), pathRuns s l = true → s.phase = 49 → dueAt (laneCodeOf 64 l) 19910 s → leaves (.conseqPublish l) s fun t =>
    (t.lane l).alloc = { (s.lane l).alloc with cq := cqPublish (allocIn s l) (s.lane l).alloc.cq } ∧ t.time.tick = 19910 ∧ Same (.time :: noted) (inLaneAnd l [.alloc] toldParts) s t) ∧
  (∀ (l : LaneId) (s : State), s.phase ≠ 49 → exec (.conseqPublish l) s = .next s ∧ exec .standbyHealth s = .next s) ∧
  (∀ (l : LaneId) (s : State), s.activeLane = some l → s.phase = 49 → dueAt 130 19910 s → leaves .standbyHealth s fun t =>
    t.time.tick = 19910 ∧ (t.lane l.other).pmu = { (s.lane l.other).pmu with memErrLong := false } ∧ Same (.time :: noted) (inLaneAnd l.other [.pmu] toldParts) s t) ∧
  ∀ (l : LaneId) (s : State), pathRuns s l = true → leaves (.startTimeout l) s fun t =>
    (t.lane l).alloc = startDrop (startExpired (allocIn s l) (s.lane l).alloc) (s.lane l).alloc ∧ Same noted (inLaneAnd l [.alloc] toldParts) s t

/-- A received serial line, an Ethernet port that takes a datagram, and what is left after a binary gap: the frames in the bytes are counted, each sound
one forms the updates of the channels it feeds, with the decoded value, its capture instant and its stamping point; they wait for release in their own
lane and go to the other one, and no store is written (R30, R102, R103, R110 to R113, R121). A lost byte counts RX_OVF and forms none (R109); a
datagram without its header counts FRAME_ABORT (R110). SERIAL_BREAK sets SER_BREAK of its port, discards and counts a frame in progress and forms none
(R108); new settings come into force at SERIAL_SETTINGS_SWITCH (R107). A line that is off and an island that does not run change nothing; a datagram
that the port does not take only shows its link up (log entry 70). (Derived from 01_module_architecture.md, 04_sensor_channels.md.) -/
def Obligations.SensorFramesBecomeUpdates : Prop :=
  (∀ (l : LaneId) (port : Fin 8) (raw : Bytes) (a b : Nat) (s : State),
    let p := vget (s.lane l).ingest.ports port.val
    let n := 8 * l.num + port.val + 1
    ((ingestRuns s l && lineOn p.line) = true →
      (∀ img, parseImage s l a = some img →
        let fs := serialFrames (imgSection img secParser) (serialEntries img n) p.line (lineChars p.line raw) a b
        leaves (.serialFrameComplete l port raw a b false) s fun t => FramesTaken l img 0 (· == n) port.val n fs p s t ∧
          (b / 20000000 = s.time.cycle → s.time.tick ≤ b / 1000 % 20000 → t.time.tick = b / 1000 % 20000) ∧ Same [.time] (sensedParts l) s t) ∧
      leaves (.serialFrameComplete l port raw a b true) s fun t => updatesFrom l [] s t ∧ (t.lane l).ingest.rxOvf = true ∧
        vget (t.lane l).ingest.ports port.val = { p with ovf := satAdd 0xFFFFFFFF p.ovf 1 } ∧ (t.lane l).ingest.store = (s.lane l).ingest.store ∧
        Same [.time] (inLane l [.ingest, .counters, .occurred, .bw]) s t) ∧
    ((ingestRuns s l && lineOn p.line) = false → ∀ lost, exec (.serialFrameComplete l port raw a b lost) s = .next s)) ∧
  (∀ (p : EthPort) (dst : Source) (raw : Bytes) (a : Nat) (stamps : List Nat) (s : State) (img : Bytes), parseImage s p.lane a = some img →
    let x := vget (s.lane p.lane).ingest.ports (8 + p.num.val)
    let bin := ethBinary img p dst
    ((ingestRuns s p.lane && ethTaken img p dst) = true →
      ((bin = true ∨ raw.take 6 = udpbc) → leaves (.ethSensorDatagram p dst raw a stamps false) s fun t =>
        FramesTaken p.lane img (if bin then 2 else 1) (fun m => bitOf (ethIdx p) m) (8 + p.num.val) (17 + ethIdx p) (ethFrames img p bin raw a stamps) x s t ∧
        (vget (t.lane p.lane).bw (8 + p.num.val)).heard = true ∧ Same [.time] (sensedParts p.lane) s t) ∧
      (bin = false → raw.take 6 ≠ udpbc → leaves (.ethSensorDatagram p dst raw a stamps false) s fun t => updatesFrom p.lane [] s t ∧
        vget (t.lane p.lane).ingest.ports (8 + p.num.val) = { x with abort := satAdd 0xFFFFFFFF x.abort 1 } ∧ Same [.time] (inLane p.lane [.ingest, .counters, .occurred, .bw]) s t) ∧
      leaves (.ethSensorDatagram p dst raw a stamps true) s fun t => updatesFrom p.lane [] s t ∧ (t.lane p.lane).ingest.rxOvf = true ∧
        vget (t.lane p.lane).ingest.ports (8 + p.num.val) = { x with ovf := satAdd 0xFFFFFFFF x.ovf 1 } ∧ Same [.time] (inLane p.lane [.ingest, .counters, .occurred, .bw]) s t) ∧
    (ingestRuns s p.lane = false → ∀ lost, exec (.ethSensorDatagram p dst raw a stamps lost) s = .next s) ∧
    (ingestRuns s p.lane = true → ethTaken img p dst = false → ∀ lost, leaves (.ethSensorDatagram p dst raw a stamps lost) s fun t =>
      (t.lane p.lane).bw = vmodN (s.lane p.lane).bw (8 + p.num.val) (fun w => { w with heard := true }) ∧ Same [] (inLane p.lane [.bw]) s t)) ∧
  (∀ (l : LaneId) (port : Fin 8) (raw : Bytes) (a : Nat) (s : State),
    let p := vget (s.lane l).ingest.ports port.val
    let n := 8 * l.num + port.val + 1
    (∀ img, (ingestRuns s l && lineOn p.line) = true → parseImage s l a = some img → leaves (.binaryGapTimeout l port raw a) s fun t =>
      FramesTaken l img 0 (· == n) port.val n (gapFrames img n p.line raw a) { p with abort := satAdd 0xFFFFFFFF p.abort 1 } s t ∧
      (t.lane l).ingest.rejectAny = true ∧ Same [] (sensedParts l) s t) ∧
    ((ingestRuns s l && lineOn p.line) = false → exec (.binaryGapTimeout l port raw a) s = .next s)) ∧
  (∀ (l : LaneId) (port : Fin 8) (s : State), (ingestRuns s l && lineOn (vget (s.lane l).ingest.ports port.val).line) = true →
    (leaves (.serialBreak l ⟨port, true⟩) s fun t => (t.lane l).ingest.serBreak = (s.lane l).ingest.serBreak ||| 2 ^ port.val ∧
      (vget (t.lane l).ingest.ports port.val).abort = satAdd 0xFFFFFFFF (vget (s.lane l).ingest.ports port.val).abort 1 ∧
      (t.lane l).ingest.store = (s.lane l).ingest.store ∧ (t.lane l).ingest.release = (s.lane l).ingest.release ∧ Same [] (inLane l [.ingest, .counters, .occurred, .bw]) s t) ∧
    leaves (.serialBreak l ⟨port, false⟩) s fun t =>
      (t.lane l).ingest = { (s.lane l).ingest with serBreak := (s.lane l).ingest.serBreak ||| 2 ^ port.val } ∧ Same [] (inLane l [.ingest]) s t) ∧
  (∀ (l : LaneId) (line : SerialLine) (s : State), (ingestRuns s l && lineOn (vget (s.lane l).ingest.ports line.num.val).line) = false → exec (.serialBreak l line) s = .next s) ∧
  ∀ (l : LaneId) (port : Fin 8) (s : State),
    (ingestRuns s l = true → leaves (.serialSettingsSwitch l port) s fun t =>
      (vget (t.lane l).ingest.ports port.val).pendingLine = none ∧
      (vget (t.lane l).ingest.ports port.val).line = (vget (s.lane l).ingest.ports port.val).pendingLine.getD (vget (s.lane l).ingest.ports port.val).line ∧
      (t.lane l).ingest.store = (s.lane l).ingest.store ∧ Same [] (inLane l [.ingest]) s t) ∧
    (ingestRuns s l = false → exec (.serialSettingsSwitch l port) s = .next s)

/-- A bridge frame that passes ends its sender's try and delivers the first update on its way, or else the next bytes of a staged image, which are asked
for again after one failed check and fail the bridge after the second (R33, R34, R89); the first missing acknowledgement is counted and the frame sent
again, the second sets the fault: nothing is on its way any more, a lane in SYNCING or STANDBY meets code 7, and no host channel waits for a mirror
(R33, R446). A lane's Sky or Watchtower link fails in the same way, for that lane only. FILTER_OUTPUT forms the output of an input and of its resolver
partner at its grid point, once in a cycle, and hands the updates of its channels to ingest when one is due and the input not faulted (R169, R174,
R175); FILTER_SUMMARY, by tick 20, brings each input's window up to date and sends the summaries to the other lane (R183), from where SUMMARY_FORWARD
hands them to the filter island. An input fault is raised while its condition of Table 7.2 stands, and cleared when it does not. (Derived from
01_module_architecture.md, 03_schedule_image.md, 07_filter_chain.md, 15_redundancy.md.) -/
def Obligations.LinksAndInputsBetweenTheLanes : Prop :=
  (∀ (l : LaneId) (f : Bytes) (s : State), (s.bridgeFault = false → s.laneRuns l = true → leaves (.bridgeFrameReceive l f true) s fun t =>
      let g := (s.lane l).image
      (t.lane l.other).bridgeTry = 0 ∧ (∀ u rest, (s.lane l).incoming = u :: rest → (t.lane l).incoming = rest) ∧
      ((s.lane l).incoming = [] → l = s.sel ∨ firstMirror s = none → Same [] (fun k => if k = l then [.bw] else [.bridgeTry]) s t) ∧
      ∀ c x, (s.lane l).incoming = [] → l = s.sel.other → firstMirror s = some (c, x) → x.pkt.opcode = 0x0602 →
        (g.rx.length + f.length < x.pkt.params.length - 4 → (t.lane l).image = { g with rx := g.rx ++ f }) ∧
        (g.rx.length + f.length = x.pkt.params.length - 4 → crc32c (g.rx ++ f) ≠ crc32c (x.pkt.params.drop 4) → 0 < f.length →
          (g.rxTry = 0 → (t.lane l).image = { g with rx := [], rxTry := 1 }) ∧ (g.rxTry ≠ 0 → t.bridgeFault = true))) ∧
    exec (.bridgeFrameReceive l f false) s = .next s) ∧
  (∀ (l : LaneId) (s : State), s.bridgeFault = false → s.laneRuns l = true →
    ((s.lane l).bridgeTry = 0 → leaves (.bridgeAckTimeout l) s fun t => (t.lane l).bridgeTry = 1 ∧ Same [] (inLane l [.bridgeTry, .bw, .counters, .occurred]) s t) ∧
    ((s.lane l).bridgeTry ≠ 0 → leaves (.bridgeAckTimeout l) s fun t => t.bridgeFault = true ∧ (∀ k, (t.lane k).incoming = [] ∧ (t.lane k).bridgeTry = 0) ∧
      (∀ k, (s.arb.lane k).state = 4 ∨ (s.arb.lane k).state = 5 → (s.arb.lane k).faultAt = none →
        (t.arb.lane k).cause = 7 ∧ (t.arb.lane k).faultAt = some (effBoundary s.time.cycle s.time.tick)) ∧
      ∀ (c : Fin 4) (f : InFlight), t.host.chans[c].inFlight = some f → f.waitMirror = false)) ∧
  (∀ (l : LaneId) (s : State), s.bridgeFault = true → exec (.bridgeAckTimeout l) s = .next s) ∧
  (∀ (l : LaneId) (s : State), s.laneRuns l = true →
    ((s.lane l).wtFault = false → (s.lane l).wtTry = 0 → leaves (.linkFrameFail l false) s fun t => (t.lane l).wtTry = 1 ∧ Same [] (inLane l [.wtTry, .bw]) s t) ∧
    ((s.lane l).wtFault = false → (s.lane l).wtTry ≠ 0 → leaves (.linkFrameFail l false) s fun t => (t.lane l).wtFault = true ∧ (t.lane l).digestOut = none ∧
      Same [] (inLaneAnd l [.wtTry, .wtFault, .digestOut, .bw, .counters, .occurred] [.pmu]) s t) ∧
    ((s.lane l).skyFault = false → (s.lane l).skyTry = 0 → leaves (.linkFrameFail l true) s fun t => (t.lane l).skyTry = 1 ∧ Same [] (inLane l [.skyTry, .bw]) s t) ∧
    ((s.lane l).skyFault = false → (s.lane l).skyTry ≠ 0 → leaves (.linkFrameFail l true) s fun t => (t.lane l).skyFault = true ∧
      Same [] (inLaneAnd l [.skyTry, .skyFault, .bw, .counters, .occurred] [.pmu]) s t)) ∧
  (∀ (l : LaneId) (i : Fin 12) (g : Nat) (new newB : List (Nat × List Bool)) (s : State),
    let f := (s.lane l).filter
    let j := cosOf i f
    let r := filterOutput f.excPhase (500 * s.time.cycle + g) new (if j = i then [] else newB) { f.inputs[i] with sat := false } { f.inputs[j] with sat := false }
    let ups := outputUpdates (section_ s l secChannels) (section_ s l secFilter) l (12 * l.num + i.val + 1) (s.time.cycle * 20000000 + g * 40000) r.value
    filterRuns s l = true → outputDue f.inputs[i] g = true → g < 500 → dueAt (laneCodeOf (5000 + 512 * i.val + g) l) (40 * g) s →
    (vget (s.lane l).queued 2).fill + 2 * ups.length ≤ 32 → leaves (.filterOutput l i g new newB) s fun t =>
      let due := isOutputPoint f.inputs[i] g && isPublished f.inputs[i] g && !inFault (t.lane l).filter i.val
      t.time.tick = 40 * g ∧ (t.lane l).filter.inputs[i] = { r.input with sat := r.input.sat || f.inputs[i].sat } ∧
      (j ≠ i → (t.lane l).filter.inputs[j] = { r.partner with sat := r.partner.sat || f.inputs[j].sat }) ∧
      (∀ k : Fin 12, k ≠ i → k ≠ j → (t.lane l).filter.inputs[k] = f.inputs[k]) ∧
      (due = false → updatesFrom l [] s t) ∧ (due = true → (vget (s.lane l).queued 2).waiting = [] → clocked s l 6 = true → updatesFrom l ups s t) ∧
      Same [.time] (fun k => if k = l then [.filter, .ingest, .queued, .counters, .occurred] else [.incoming]) s t) ∧
  (∀ (l : LaneId) (s : State), filterRuns s l = true → s.time.tick ≤ 20 → dueAt (laneCodeOf 65 l) s.time.tick s → leaves (.filterSummary l) s fun t =>
    (∀ i : Fin 12, (t.lane l).filter.inputs[i] = summarise (s.lane l).filter.inputs[i]) ∧ (t.lane l).filter.localCycle = s.time.cycle ∧
    ((vget (s.lane l).queued 2).waiting = [] → clocked s l 6 = true → s.bridgeFault = false → s.laneRuns l.other = true →
      (t.lane l.other).filter.q16 = some (s.time.cycle, ((s.lane l).filter.inputs.map summarise).toList.map (·.sum))) ∧
    ((vget (s.lane l).queued 2).waiting = [] → clocked s l 6 = true → ∃ ups, updatesFrom l ups s t ∧ ∀ u ∈ ups, u.stampNs = s.time.cycle * 20000000) ∧
    Same (.time :: noted) (fun k => (if k = l then [.filter, .ingest, .queued] else [.filter, .incoming]) ++ notedParts) s t) ∧
  (∀ (l : LaneId) (s : State), filterRuns s l = false → (∀ i g a b, exec (.filterOutput l i g a b) s = .next s) ∧ exec (.filterSummary l) s = .next s) ∧
  (∀ (l : LaneId) (s : State), (s.laneRuns l && clocked s l 0) = true → leaves (.summaryForward l) s fun t =>
    (∀ q, (s.lane l).filter.q16 = some q → (t.lane l).filter.remote = some q ∧ (t.lane l).filter.q16 = none) ∧
    ((s.lane l).filter.q16 = none → t = s) ∧ Same [] (inLane l [.filter]) s t) ∧
  ∀ (l : LaneId) (i : Fin 12) (k : Fin 4) (s : State), filterRuns s l = true →
    let x := vget (s.lane l).filter.inputs i.val
    (faultApplies (inMode x.plane.entry) k.val = true →
      (leaves (.inputFaultRaise l i k) s fun t => vget (vget (t.lane l).filter.inputs i.val).faults k.val = (vget x.faults k.val || vget x.cond k.val) ∧
        Same [] (inLane l [.filter, .counters, .occurred]) s t) ∧
      (leaves (.inputFaultClear l i k) s fun t => vget (vget (t.lane l).filter.inputs i.val).faults k.val = (vget x.faults k.val && vget x.cond k.val) ∧
        Same [] (inLane l [.filter, .counters, .occurred]) s t)) ∧
    (faultApplies (inMode x.plane.entry) k.val = false →
      (leaves (.inputFaultRaise l i k) s fun t => Same [] noLane s t) ∧ leaves (.inputFaultClear l i k) s fun t => Same [] noLane s t)

/-- MEASUREMENT_EPOCH at tick 0 of a cycle with an epoch hands the records of that epoch that are not late to both Sky links, the EPOCH record first,
counts the epoch modulo 4096, writes the next block of the ring, and leaves a deselected antenna without position and slots (R128, R129, R148).
SKY_RECORD_RECEIVE takes the first record of a lane's link, which becomes an update of the channel configured for it, and goes over the bridge only
while the other lane's link has failed (R130, R132). AIDING_FRAME of a lane with a position is one frame with this cycle and the lane's
role, in the layout of log entry 67, and Oculus keeps it (R135). A framed RTCM message is sent over both links, to the other lane's over the bridge; of
equal copies within 1 s the second is dropped, and the corrections of a used observation message are taken (R136, R137). NOTCH_MONITOR keeps at most
four notches a chain, the powers of the last 100 ms, and one of three jamming states, which falls only after 1 s (R139, R141). (Derived from
05_oculus_gnss.md, 01_module_architecture.md.) -/
def Obligations.OculusMeasuresAndReports : Prop :=
  (∀ (ob : EpochObs) (s : State), epochDue s = true → dueAt 132 0 s → leaves (.measurementEpoch ob) s fun t =>
    t.oculus.epochs = (s.oculus.epochs + 1) % 4096 ∧ t.oculus.toA = t.oculus.toB ∧ (∀ r ∈ t.oculus.toA, r.source ∉ ob.late ∧ r.meas = s.deviceNs.toNat) ∧
    (0 ∉ ob.late → (t.oculus.toA.head?.map fun r => r.source) = some 0) ∧
    t.oculus.ringSeq = s.oculus.ringSeq + 1 ∧ (vget t.oculus.ring (t.oculus.ringSeq % 8)).cycle = s.time.cycle ∧ (vget t.oculus.ring (t.oculus.ringSeq % 8)).entries.length ≤ 384 ∧
    (∀ a : Fin 2, s.oculus.antDesel[a] = true → t.oculus.posValid[a] = false ∧ ∀ k : Fin 16, t.oculus.slots[a][k] = none) ∧
    Same [.time, .oculus] (bothLanes countedParts) s t) ∧
  (∀ (ob : EpochObs) (s : State), epochDue s = false → exec (.measurementEpoch ob) s = .next s) ∧
  (∀ (l : LaneId) (s : State), skyQueue l s.oculus = [] → exec (.skyRecordReceive l) s = .next s) ∧
  (∀ (l : LaneId) (r : OcuRecord) (rest : List OcuRecord) (s : State), skyQueue l s.oculus = r :: rest →
    (s.laneRuns l = false ∨ (s.lane l).skyFault = true → leaves (.skyRecordReceive l) s fun t => skyQueue l t.oculus = rest ∧ skyQueue l.other t.oculus = skyQueue l.other s.oculus ∧
      Same [.oculus] noLane s t) ∧
    (∀ ch, ingestRuns s l = true → (s.lane l).skyFault = false → recordChannel s l r.source = some ch →
      s.time.cycle * 20000 + s.time.tick ≤ (recordUpdate s l ch r).releaseUs → leaves (.skyRecordReceive l) s fun t =>
        let u := recordUpdate s l ch r
        u.chan = ch ∧ u.value = r.words ∧ u.meas = r.meas ∧ skyQueue l t.oculus = rest ∧ skyQueue l.other t.oculus = skyQueue l.other s.oculus ∧
        (t.lane l).ingest = { (s.lane l).ingest with release := (s.lane l).ingest.release ++ [u] } ∧
        (t.lane l.other).incoming = (if (s.lane l.other).skyFault && !(s.bridgeFault || !s.laneRuns l.other) then (s.lane l.other).incoming ++ [u] else (s.lane l.other).incoming) ∧
        Same [.oculus] (fun k => if k = l then [.bw, .skyTry, .ingest] else [.incoming]) s t)) ∧
  (∀ (l : LaneId) (s : State), pathRuns s l = false ∨ 19900 ≤ s.time.tick → exec (.aidingFrame l) s = .next s) ∧
  (∀ (l : LaneId) (s : State), pathRuns s l = true → s.time.tick < 19900 → dueAt (laneCodeOf 66 l) s.time.tick s →
    ((s.lane l).cupola.aid = none ∨ (s.lane l).cupola.origin = none ∨ (s.lane l).skyFault = true → leaves (.aidingFrame l) s fun t => Same [.time] noLane s t) ∧
    ((s.lane l).cupola.aid.isSome = true → (s.lane l).cupola.origin.isSome = true → (s.lane l).skyFault = false → leaves (.aidingFrame l) s fun t =>
      (∃ body, emits [.skyLink l body] s t ∧ body.length = 73 ∧ u64 body 0 = s.time.cycle % 2 ^ 64 ∧ u8 body 8 = b2n (s.isActive l)) ∧
      (skyMeasures s = true → ∃ f, aidHeld l t.oculus = some f ∧ f.cycle = s.time.cycle ∧ f.active = s.isActive l) ∧ aidHeld l.other t.oculus = aidHeld l.other s.oculus ∧
      Same [.time, .oculus, .outbox] (inLane l [.bw]) s t)) ∧
  (∀ (l : LaneId) (f : Bytes) (s : State), (ingestRuns s l && corrHere s l && rtcmFramed f) = false → exec (.rtcmFrame l f) s = .next s) ∧
  (∀ (l : LaneId) (f : Bytes) (s : State), (ingestRuns s l && corrHere s l && rtcmFramed f) = true → (s.lane l).skyFault = false → skyMeasures s = true →
    (s.bridgeFault = true → leaves (.rtcmFrame l f) s fun t => emits [.skyLink l f] s t ∧
      (rtcmSound f = false → t.oculus.rtcmBad = satAdd 0xFFFFFFFF s.oculus.rtcmBad 1 ∧ t.oculus.rtcmOk = s.oculus.rtcmOk ∧ t.oculus.msm = s.oculus.msm) ∧
      (rtcmSound f = true → rtcmKnown f s = false → rtcmUsed (rtcmNumber f) = true → t.oculus.rtcmOk = (s.oculus.rtcmOk + 1) % 2 ^ 32 ∧
        ∀ sys, msmSystem (rtcmNumber f) = some sys → t.oculus.msm = takeCells (msmInstant s.belfry.gpsNow s.deviceNs sys (rtcmMsg f)) (msmCells (rtcmNumber f) sys (rtcmMsg f)) s.oculus.msm) ∧
      (rtcmSound f = true → rtcmKnown f s = false → rtcmUsed (rtcmNumber f) = false → t.oculus.rtcmIgn = satAdd 0xFFFFFFFF s.oculus.rtcmIgn 1 ∧ t.oculus.msm = s.oculus.msm) ∧
      (rtcmSound f = true → rtcmKnown f s = true → t.oculus.rtcmDup = satAdd 0xFFFFFFFF s.oculus.rtcmDup 1 ∧ t.oculus.rtcmOk = s.oculus.rtcmOk ∧ t.oculus.msm = s.oculus.msm) ∧
      Same [.oculus, .outbox] (inLaneAnd l [.bw] countedParts) s t) ∧
    (s.bridgeFault = false → s.laneRuns l.other = true → (s.lane l.other).skyFault = false → leaves (.rtcmFrame l f) s fun t => emits [.skyLink l f, .bridge l 1 f, .skyLink l.other f] s t ∧
      (rtcmSound f = true → rtcmKnown f s = false → rtcmUsed (rtcmNumber f) = true → t.oculus.rtcmOk = (s.oculus.rtcmOk + 1) % 2 ^ 32 ∧ t.oculus.rtcmDup = satAdd 0xFFFFFFFF s.oculus.rtcmDup 1) ∧
      Same [.oculus, .outbox] (bothLanes (.bw :: countedParts)) s t)) ∧
  (∀ (c : Chain) (ob : MonitorObs) (s : State), skyMeasures s = false → exec (.notchMonitor c ob) s = .next s) ∧
  ∀ (c : Chain) (ob : MonitorObs) (s : State), skyMeasures s = true →
    (leaves (.notchMonitor c ob) s fun t =>
      let x := s.oculus.chains[c]
      let y := t.oculus.chains[c]
      (x.notches.length ≤ 4 → y.notches.length ≤ 4) ∧ y.powers = (ob.power :: x.powers).take 100 ∧ (x.jam ≤ 2 → y.jam ≤ 2) ∧ (y.jam < x.jam → 999 ≤ x.leaveMs) ∧
      (x.jam ≤ 2 → atLeastDb (ocuJamAlarm (ocuCfg s)) y.power x.pref = true → y.jam = 2) ∧ ∀ k : Fin 4, k ≠ c → t.oculus.chains[k].notches = s.oculus.chains[k].notches ∧
        t.oculus.chains[k].jam = s.oculus.chains[k].jam ∧ t.oculus.chains[k].powers = s.oculus.chains[k].powers) ∧
    ((∀ w ∈ s.host.noiseWait, s.time.us < w.2.2.2 + 100000) → leaves (.notchMonitor c ob) s fun t => (∀ k : Fin 4, t.oculus.chains[k].pref = s.oculus.chains[k].pref) ∧
      Same [.oculus] (bothLanes countedParts) s t) ∧
    (∀ p bits save us, s.host.noiseWait = [(p, bits, save, us)] → us + 100000 ≤ s.time.us → leaves (.notchMonitor c ob) s fun t => t.host.noiseWait = [] ∧
      ∀ k : Fin 4, t.oculus.chains[k].pref = if bitOf k.val bits then (if save = 0 then t.oculus.chains[k].power else 1) else s.oculus.chains[k].pref)

/-- ORIGIN_FIX fixes device time once: from a running module, from the first qualified source with the first boundary at the first multiple of 20 ms at
least 5 ms later, or at the start-up instant after the wait (R153); a running module's time is also taken in the 2,000 ms that R538 adds. At an epoch a
steered source that is valid and within the step guard adds its residual; any other state of it enters HOLDOVER with OFFSET and the frequency kept
(R156). The return takes the measured offset and counts a discontinuity (R157). At a long-cycle boundary the mean residual enters OFFSET and the slew is
at most 100 ns/s (R158); EST_ERR at each boundary is by R159. A lane's tick marker gives its phase error and correction against Belfry, the other lane
or the time master (R160, R161); the third deviation from Belfry above 1,000 ns is fault 4 (R400). Pulses are output only when they are open (R163);
TIMEQ at tick 100 of phase 25 is for the next long-cycle boundary (R164). A leap second takes effect when pending (R154). PTP slave and master ports
act as R165 says, in their own domain only. The spare time of a first boundary more than 20 ms away, and the correction of R161, are the model's choice
(log entry 72). (Derived from 06_belfry_time.md, 15_redundancy.md.) -/
def Obligations.BelfryKeepsTime : Prop :=
  (∀ (a : Option (Nat × Nat × Bool × Nat)) (n : Nat) (s : State),
    let kept := fun (t : State) => { t.belfry with count := s.belfry.count, utcHist := s.belfry.utcHist, ppsUntil := s.belfry.ppsUntil }
    (s.power.skyOn = false ∨ s.belfry.originSet = true → exec (.originFix a n) s = .next s) ∧
    (s.power.skyOn = true → s.belfry.originSet = false →
      (∀ c tk g tag, a = some (c, tk, g, tag) → waitOver 2000000 s = false → leaves (.originFix a n) s fun t =>
        kept t = { s.belfry with originSet := true, originGnss := g, state := 1, source := 2, unc := baiqueUnc s } ∧
        t.time.cycle = c % 2 ^ 48 ∧ t.time.tick = min 19999 tk ∧ t.belfry.count = (c * 20000000 + tk * 1000) * 2 ^ 32 ∧ t.arb = { s.arb with originTag := tag } ∧
        Same (.time :: .arb :: .belfry :: noted) (bothLanes toldParts) s t) ∧
      (∀ src, a = none → originSource (isMaster s) s.belfry = some src → waitOver 0 s = false → leaves (.originFix a n) s fun t =>
        kept t = { s.belfry with originSet := true, originGnss := true, offset := 0, state := 1, source := src, unc := vget s.belfry.originUnc src } ∧
        t.arb = { s.arb with originTag := 1 } ∧
        (∃ b, n + 5000000 ≤ 20000000 * b ∧ 20000000 * b < n + 25000000 ∧ t.time.cycle = (b - 1) % 2 ^ 48 ∧
          t.time.tick = 20000 - min 20000 ((20000000 * b - n) / 1000) ∧ t.time.us = s.time.us + ((20000000 * b - n) / 1000 - 20000)) ∧
        Same (.time :: .arb :: .belfry :: noted) (bothLanes toldParts) s t) ∧
      (a = none → waitOver 0 s = true → lowerUnset s = false → leaves (.originFix a n) s fun t =>
        kept t = { s.belfry with originSet := true, originGnss := false, state := 5, source := 0 } ∧
        t.arb = { s.arb with originTag := startTag s.power.module s.keep.powerCycle } ∧ Same (.time :: .arb :: .belfry :: noted) (bothLanes toldParts) s t) ∧
      (a.isSome = true → waitOver 2000000 s = true → exec (.originFix a n) s = .next s) ∧
      (a = none → waitOver 0 s = false → originSource (isMaster s) s.belfry = none → exec (.originFix a n) s = .next s) ∧
      (a = none → waitOver 0 s = true → lowerUnset s = true → exec (.originFix a n) s = .next s))) ∧
  (∀ (ob : TimeObs) (s : State), epochDue s = false → exec (.blfEpochEval ob) s = .next s) ∧
  (∀ (ob : TimeObs) (s : State), epochDue s = true → dueAt 131 s.time.tick s → leaves (.blfEpochEval ob) s fun t =>
    let v := sourceViews s
    let ok := fun k => sourceOk (timeCfg s) v k
    let x := s.belfry
    let y := t.belfry
    y.offset = x.offset ∧ y.yOsc = x.yOsc ∧ y.ySlew = x.ySlew ∧ y.disc = x.disc ∧ y.originSet = x.originSet ∧
    (x.originSet = false → y.state = x.state ∧ ∀ k : Fin 4, y.originRun[k] = if ok k.val then x.originRun[k] + 1 else 0) ∧
    (x.originSet = true → x.state = 1 ∨ x.state = 2 →
      (ok x.source = true → absQ ((viewOf v x.source).measured - x.offset) ≤ (timeStepGuard (timeCfg s) : ℚ) → y.state = x.state ∧ y.source = x.source ∧
        y.resSum = x.resSum + ((viewOf v x.source).measured - x.offset) ∧ y.resCount = x.resCount + 1) ∧
      (ok x.source = false ∨ (timeStepGuard (timeCfg s) : ℚ) < absQ ((viewOf v x.source).measured - x.offset) → y.state = 3 ∧ y.source = 0 ∧ y.slewStop = true ∧ y.e0 = x.estErr)) ∧
    (x.originSet = true → x.state ≠ 1 → x.state ≠ 2 → y.state = x.state ∧
      (x.qualSource ≠ 0 → ok x.qualSource = true → y.qualSource = x.qualSource ∧ y.qualCount = x.qualCount + 1 ∧ y.qualOffset = (viewOf v x.qualSource).measured) ∧
      (x.qualSource = 0 ∨ ok x.qualSource = false → (firstSource (timeCfg s) (isMaster s) v = none → y.qualSource = 0 ∧ y.qualified = false) ∧
        ∀ k, firstSource (timeCfg s) (isMaster s) v = some k → y.qualSource = k ∧ y.qualCount = 1)) ∧
    Same (.time :: .belfry :: noted) (bothLanes toldParts) s t) ∧
  (∀ s : State, (s.power.skyOn && s.belfry.qualified) = false → exec .returnQualified s = .next s) ∧
  (∀ s : State, (s.power.skyOn && s.belfry.qualified) = true → dueAt 134 0 s → leaves .returnQualified s fun t =>
    t.belfry.offset = s.belfry.qualOffset ∧ t.belfry.disc = (s.belfry.disc + 1) % 2 ^ 32 ∧ t.belfry.source = s.belfry.qualSource ∧ t.belfry.qualified = false ∧
    t.belfry.state = (if s.belfry.originGnss = true ∧ 20 ≤ absQ s.belfry.qualOffset then 2 else 1) ∧
    (s.phase < 26 → t.belfry.timeq = s.belfry.timeq) ∧ (26 ≤ s.phase → u64 t.belfry.timeq 0 = (s.time.cycle / 50 * 50 + 50) % 2 ^ 64) ∧
    Same (.time :: .belfry :: noted) (bothLanes toldParts) s t) ∧
  (∀ s : State, (s.power.skyOn && s.phase == 0) = false → exec .blfLongCycleUpdate s = .next s ∧ exec .ppsEdge s = .next s) ∧
  (∀ s : State, s.power.skyOn = true → s.phase = 0 → dueAt 133 0 s → leaves .blfLongCycleUpdate s fun t =>
    (s.belfry.state ≠ 1 → s.belfry.state ≠ 2 → t.belfry.offset = s.belfry.offset ∧ t.belfry.yOsc = s.belfry.yOsc ∧ (s.belfry.slewStop = true → t.belfry.ySlew = 0)) ∧
    (s.belfry.state = 1 ∨ s.belfry.state = 2 → t.belfry.resCount = 0 ∧ absQ t.belfry.ySlew ≤ 100 ∧
      t.belfry.offset = (if s.belfry.originGnss = true ∧ s.belfry.resCount ≠ 0 then s.belfry.offset + s.belfry.resSum / (s.belfry.resCount : ℚ) else s.belfry.offset) ∧
      t.belfry.state = (if s.belfry.state = 2 ∧ absQ t.belfry.offset < 20 then 1 else s.belfry.state)) ∧
    Same (.time :: .belfry :: noted) (bothLanes toldParts) s t) ∧
  (∀ (w : ℚ) (s : State), s.power.skyOn = false → exec (.blfBoundaryUpdate w) s = .next s) ∧
  (∀ (w : ℚ) (s : State), s.power.skyOn = true → dueAt 135 0 s → leaves (.blfBoundaryUpdate w) s fun t => t.belfry.skyTemp = w ∧ t.belfry.offset = s.belfry.offset ∧
    (s.belfry.state = 1 ∨ s.belfry.state = 2 → t.belfry.estErr = (ceilQ s.belfry.unc).toNat ∧ t.belfry.state = s.belfry.state) ∧
    (s.belfry.state = 3 → t.belfry.state = if timeHoldLimit (timeCfg s) < t.belfry.estErr then 4 else 3) ∧
    (s.belfry.state = 0 ∨ s.belfry.state = 5 → t.belfry.estErr = 0xFFFFF ∧ t.belfry.state = s.belfry.state) ∧ Same (.time :: .belfry :: noted) (bothLanes toldParts) s t) ∧
  (∀ (l : LaneId) (d : Int) (s : State), (s.laneRuns l && !s.isNode) = false → exec (.laneTickMarker l d) s = .next s) ∧
  (∀ (l : LaneId) (d : Int) (s : State), (s.laneRuns l && !s.isNode) = true → dueAt (laneCodeOf 67 l) s.time.tick s → leaves (.laneTickMarker l d) s fun t =>
    let r := tickRefOf s l
    let x := vget t.power.starts l.num
    x.tickRef = r ∧ x.tickDev = d ∧ x.tickCorr = (if r = 3 then 0 else clampQ (-2000) 2000 (-(d : ℚ) / 4)) ∧
    (r ≠ 0 → t.arb = s.arb ∧ t.belfry = s.belfry ∧ x.steered = 0) ∧
    (r = 0 → vget t.belfry.laneDev l.num = clampI (-32768) 32767 d ∧ vget t.belfry.laneCorr l.num = clampQ (-2000) 2000 (-(d : ℚ) / 4) ∧
      vget t.belfry.laneDev l.other.num = vget s.belfry.laneDev l.other.num ∧ t.belfry.offset = s.belfry.offset ∧
      (d.natAbs ≤ 1000 → (t.arb.lane l).devRun = 0 ∧ (t.arb.lane l).faultAt = (s.arb.lane l).faultAt) ∧
      (1000 < d.natAbs → (s.arb.lane l).state ∉ [0, 6, 7] → (s.arb.lane l).faultAt = none →
        ((s.arb.lane l).devRun < 2 → (t.arb.lane l).devRun = (s.arb.lane l).devRun + 1 ∧ (t.arb.lane l).faultAt = none) ∧
        (2 ≤ (s.arb.lane l).devRun → (t.arb.lane l).cause = 4 ∧ (t.arb.lane l).faultAt = some (effBoundary s.time.cycle s.time.tick)))) ∧
    Same [.time, .belfry, .arb, .power] (bothLanes [.pmu]) s t) ∧
  (∀ s : State, s.power.skyOn = true → s.phase = 0 → dueAt 136 0 s →
    ((s.belfry.originSet && ppsOpen (timeCfg s) s.belfry) = true → leaves .ppsEdge s fun t =>
      emits [.ppsEdge .A (((s.time.cycle * 20000000 : Nat) : ℚ) - (timePpsAdv (timeCfg s) 0 : ℚ) + vget s.belfry.qerr 0) (timePpsWidth (timeCfg s)),
             .ppsEdge .B (((s.time.cycle * 20000000 : Nat) : ℚ) - (timePpsAdv (timeCfg s) 1 : ℚ) + vget s.belfry.qerr 1) (timePpsWidth (timeCfg s))] s t ∧
      (∀ k : Fin 2, t.belfry.ppsUntil[k] = s.time.us + timePpsWidth (timeCfg s)) ∧ Same [.time, .belfry, .outbox] noLane s t) ∧
    ((s.belfry.originSet && ppsOpen (timeCfg s) s.belfry) = false → leaves .ppsEdge s fun t => Same [.time] noLane s t)) ∧
  (∀ s : State, (s.power.skyOn && s.phase == 25) = false → exec .timeqCompute s = .next s) ∧
  (∀ s : State, s.power.skyOn = true → s.phase = 25 → dueAt 137 100 s → leaves .timeqCompute s fun t => t.time.tick = 100 ∧
    t.belfry = { s.belfry with timeq := timeqBytes (timeCfg s) s.time.cycle (s.time.us - s.time.tick) false s.belfry } ∧ u64 t.belfry.timeq 0 = (s.time.cycle + 25) % 2 ^ 64 ∧
    Same (.time :: .belfry :: noted) (bothLanes toldParts) s t) ∧
  (∀ s : State, (s.power.skyOn = false → exec .leapSecond s = .next s) ∧ (s.power.skyOn = true → leaves .leapSecond s fun t =>
    { t.belfry with utcHist := s.belfry.utcHist } = (if s.belfry.leapPending then { s.belfry with leap := s.belfry.leapNext, leapPending := false } else s.belfry) ∧
    Same [.belfry] noLane s t)) ∧
  (∀ (p : EthPort) (dom typ seq : Nat) (at1 rx : Int) (one : Bool) (cls : Nat) (s : State), (s.power.skyOn && s.laneRuns p.lane) = false →
    exec (.ptpMessage p ⟨dom, typ⟩ seq at1 rx one cls) s = .next s ∧ exec (.ptpSyncSend p) s = .next s) ∧
  (∀ (p : EthPort) (dom typ seq : Nat) (at1 rx : Int) (one : Bool) (cls : Nat) (s : State), (s.power.skyOn && s.laneRuns p.lane) = true →
    leaves (.ptpMessage p ⟨dom, typ⟩ seq at1 rx one cls) s fun t =>
      let x := vget s.belfry.ports (ethIdx p)
      let y := vget t.belfry.ports (ethIdx p)
      let mine := dom = timePtpDomain (timeCfg s)
      (∀ k < 4, k ≠ ethIdx p → vget t.belfry.ports k = vget s.belfry.ports k) ∧ t.belfry.offset = s.belfry.offset ∧ t.belfry.state = s.belfry.state ∧
      (¬mine → t.belfry = s.belfry ∧ emits [] s t) ∧
      (mine → bitOf (ethIdx p) (timePtpSlave (timeCfg s)) = true →
        (typ = 11 → y = { x with masterClass := cls } ∧ emits [] s t) ∧ (typ = 0 → one = false → y = { x with syncSeq := seq, t2 := rx / 4 * 4, t1 := none, t3 := none } ∧ emits [] s t) ∧
        (typ = 8 → seq = x.syncSeq → y = { x with t1 := some at1, t3 := some (rx / 4 * 4) } ∧ emits [.ptp p 1 (leBytes 2 seq)] s t) ∧
        (∀ a c, typ = 9 → seq = x.syncSeq → x.t1 = some a → x.t3 = some c → y.samples.head? = some (s.time.us, -((((x.t2 - a) - (at1 - c) : Int) : ℚ) / 2)) ∧ emits [] s t)) ∧
      (mine → bitOf (ethIdx p) (timePtpSlave (timeCfg s)) = false → y = x ∧
        (bitOf (ethIdx p) (timePtpMaster (timeCfg s)) = true → typ = 1 → emits [.ptp p 9 (leBytes 2 seq ++ leSigned 8 (rx / 4 * 4 + s.belfry.offsetNs))] s t)) ∧
      Same [.belfry, .outbox] (inLane p.lane [.bw]) s t) ∧
  ∀ (p : EthPort) (s : State), (s.power.skyOn && s.laneRuns p.lane) = true → leaves (.ptpSyncSend p) s fun t =>
    let x := vget s.belfry.ports (ethIdx p)
    let due := bitOf (ethIdx p) (timePtpMaster (timeCfg s)) = true ∧ x.sendAt ≤ s.time.us
    (¬due → emits [] s t ∧ t.belfry = s.belfry) ∧
    (due → vget t.belfry.ports (ethIdx p) = { x with sendSeq := (x.sendSeq + 1) % 65536, sendAt := s.time.us + timePtpSync (timeCfg s) } ∧
      ∃ a b c, emits [.ptp p 11 a, .ptp p 0 b, .ptp p 8 c] s t ∧ u8 a 0 = ptpClass s.belfry % 256 ∧ u16 b 0 = x.sendSeq % 65536 ∧
        c = leBytes 2 x.sendSeq ++ leSigned 8 (s.deviceNs / 4 * 4 + s.belfry.offsetNs)) ∧
    Same [.belfry, .outbox] (inLane p.lane [.bw]) s t

/-- At a column's START_TICK a running network sends the reference or command frame of its cell from the active bank, unless the lane is restricted or
the bus busy, or expects the frame of a receive cell (R337, R339, R341); a controller that waits for 11 recessive bits finds the bus busy, and after
TDC_FAULT no frame with bit-rate switching leaves until the next boundary (R331, R332; log entry 73). REF_FRAME_FORM at tick 100 puts this cycle's
reference frame into both thruster networks' banks; Q10_RECEIVE fills the staging banks, or counts a late entry once the banks were exchanged; the
exchange makes a complete bank of this cycle active and repeats otherwise (R339, R340). Both lanes' controllers receive a frame: a bad one counts a
form error and raises REC unless the lane is restricted, unmatched frames are counted, mailbox frames stored with LOST when the last one was not acknowledged (R342, R344). An event frame leaves
by its result: sent, tried again up to 16 times, or its identifier suspended at the third clash unless a cell of this module uses it, which sets
ID_CLASH; a bit error before the control field is no clash (R355, R356, R357, R625). Peers, idle detection, bus-off
recovery, tests and restarts move the network's state (R346, R347, R349, R352). (Derived from 13_thruster_networks.md.) -/
def Obligations.NetworksSendReceiveAndRetire : Prop :=
  (∀ (l : LaneId) (net : Fin 4) (c loop : Nat) (r : TxResult) (s : State), busRuns s l = false →
    exec (.cellStart l net c ⟨r, loop⟩) s = .next s ∧ exec (.refFrameForm l) s = .next s ∧ exec (.q10Receive l) s = .next s ∧ exec (.txBankExchange l) s = .next s ∧
    exec (.eventFrameSend l net ⟨r, loop⟩) s = .next s ∧ exec (.netPeerCount l net) s = .next s ∧ exec (.busIdleDetect l net) s = .next s ∧
    exec (.busOffRecovery l net) s = .next s ∧ exec (.busEvtDoorbell l net) s = .next s) ∧
  (∀ (l : LaneId) (net : Fin 4) (col loop : Nat) (r : TxResult) (s : State), (busRuns s l && nhMode (netBlock l net s) == 2 && decide (col < nhColumns (netBlock l net s))) = false →
    exec (.cellStart l net col ⟨r, loop⟩) s = .next s) ∧
  (∀ (l : LaneId) (net : Fin 4) (col loop : Nat) (r : TxResult) (s : State), (busRuns s l && nhMode (netBlock l net s) == 2 && decide (col < nhColumns (netBlock l net s))) = true →
    dueAt (laneCodeOf (3000 + 32 * net.val + col) l) (colStart (netBlock l net s) col) s → leaves (.cellStart l net col ⟨r, loop⟩) s fun t =>
      let c := viewCell (nodeThruster s) (netBlock l net s) (basicOf (netBlock l net s) s.time.cycle) col
      let x := netOf l net s
      let y := netOf l net t
      t.time.tick = colStart (netBlock l net s) col ∧ (∀ n, n ≠ net → netOf l n t = netOf l n s) ∧ y.events = x.events ∧ y.mailboxes = x.mailboxes ∧ y.active = x.active ∧
      (x.expect ≠ none → y.rxMissing = satAdd 0xFF x.rxMissing 1) ∧ (cellsRun x = false → emits [] s t ∧ y.state = x.state) ∧
      (cellsRun x = true → c.kind = 3 ∨ c.kind = 4 ∨ c.kind = 6 → emits [] s t ∧ y.expect = some (cellName (netBlock l net s) x.bufId c)) ∧
      (cellsRun x = true → x.restricted = true → emits [] s t) ∧ (s.isNode = true → s.node.locked = false → emits [] s t) ∧
      (cellsRun x = true → x.tdcFault = true → nhData (netBlock l net s) ≠ 0 → emits [] s t) ∧
      (cellsRun x = true → x.restricted = false → s.isNode = false → x.repeating = false → c.kind = 1 ∨ c.kind = 2 → s.power.pfail = false →
        x.tdcFault = false ∨ nhData (netBlock l net s) = 0 →
        (r = .acked → x.integrating = false → emits [.can l net.val (cellIdent (netBlock l net s) c) c.xtd (if c.kind = 1 then vget x.active 0 else
          sliceB (vget x.active c.arg) 0 14 ++ leBytes 2 (crcE2E (cellIdent (netBlock l net s) c) (sliceB (vget x.active c.arg) 0 14)))] s t ∧ y.acked = true ∧ y.tec = x.tec - 1) ∧
        (r = .busy ∨ x.integrating = true → emits [] s t ∧ y.missed = satAdd 0xFF x.missed 1 ∧ (t.lane l).bus.schedErr = true)) ∧
      Same [.time, .outbox] (fun k => if k = l then [.bus, .counters, .occurred, .bw, .alloc] else [.alloc]) s t) ∧
  (∀ (l : LaneId) (s : State), s.isNode = true → exec (.refFrameForm l) s = .next s ∧ exec (.txBankExchange l) s = .next s) ∧
  (∀ (l : LaneId) (s : State), busRuns s l = true → s.isNode = false → dueAt (laneCodeOf 71 l) 100 s → leaves (.refFrameForm l) s fun t => t.time.tick = 100 ∧
    (∀ n : Fin 4, n.val < 2 → ∃ f, vget (netOf l n t).active 0 = f ∧ vget (netOf l n t).staging 0 = f ∧ f.length = 8 ∧ u32 f 0 = s.time.cycle % 2 ^ 32 ∧
      u8 f 4 = basicOf (netBlock l n s) s.time.cycle % 256 ∧ u16 f 6 = cmId (section_ s l secMatrix)) ∧
    (∀ n : Fin 4, 2 ≤ n.val → netOf l n t = netOf l n s) ∧ Same [.time] (inLane l [.bus]) s t) ∧
  (∀ (l : LaneId) (s : State), busRuns s l = true → (s.lane l).bus.q10 = [] → leaves (.q10Receive l) s fun t => Same [] noLane s t) ∧
  (∀ (l : LaneId) (k : Nat) (w : List Nat) (rest : List (Nat × List Nat)) (s : State), busRuns s l = true → (s.lane l).bus.q10 = (k, w) :: rest → k ≤ 16 →
    leaves (.q10Receive l) s fun t => (t.lane l).bus.q10 = rest ∧ (∀ n : Fin 4, 2 ≤ n.val → netOf l n t = netOf l n s) ∧
      (∀ n : Fin 4, n.val < 2 → (netOf l n t).active = (netOf l n s).active ∧
        ((netOf l n s).exchanged = true → (netOf l n t).lateQ10 = satAdd 0xFFFF (netOf l n s).lateQ10 1 ∧ (netOf l n t).staging = (netOf l n s).staging) ∧
        ((netOf l n s).exchanged = false → k = 0 → (netOf l n t).got = 1 ∧ (netOf l n t).gotCycle = w.getD 0 0) ∧
        ((netOf l n s).exchanged = false → k ≠ 0 → (netOf l n t).got = (netOf l n s).got ||| 2 ^ k ∧ ∃ f, vget (netOf l n t).staging k = f ∧ f.length = 16 ∧ u8 f 3 = k ∧
          u16 f 14 = crcE2E (nhCmd (netBlock l n s) + k) (f.take 14) % 65536)) ∧ Same [] (inLane l [.bus]) s t) ∧
  (∀ (l : LaneId) (tick : Nat) (s : State), busRuns s l = true → s.isNode = false → firstCommandTick (netBlock l 0 s) s.time.cycle = some tick → dueAt (laneCodeOf 72 l) tick s →
    leaves (.txBankExchange l) s fun t => t.time.tick = tick ∧ (∀ n : Fin 4, n.val < 2 → (netOf l n s).exchanged = false →
      let all := 2 ^ (tmCount (section_ s l secThrusters) + 1) - 1
      (netOf l n t).exchanged = true ∧ (netOf l n t).got = 0 ∧ vget (netOf l n t).active 0 = vget (netOf l n s).active 0 ∧
      ((netOf l n s).got &&& all = all → (netOf l n s).gotCycle = s.time.cycle % 2 ^ 32 → (netOf l n t).repeating = false ∧
        ∀ k, 1 ≤ k → k < 32 → vget (netOf l n t).active k = vget (netOf l n s).staging k) ∧
      ((netOf l n s).got &&& all ≠ all ∨ (netOf l n s).gotCycle ≠ s.time.cycle % 2 ^ 32 → (netOf l n t).repeating = true ∧ (netOf l n t).active = (netOf l n s).active ∧
        (netOf l n t).repeats = satAdd 0xFF (netOf l n s).repeats 1 ∧ (t.lane l).bus.repeat_ = true)) ∧
    Same [.time] (inLane l [.bus, .counters, .occurred]) s t) ∧
  (∀ (net : Fin 4) (fr : CanFrame) (d : Nat) (s : State), leaves (.canFrameReceive net fr d) s fun t => (∀ l, (t.lane l).ingest.store = (s.lane l).ingest.store) ∧
    (∀ l, busRuns s l = false → (t.lane l).bus = (s.lane l).bus) ∧
    (∀ l, busRuns s l = true → ((netOf l net s).state = 0 ∨ (netOf l net s).state = 5 ∨ (netOf l net s).state = 6 ∨ (netOf l net s).integrating = true) →
      (t.lane l).bus = (s.lane l).bus) ∧
    (∀ l, busRuns s l = true → ¬((netOf l net s).state = 0 ∨ (netOf l net s).state = 5 ∨ (netOf l net s).state = 6 ∨ (netOf l net s).integrating = true) →
      (fr.fd = true → fr.res = true → netOf l net t = { netOf l net s with pxe := true, integrating := true }) ∧
      ((fr.fd && fr.res) = false → fr.bad = true → (netOf l net t).formErr = (if (netOf l net s).restricted then (netOf l net s).formErr else satAdd 0xFF (netOf l net s).formErr 1) ∧
        (netOf l net t).rec_ = (if (netOf l net s).restricted then (netOf l net s).rec_ else (netOf l net s).rec_ + 1 + 8 * fr.rec8) ∧
        (netOf l net t).mailboxes = (netOf l net s).mailboxes ∧ (netOf l net t).unmatched = (netOf l net s).unmatched) ∧
      ((fr.fd && fr.res) = false → fr.bad = false → fr.remote = true ∨ findFilter (section_ s l secCanFilters) net.val fr = none →
        (netOf l net t).unmatched = satAdd 0xFFFF (netOf l net s).unmatched 1 ∧ (netOf l net t).mailboxes = (netOf l net s).mailboxes) ∧
      (∀ a k f, (fr.fd && fr.res) = false → fr.bad = false → fr.remote = false → findFilter (section_ s l secCanFilters) net.val fr = some (a, k, f) → f.action = 2 → f.mbx < 64 →
        let o := vget (netOf l net s).mailboxes f.mbx
        let m := vget (netOf l net t).mailboxes f.mbx
        m.data = fr.data ∧ m.ident = fr.ident ∧ m.xtd = fr.xtd ∧ m.filter = k ∧ m.fresh = true ∧ m.lost = (o.lost || o.fresh) ∧ m.seq = (o.seq + 1) % 2 ^ 32 ∧
        ∀ j < 64, j ≠ f.mbx → vget (netOf l net t).mailboxes j = vget (netOf l net s).mailboxes j)) ∧
    Same noted (bothLanes ([.bus, .ingest, .incoming, .alloc, .queued] ++ notedParts)) s t) ∧
  (∀ (l : LaneId) (net : Fin 4) (r : TxResult) (loop : Nat) (s : State), busRuns s l = true → leaves (.eventFrameSend l net ⟨r, loop⟩) s fun t =>
    let x := netOf l net s
    let y := netOf l net t
    let fits := fun (fr : CanFrame) => !x.restricted && !x.evtSuspended && !x.integrating && !(x.tdcFault && fr.brs) && eventFits (section_ s l secMatrix) (nodeThruster s) s.time.cycle s.time.tick net.val fr x
    (∀ n, n ≠ net → netOf l n t = netOf l n s) ∧ (nextEvent x = none → y = x ∧ emits [] s t) ∧ (∀ fr pos, nextEvent x = some (fr, pos) → fits fr = false → y = x ∧ emits [] s t) ∧
    (∀ fr pos, nextEvent x = some (fr, pos) → fits fr = true →
      (r = .acked → y.events = x.events.eraseIdx pos ∧ y.attempts = 0 ∧ (s.power.pfail = false → emits (if x.loopback then [] else [.can l net.val fr.ident fr.xtd fr.data]) s t)) ∧
      (r = .noAck → x.attempts < 15 → y.events = x.events ∧ y.attempts = x.attempts + 1 ∧ y.ackErr = satAdd 0xFF x.ackErr 1) ∧
      (r = .noAck → 15 ≤ x.attempts → y.events = x.events.eraseIdx pos ∧ y.attempts = 0 ∧ y.noPeer = true ∧ y.txAbort = satAdd 0xFF x.txAbort 1) ∧
      (r = .bitError → emits [] s t ∧ (clashRun (fr.xtd, fr.ident) x < 2 → y.events = x.events ∧ y.suspended = x.suspended) ∧
        (nhMode (netBlock l net s) = 2 → ownCellName (nodeThruster s) (netBlock l net s) x (fr.xtd, fr.ident) = true → y.events = x.events ∧ y.suspended = x.suspended ∧
          (1 ≤ clashRun (fr.xtd, fr.ident) x → y.idClash = true)) ∧
        ((nhMode (netBlock l net s) ≠ 2 ∨ ownCellName (nodeThruster s) (netBlock l net s) x (fr.xtd, fr.ident) = false) → 2 ≤ clashRun (fr.xtd, fr.ident) x → (∀ e ∈ y.events, ¬(e.ident = fr.ident ∧ e.xtd = fr.xtd)) ∧ ((fr.xtd, fr.ident) ∈ y.suspended ∨ y.evtSuspended = true))) ∧
      (r = .startError → emits [] s t ∧ y.events = x.events ∧ y.suspended = x.suspended ∧ y.clashes = x.clashes ∧ y.bitErr = satAdd 0xFF x.bitErr 1) ∧
      (r = .busy → y = x ∧ emits [] s t)) ∧ Same [.outbox] (inLane l [.bus, .counters, .occurred, .bw]) s t) ∧
  (∀ (l : LaneId) (net : Fin 4) (s : State), busRuns s l = true → dueAt (laneCodeOf (80 + net.val) l) 19900 s → leaves (.netPeerCount l net) s fun t =>
    let x := netOf l net s
    let y := netOf l net t
    t.time.tick = 19900 ∧ (∀ n, n ≠ net → netOf l n t = netOf l n s) ∧ y.expect = none ∧
    (s.isNode = false → net.val < 2 → x.restricted = false → (s.lane l).staged = [] →
      (x.state = 2 → y.state = if nhNopeer (netBlock l net s) ≤ (if x.acked then 0 else x.unackRun + 1) then 3 else 2) ∧
      (x.state = 3 → y.state = if nhReturn (netBlock l net s) ≤ (if x.acked then x.ackRun + 1 else 0) then 2 else 3) ∧ (x.state ≠ 2 → x.state ≠ 3 → y.state = x.state)) ∧
    (∀ g, (s.lane l).staged = [g] → u8 g.params 0 = net.val → (g.opcode = 0x0804 ∨ g.opcode = 0x0805 → (t.lane l).staged = []) ∧
      (g.opcode = 0x0804 → u8 g.params 1 ≠ 0 → ¬(x.state = 0 ∨ x.state = 5 ∨ x.state = 6) → y.state = 4 ∧ y.loopback = (u8 g.params 1 == 2)) ∧
      (g.opcode = 0x0804 → u8 g.params 1 ≠ 0 → x.state = 0 ∨ x.state = 5 ∨ x.state = 6 → y.state = x.state) ∧
      (g.opcode = 0x0805 → x.state ≠ 0 → y.state = 1 ∧ y.tec = 0 ∧ y.rec_ = 0 ∧ y.busoffs = [])) ∧ Same [.time] (inLane l [.bus, .staged, .counters, .occurred]) s t) ∧
  (∀ (l : LaneId) (net : Fin 4) (s : State), busRuns s l = true →
    (leaves (.busIdleDetect l net) s fun t => (netOf l net t).state = (if (netOf l net s).state = 0 ∧ nhMode (netBlock l net s) ≠ 0 ∧
        (3 ≤ s.laneState l ∨ s.laneRuns l.other = false ∨ (s.arb.lane l.other).running = false) then 1 else (netOf l net s).state) ∧
      (∀ n, n ≠ net → (netOf l n t).state = (netOf l n s).state) ∧ (s.isNode = true → (netOf l net t).restricted = false) ∧
      (s.isNode = false → (netOf l net t).restricted = (netOf l net s).restricted) ∧ Same [] (inLane l [.bus]) s t) ∧
    (leaves (.busOffRecovery l net) s fun t => netOf l net t = (if (netOf l net s).state = 5 then { netOf l net s with state := 1, tec := 0, rec_ := 0, loopback := false } else netOf l net s) ∧
      (∀ n, n ≠ net → netOf l n t = netOf l n s) ∧ Same [] (inLane l [.bus]) s t) ∧
    leaves (.busEvtDoorbell l net) s fun t =>
      let fr := entryFrame (vget (s.lane l).bus.evtEntry net.val)
      (netOf l net t).events = (if (fr.xtd, fr.ident) ∈ (netOf l net s).suspended ∨ 16 ≤ (netOf l net s).events.length then (netOf l net s).events else (netOf l net s).events ++ [fr]) ∧
      (∀ n, n ≠ net → netOf l n t = netOf l n s) ∧ Same [] (inLane l [.bus]) s t) ∧
  (∀ (l : LaneId) (net : Fin 4) (m : Fin 64) (s : State), (s.laneRuns l && clocked s l 5) = false → exec (.mailboxAck l net m) s = .next s) ∧
  ∀ (l : LaneId) (net : Fin 4) (m : Fin 64) (s : State), (s.laneRuns l && clocked s l 5) = true → leaves (.mailboxAck l net m) s fun t =>
    (netOf l net t).mailboxes[m] = { (netOf l net s).mailboxes[m] with fresh := false, lost := false } ∧
    (∀ j, j ≠ m → (netOf l net t).mailboxes[j] = (netOf l net s).mailboxes[j]) ∧ (∀ n, n ≠ net → netOf l n t = netOf l n s) ∧ Same [] (inLane l [.bus]) s t

/-- An access of a core ends with a bus error and no effect where the address map allows none; a refused slot write counts and sets its flag (R39 to
R42); one to an island whose clock stands waits in its queue (R25; its layout there is log entry 66), and a core that holds one beyond the
queue's depth waits and accesses nothing (R28, log entry 66). A write to SRAM, external or an open memory
changes exactly its bytes, a mirror write the other lane's SRAM, and a read returns the bytes stored. A register write has its address's effect, a
read of a read-clear counter clears it; reads of CYCLE_LO, OFFSET_LO, ERR_ADDR_LO and a counter's value latch the rest (R17, R49, R166, R521, R563). A
scrubbed or demanded word without error changes nothing; corrected symbols are counted; an uncorrectable error is counted, its address and information
held, and the regions of R559 make the lane unhealthy (R556 to R559). Each memory request gets one response, the first from the source of the tick
when it asks (R560). BW_WINDOW_UPDATE ends the long cycle's windows and takes those of the other lane (R526, R527). (Derived from
01_module_architecture.md, 02_control_cycle.md, 06_belfry_time.md, 20_counters_and_service_test.md, 22_memory.md.) -/
def Obligations.AccessesReachMemoryAndRegisters : Prop :=
  (∀ (l : LaneId) (c : Fin 4) (x n : Nat) (w : Option Bytes) (s : State), coreRuns s l c.val = false → exec (.mgmtAccess l c x n w) s = .next s) ∧
  (∀ (l : LaneId) (c : Fin 4) (x n : Nat) (s : State), coreRuns s l c.val = true →
    (busError s l x (max 1 n) false = true → leaves (.mgmtAccess l c x n none) s fun t => (t.lane l).access = ⟨true, []⟩ ∧ Same [] (inLane l [.access]) s t) ∧
    (∀ r lo hi, busError s l x (max 1 n) false = false → regionAt x = some (r, lo, hi) → r = .sram ∨ r = .external → accessWaits s l x = false → leaves (.mgmtAccess l c x n none) s fun t =>
      (t.lane l).access = ⟨false, (s.mem l).load x n⟩ ∧ Same [] (inLane l [.access]) s t) ∧
    (∀ i, busError s l x (max 1 n) false = false → accessIsland x = some i → vget (s.lane l).pmu.clockRuns i = false → leaves (.mgmtAccess l c x n none) s fun t =>
      let q := if i = 7 then 13 else 11
      (vget (t.lane l).queued q).waiting = (vget (s.lane l).queued q).waiting ++ [{ place := i, words := [c.val, x, n] }] ∧ (t.lane l).access = (s.lane l).access ∧
      Same [] (inLane l [.queued]) s t)) ∧
  (∀ (l : LaneId) (c : Fin 4) (x n : Nat) (d : Bytes) (s : State), coreRuns s l c.val = true →
    (busError s l x (max 1 d.length) true = true → leaves (.mgmtAccess l c x n (some d)) s fun t => (t.lane l).access = ⟨true, []⟩ ∧ Same [] (inLane l [.access]) s t) ∧
    (∀ i, busError s l x (max 1 d.length) true = false → accessWaits s l x = false → slotRefused s l x = some i → leaves (.mgmtAccess l c x n (some d)) s fun t => (t.lane l).access = ⟨true, []⟩ ∧
      (vget (t.lane l).pmu.flags i).slotRefused = true ∧ Same [] (inLane l [.access, .pmu, .counters, .occurred]) s t) ∧
    (∀ r lo hi, busError s l x (max 1 d.length) true = false → accessWaits s l x = false → slotRefused s l x = none → regionAt x = some (r, lo, hi) → s.memWf = true →
      (r = .sram ∨ r = .external ∨ r = .cupola ∨ r = .spire → leaves (.mgmtAccess l c x n (some d)) s fun t => (t.lane l).access = ⟨false, []⟩ ∧
        (∀ a, (t.mem l).read a = if x ≤ a ∧ a < x + d.length then d.getD (a - x) 0 else (s.mem l).read a) ∧
        Same [memPart l] (inLane l (.access :: if r = .cupola then [.cupola] else if r = .spire then [.alloc] else [])) s t) ∧
      (r = .mirror → s.laneRuns l.other = true → s.bridgeFault = false → leaves (.mgmtAccess l c x n (some d)) s fun t => (t.lane l).access = ⟨false, []⟩ ∧
        (∀ a, (t.mem l.other).read a = if x - 0x08000000 + 0x00B00000 ≤ a ∧ a < x - 0x08000000 + 0x00B00000 + d.length then d.getD (a - (x - 0x08000000 + 0x00B00000)) 0
          else (s.mem l.other).read a) ∧ Same [memPart l.other] (inLane l [.access]) s t))) ∧
  (∀ (l : LaneId) (x w : Nat) (s : State), s.laneRuns l = false → exec (.registerWrite l x w) s = .next s ∧ exec (.registerReadClear l x) s = .next s ∧
    exec (.cycleLoRead l) s = .next s ∧ exec (.offsetLoRead l) s = .next s ∧ exec (.errAddrLoRead l) s = .next s ∧ ∀ k, exec (.cntValueLowRead l k) s = .next s) ∧
  (∀ (l : LaneId) (x w : Nat) (s : State), coreRuns s l 0 = true → leaves (.registerWrite l x w) s fun t =>
    (busError s l x 4 true = true ∨ accessWaits s l x = false → (t.lane l).access = ⟨busError s l x 4 true || (slotRefused s l x).isSome, []⟩) ∧
    (busError s l x 4 true = true → Same [] (inLane l [.access]) s t) ∧ (busError s l x 4 true = false → accessWaits s l x = true → Same [] (inLane l [.queued]) s t) ∧
    (busError s l x 4 true = false → accessWaits s l x = false → w < 2 ^ 32 → x = 0x04060304 → (t.lane l).pmu.mem = { (s.lane l).pmu.mem with
        ueAny := (s.lane l).pmu.mem.ueAny && !bitOf 30 w, ceAny := (s.lane l).pmu.mem.ceAny && !bitOf 29 w, persistent := (s.lane l).pmu.mem.persistent && !bitOf 28 w } ∧
      Same [] (inLane l [.access, .pmu]) s t) ∧
    (∀ k < 64, busError s l x 4 true = false → accessWaits s l x = false → w < 2 ^ 32 → x = 0x04070008 + 16 * k → (t.lane l).counters = cntConfigWrite k w (s.lane l).counters ∧
      Same [] (inLane l [.access, .counters]) s t)) ∧
  (∀ (l : LaneId) (x : Nat) (s : State), coreRuns s l 0 = true → leaves (.registerReadClear l x) s fun t =>
    (busError s l x 4 false = true ∨ accessWaits s l x = false → (t.lane l).access.busError = busError s l x 4 false) ∧
    (busError s l x 4 false = true → Same [] (inLane l [.access]) s t) ∧ (busError s l x 4 false = false → accessWaits s l x = true → Same [] (inLane l [.queued]) s t) ∧
    (busError s l x 4 false = false → accessWaits s l x = false → x = 0x04060308 → u32 (t.lane l).access.data 0 = (s.lane l).pmu.mem.ce % 2 ^ 32 ∧ (t.lane l).pmu.mem = { (s.lane l).pmu.mem with ce := 0 } ∧
      Same [] (inLane l [.access, .pmu]) s t) ∧
    (busError s l x 4 false = false → accessWaits s l x = false → x = 0x0406030C → u32 (t.lane l).access.data 0 = (s.lane l).pmu.mem.ue % 2 ^ 32 ∧ (t.lane l).pmu.mem = { (s.lane l).pmu.mem with ue := 0 } ∧
      Same [] (inLane l [.access, .pmu]) s t)) ∧
  (∀ (l : LaneId) (s : State), coreRuns s l 0 = true →
    (busError s l 0x04060100 4 false = false → accessWaits s l 0x04060100 = false → leaves (.cycleLoRead l) s fun t => u32 (t.lane l).access.data 0 = s.time.cycle % 2 ^ 32 ∧
      (t.lane l).pmu = { (s.lane l).pmu with cycleHiLatch := atF 16 6 s.phase + atF 0 16 (s.time.cycle / 2 ^ 32) } ∧ Same [] (inLane l [.access, .pmu]) s t) ∧
    (s.power.skyOn = true → leaves (.offsetLoRead l) s fun t => u32 (t.lane l).access.data 0 = ofSigned 64 s.belfry.offsetNs % 2 ^ 32 ∧
      t.belfry = { s.belfry with hiLatch := ofSigned 64 s.belfry.offsetNs / 2 ^ 32 } ∧ Same [.belfry] (inLane l [.access]) s t) ∧
    (s.power.skyOn = false → leaves (.offsetLoRead l) s fun t => (t.lane l).access = ⟨true, []⟩ ∧ Same [] (inLane l [.access]) s t) ∧
    (busError s l 0x04060310 4 false = false → accessWaits s l 0x04060310 = false → leaves (.errAddrLoRead l) s fun t => u32 (t.lane l).access.data 0 = (s.lane l).pmu.mem.errAddr % 2 ^ 32 ∧
      (t.lane l).pmu.mem = { (s.lane l).pmu.mem with errHiLatch := (s.lane l).pmu.mem.errAddr / 2 ^ 32 % 256 } ∧ Same [] (inLane l [.access, .pmu]) s t) ∧
    ∀ k : Fin 64, busError s l (0x04070000 + 16 * k.val) 4 false = false → accessWaits s l (0x04070000 + 16 * k.val) = false → leaves (.cntValueLowRead l k) s fun t =>
      let c := vget (s.lane l).counters k.val
      (k.val % 2 = 0 → (vget (s.lane l).counters (k.val + 1)).chain = true → u32 (t.lane l).access.data 0 = c.value % 2 ^ 32 ∧
        (vget (t.lane l).counters (k.val + 1)).latch = some (vget (s.lane l).counters (k.val + 1)).value) ∧
      (k.val % 2 = 1 → c.latch = none → u32 (t.lane l).access.data 0 = c.value % 2 ^ 32 ∧ (t.lane l).counters = (s.lane l).counters) ∧
      (∀ v, k.val % 2 = 1 → c.latch = some v → u32 (t.lane l).access.data 0 = v % 2 ^ 32 ∧ (vget (t.lane l).counters k.val).latch = none) ∧
      Same [] (inLane l [.access, .counters]) s t) ∧
  (∀ (l : Option LaneId) (g x p m : Nat) (c : CodeResult) (d : Bool) (s : State), (!scrubReach s l g || (g == 15 && !d)) = true → exec (.scrubAccess l g x c p m d) s = .next s) ∧
  (∀ (l : Option LaneId) (g x p m : Nat) (d : Bool) (s : State), (!scrubReach s l g || (g == 15 && !d)) = false →
    (1 < g ∨ d = true → exec (.scrubAccess l g x .clean p m d) s = .next s) ∧
    (∀ n, leaves (.scrubAccess l g x (.corrected n) p m d) s fun t => (memOf t l).ce = satAdd 0xFFFFFFFF (memOf s l).ce n ∧ (memOf t l).ceAny = true ∧ (memOf t l).ue = (memOf s l).ue ∧
      (∀ k, l = some k → Same noted (inLaneAnd k [.pmu] toldParts) s t) ∧ (l = none → Same (.power :: noted) (bothLanes toldParts) s t)) ∧
    ∀ e, leaves (.scrubAccess l g x (.bad e) p m d) s fun t => (memOf t l).ue = satAdd 0xFFFFFFFF (memOf s l).ue 1 ∧ (memOf t l).ueAny = true ∧ (memOf t l).errAddr = x ∧
      (memOf t l).errInfo = memErrInfo g (regionIsland g) (if d = false then 5 else if l = none then 7 else 6) d e ∧ (memOf t l).ce = (memOf s l).ce ∧
      t.memA = s.memA ∧ t.memB = s.memB ∧ (∀ k, l = some k → s.isNode = false → g ∈ [2, 4, 5, 9, 10, 11, 12] ∨ (d = true ∧ g ∈ [1, 3]) → (t.lane k).pmu.memUnhealthy = true) ∧
      (∀ k, l = some k → s.isNode = false → g ∈ [1, 2, 3] → Same noted (inLaneAnd k [.pmu] (.instant :: toldParts)) s t)) ∧
  (∀ (l : LaneId) (q : List MemAccess) (s : State), (s.laneRuns l && s.islandRuns l 7) = false → exec (.memRequest l q) s = .next s) ∧
  (∀ (l : LaneId) (q : List MemAccess) (s : State), (s.laneRuns l && s.islandRuns l 7) = true → leaves (.memRequest l q) s fun t =>
    ((t.lane l).pmu.q14.map fun r => (r.source, r.addr)).Perm (q.map fun r => (r.source, r.addr)) ∧
    ((∃ r ∈ q, r.source.val = s.time.tick % 5) → ((t.lane l).pmu.q14.head?.map fun r => r.source.val) = some (s.time.tick % 5)) ∧
    (∀ r, q = [r] → busError s l r.addr (max 1 r.len) r.wdata.isSome = true → (t.lane l).pmu.q14 = [⟨r.source, r.addr, none⟩] ∧ Same [] (inLane l [.pmu]) s t) ∧
    (∀ r, q = [r] → 0x100000000 ≤ r.addr → busError s l r.addr (max 1 r.len) r.wdata.isSome = false → r.code = .clean →
      (r.wdata = none → (t.lane l).pmu.q14 = [⟨r.source, r.addr, some ((s.mem l).load r.addr r.len)⟩] ∧ Same [] (inLane l [.pmu]) s t) ∧
      (∀ d, r.wdata = some d → s.memWf = true → (t.lane l).pmu.q14 = [⟨r.source, r.addr, some []⟩] ∧
        (∀ a, (t.mem l).read a = if r.addr ≤ a ∧ a < r.addr + d.length then d.getD (a - r.addr) 0 else (s.mem l).read a) ∧ Same [memPart l] (inLane l [.pmu]) s t)) ∧
    (∀ r e, q = [r] → 0x100000000 ≤ r.addr → busError s l r.addr (max 1 r.len) r.wdata.isSome = false → r.code = .bad e → r.wdata = none →
      (t.lane l).pmu.q14 = [⟨r.source, r.addr, none⟩] ∧ (t.lane l).pmu.mem.errAddr = r.addr ∧ t.memA = s.memA ∧ t.memB = s.memB)) ∧
  (∀ s : State, (s.power.booted && s.phase == 0) = false → exec .bwWindowUpdate s = .next s) ∧
  ∀ s : State, (s.power.booted && s.phase == 0) = true → dueAt 150 1 s → leaves .bwWindowUpdate s fun t => t.time.tick = 1 ∧
    (∀ l, s.laneRuns l = true → (t.lane l).bwRemote = (if s.laneRuns l.other && !s.bridgeFault then (s.lane l.other).bw else (s.lane l).bwRemote) ∧
      ∀ k : Fin 19, (t.lane l).bw[k].bwIn = (s.lane l).bw[k].curIn % 2 ^ 32 ∧ (t.lane l).bw[k].bwOut = (s.lane l).bw[k].curOut % 2 ^ 32 ∧
        (t.lane l).bw[k].frames = min 0xFFFF (s.lane l).bw[k].curFrames ∧ (t.lane l).bw[k].drops = min 0xFFFF (s.lane l).bw[k].curDrops ∧ (t.lane l).bw[k].curIn = 0) ∧
    (∀ l, s.laneRuns l = false → t.lane l = s.lane l) ∧ Same [.time] (bothLanes [.bw, .bwRemote]) s t

/-- A record of a running sender enters the queue at the end, unless the budget lacks its bytes and it is no integrity record, or the queue is full: it is
then dropped and counted (R489, R491). A flash unit that verifies has its effect: the oldest queued record stands in the log with the next index, a
TALLY entry holds the power cycle and operating time; one that does not is tried once again, and a log sector whose second try fails is retired (R486,
R492, R494). TALLY_PERIODIC every 360 s, SUMMARY_WRITE and BOOK_SAVE every 3,600 s, and SECTOR_REFRESH for a sector of 5 years hand their unit to the
flash, and do nothing before (R487, R498, R501, R509). KEEP_HISTOGRAM_SAMPLE enters the dies' temperatures at a long-cycle boundary (R496). (Derived
from 18_keep_recorder.md, 19_lantern_panel.md.) -/
def Obligations.KeepRecordsAndWritesTheFlash : Prop :=
  (∀ (src : Option LaneId) (typ : Nat) (i : Bool) (d : Bytes) (s : State),
    ((s.power.booted && src.all fun l => s.laneRuns l && !(s.lane l).wtFault) = false ∨ (typ = 3 ∧ src ≠ some s.sel) → exec (.keepRecordEnqueue src typ i d) s = .next s) ∧
    ((s.power.booted && src.all fun l => s.laneRuns l && !(s.lane l).wtFault) = true → (typ = 3 → src = some s.sel) → leaves (.keepRecordEnqueue src typ i d) s fun t =>
      (s.keep.st = 3 → s.keep.dropRecs = 0 → t.keep = s.keep) ∧
      (s.keep.st ≠ 3 → s.keep.dropRecs = 0 →
        let r : KeepRec := ⟨typ, (src.map fun l => l.num + 1).getD 0, recordIntegrity typ i, d, opSecs s.time.us s.keep, keepCycle s⟩
        (recordIntegrity typ i = false → s.keep.pfail = false → budgetAt s.time.us s.keep < r.len → t.keep.queue = s.keep.queue ∧ t.keep.dropRecs = 1 ∧
          t.keep.dropBytes = s.keep.dropBytes + r.len ∧ t.keep.dropBudget = satAdd 0xFFFF s.keep.dropBudget 1) ∧
        ((recordIntegrity typ i = false ∧ s.keep.pfail = true) ∨
          ((recordIntegrity typ i = true ∨ ((r.len : Int) ≤ budgetAt s.time.us s.keep ∧ s.keep.pfail = false)) ∧ 32768 < queuedBytes s.keep + r.len) → t.keep = { s.keep with dropQueue := satAdd 0xFFFF s.keep.dropQueue 1 }) ∧
        (recordIntegrity typ i = true ∨ ((r.len : Int) ≤ budgetAt s.time.us s.keep ∧ s.keep.pfail = false) → queuedBytes s.keep + r.len ≤ 32768 →
          t.keep.queue = s.keep.queue ++ [r] ∧ t.keep.budget = budgetAt s.time.us s.keep - r.len ∧ t.keep.flash = s.keep.flash)) ∧
      Same [.keep] (bothLanes countedParts) s t)) ∧
  (∀ (ok : Bool) (s : State), s.power.booted = false → exec (.flashUnitDone ok) s = .next s) ∧
  (∀ (ok : Bool) (s : State), s.power.booted = true → s.keep.dropRecs = 0 → leaves (.flashUnitDone ok) s fun t => Same [.keep, .lantern] noLane s t ∧
    (∀ u, s.keep.busy = some (u, false) → ok = false → t.keep = { s.keep with busy := some (u, true) }) ∧
    (∀ b r rest, s.keep.busy = some (.record, b) → ok = true → s.keep.queue = r :: rest → t.keep.queue = rest ∧ t.keep.nextIndex = s.keep.nextIndex + 1 ∧
      ∃ sec off, t.keep.flash.log = s.keep.flash.log ++ [⟨s.keep.nextIndex, r.typ, sec, off, recordBytes s.keep.powerCycle s.keep.nextIndex r⟩]) ∧
    (∀ b n, s.keep.busy = some (.tally n, b) → ok = true → t.keep.flash.tally = some ⟨s.keep.powerCycle, opSecs s.time.us s.keep, n⟩ ∧ t.keep.queue = s.keep.queue) ∧
    (s.keep.busy = some (.record, true) → ok = false → t.keep.flashErr = true ∧ s.keep.flash.sector ∈ t.keep.flash.retired ∧ t.keep.queue = s.keep.queue ∧
      ∀ r ∈ t.keep.flash.log, r.sector ≠ s.keep.flash.sector)) ∧
  (∀ s : State, (s.power.booted && !s.power.pfail && s.keep.st != 3) = false → exec .tallyPeriodic s = .next s ∧ exec .summaryWrite s = .next s ∧ exec .sectorRefresh s = .next s ∧
    exec .bookSave s = .next s ∧ exec .keepHistogramSample s = .next s) ∧
  (∀ s : State, (s.power.booted && !s.power.pfail && s.keep.st != 3) = true →
    (opSecs s.time.us s.keep < s.keep.lastTally + 360 ∨ unitWaits s.keep (· == .tally 1) = true → exec .tallyPeriodic s = .next s) ∧
    (s.keep.lastTally + 360 ≤ opSecs s.time.us s.keep → unitWaits s.keep (· == .tally 1) = false → leaves .tallyPeriodic s fun t => unitWaits t.keep (· == .tally 1) = true ∧
      t.keep.queue = s.keep.queue ∧ t.keep.flash = s.keep.flash ∧ Same [.keep] noLane s t) ∧
    (opSecs s.time.us s.keep < s.keep.lastSummary + 3600 → exec .summaryWrite s = .next s) ∧
    (s.keep.lastSummary + 3600 ≤ opSecs s.time.us s.keep → leaves .summaryWrite s fun t => t.keep.lastSummary = opSecs s.time.us s.keep ∧
      unitWaits t.keep (· == .summary summaryUnits) = true ∧ t.keep.hists = s.keep.hists ∧ t.keep.flash = s.keep.flash ∧ Same [.keep] (bothLanes countedParts) s t) ∧
    ((refreshable s.keep.flash).find? (fun p => decide (p.2 + 157680000 ≤ opSecs s.time.us s.keep)) = none ∨ s.keep.refreshing = true ∨ s.time.us < s.keep.lastRefreshUs + 10000000 →
      exec .sectorRefresh s = .next s) ∧
    (∀ a b, (refreshable s.keep.flash).find? (fun p => decide (p.2 + 157680000 ≤ opSecs s.time.us s.keep)) = some (a, b) → s.keep.refreshing = false →
      unitWaits s.keep (fun u => u.prio == 8) = false → s.keep.flash.statePos + 3 ≤ 1024 → s.keep.lastRefreshUs + 10000000 ≤ s.time.us → leaves .sectorRefresh s fun t =>
        t.keep.lastRefreshUs = s.time.us ∧ unitWaits t.keep (· == .refreshCopy a) = true ∧ t.keep.flash = s.keep.flash ∧ Same [.keep] noLane s t) ∧
    (s.phase ≠ 0 → exec .keepHistogramSample s = .next s) ∧
    (s.phase = 0 → dueAt 151 s.time.tick s → s.keep.sample = none → leaves .keepHistogramSample s fun t =>
      t.keep = { s.keep with hists := ((List.range 4).filter (dieOn s)).foldl (fun h d => histAdd (d + 1) (tempBin (vget s.power.temps d)) 1 h) s.keep.hists } ∧
      Same [.time, .keep] noLane s t) ∧
    (∀ e, s.phase = 0 → dueAt 151 s.time.tick s → s.keep.sample = some ⟨[], [e]⟩ → leaves .keepHistogramSample s fun t => t.keep.sample = none ∧
      t.keep.extremes = (extremeStep e.1 e.2.1 e.2.2.1 e.2.2.2 s.keep.powerCycle (opSecs s.time.us s.keep) s.keep.extremes).1 ∧ Same [.time, .keep] (bothLanes countedParts) s t) ∧
    ((decide (s.lantern.lastSave + 3600 ≤ opSecs s.time.us s.keep) && !s.lantern.table.isEmpty && decide (0 < ltnPixels s.lantern.table)) = false → exec .bookSave s = .next s) ∧
    ((decide (s.lantern.lastSave + 3600 ≤ opSecs s.time.us s.keep) && !s.lantern.table.isEmpty && decide (0 < ltnPixels s.lantern.table)) = true → leaves .bookSave s fun t =>
      unitWaits t.keep (· == .lantern lanternUnits (ltnSlot (opSecs s.time.us s.keep) s.lantern)) = true ∧ t.keep.flash = s.keep.flash ∧
      t.lantern = { s.lantern with lastSave := opSecs s.time.us s.keep } ∧ Same [.keep, .lantern] noLane s t))

/-- LANTERN_UPDATE_START with a pending target, no update, 1,000 ms since the last start and a temperature in a band fixes target and band, raises the
pump and its domain, and takes the request that waited (R505, R510, R514); otherwise the panel stays as it is. PUMP_RAILS_READY lets its frames be
driven. LANTERN_UPDATE_END of a driven update stores its book, shows its identifier, counts it, lowers the pump, draws the status screen after the
clear of start-up, and sets DISPLAYED when it shows the check value of the pending block (R386, R508, R510). PUMP_RAIL_FAULT breaks an update off with
the book as before (R505). PANEL_TEMP_SAMPLE keeps the temperature and chooses the band (R511). STATUS_RENDER asks for an update in mode 0 when the
content changed (R512). (Derived from 19_lantern_panel.md, 14_diver_zone_safety.md, 17_opcode_reference.md.) -/
def Obligations.PanelUpdatesStartDriveAndEnd : Prop :=
  (∀ s : State, (s.power.booted && !s.power.pfail) = false → exec .lanternUpdateStart s = .next s) ∧
  (∀ s : State, (s.power.booted && !s.power.pfail) = true →
    (∀ w, s.lantern.pending = some w → s.lantern.run = none → s.lantern.st = 1 ∨ s.lantern.st = 2 → (∀ u, s.lantern.lastStart = some u → u + 1000000 ≤ s.time.us) →
      s.lantern.tempRead = true → s.lantern.tempOut = false → leaves .lanternUpdateStart s fun t =>
        (∃ r, t.lantern.run = some r ∧ r.target = w ∧ r.band = s.lantern.band ∧ r.driven = false ∧ r.book.length = ltnPixels s.lantern.table) ∧ t.lantern.pumpOn = true ∧
        vget t.power.on 1 = true ∧ t.lantern.lastStart = some s.time.us ∧ t.lantern.targetId = imageIdOf w ∧ t.lantern.pending = s.lantern.next ∧ t.lantern.next = none ∧
        t.lantern.st = (if s.lantern.st = 1 then 1 else 3) ∧ t.lantern.book = s.lantern.book ∧ Same [.lantern, .power] noLane s t) ∧
    (s.lantern.pending = none ∨ s.lantern.run ≠ none ∨ s.lantern.tempRead = false ∨ s.lantern.tempOut = true ∨ (∃ u, s.lantern.lastStart = some u ∧ s.time.us < u + 1000000) →
      leaves .lanternUpdateStart s fun t => t.lantern = s.lantern ∧ Same [.power] noLane s t)) ∧
  (∀ s : State, leaves .pumpRailsReady s fun t => t.lantern = { s.lantern with run := s.lantern.run.map fun r =>
      if r.driven then r else { r with driven := true, fromUs := s.time.us } } ∧ Same [.lantern] noLane s t) ∧
  (∀ s : State, leaves .pumpRailFault s fun t => (s.lantern.run = none → t.lantern = s.lantern) ∧
    (s.lantern.run ≠ none → t.lantern = { s.lantern with run := none, pumpOn := false, pumpFault := true, st := idleSt s.lantern.st, targetId := 0, interrupted := satAdd 0xFFFFFFFF s.lantern.interrupted 1 } ∧
      vget t.power.on 1 = false) ∧ Same [.lantern, .power] noLane s t) ∧
  (∀ s : State, (∀ r, s.lantern.run = some r → r.driven = false) → exec .lanternUpdateEnd s = .next s) ∧
  (∀ (r : LtnRun) (s : State), s.lantern.run = some r → r.driven = true → leaves .lanternUpdateEnd s fun t =>
    t.lantern.run = none ∧ t.lantern.book = r.book ∧ t.lantern.imageId = imageIdOf r.target ∧ t.lantern.screen = r.target.screen ∧ t.lantern.targetId = 0 ∧
    t.lantern.updates = (s.lantern.updates + 1) % 2 ^ 32 ∧ t.lantern.st = idleSt s.lantern.st ∧ t.lantern.pumpOn = false ∧ vget t.power.on 1 = false ∧
    t.lantern.pending = (if s.lantern.st = 1 ∧ s.lantern.pending = none then some (statusTarget s) else s.lantern.pending) ∧
    (r.target.screen = 0x7F → nowDisplayed r.target s = true → t.safety = { s.safety with displayed := true }) ∧
    (r.target.screen ≠ 0x7F ∨ nowDisplayed r.target s = false → t.safety = s.safety) ∧ Same [.lantern, .power, .safety] noLane s t) ∧
  (∀ (w : Int) (s : State), (s.power.booted = false → exec (.panelTempSample w) s = .next s) ∧
    (s.power.booted = true → leaves (.panelTempSample w) s fun t => t.lantern.temp = w ∧ t.lantern.tempRead = true ∧ t.lantern.tempOut = (bandOf s.lantern.table w).isNone ∧
      (∀ k, bandOf s.lantern.table w = some k → s.lantern.tempRead = false → t.lantern.band = k) ∧ (bandOf s.lantern.table w = none → t.lantern.band = s.lantern.band) ∧
      t.lantern.run = s.lantern.run ∧ Same [.lantern] noLane s t)) ∧
  ∀ s : State, (s.power.booted = false ∨ s.lantern.reserved = true ∨ (s.lantern.mode = 0 ∧ s.lantern.lastStatus = some (statusContent s)) → exec .statusRender s = .next s) ∧
    (s.power.booted = true → s.lantern.reserved = false → s.lantern.mode = 0 → s.lantern.lastStatus ≠ some (statusContent s) → leaves .statusRender s fun t =>
      t.lantern.lastStatus = some (statusContent s) ∧
      (s.lantern.st = 2 ∨ s.lantern.st = 3 → (∀ p, s.lantern.pending = some p → p.screen ≠ 0x7F) → t.lantern.pending = some (statusTarget s)) ∧
      (∀ p, s.lantern.st = 2 ∨ s.lantern.st = 3 → s.lantern.pending = some p → p.screen = 0x7F → t.lantern.pending = some p) ∧ Same [.lantern] noLane s t)

/-- The first valid reference frame of a cycle gives a node's phase error, lock, cycle count and, beyond 20 µs, its tick; a second one changes none of
them (R568). NODE_HOLDOVER_EXPIRE ends the lock after HOLDOVER cycles without one (R569); NODE_TIMING_FALLBACK tries the pending bit timing after two
cycles, and leaves it after two (R571). A command of this node's thruster with a right check applies when it is newer or a repeat, is dropped as stale
when older; its second copy shows a difference, and is applied when it is newer and none was applied in the cycle (R572). DRIVE_CMD_RESEND sends the
drive frame again at tick 15,000 of a cycle without a command (R573). CMD_HOLD_TIMEOUT acts by its action once the hold has passed; a ramp moves the
output one step towards its target (R574, R575). On a module that runs no node, all of them change nothing. (Derived from 23_node_role.md.) -/
def Obligations.NodesFollowReferenceAndCommand : Prop :=
  (∀ (net : Fin 4) (f d : Bytes) (i : Nat) (o : Int) (s : State), nodeRuns s = false → exec (.nodeReferenceReceive net f o) s = .next s ∧ exec .nodeHoldoverExpire s = .next s ∧
    exec .nodeTimingFallback s = .next s ∧ exec (.nodeCommandReceive net i ⟨d, i⟩) s = .next s ∧ exec .driveCmdResend s = .next s ∧ exec .cmdHoldTimeout s = .next s ∧ exec .rampStep s = .next s) ∧
  (∀ (net : Fin 4) (f : Bytes) (o : Int) (s : State), 2 ≤ net.val ∨ f.length ≠ 8 → exec (.nodeReferenceReceive net f o) s = .next s) ∧
  (∀ (net : Fin 4) (f : Bytes) (o : Int) (s : State), nodeRuns s = true → net.val < 2 → f.length = 8 → s.node.pending ≠ u16 f 6 ∨ s.laneA.image.staged ≠ 6 ∨ s.node.pending = 0 →
    leaves (.nodeReferenceReceive net f o) s fun t =>
      let e := o - (colStart (nodeNet s net.val) 0 : Int) * 1000
      (s.node.refThis = true → t.time = s.time ∧ t.node.e = s.node.e ∧ t.node.locked = s.node.locked ∧ t.node.steer = s.node.steer ∧ t.node.lastRef = s.node.lastRef) ∧
      (s.node.refThis = false → t.node.e = e ∧ t.node.refThis = true ∧ t.node.locked = decide (|e| ≤ 2000) ∧ t.node.lastRef = some (u32 f 0) ∧ t.node.noRefRun = 0 ∧
        t.time.cycle = u32 f 0 ∧ t.node.refMatrix = some (u16 f 6) ∧
        (|e| ≤ 20000 → t.time.tick = s.time.tick ∧ t.node.steer = s.node.steer + clampI (-2000) 2000 (roundAway (-(e : ℚ) / 4))) ∧
        (20000 < |e| → t.time.tick = (clampI 0 19999 ((s.time.tick : Int) - e / 1000)).toNat ∧ t.node.steer = s.node.steer)) ∧
      t.node.cmd = s.node.cmd ∧ t.node.out = s.node.out ∧ Same (.time :: .node :: noted) (bothLanes ([.bus, .ingest, .incoming, .queued] ++ notedParts)) s t) ∧
  (∀ s : State, nodeRuns s = true → leaves .nodeHoldoverExpire s fun t => Same [.node] noLane s t ∧
    t.node = { s.node with locked := s.node.locked && s.node.lastRef.any fun r => decide (s.time.cycle ≤ r + nbHoldover (nodeBlock s)) }) ∧
  (∀ s : State, nodeRuns s = true → dueAt 152 19900 s → leaves .nodeTimingFallback s fun t =>
    let run := if s.node.refThis then 0 else s.node.noRefRun + 1
    t.time.tick = 19900 ∧ t.node.pending = s.node.pending ∧
    (s.node.altTiming = none → s.node.pending ≠ 0 → timingChanges s = true → 2 ≤ run → t.node.altTiming = some 0) ∧
    (s.node.altTiming = none → s.node.pending = 0 ∨ timingChanges s = false ∨ run < 2 → t.node.altTiming = none ∧ t.node.noRefRun = run) ∧
    (∀ k, s.node.altTiming = some k → (s.node.pending = 0 ∨ 1 ≤ k → t.node.altTiming = none) ∧ (s.node.pending ≠ 0 → k = 0 → t.node.altTiming = some 1)) ∧
    Same [.time, .node] noLane s t) ∧
  (∀ (net : Fin 4) (i n : Nat) (d : Bytes) (s : State), 2 ≤ net.val ∨ i ≠ nhCmd (nodeNet s net.val) + nbThruster (nodeBlock s) → exec (.nodeCommandReceive net i ⟨d, n⟩) s = .next s) ∧
  (∀ (net : Fin 4) (d : Bytes) (ns : Nat) (s : State), nodeRuns s = true → net.val < 2 →
    leaves (.nodeCommandReceive net (nhCmd (nodeNet s net.val) + nbThruster (nodeBlock s)) ⟨d, ns⟩) s fun t =>
    let i := nhCmd (nodeNet s net.val) + nbThruster (nodeBlock s)
    let sound := 16 ≤ d.length ∧ crcE2E i (sliceB d 0 14) = u16 d 14
    let k : NodeCmd := ⟨u16 d 0, u8 d 2, s16 d 4, u16 d 6, s16 d 8, s16 d 10, u16 d 12⟩
    (¬sound → t.node = s.node) ∧
    (∀ m p, sound → s.node.first = some (m, p) → (m = net.val → t.node = s.node) ∧ (m ≠ net.val → p = d → t.node = { s.node with first := none }) ∧
      (m ≠ net.val → p ≠ d → t.node.cmdDiff = satAdd 0xFFFF s.node.cmdDiff 1 ∧ t.node.diffThis = true ∧ t.node.first = none ∧ t.node.stale = s.node.stale ∧
        (nodeNewer d s.node = false ∨ s.node.appliedThis = true → t.node.cmd = s.node.cmd ∧ t.node.out = s.node.out) ∧
        (nodeNewer d s.node = true → s.node.appliedThis = false → t.node.cmd = some k ∧ t.node.appliedThis = true ∧ t.node.timeout = false ∧ t.node.refreshed = s.time.us))) ∧
    (sound → s.node.first = none → t.node.first = some (net.val, d) ∧
      (s.node.cmd = none → t.node.cmd = some k ∧ t.node.applied = (s.node.applied + 1) % 65536 ∧ t.node.appliedThis = true ∧ t.node.timeout = false ∧
        (s.node.timeout = false → t.node.outAz = k.az ∧ (s.node.ramp = none → t.node.out = k.thrust) ∧ (s.node.ramp ≠ none → t.node.out = s.node.out))) ∧
      (∀ c, s.node.cmd = some c → ¬(1 ≤ (k.cycle + 65536 - c.cycle) % 65536 ∧ (k.cycle + 65536 - c.cycle) % 65536 ≤ 32767) →
        (k.cycle = c.cycle → bitOf 0 k.flags = true → t.node.cmd = some k ∧ t.node.repeatRun = s.node.repeatRun + 1 ∧ t.node.timeout = s.node.timeout) ∧
        (k.cycle ≠ c.cycle ∨ bitOf 0 k.flags = false → t.node.cmd = s.node.cmd ∧ t.node.stale = satAdd 0xFFFF s.node.stale 1 ∧ t.node.out = s.node.out))) ∧
    t.node.locked = s.node.locked ∧ Same (.node :: noted) (bothLanes ([.bus, .ingest, .incoming, .queued] ++ notedParts)) s t) ∧
  (∀ s : State, s.node.appliedThis = true → exec .driveCmdResend s = .next s) ∧
  (∀ s : State, nodeRuns s = true → s.node.appliedThis = false → dueAt 153 15000 s → leaves .driveCmdResend s fun t => t.time.tick = 15000 ∧
    (s.node.cmd = none → (t.lane .A).bus = (s.lane .A).bus) ∧
    (∀ c, s.node.cmd = some c → ∃ f, driveFrame (nodeBlock s) s.node = some f ∧ ∀ n : Fin 4, 2 ≤ n.val → bitOf (n.val - 2) (nbLinks (nodeBlock s)) = true →
      (nbDriveXtd (nodeBlock s), nbDriveId (nodeBlock s)) ∉ (netOf .A n s).suspended → (netOf .A n s).events.length < 16 →
      ∃ fr, (netOf .A n t).events = (netOf .A n s).events ++ [fr] ∧ fr.ident = nbDriveId (nodeBlock s) ∧ fr.data = f) ∧ Same [.time] (inLane .A [.bus]) s t) ∧
  (∀ s : State, nodeRuns s = true → leaves .cmdHoldTimeout s fun t => Same [.node] noLane s t ∧
    let u := rampUnit (nodeBlock s)
    (s.node.timeout = true ∨ s.time.us < s.node.refreshed + 1000 * nbHoldMs (nodeBlock s) → t.node = s.node) ∧
    (s.node.timeout = false → s.node.refreshed + 1000 * nbHoldMs (nodeBlock s) ≤ s.time.us → t.node.timeout = true ∧ t.node.cmd = s.node.cmd ∧
      (nbAction (nodeBlock s) = 2 → t.node.out = 0 ∧ t.node.ramp = none) ∧ (nbAction (nodeBlock s) = 1 → t.node.out = s.node.out ∧ t.node.ramp = none) ∧
      (nbAction (nodeBlock s) = 0 → absQ s.node.out ≤ u → t.node.out = 0 ∧ t.node.ramp = none) ∧
      (nbAction (nodeBlock s) = 0 → 0 < u → u < absQ s.node.out → absQ t.node.out = absQ s.node.out - u ∧ t.node.ramp = some (s.node.refreshed + 1000 * nbHoldMs (nodeBlock s) + 20000)))) ∧
  ∀ s : State, nodeRuns s = true → leaves .rampStep s fun t => Same [.node] noLane s t ∧
    let u := rampUnit (nodeBlock s)
    let goal := rampTarget s.node
    ((∀ a, s.node.ramp = some a → s.time.us < a) → t.node = s.node) ∧
    (∀ a, s.node.ramp = some a → a ≤ s.time.us →
      (absQ (goal - s.node.out) ≤ u → t.node = { s.node with out := goal, ramp := none }) ∧
      (0 < u → u < absQ (goal - s.node.out) → absQ (goal - t.node.out) = absQ (goal - s.node.out) - u ∧ t.node.ramp = some (a + 20000) ∧ t.node.cmd = s.node.cmd))

/-- CHANNEL_UPDATE_RELEASE takes the first update in the order of R116 once its release tick lies in the present cycle or before it, and takes it out of
those that wait: it is written when its measurement is later than the store's entry, with the entry's sequence number going on, counted as a duplicate
when equal and as late when earlier, and written in neither of these two (R116). One of a later cycle goes on waiting. BRIDGE_UPDATE_ARRIVE takes the
first update on its way to a lane: it lets it wait, or writes it at once and counts BRIDGE_LATE when its tick has passed; with nothing on its way it
changes nothing (R30, R31). (Derived from 01_module_architecture.md, 04_sensor_channels.md.) -/
def Obligations.UpdatesEnterTheStoreInTheirOrder : Prop :=
  (∀ (l : LaneId) (u : ChanUpdate) (s : State), ingestRuns s l = true → firstUpdate (s.lane l).ingest.release = some u → u.releaseUs / 20000 ≤ s.time.cycle → u.chan < 256 →
    leaves (.channelUpdateRelease l) s fun t =>
      let e := vget (s.lane l).ingest.store u.chan
      let n := vget (t.lane l).ingest.store u.chan
      (t.lane l).ingest.release = (s.lane l).ingest.release.erase u ∧ (∀ k < 256, k ≠ u.chan → vget (t.lane l).ingest.store k = vget (s.lane l).ingest.store k) ∧
      (e.empty = true ∨ e.meas < u.meas → n.value = u.value ∧ n.meas = u.meas ∧ n.seq = (e.seq + 1) % 2 ^ 32 ∧ n.empty = false) ∧
      (e.empty = false → e.meas = u.meas → n = e ∧ (t.lane l).ingest.dupAny = true) ∧ (e.empty = false → u.meas < e.meas → n = e ∧ (t.lane l).ingest.lateAny = true) ∧
      (u.releaseUs / 20000 = s.time.cycle → s.time.tick ≤ u.releaseUs % 20000 → t.time.tick = u.releaseUs % 20000) ∧ Same [.time] (inLane l [.ingest, .counters, .occurred]) s t) ∧
  (∀ (l : LaneId) (s : State), (ingestRuns s l = false ∨ (s.lane l).ingest.release = [] ∨
    ∃ u, firstUpdate (s.lane l).ingest.release = some u ∧ s.time.cycle < u.releaseUs / 20000) → exec (.channelUpdateRelease l) s = .next s) ∧
  (∀ (l : LaneId) (s : State), (s.lane l).incoming = [] → exec (.bridgeUpdateArrive l) s = .next s) ∧
  ∀ (l : LaneId) (u : ChanUpdate) (rest : List ChanUpdate) (s : State), (s.lane l).incoming = u :: rest → ingestRuns s l = true →
    (s.time.cycle * 20000 + s.time.tick ≤ u.releaseUs → leaves (.bridgeUpdateArrive l) s fun t => (t.lane l).incoming = rest ∧
      (t.lane l).ingest = { (s.lane l).ingest with release := (s.lane l).ingest.release ++ [u] } ∧ Same [] (inLane l [.incoming, .ingest]) s t) ∧
    (u.releaseUs < s.time.cycle * 20000 + s.time.tick → leaves (.bridgeUpdateArrive l) s fun t => (t.lane l).incoming = rest ∧
      (t.lane l).ingest = (storeWrite (snapTick s l) (u.lane != l.num) u (s.lane l).ingest).1 ∧ (t.lane l).pmu.bridgeLate = satAdd (2 ^ 32 - 1) (s.lane l).pmu.bridgeLate 1 ∧
      Same [] (inLane l [.incoming, .ingest, .pmu, .counters, .occurred]) s t)
end

