-- ==== Sys2Proof/Laws/Memory.lean ====
section
/-! SUPPORT. The laws of memory: every write keeps the canonical form, a read gives what the last write put there, and equal contents are equal data. -/

namespace Sys2Proof.Machine

@[simp] theorem Memory.read_nil (x : Nat) : Memory.read [] x = Memory.blank := rfl

theorem Memory.wfFrom_mono {lo hi : Nat} (h : lo ≤ hi) {m : Memory} (hm : Memory.wfFrom hi m = true) : Memory.wfFrom lo m = true := by
  cases m with
  | nil => rfl
  | cons c m =>
    obtain ⟨a, b⟩ := c
    simp only [Memory.wfFrom, Bool.and_eq_true, decide_eq_true_eq] at hm ⊢
    exact ⟨⟨h.trans hm.1.1, hm.1.2⟩, hm.2⟩

/-- Below its first address a canonical memory reads as unwritten. -/
theorem Memory.read_below {lo x : Nat} {m : Memory} (hm : Memory.wfFrom lo m = true) (h : x < lo) : Memory.read m x = Memory.blank := by
  induction m generalizing lo with
  | nil => rfl
  | cons c m ih =>
    obtain ⟨a, b⟩ := c
    simp only [Memory.wfFrom, Bool.and_eq_true, decide_eq_true_eq] at hm
    have hx : x < a := h.trans_le hm.1.1
    rw [Memory.read, if_neg hx.ne]
    exact ih hm.2 (by omega)

/-- A write keeps the canonical form. -/
theorem Memory.write_wfFrom {lo x : Nat} (m : Memory) (v : Byte) (hm : Memory.wfFrom lo m = true) (h : lo ≤ x) :
    Memory.wfFrom lo (Memory.write m x v) = true := by
  induction m generalizing lo with
  | nil =>
    unfold Memory.write
    split
    · rfl
    · next hv => simp [Memory.wfFrom, h, hv]
  | cons c m ih =>
    obtain ⟨a, b⟩ := c
    simp only [Memory.wfFrom, Bool.and_eq_true, decide_eq_true_eq, bne_iff_ne, ne_eq] at hm
    obtain ⟨⟨ha, hb⟩, hm⟩ := hm
    unfold Memory.write
    split
    · next hx =>
      split
      · simp [Memory.wfFrom, ha, hb, hm]
      · next hv =>
        have : x + 1 ≤ a := hx
        simp [Memory.wfFrom, h, hv, hb, hm, this]
    · next hx =>
      split
      · next hxa =>
        subst hxa
        split
        · exact Memory.wfFrom_mono (by omega) hm
        · next hv => simp [Memory.wfFrom, h, hv, hm]
      · next hxa => simp [Memory.wfFrom, ha, hb, ih hm (by omega)]

theorem Memory.write_wf (m : Memory) (x : Nat) (v : Byte) (hm : m.wf = true) : (m.write x v).wf = true := Memory.write_wfFrom m v hm (Nat.zero_le _)

theorem Memory.store_wf (m : Memory) (x : Nat) (d : Bytes) (hm : m.wf = true) : (m.store x d).wf = true := by
  induction d generalizing m x with
  | nil => exact hm
  | cons b d ih => exact ih _ _ (Memory.write_wf m x b hm)

theorem Memory.nil_wf : Memory.wf [] = true := rfl

/-- A read after a write: the byte written at its address, every other byte as before. -/
theorem Memory.read_write_from {lo : Nat} (m : Memory) (x : Nat) (v : Byte) (y : Nat) (hm : Memory.wfFrom lo m = true) :
    Memory.read (Memory.write m x v) y = if y = x then v else Memory.read m y := by
  induction m generalizing lo with
  | nil =>
    unfold Memory.write
    split
    · next hv => split <;> simp [hv]
    · simp [Memory.read]
  | cons c m ih =>
    obtain ⟨a, b⟩ := c
    simp only [Memory.wfFrom, Bool.and_eq_true, decide_eq_true_eq] at hm
    obtain ⟨_, hm⟩ := hm
    unfold Memory.write
    split
    · next hx =>
      split
      · next hv =>
        by_cases hy : y = x
        · subst hy
          rw [if_pos rfl, hv, Memory.read, if_neg hx.ne]
          exact Memory.read_below hm (by omega)
        · rw [if_neg hy]
      · by_cases hy : y = x
        · simp [Memory.read, hy]
        · simp [Memory.read, hy]
    · next hx =>
      split
      · next hxa =>
        subst hxa
        split
        · next hv =>
          by_cases hy : y = x
          · subst hy
            rw [if_pos rfl, hv]
            exact Memory.read_below hm (by omega)
          · simp [Memory.read, hy]
        · by_cases hy : y = x
          · simp [Memory.read, hy]
          · simp [Memory.read, hy]
      · next hxa =>
        by_cases hy : y = a
        · have : y ≠ x := fun e => hxa (by omega)
          simp [Memory.read, hy]
          intro e
          exact absurd e.symm hxa
        · simp [Memory.read, hy, ih hm]

theorem Memory.read_write (m : Memory) (x : Nat) (v : Byte) (y : Nat) (hm : m.wf = true) :
    (m.write x v).read y = if y = x then v else m.read y := Memory.read_write_from m x v y hm

/-- A read after a string is stored: its bytes where they were put, every other byte as before. -/
theorem Memory.read_store (m : Memory) (x : Nat) (d : Bytes) (y : Nat) (hm : m.wf = true) :
    (m.store x d).read y = if x ≤ y ∧ y < x + d.length then d.getD (y - x) 0 else m.read y := by
  induction d generalizing m x with
  | nil =>
    have : ¬ (x ≤ y ∧ y < x) := by omega
    simp [Memory.store, this]
  | cons b d ih =>
    rw [Memory.store, ih _ _ (Memory.write_wf m x b hm), Memory.read_write m x b y hm, List.length_cons]
    by_cases h1 : x + 1 ≤ y ∧ y < x + 1 + d.length
    · have h2 : x ≤ y ∧ y < x + (d.length + 1) := by omega
      rw [if_pos h1, if_pos h2]
      have : y - x = (y - (x + 1)) + 1 := by omega
      rw [this, List.getD_cons_succ]
    · rw [if_neg h1]
      by_cases hy : y = x
      · subst hy
        have h2 : y ≤ y ∧ y < y + (d.length + 1) := by omega
        rw [if_pos rfl, if_pos h2]
        simp
      · have h2 : ¬ (x ≤ y ∧ y < x + (d.length + 1)) := by omega
        rw [if_neg hy, if_neg h2]

/-- A load after a store of the same string at the same address gives it back. -/
theorem Memory.load_store (m : Memory) (x : Nat) (d : Bytes) (hm : m.wf = true) : (m.store x d).load x d.length = d := by
  have key : ∀ (n k : Nat), n + k = d.length → (m.store x d).load (x + k) n = d.drop k := by
    intro n
    induction n with
    | zero =>
      intro k hk
      have : d.drop k = [] := List.drop_eq_nil_of_le (by omega)
      rw [this]; rfl
    | succ n ih =>
      intro k hk
      have hk' : k < d.length := by omega
      rw [Memory.load, Memory.read_store m x d (x + k) hm, if_pos ⟨by omega, by omega⟩, Nat.add_assoc, ih (k + 1) (by omega)]
      rw [List.drop_eq_getElem_cons hk', Nat.add_sub_cancel_left]
      simp [List.getD, hk']
  have := key d.length 0 (by omega)
  simpa using this

end Sys2Proof.Machine
end

