-- ==== Sys2Proof/Laws/State.lean ====
section
/-! SUPPORT. What each update of the state leaves in each field: one lemma per field per update. -/

namespace Sys2Proof.Machine

/-! `modTime` changes `time`. -/

@[simp] theorem State.modTime_time (s : State) (f : TimeState → TimeState) : (s.modTime f).time = f s.time := rfl
@[simp] theorem State.modTime_laneA (s : State) (f : TimeState → TimeState) : (s.modTime f).laneA = s.laneA := rfl
@[simp] theorem State.modTime_laneB (s : State) (f : TimeState → TimeState) : (s.modTime f).laneB = s.laneB := rfl
@[simp] theorem State.modTime_memA (s : State) (f : TimeState → TimeState) : (s.modTime f).memA = s.memA := rfl
@[simp] theorem State.modTime_memB (s : State) (f : TimeState → TimeState) : (s.modTime f).memB = s.memB := rfl
@[simp] theorem State.modTime_arb (s : State) (f : TimeState → TimeState) : (s.modTime f).arb = s.arb := rfl
@[simp] theorem State.modTime_power (s : State) (f : TimeState → TimeState) : (s.modTime f).power = s.power := rfl
@[simp] theorem State.modTime_safety (s : State) (f : TimeState → TimeState) : (s.modTime f).safety = s.safety := rfl
@[simp] theorem State.modTime_keep (s : State) (f : TimeState → TimeState) : (s.modTime f).keep = s.keep := rfl
@[simp] theorem State.modTime_lantern (s : State) (f : TimeState → TimeState) : (s.modTime f).lantern = s.lantern := rfl
@[simp] theorem State.modTime_host (s : State) (f : TimeState → TimeState) : (s.modTime f).host = s.host := rfl
@[simp] theorem State.modTime_oculus (s : State) (f : TimeState → TimeState) : (s.modTime f).oculus = s.oculus := rfl
@[simp] theorem State.modTime_belfry (s : State) (f : TimeState → TimeState) : (s.modTime f).belfry = s.belfry := rfl
@[simp] theorem State.modTime_node (s : State) (f : TimeState → TimeState) : (s.modTime f).node = s.node := rfl
@[simp] theorem State.modTime_jtag (s : State) (f : TimeState → TimeState) : (s.modTime f).jtag = s.jtag := rfl
@[simp] theorem State.modTime_bridgeFault (s : State) (f : TimeState → TimeState) : (s.modTime f).bridgeFault = s.bridgeFault := rfl
@[simp] theorem State.modTime_latched (s : State) (f : TimeState → TimeState) : (s.modTime f).latched = s.latched := rfl
@[simp] theorem State.modTime_outbox (s : State) (f : TimeState → TimeState) : (s.modTime f).outbox = s.outbox := rfl
@[simp] theorem State.modTime_free (s : State) (f : TimeState → TimeState) : (s.modTime f).free = s.free := rfl
@[simp] theorem State.modTime_pending (s : State) (f : TimeState → TimeState) : (s.modTime f).pending = s.pending := rfl
@[simp] theorem State.modTime_lane (s : State) (f : TimeState → TimeState) (k : LaneId) : (s.modTime f).lane k = s.lane k := by cases k <;> rfl
@[simp] theorem State.modTime_mem (s : State) (f : TimeState → TimeState) (k : LaneId) : (s.modTime f).mem k = s.mem k := by cases k <;> rfl

/-! `modArb` changes `arb`. -/

@[simp] theorem State.modArb_time (s : State) (f : ArbState → ArbState) : (s.modArb f).time = s.time := rfl
@[simp] theorem State.modArb_laneA (s : State) (f : ArbState → ArbState) : (s.modArb f).laneA = s.laneA := rfl
@[simp] theorem State.modArb_laneB (s : State) (f : ArbState → ArbState) : (s.modArb f).laneB = s.laneB := rfl
@[simp] theorem State.modArb_memA (s : State) (f : ArbState → ArbState) : (s.modArb f).memA = s.memA := rfl
@[simp] theorem State.modArb_memB (s : State) (f : ArbState → ArbState) : (s.modArb f).memB = s.memB := rfl
@[simp] theorem State.modArb_arb (s : State) (f : ArbState → ArbState) : (s.modArb f).arb = f s.arb := rfl
@[simp] theorem State.modArb_power (s : State) (f : ArbState → ArbState) : (s.modArb f).power = s.power := rfl
@[simp] theorem State.modArb_safety (s : State) (f : ArbState → ArbState) : (s.modArb f).safety = s.safety := rfl
@[simp] theorem State.modArb_keep (s : State) (f : ArbState → ArbState) : (s.modArb f).keep = s.keep := rfl
@[simp] theorem State.modArb_lantern (s : State) (f : ArbState → ArbState) : (s.modArb f).lantern = s.lantern := rfl
@[simp] theorem State.modArb_host (s : State) (f : ArbState → ArbState) : (s.modArb f).host = s.host := rfl
@[simp] theorem State.modArb_oculus (s : State) (f : ArbState → ArbState) : (s.modArb f).oculus = s.oculus := rfl
@[simp] theorem State.modArb_belfry (s : State) (f : ArbState → ArbState) : (s.modArb f).belfry = s.belfry := rfl
@[simp] theorem State.modArb_node (s : State) (f : ArbState → ArbState) : (s.modArb f).node = s.node := rfl
@[simp] theorem State.modArb_jtag (s : State) (f : ArbState → ArbState) : (s.modArb f).jtag = s.jtag := rfl
@[simp] theorem State.modArb_bridgeFault (s : State) (f : ArbState → ArbState) : (s.modArb f).bridgeFault = s.bridgeFault := rfl
@[simp] theorem State.modArb_latched (s : State) (f : ArbState → ArbState) : (s.modArb f).latched = s.latched := rfl
@[simp] theorem State.modArb_outbox (s : State) (f : ArbState → ArbState) : (s.modArb f).outbox = s.outbox := rfl
@[simp] theorem State.modArb_free (s : State) (f : ArbState → ArbState) : (s.modArb f).free = s.free := rfl
@[simp] theorem State.modArb_pending (s : State) (f : ArbState → ArbState) : (s.modArb f).pending = s.pending := rfl
@[simp] theorem State.modArb_lane (s : State) (f : ArbState → ArbState) (k : LaneId) : (s.modArb f).lane k = s.lane k := by cases k <;> rfl
@[simp] theorem State.modArb_mem (s : State) (f : ArbState → ArbState) (k : LaneId) : (s.modArb f).mem k = s.mem k := by cases k <;> rfl

/-! `modPower` changes `power`. -/

@[simp] theorem State.modPower_time (s : State) (f : PowerState → PowerState) : (s.modPower f).time = s.time := rfl
@[simp] theorem State.modPower_laneA (s : State) (f : PowerState → PowerState) : (s.modPower f).laneA = s.laneA := rfl
@[simp] theorem State.modPower_laneB (s : State) (f : PowerState → PowerState) : (s.modPower f).laneB = s.laneB := rfl
@[simp] theorem State.modPower_memA (s : State) (f : PowerState → PowerState) : (s.modPower f).memA = s.memA := rfl
@[simp] theorem State.modPower_memB (s : State) (f : PowerState → PowerState) : (s.modPower f).memB = s.memB := rfl
@[simp] theorem State.modPower_arb (s : State) (f : PowerState → PowerState) : (s.modPower f).arb = s.arb := rfl
@[simp] theorem State.modPower_power (s : State) (f : PowerState → PowerState) : (s.modPower f).power = f s.power := rfl
@[simp] theorem State.modPower_safety (s : State) (f : PowerState → PowerState) : (s.modPower f).safety = s.safety := rfl
@[simp] theorem State.modPower_keep (s : State) (f : PowerState → PowerState) : (s.modPower f).keep = s.keep := rfl
@[simp] theorem State.modPower_lantern (s : State) (f : PowerState → PowerState) : (s.modPower f).lantern = s.lantern := rfl
@[simp] theorem State.modPower_host (s : State) (f : PowerState → PowerState) : (s.modPower f).host = s.host := rfl
@[simp] theorem State.modPower_oculus (s : State) (f : PowerState → PowerState) : (s.modPower f).oculus = s.oculus := rfl
@[simp] theorem State.modPower_belfry (s : State) (f : PowerState → PowerState) : (s.modPower f).belfry = s.belfry := rfl
@[simp] theorem State.modPower_node (s : State) (f : PowerState → PowerState) : (s.modPower f).node = s.node := rfl
@[simp] theorem State.modPower_jtag (s : State) (f : PowerState → PowerState) : (s.modPower f).jtag = s.jtag := rfl
@[simp] theorem State.modPower_bridgeFault (s : State) (f : PowerState → PowerState) : (s.modPower f).bridgeFault = s.bridgeFault := rfl
@[simp] theorem State.modPower_latched (s : State) (f : PowerState → PowerState) : (s.modPower f).latched = s.latched := rfl
@[simp] theorem State.modPower_outbox (s : State) (f : PowerState → PowerState) : (s.modPower f).outbox = s.outbox := rfl
@[simp] theorem State.modPower_free (s : State) (f : PowerState → PowerState) : (s.modPower f).free = s.free := rfl
@[simp] theorem State.modPower_pending (s : State) (f : PowerState → PowerState) : (s.modPower f).pending = s.pending := rfl
@[simp] theorem State.modPower_lane (s : State) (f : PowerState → PowerState) (k : LaneId) : (s.modPower f).lane k = s.lane k := by cases k <;> rfl
@[simp] theorem State.modPower_mem (s : State) (f : PowerState → PowerState) (k : LaneId) : (s.modPower f).mem k = s.mem k := by cases k <;> rfl

/-! `modSafety` changes `safety`. -/

@[simp] theorem State.modSafety_time (s : State) (f : SafetyState → SafetyState) : (s.modSafety f).time = s.time := rfl
@[simp] theorem State.modSafety_laneA (s : State) (f : SafetyState → SafetyState) : (s.modSafety f).laneA = s.laneA := rfl
@[simp] theorem State.modSafety_laneB (s : State) (f : SafetyState → SafetyState) : (s.modSafety f).laneB = s.laneB := rfl
@[simp] theorem State.modSafety_memA (s : State) (f : SafetyState → SafetyState) : (s.modSafety f).memA = s.memA := rfl
@[simp] theorem State.modSafety_memB (s : State) (f : SafetyState → SafetyState) : (s.modSafety f).memB = s.memB := rfl
@[simp] theorem State.modSafety_arb (s : State) (f : SafetyState → SafetyState) : (s.modSafety f).arb = s.arb := rfl
@[simp] theorem State.modSafety_power (s : State) (f : SafetyState → SafetyState) : (s.modSafety f).power = s.power := rfl
@[simp] theorem State.modSafety_safety (s : State) (f : SafetyState → SafetyState) : (s.modSafety f).safety = f s.safety := rfl
@[simp] theorem State.modSafety_keep (s : State) (f : SafetyState → SafetyState) : (s.modSafety f).keep = s.keep := rfl
@[simp] theorem State.modSafety_lantern (s : State) (f : SafetyState → SafetyState) : (s.modSafety f).lantern = s.lantern := rfl
@[simp] theorem State.modSafety_host (s : State) (f : SafetyState → SafetyState) : (s.modSafety f).host = s.host := rfl
@[simp] theorem State.modSafety_oculus (s : State) (f : SafetyState → SafetyState) : (s.modSafety f).oculus = s.oculus := rfl
@[simp] theorem State.modSafety_belfry (s : State) (f : SafetyState → SafetyState) : (s.modSafety f).belfry = s.belfry := rfl
@[simp] theorem State.modSafety_node (s : State) (f : SafetyState → SafetyState) : (s.modSafety f).node = s.node := rfl
@[simp] theorem State.modSafety_jtag (s : State) (f : SafetyState → SafetyState) : (s.modSafety f).jtag = s.jtag := rfl
@[simp] theorem State.modSafety_bridgeFault (s : State) (f : SafetyState → SafetyState) : (s.modSafety f).bridgeFault = s.bridgeFault := rfl
@[simp] theorem State.modSafety_latched (s : State) (f : SafetyState → SafetyState) : (s.modSafety f).latched = s.latched := rfl
@[simp] theorem State.modSafety_outbox (s : State) (f : SafetyState → SafetyState) : (s.modSafety f).outbox = s.outbox := rfl
@[simp] theorem State.modSafety_free (s : State) (f : SafetyState → SafetyState) : (s.modSafety f).free = s.free := rfl
@[simp] theorem State.modSafety_pending (s : State) (f : SafetyState → SafetyState) : (s.modSafety f).pending = s.pending := rfl
@[simp] theorem State.modSafety_lane (s : State) (f : SafetyState → SafetyState) (k : LaneId) : (s.modSafety f).lane k = s.lane k := by cases k <;> rfl
@[simp] theorem State.modSafety_mem (s : State) (f : SafetyState → SafetyState) (k : LaneId) : (s.modSafety f).mem k = s.mem k := by cases k <;> rfl

/-! `modKeep` changes `keep`. -/

@[simp] theorem State.modKeep_time (s : State) (f : KeepState → KeepState) : (s.modKeep f).time = s.time := rfl
@[simp] theorem State.modKeep_laneA (s : State) (f : KeepState → KeepState) : (s.modKeep f).laneA = s.laneA := rfl
@[simp] theorem State.modKeep_laneB (s : State) (f : KeepState → KeepState) : (s.modKeep f).laneB = s.laneB := rfl
@[simp] theorem State.modKeep_memA (s : State) (f : KeepState → KeepState) : (s.modKeep f).memA = s.memA := rfl
@[simp] theorem State.modKeep_memB (s : State) (f : KeepState → KeepState) : (s.modKeep f).memB = s.memB := rfl
@[simp] theorem State.modKeep_arb (s : State) (f : KeepState → KeepState) : (s.modKeep f).arb = s.arb := rfl
@[simp] theorem State.modKeep_power (s : State) (f : KeepState → KeepState) : (s.modKeep f).power = s.power := rfl
@[simp] theorem State.modKeep_safety (s : State) (f : KeepState → KeepState) : (s.modKeep f).safety = s.safety := rfl
@[simp] theorem State.modKeep_keep (s : State) (f : KeepState → KeepState) : (s.modKeep f).keep = f s.keep := rfl
@[simp] theorem State.modKeep_lantern (s : State) (f : KeepState → KeepState) : (s.modKeep f).lantern = s.lantern := rfl
@[simp] theorem State.modKeep_host (s : State) (f : KeepState → KeepState) : (s.modKeep f).host = s.host := rfl
@[simp] theorem State.modKeep_oculus (s : State) (f : KeepState → KeepState) : (s.modKeep f).oculus = s.oculus := rfl
@[simp] theorem State.modKeep_belfry (s : State) (f : KeepState → KeepState) : (s.modKeep f).belfry = s.belfry := rfl
@[simp] theorem State.modKeep_node (s : State) (f : KeepState → KeepState) : (s.modKeep f).node = s.node := rfl
@[simp] theorem State.modKeep_jtag (s : State) (f : KeepState → KeepState) : (s.modKeep f).jtag = s.jtag := rfl
@[simp] theorem State.modKeep_bridgeFault (s : State) (f : KeepState → KeepState) : (s.modKeep f).bridgeFault = s.bridgeFault := rfl
@[simp] theorem State.modKeep_latched (s : State) (f : KeepState → KeepState) : (s.modKeep f).latched = s.latched := rfl
@[simp] theorem State.modKeep_outbox (s : State) (f : KeepState → KeepState) : (s.modKeep f).outbox = s.outbox := rfl
@[simp] theorem State.modKeep_free (s : State) (f : KeepState → KeepState) : (s.modKeep f).free = s.free := rfl
@[simp] theorem State.modKeep_pending (s : State) (f : KeepState → KeepState) : (s.modKeep f).pending = s.pending := rfl
@[simp] theorem State.modKeep_lane (s : State) (f : KeepState → KeepState) (k : LaneId) : (s.modKeep f).lane k = s.lane k := by cases k <;> rfl
@[simp] theorem State.modKeep_mem (s : State) (f : KeepState → KeepState) (k : LaneId) : (s.modKeep f).mem k = s.mem k := by cases k <;> rfl

/-! `modLantern` changes `lantern`. -/

@[simp] theorem State.modLantern_time (s : State) (f : LanternState → LanternState) : (s.modLantern f).time = s.time := rfl
@[simp] theorem State.modLantern_laneA (s : State) (f : LanternState → LanternState) : (s.modLantern f).laneA = s.laneA := rfl
@[simp] theorem State.modLantern_laneB (s : State) (f : LanternState → LanternState) : (s.modLantern f).laneB = s.laneB := rfl
@[simp] theorem State.modLantern_memA (s : State) (f : LanternState → LanternState) : (s.modLantern f).memA = s.memA := rfl
@[simp] theorem State.modLantern_memB (s : State) (f : LanternState → LanternState) : (s.modLantern f).memB = s.memB := rfl
@[simp] theorem State.modLantern_arb (s : State) (f : LanternState → LanternState) : (s.modLantern f).arb = s.arb := rfl
@[simp] theorem State.modLantern_power (s : State) (f : LanternState → LanternState) : (s.modLantern f).power = s.power := rfl
@[simp] theorem State.modLantern_safety (s : State) (f : LanternState → LanternState) : (s.modLantern f).safety = s.safety := rfl
@[simp] theorem State.modLantern_keep (s : State) (f : LanternState → LanternState) : (s.modLantern f).keep = s.keep := rfl
@[simp] theorem State.modLantern_lantern (s : State) (f : LanternState → LanternState) : (s.modLantern f).lantern = f s.lantern := rfl
@[simp] theorem State.modLantern_host (s : State) (f : LanternState → LanternState) : (s.modLantern f).host = s.host := rfl
@[simp] theorem State.modLantern_oculus (s : State) (f : LanternState → LanternState) : (s.modLantern f).oculus = s.oculus := rfl
@[simp] theorem State.modLantern_belfry (s : State) (f : LanternState → LanternState) : (s.modLantern f).belfry = s.belfry := rfl
@[simp] theorem State.modLantern_node (s : State) (f : LanternState → LanternState) : (s.modLantern f).node = s.node := rfl
@[simp] theorem State.modLantern_jtag (s : State) (f : LanternState → LanternState) : (s.modLantern f).jtag = s.jtag := rfl
@[simp] theorem State.modLantern_bridgeFault (s : State) (f : LanternState → LanternState) : (s.modLantern f).bridgeFault = s.bridgeFault := rfl
@[simp] theorem State.modLantern_latched (s : State) (f : LanternState → LanternState) : (s.modLantern f).latched = s.latched := rfl
@[simp] theorem State.modLantern_outbox (s : State) (f : LanternState → LanternState) : (s.modLantern f).outbox = s.outbox := rfl
@[simp] theorem State.modLantern_free (s : State) (f : LanternState → LanternState) : (s.modLantern f).free = s.free := rfl
@[simp] theorem State.modLantern_pending (s : State) (f : LanternState → LanternState) : (s.modLantern f).pending = s.pending := rfl
@[simp] theorem State.modLantern_lane (s : State) (f : LanternState → LanternState) (k : LaneId) : (s.modLantern f).lane k = s.lane k := by cases k <;> rfl
@[simp] theorem State.modLantern_mem (s : State) (f : LanternState → LanternState) (k : LaneId) : (s.modLantern f).mem k = s.mem k := by cases k <;> rfl

/-! `modHost` changes `host`. -/

@[simp] theorem State.modHost_time (s : State) (f : HostState → HostState) : (s.modHost f).time = s.time := rfl
@[simp] theorem State.modHost_laneA (s : State) (f : HostState → HostState) : (s.modHost f).laneA = s.laneA := rfl
@[simp] theorem State.modHost_laneB (s : State) (f : HostState → HostState) : (s.modHost f).laneB = s.laneB := rfl
@[simp] theorem State.modHost_memA (s : State) (f : HostState → HostState) : (s.modHost f).memA = s.memA := rfl
@[simp] theorem State.modHost_memB (s : State) (f : HostState → HostState) : (s.modHost f).memB = s.memB := rfl
@[simp] theorem State.modHost_arb (s : State) (f : HostState → HostState) : (s.modHost f).arb = s.arb := rfl
@[simp] theorem State.modHost_power (s : State) (f : HostState → HostState) : (s.modHost f).power = s.power := rfl
@[simp] theorem State.modHost_safety (s : State) (f : HostState → HostState) : (s.modHost f).safety = s.safety := rfl
@[simp] theorem State.modHost_keep (s : State) (f : HostState → HostState) : (s.modHost f).keep = s.keep := rfl
@[simp] theorem State.modHost_lantern (s : State) (f : HostState → HostState) : (s.modHost f).lantern = s.lantern := rfl
@[simp] theorem State.modHost_host (s : State) (f : HostState → HostState) : (s.modHost f).host = f s.host := rfl
@[simp] theorem State.modHost_oculus (s : State) (f : HostState → HostState) : (s.modHost f).oculus = s.oculus := rfl
@[simp] theorem State.modHost_belfry (s : State) (f : HostState → HostState) : (s.modHost f).belfry = s.belfry := rfl
@[simp] theorem State.modHost_node (s : State) (f : HostState → HostState) : (s.modHost f).node = s.node := rfl
@[simp] theorem State.modHost_jtag (s : State) (f : HostState → HostState) : (s.modHost f).jtag = s.jtag := rfl
@[simp] theorem State.modHost_bridgeFault (s : State) (f : HostState → HostState) : (s.modHost f).bridgeFault = s.bridgeFault := rfl
@[simp] theorem State.modHost_latched (s : State) (f : HostState → HostState) : (s.modHost f).latched = s.latched := rfl
@[simp] theorem State.modHost_outbox (s : State) (f : HostState → HostState) : (s.modHost f).outbox = s.outbox := rfl
@[simp] theorem State.modHost_free (s : State) (f : HostState → HostState) : (s.modHost f).free = s.free := rfl
@[simp] theorem State.modHost_pending (s : State) (f : HostState → HostState) : (s.modHost f).pending = s.pending := rfl
@[simp] theorem State.modHost_lane (s : State) (f : HostState → HostState) (k : LaneId) : (s.modHost f).lane k = s.lane k := by cases k <;> rfl
@[simp] theorem State.modHost_mem (s : State) (f : HostState → HostState) (k : LaneId) : (s.modHost f).mem k = s.mem k := by cases k <;> rfl

/-! `modOculus` changes `oculus`. -/

@[simp] theorem State.modOculus_time (s : State) (f : OculusState → OculusState) : (s.modOculus f).time = s.time := rfl
@[simp] theorem State.modOculus_laneA (s : State) (f : OculusState → OculusState) : (s.modOculus f).laneA = s.laneA := rfl
@[simp] theorem State.modOculus_laneB (s : State) (f : OculusState → OculusState) : (s.modOculus f).laneB = s.laneB := rfl
@[simp] theorem State.modOculus_memA (s : State) (f : OculusState → OculusState) : (s.modOculus f).memA = s.memA := rfl
@[simp] theorem State.modOculus_memB (s : State) (f : OculusState → OculusState) : (s.modOculus f).memB = s.memB := rfl
@[simp] theorem State.modOculus_arb (s : State) (f : OculusState → OculusState) : (s.modOculus f).arb = s.arb := rfl
@[simp] theorem State.modOculus_power (s : State) (f : OculusState → OculusState) : (s.modOculus f).power = s.power := rfl
@[simp] theorem State.modOculus_safety (s : State) (f : OculusState → OculusState) : (s.modOculus f).safety = s.safety := rfl
@[simp] theorem State.modOculus_keep (s : State) (f : OculusState → OculusState) : (s.modOculus f).keep = s.keep := rfl
@[simp] theorem State.modOculus_lantern (s : State) (f : OculusState → OculusState) : (s.modOculus f).lantern = s.lantern := rfl
@[simp] theorem State.modOculus_host (s : State) (f : OculusState → OculusState) : (s.modOculus f).host = s.host := rfl
@[simp] theorem State.modOculus_oculus (s : State) (f : OculusState → OculusState) : (s.modOculus f).oculus = f s.oculus := rfl
@[simp] theorem State.modOculus_belfry (s : State) (f : OculusState → OculusState) : (s.modOculus f).belfry = s.belfry := rfl
@[simp] theorem State.modOculus_node (s : State) (f : OculusState → OculusState) : (s.modOculus f).node = s.node := rfl
@[simp] theorem State.modOculus_jtag (s : State) (f : OculusState → OculusState) : (s.modOculus f).jtag = s.jtag := rfl
@[simp] theorem State.modOculus_bridgeFault (s : State) (f : OculusState → OculusState) : (s.modOculus f).bridgeFault = s.bridgeFault := rfl
@[simp] theorem State.modOculus_latched (s : State) (f : OculusState → OculusState) : (s.modOculus f).latched = s.latched := rfl
@[simp] theorem State.modOculus_outbox (s : State) (f : OculusState → OculusState) : (s.modOculus f).outbox = s.outbox := rfl
@[simp] theorem State.modOculus_free (s : State) (f : OculusState → OculusState) : (s.modOculus f).free = s.free := rfl
@[simp] theorem State.modOculus_pending (s : State) (f : OculusState → OculusState) : (s.modOculus f).pending = s.pending := rfl
@[simp] theorem State.modOculus_lane (s : State) (f : OculusState → OculusState) (k : LaneId) : (s.modOculus f).lane k = s.lane k := by cases k <;> rfl
@[simp] theorem State.modOculus_mem (s : State) (f : OculusState → OculusState) (k : LaneId) : (s.modOculus f).mem k = s.mem k := by cases k <;> rfl

/-! `modBelfry` changes `belfry`. -/

@[simp] theorem State.modBelfry_time (s : State) (f : BelfryState → BelfryState) : (s.modBelfry f).time = s.time := rfl
@[simp] theorem State.modBelfry_laneA (s : State) (f : BelfryState → BelfryState) : (s.modBelfry f).laneA = s.laneA := rfl
@[simp] theorem State.modBelfry_laneB (s : State) (f : BelfryState → BelfryState) : (s.modBelfry f).laneB = s.laneB := rfl
@[simp] theorem State.modBelfry_memA (s : State) (f : BelfryState → BelfryState) : (s.modBelfry f).memA = s.memA := rfl
@[simp] theorem State.modBelfry_memB (s : State) (f : BelfryState → BelfryState) : (s.modBelfry f).memB = s.memB := rfl
@[simp] theorem State.modBelfry_arb (s : State) (f : BelfryState → BelfryState) : (s.modBelfry f).arb = s.arb := rfl
@[simp] theorem State.modBelfry_power (s : State) (f : BelfryState → BelfryState) : (s.modBelfry f).power = s.power := rfl
@[simp] theorem State.modBelfry_safety (s : State) (f : BelfryState → BelfryState) : (s.modBelfry f).safety = s.safety := rfl
@[simp] theorem State.modBelfry_keep (s : State) (f : BelfryState → BelfryState) : (s.modBelfry f).keep = s.keep := rfl
@[simp] theorem State.modBelfry_lantern (s : State) (f : BelfryState → BelfryState) : (s.modBelfry f).lantern = s.lantern := rfl
@[simp] theorem State.modBelfry_host (s : State) (f : BelfryState → BelfryState) : (s.modBelfry f).host = s.host := rfl
@[simp] theorem State.modBelfry_oculus (s : State) (f : BelfryState → BelfryState) : (s.modBelfry f).oculus = s.oculus := rfl
@[simp] theorem State.modBelfry_belfry (s : State) (f : BelfryState → BelfryState) : (s.modBelfry f).belfry = f s.belfry := rfl
@[simp] theorem State.modBelfry_node (s : State) (f : BelfryState → BelfryState) : (s.modBelfry f).node = s.node := rfl
@[simp] theorem State.modBelfry_jtag (s : State) (f : BelfryState → BelfryState) : (s.modBelfry f).jtag = s.jtag := rfl
@[simp] theorem State.modBelfry_bridgeFault (s : State) (f : BelfryState → BelfryState) : (s.modBelfry f).bridgeFault = s.bridgeFault := rfl
@[simp] theorem State.modBelfry_latched (s : State) (f : BelfryState → BelfryState) : (s.modBelfry f).latched = s.latched := rfl
@[simp] theorem State.modBelfry_outbox (s : State) (f : BelfryState → BelfryState) : (s.modBelfry f).outbox = s.outbox := rfl
@[simp] theorem State.modBelfry_free (s : State) (f : BelfryState → BelfryState) : (s.modBelfry f).free = s.free := rfl
@[simp] theorem State.modBelfry_pending (s : State) (f : BelfryState → BelfryState) : (s.modBelfry f).pending = s.pending := rfl
@[simp] theorem State.modBelfry_lane (s : State) (f : BelfryState → BelfryState) (k : LaneId) : (s.modBelfry f).lane k = s.lane k := by cases k <;> rfl
@[simp] theorem State.modBelfry_mem (s : State) (f : BelfryState → BelfryState) (k : LaneId) : (s.modBelfry f).mem k = s.mem k := by cases k <;> rfl

/-! `modNode` changes `node`. -/

@[simp] theorem State.modNode_time (s : State) (f : NodeState → NodeState) : (s.modNode f).time = s.time := rfl
@[simp] theorem State.modNode_laneA (s : State) (f : NodeState → NodeState) : (s.modNode f).laneA = s.laneA := rfl
@[simp] theorem State.modNode_laneB (s : State) (f : NodeState → NodeState) : (s.modNode f).laneB = s.laneB := rfl
@[simp] theorem State.modNode_memA (s : State) (f : NodeState → NodeState) : (s.modNode f).memA = s.memA := rfl
@[simp] theorem State.modNode_memB (s : State) (f : NodeState → NodeState) : (s.modNode f).memB = s.memB := rfl
@[simp] theorem State.modNode_arb (s : State) (f : NodeState → NodeState) : (s.modNode f).arb = s.arb := rfl
@[simp] theorem State.modNode_power (s : State) (f : NodeState → NodeState) : (s.modNode f).power = s.power := rfl
@[simp] theorem State.modNode_safety (s : State) (f : NodeState → NodeState) : (s.modNode f).safety = s.safety := rfl
@[simp] theorem State.modNode_keep (s : State) (f : NodeState → NodeState) : (s.modNode f).keep = s.keep := rfl
@[simp] theorem State.modNode_lantern (s : State) (f : NodeState → NodeState) : (s.modNode f).lantern = s.lantern := rfl
@[simp] theorem State.modNode_host (s : State) (f : NodeState → NodeState) : (s.modNode f).host = s.host := rfl
@[simp] theorem State.modNode_oculus (s : State) (f : NodeState → NodeState) : (s.modNode f).oculus = s.oculus := rfl
@[simp] theorem State.modNode_belfry (s : State) (f : NodeState → NodeState) : (s.modNode f).belfry = s.belfry := rfl
@[simp] theorem State.modNode_node (s : State) (f : NodeState → NodeState) : (s.modNode f).node = f s.node := rfl
@[simp] theorem State.modNode_jtag (s : State) (f : NodeState → NodeState) : (s.modNode f).jtag = s.jtag := rfl
@[simp] theorem State.modNode_bridgeFault (s : State) (f : NodeState → NodeState) : (s.modNode f).bridgeFault = s.bridgeFault := rfl
@[simp] theorem State.modNode_latched (s : State) (f : NodeState → NodeState) : (s.modNode f).latched = s.latched := rfl
@[simp] theorem State.modNode_outbox (s : State) (f : NodeState → NodeState) : (s.modNode f).outbox = s.outbox := rfl
@[simp] theorem State.modNode_free (s : State) (f : NodeState → NodeState) : (s.modNode f).free = s.free := rfl
@[simp] theorem State.modNode_pending (s : State) (f : NodeState → NodeState) : (s.modNode f).pending = s.pending := rfl
@[simp] theorem State.modNode_lane (s : State) (f : NodeState → NodeState) (k : LaneId) : (s.modNode f).lane k = s.lane k := by cases k <;> rfl
@[simp] theorem State.modNode_mem (s : State) (f : NodeState → NodeState) (k : LaneId) : (s.modNode f).mem k = s.mem k := by cases k <;> rfl

/-! `modJtag` changes `jtag`. -/

@[simp] theorem State.modJtag_time (s : State) (f : JtagState → JtagState) : (s.modJtag f).time = s.time := rfl
@[simp] theorem State.modJtag_laneA (s : State) (f : JtagState → JtagState) : (s.modJtag f).laneA = s.laneA := rfl
@[simp] theorem State.modJtag_laneB (s : State) (f : JtagState → JtagState) : (s.modJtag f).laneB = s.laneB := rfl
@[simp] theorem State.modJtag_memA (s : State) (f : JtagState → JtagState) : (s.modJtag f).memA = s.memA := rfl
@[simp] theorem State.modJtag_memB (s : State) (f : JtagState → JtagState) : (s.modJtag f).memB = s.memB := rfl
@[simp] theorem State.modJtag_arb (s : State) (f : JtagState → JtagState) : (s.modJtag f).arb = s.arb := rfl
@[simp] theorem State.modJtag_power (s : State) (f : JtagState → JtagState) : (s.modJtag f).power = s.power := rfl
@[simp] theorem State.modJtag_safety (s : State) (f : JtagState → JtagState) : (s.modJtag f).safety = s.safety := rfl
@[simp] theorem State.modJtag_keep (s : State) (f : JtagState → JtagState) : (s.modJtag f).keep = s.keep := rfl
@[simp] theorem State.modJtag_lantern (s : State) (f : JtagState → JtagState) : (s.modJtag f).lantern = s.lantern := rfl
@[simp] theorem State.modJtag_host (s : State) (f : JtagState → JtagState) : (s.modJtag f).host = s.host := rfl
@[simp] theorem State.modJtag_oculus (s : State) (f : JtagState → JtagState) : (s.modJtag f).oculus = s.oculus := rfl
@[simp] theorem State.modJtag_belfry (s : State) (f : JtagState → JtagState) : (s.modJtag f).belfry = s.belfry := rfl
@[simp] theorem State.modJtag_node (s : State) (f : JtagState → JtagState) : (s.modJtag f).node = s.node := rfl
@[simp] theorem State.modJtag_jtag (s : State) (f : JtagState → JtagState) : (s.modJtag f).jtag = f s.jtag := rfl
@[simp] theorem State.modJtag_bridgeFault (s : State) (f : JtagState → JtagState) : (s.modJtag f).bridgeFault = s.bridgeFault := rfl
@[simp] theorem State.modJtag_latched (s : State) (f : JtagState → JtagState) : (s.modJtag f).latched = s.latched := rfl
@[simp] theorem State.modJtag_outbox (s : State) (f : JtagState → JtagState) : (s.modJtag f).outbox = s.outbox := rfl
@[simp] theorem State.modJtag_free (s : State) (f : JtagState → JtagState) : (s.modJtag f).free = s.free := rfl
@[simp] theorem State.modJtag_pending (s : State) (f : JtagState → JtagState) : (s.modJtag f).pending = s.pending := rfl
@[simp] theorem State.modJtag_lane (s : State) (f : JtagState → JtagState) (k : LaneId) : (s.modJtag f).lane k = s.lane k := by cases k <;> rfl
@[simp] theorem State.modJtag_mem (s : State) (f : JtagState → JtagState) (k : LaneId) : (s.modJtag f).mem k = s.mem k := by cases k <;> rfl

/-! `setBridge` changes `bridgeFault`. -/

@[simp] theorem State.setBridge_time (s : State) (b : Bool) : (s.setBridge b).time = s.time := rfl
@[simp] theorem State.setBridge_laneA (s : State) (b : Bool) : (s.setBridge b).laneA = s.laneA := rfl
@[simp] theorem State.setBridge_laneB (s : State) (b : Bool) : (s.setBridge b).laneB = s.laneB := rfl
@[simp] theorem State.setBridge_memA (s : State) (b : Bool) : (s.setBridge b).memA = s.memA := rfl
@[simp] theorem State.setBridge_memB (s : State) (b : Bool) : (s.setBridge b).memB = s.memB := rfl
@[simp] theorem State.setBridge_arb (s : State) (b : Bool) : (s.setBridge b).arb = s.arb := rfl
@[simp] theorem State.setBridge_power (s : State) (b : Bool) : (s.setBridge b).power = s.power := rfl
@[simp] theorem State.setBridge_safety (s : State) (b : Bool) : (s.setBridge b).safety = s.safety := rfl
@[simp] theorem State.setBridge_keep (s : State) (b : Bool) : (s.setBridge b).keep = s.keep := rfl
@[simp] theorem State.setBridge_lantern (s : State) (b : Bool) : (s.setBridge b).lantern = s.lantern := rfl
@[simp] theorem State.setBridge_host (s : State) (b : Bool) : (s.setBridge b).host = s.host := rfl
@[simp] theorem State.setBridge_oculus (s : State) (b : Bool) : (s.setBridge b).oculus = s.oculus := rfl
@[simp] theorem State.setBridge_belfry (s : State) (b : Bool) : (s.setBridge b).belfry = s.belfry := rfl
@[simp] theorem State.setBridge_node (s : State) (b : Bool) : (s.setBridge b).node = s.node := rfl
@[simp] theorem State.setBridge_jtag (s : State) (b : Bool) : (s.setBridge b).jtag = s.jtag := rfl
@[simp] theorem State.setBridge_bridgeFault (s : State) (b : Bool) : (s.setBridge b).bridgeFault = b := rfl
@[simp] theorem State.setBridge_latched (s : State) (b : Bool) : (s.setBridge b).latched = s.latched := rfl
@[simp] theorem State.setBridge_outbox (s : State) (b : Bool) : (s.setBridge b).outbox = s.outbox := rfl
@[simp] theorem State.setBridge_free (s : State) (b : Bool) : (s.setBridge b).free = s.free := rfl
@[simp] theorem State.setBridge_pending (s : State) (b : Bool) : (s.setBridge b).pending = s.pending := rfl
@[simp] theorem State.setBridge_lane (s : State) (b : Bool) (k : LaneId) : (s.setBridge b).lane k = s.lane k := by cases k <;> rfl
@[simp] theorem State.setBridge_mem (s : State) (b : Bool) (k : LaneId) : (s.setBridge b).mem k = s.mem k := by cases k <;> rfl

/-! `setLatched` changes `latched`. -/

@[simp] theorem State.setLatched_time (s : State) (m : Option Nat) : (s.setLatched m).time = s.time := rfl
@[simp] theorem State.setLatched_laneA (s : State) (m : Option Nat) : (s.setLatched m).laneA = s.laneA := rfl
@[simp] theorem State.setLatched_laneB (s : State) (m : Option Nat) : (s.setLatched m).laneB = s.laneB := rfl
@[simp] theorem State.setLatched_memA (s : State) (m : Option Nat) : (s.setLatched m).memA = s.memA := rfl
@[simp] theorem State.setLatched_memB (s : State) (m : Option Nat) : (s.setLatched m).memB = s.memB := rfl
@[simp] theorem State.setLatched_arb (s : State) (m : Option Nat) : (s.setLatched m).arb = s.arb := rfl
@[simp] theorem State.setLatched_power (s : State) (m : Option Nat) : (s.setLatched m).power = s.power := rfl
@[simp] theorem State.setLatched_safety (s : State) (m : Option Nat) : (s.setLatched m).safety = s.safety := rfl
@[simp] theorem State.setLatched_keep (s : State) (m : Option Nat) : (s.setLatched m).keep = s.keep := rfl
@[simp] theorem State.setLatched_lantern (s : State) (m : Option Nat) : (s.setLatched m).lantern = s.lantern := rfl
@[simp] theorem State.setLatched_host (s : State) (m : Option Nat) : (s.setLatched m).host = s.host := rfl
@[simp] theorem State.setLatched_oculus (s : State) (m : Option Nat) : (s.setLatched m).oculus = s.oculus := rfl
@[simp] theorem State.setLatched_belfry (s : State) (m : Option Nat) : (s.setLatched m).belfry = s.belfry := rfl
@[simp] theorem State.setLatched_node (s : State) (m : Option Nat) : (s.setLatched m).node = s.node := rfl
@[simp] theorem State.setLatched_jtag (s : State) (m : Option Nat) : (s.setLatched m).jtag = s.jtag := rfl
@[simp] theorem State.setLatched_bridgeFault (s : State) (m : Option Nat) : (s.setLatched m).bridgeFault = s.bridgeFault := rfl
@[simp] theorem State.setLatched_latched (s : State) (m : Option Nat) : (s.setLatched m).latched = m := rfl
@[simp] theorem State.setLatched_outbox (s : State) (m : Option Nat) : (s.setLatched m).outbox = s.outbox := rfl
@[simp] theorem State.setLatched_free (s : State) (m : Option Nat) : (s.setLatched m).free = s.free := rfl
@[simp] theorem State.setLatched_pending (s : State) (m : Option Nat) : (s.setLatched m).pending = s.pending := rfl
@[simp] theorem State.setLatched_lane (s : State) (m : Option Nat) (k : LaneId) : (s.setLatched m).lane k = s.lane k := by cases k <;> rfl
@[simp] theorem State.setLatched_mem (s : State) (m : Option Nat) (k : LaneId) : (s.setLatched m).mem k = s.mem k := by cases k <;> rfl

/-! `useFree` changes `free`. -/

@[simp] theorem State.useFree_time (s : State) (n : Nat) : (s.useFree n).time = s.time := rfl
@[simp] theorem State.useFree_laneA (s : State) (n : Nat) : (s.useFree n).laneA = s.laneA := rfl
@[simp] theorem State.useFree_laneB (s : State) (n : Nat) : (s.useFree n).laneB = s.laneB := rfl
@[simp] theorem State.useFree_memA (s : State) (n : Nat) : (s.useFree n).memA = s.memA := rfl
@[simp] theorem State.useFree_memB (s : State) (n : Nat) : (s.useFree n).memB = s.memB := rfl
@[simp] theorem State.useFree_arb (s : State) (n : Nat) : (s.useFree n).arb = s.arb := rfl
@[simp] theorem State.useFree_power (s : State) (n : Nat) : (s.useFree n).power = s.power := rfl
@[simp] theorem State.useFree_safety (s : State) (n : Nat) : (s.useFree n).safety = s.safety := rfl
@[simp] theorem State.useFree_keep (s : State) (n : Nat) : (s.useFree n).keep = s.keep := rfl
@[simp] theorem State.useFree_lantern (s : State) (n : Nat) : (s.useFree n).lantern = s.lantern := rfl
@[simp] theorem State.useFree_host (s : State) (n : Nat) : (s.useFree n).host = s.host := rfl
@[simp] theorem State.useFree_oculus (s : State) (n : Nat) : (s.useFree n).oculus = s.oculus := rfl
@[simp] theorem State.useFree_belfry (s : State) (n : Nat) : (s.useFree n).belfry = s.belfry := rfl
@[simp] theorem State.useFree_node (s : State) (n : Nat) : (s.useFree n).node = s.node := rfl
@[simp] theorem State.useFree_jtag (s : State) (n : Nat) : (s.useFree n).jtag = s.jtag := rfl
@[simp] theorem State.useFree_bridgeFault (s : State) (n : Nat) : (s.useFree n).bridgeFault = s.bridgeFault := rfl
@[simp] theorem State.useFree_latched (s : State) (n : Nat) : (s.useFree n).latched = s.latched := rfl
@[simp] theorem State.useFree_outbox (s : State) (n : Nat) : (s.useFree n).outbox = s.outbox := rfl
@[simp] theorem State.useFree_free (s : State) (n : Nat) : (s.useFree n).free = s.free + n := rfl
@[simp] theorem State.useFree_pending (s : State) (n : Nat) : (s.useFree n).pending = s.pending := rfl
@[simp] theorem State.useFree_lane (s : State) (n : Nat) (k : LaneId) : (s.useFree n).lane k = s.lane k := by cases k <;> rfl
@[simp] theorem State.useFree_mem (s : State) (n : Nat) (k : LaneId) : (s.useFree n).mem k = s.mem k := by cases k <;> rfl

/-! `emitPin` changes `outbox`. -/

@[simp] theorem State.emitPin_time (s : State) (o : Output) : (s.emitPin o).time = s.time := rfl
@[simp] theorem State.emitPin_laneA (s : State) (o : Output) : (s.emitPin o).laneA = s.laneA := rfl
@[simp] theorem State.emitPin_laneB (s : State) (o : Output) : (s.emitPin o).laneB = s.laneB := rfl
@[simp] theorem State.emitPin_memA (s : State) (o : Output) : (s.emitPin o).memA = s.memA := rfl
@[simp] theorem State.emitPin_memB (s : State) (o : Output) : (s.emitPin o).memB = s.memB := rfl
@[simp] theorem State.emitPin_arb (s : State) (o : Output) : (s.emitPin o).arb = s.arb := rfl
@[simp] theorem State.emitPin_power (s : State) (o : Output) : (s.emitPin o).power = s.power := rfl
@[simp] theorem State.emitPin_safety (s : State) (o : Output) : (s.emitPin o).safety = s.safety := rfl
@[simp] theorem State.emitPin_keep (s : State) (o : Output) : (s.emitPin o).keep = s.keep := rfl
@[simp] theorem State.emitPin_lantern (s : State) (o : Output) : (s.emitPin o).lantern = s.lantern := rfl
@[simp] theorem State.emitPin_host (s : State) (o : Output) : (s.emitPin o).host = s.host := rfl
@[simp] theorem State.emitPin_oculus (s : State) (o : Output) : (s.emitPin o).oculus = s.oculus := rfl
@[simp] theorem State.emitPin_belfry (s : State) (o : Output) : (s.emitPin o).belfry = s.belfry := rfl
@[simp] theorem State.emitPin_node (s : State) (o : Output) : (s.emitPin o).node = s.node := rfl
@[simp] theorem State.emitPin_jtag (s : State) (o : Output) : (s.emitPin o).jtag = s.jtag := rfl
@[simp] theorem State.emitPin_bridgeFault (s : State) (o : Output) : (s.emitPin o).bridgeFault = s.bridgeFault := rfl
@[simp] theorem State.emitPin_latched (s : State) (o : Output) : (s.emitPin o).latched = s.latched := rfl
@[simp] theorem State.emitPin_outbox (s : State) (o : Output) : (s.emitPin o).outbox = s.outbox ++ [o] := rfl
@[simp] theorem State.emitPin_free (s : State) (o : Output) : (s.emitPin o).free = s.free := rfl
@[simp] theorem State.emitPin_pending (s : State) (o : Output) : (s.emitPin o).pending = s.pending := rfl
@[simp] theorem State.emitPin_lane (s : State) (o : Output) (k : LaneId) : (s.emitPin o).lane k = s.lane k := by cases k <;> rfl
@[simp] theorem State.emitPin_mem (s : State) (o : Output) (k : LaneId) : (s.emitPin o).mem k = s.mem k := by cases k <;> rfl

/-! `emit` changes `outbox`. -/

@[simp] theorem State.emit_time (s : State) (o : Output) : (s.emit o).time = s.time := by unfold State.emit; split <;> rfl
@[simp] theorem State.emit_laneA (s : State) (o : Output) : (s.emit o).laneA = s.laneA := by unfold State.emit; split <;> rfl
@[simp] theorem State.emit_laneB (s : State) (o : Output) : (s.emit o).laneB = s.laneB := by unfold State.emit; split <;> rfl
@[simp] theorem State.emit_memA (s : State) (o : Output) : (s.emit o).memA = s.memA := by unfold State.emit; split <;> rfl
@[simp] theorem State.emit_memB (s : State) (o : Output) : (s.emit o).memB = s.memB := by unfold State.emit; split <;> rfl
@[simp] theorem State.emit_arb (s : State) (o : Output) : (s.emit o).arb = s.arb := by unfold State.emit; split <;> rfl
@[simp] theorem State.emit_power (s : State) (o : Output) : (s.emit o).power = s.power := by unfold State.emit; split <;> rfl
@[simp] theorem State.emit_safety (s : State) (o : Output) : (s.emit o).safety = s.safety := by unfold State.emit; split <;> rfl
@[simp] theorem State.emit_keep (s : State) (o : Output) : (s.emit o).keep = s.keep := by unfold State.emit; split <;> rfl
@[simp] theorem State.emit_lantern (s : State) (o : Output) : (s.emit o).lantern = s.lantern := by unfold State.emit; split <;> rfl
@[simp] theorem State.emit_host (s : State) (o : Output) : (s.emit o).host = s.host := by unfold State.emit; split <;> rfl
@[simp] theorem State.emit_oculus (s : State) (o : Output) : (s.emit o).oculus = s.oculus := by unfold State.emit; split <;> rfl
@[simp] theorem State.emit_belfry (s : State) (o : Output) : (s.emit o).belfry = s.belfry := by unfold State.emit; split <;> rfl
@[simp] theorem State.emit_node (s : State) (o : Output) : (s.emit o).node = s.node := by unfold State.emit; split <;> rfl
@[simp] theorem State.emit_jtag (s : State) (o : Output) : (s.emit o).jtag = s.jtag := by unfold State.emit; split <;> rfl
@[simp] theorem State.emit_bridgeFault (s : State) (o : Output) : (s.emit o).bridgeFault = s.bridgeFault := by unfold State.emit; split <;> rfl
@[simp] theorem State.emit_latched (s : State) (o : Output) : (s.emit o).latched = s.latched := by unfold State.emit; split <;> rfl
@[simp] theorem State.emit_outbox (s : State) (o : Output) : (s.emit o).outbox = if s.jtag.extest then s.outbox else s.outbox ++ [o] := by unfold State.emit; split <;> rfl
@[simp] theorem State.emit_free (s : State) (o : Output) : (s.emit o).free = s.free := by unfold State.emit; split <;> rfl
@[simp] theorem State.emit_pending (s : State) (o : Output) : (s.emit o).pending = s.pending := by unfold State.emit; split <;> rfl
@[simp] theorem State.emit_lane (s : State) (o : Output) (k : LaneId) : (s.emit o).lane k = s.lane k := by cases k <;> (unfold State.emit; split <;> rfl)
@[simp] theorem State.emit_mem (s : State) (o : Output) (k : LaneId) : (s.emit o).mem k = s.mem k := by cases k <;> (unfold State.emit; split <;> rfl)

/-! `setLane` and `modLane` change one lane, `setMem` one memory. -/

@[simp] theorem State.setLane_time (s : State) (l : LaneId) (x : Lane) : (s.setLane l x).time = s.time := by cases l <;> rfl
@[simp] theorem State.modLane_time (s : State) (l : LaneId) (f : Lane → Lane) : (s.modLane l f).time = s.time := by cases l <;> rfl
@[simp] theorem State.setLane_memA (s : State) (l : LaneId) (x : Lane) : (s.setLane l x).memA = s.memA := by cases l <;> rfl
@[simp] theorem State.modLane_memA (s : State) (l : LaneId) (f : Lane → Lane) : (s.modLane l f).memA = s.memA := by cases l <;> rfl
@[simp] theorem State.setLane_memB (s : State) (l : LaneId) (x : Lane) : (s.setLane l x).memB = s.memB := by cases l <;> rfl
@[simp] theorem State.modLane_memB (s : State) (l : LaneId) (f : Lane → Lane) : (s.modLane l f).memB = s.memB := by cases l <;> rfl
@[simp] theorem State.setLane_arb (s : State) (l : LaneId) (x : Lane) : (s.setLane l x).arb = s.arb := by cases l <;> rfl
@[simp] theorem State.modLane_arb (s : State) (l : LaneId) (f : Lane → Lane) : (s.modLane l f).arb = s.arb := by cases l <;> rfl
@[simp] theorem State.setLane_power (s : State) (l : LaneId) (x : Lane) : (s.setLane l x).power = s.power := by cases l <;> rfl
@[simp] theorem State.modLane_power (s : State) (l : LaneId) (f : Lane → Lane) : (s.modLane l f).power = s.power := by cases l <;> rfl
@[simp] theorem State.setLane_safety (s : State) (l : LaneId) (x : Lane) : (s.setLane l x).safety = s.safety := by cases l <;> rfl
@[simp] theorem State.modLane_safety (s : State) (l : LaneId) (f : Lane → Lane) : (s.modLane l f).safety = s.safety := by cases l <;> rfl
@[simp] theorem State.setLane_keep (s : State) (l : LaneId) (x : Lane) : (s.setLane l x).keep = s.keep := by cases l <;> rfl
@[simp] theorem State.modLane_keep (s : State) (l : LaneId) (f : Lane → Lane) : (s.modLane l f).keep = s.keep := by cases l <;> rfl
@[simp] theorem State.setLane_lantern (s : State) (l : LaneId) (x : Lane) : (s.setLane l x).lantern = s.lantern := by cases l <;> rfl
@[simp] theorem State.modLane_lantern (s : State) (l : LaneId) (f : Lane → Lane) : (s.modLane l f).lantern = s.lantern := by cases l <;> rfl
@[simp] theorem State.setLane_host (s : State) (l : LaneId) (x : Lane) : (s.setLane l x).host = s.host := by cases l <;> rfl
@[simp] theorem State.modLane_host (s : State) (l : LaneId) (f : Lane → Lane) : (s.modLane l f).host = s.host := by cases l <;> rfl
@[simp] theorem State.setLane_oculus (s : State) (l : LaneId) (x : Lane) : (s.setLane l x).oculus = s.oculus := by cases l <;> rfl
@[simp] theorem State.modLane_oculus (s : State) (l : LaneId) (f : Lane → Lane) : (s.modLane l f).oculus = s.oculus := by cases l <;> rfl
@[simp] theorem State.setLane_belfry (s : State) (l : LaneId) (x : Lane) : (s.setLane l x).belfry = s.belfry := by cases l <;> rfl
@[simp] theorem State.modLane_belfry (s : State) (l : LaneId) (f : Lane → Lane) : (s.modLane l f).belfry = s.belfry := by cases l <;> rfl
@[simp] theorem State.setLane_node (s : State) (l : LaneId) (x : Lane) : (s.setLane l x).node = s.node := by cases l <;> rfl
@[simp] theorem State.modLane_node (s : State) (l : LaneId) (f : Lane → Lane) : (s.modLane l f).node = s.node := by cases l <;> rfl
@[simp] theorem State.setLane_jtag (s : State) (l : LaneId) (x : Lane) : (s.setLane l x).jtag = s.jtag := by cases l <;> rfl
@[simp] theorem State.modLane_jtag (s : State) (l : LaneId) (f : Lane → Lane) : (s.modLane l f).jtag = s.jtag := by cases l <;> rfl
@[simp] theorem State.setLane_bridgeFault (s : State) (l : LaneId) (x : Lane) : (s.setLane l x).bridgeFault = s.bridgeFault := by cases l <;> rfl
@[simp] theorem State.modLane_bridgeFault (s : State) (l : LaneId) (f : Lane → Lane) : (s.modLane l f).bridgeFault = s.bridgeFault := by cases l <;> rfl
@[simp] theorem State.setLane_latched (s : State) (l : LaneId) (x : Lane) : (s.setLane l x).latched = s.latched := by cases l <;> rfl
@[simp] theorem State.modLane_latched (s : State) (l : LaneId) (f : Lane → Lane) : (s.modLane l f).latched = s.latched := by cases l <;> rfl
@[simp] theorem State.setLane_outbox (s : State) (l : LaneId) (x : Lane) : (s.setLane l x).outbox = s.outbox := by cases l <;> rfl
@[simp] theorem State.modLane_outbox (s : State) (l : LaneId) (f : Lane → Lane) : (s.modLane l f).outbox = s.outbox := by cases l <;> rfl
@[simp] theorem State.setLane_free (s : State) (l : LaneId) (x : Lane) : (s.setLane l x).free = s.free := by cases l <;> rfl
@[simp] theorem State.modLane_free (s : State) (l : LaneId) (f : Lane → Lane) : (s.modLane l f).free = s.free := by cases l <;> rfl
@[simp] theorem State.setLane_pending (s : State) (l : LaneId) (x : Lane) : (s.setLane l x).pending = s.pending := by cases l <;> rfl
@[simp] theorem State.modLane_pending (s : State) (l : LaneId) (f : Lane → Lane) : (s.modLane l f).pending = s.pending := by cases l <;> rfl
@[simp] theorem State.setMem_time (s : State) (l : LaneId) (m : Memory) : (s.setMem l m).time = s.time := by cases l <;> rfl
@[simp] theorem State.setMem_laneA (s : State) (l : LaneId) (m : Memory) : (s.setMem l m).laneA = s.laneA := by cases l <;> rfl
@[simp] theorem State.setMem_laneB (s : State) (l : LaneId) (m : Memory) : (s.setMem l m).laneB = s.laneB := by cases l <;> rfl
@[simp] theorem State.setMem_arb (s : State) (l : LaneId) (m : Memory) : (s.setMem l m).arb = s.arb := by cases l <;> rfl
@[simp] theorem State.setMem_power (s : State) (l : LaneId) (m : Memory) : (s.setMem l m).power = s.power := by cases l <;> rfl
@[simp] theorem State.setMem_safety (s : State) (l : LaneId) (m : Memory) : (s.setMem l m).safety = s.safety := by cases l <;> rfl
@[simp] theorem State.setMem_keep (s : State) (l : LaneId) (m : Memory) : (s.setMem l m).keep = s.keep := by cases l <;> rfl
@[simp] theorem State.setMem_lantern (s : State) (l : LaneId) (m : Memory) : (s.setMem l m).lantern = s.lantern := by cases l <;> rfl
@[simp] theorem State.setMem_host (s : State) (l : LaneId) (m : Memory) : (s.setMem l m).host = s.host := by cases l <;> rfl
@[simp] theorem State.setMem_oculus (s : State) (l : LaneId) (m : Memory) : (s.setMem l m).oculus = s.oculus := by cases l <;> rfl
@[simp] theorem State.setMem_belfry (s : State) (l : LaneId) (m : Memory) : (s.setMem l m).belfry = s.belfry := by cases l <;> rfl
@[simp] theorem State.setMem_node (s : State) (l : LaneId) (m : Memory) : (s.setMem l m).node = s.node := by cases l <;> rfl
@[simp] theorem State.setMem_jtag (s : State) (l : LaneId) (m : Memory) : (s.setMem l m).jtag = s.jtag := by cases l <;> rfl
@[simp] theorem State.setMem_bridgeFault (s : State) (l : LaneId) (m : Memory) : (s.setMem l m).bridgeFault = s.bridgeFault := by cases l <;> rfl
@[simp] theorem State.setMem_latched (s : State) (l : LaneId) (m : Memory) : (s.setMem l m).latched = s.latched := by cases l <;> rfl
@[simp] theorem State.setMem_outbox (s : State) (l : LaneId) (m : Memory) : (s.setMem l m).outbox = s.outbox := by cases l <;> rfl
@[simp] theorem State.setMem_free (s : State) (l : LaneId) (m : Memory) : (s.setMem l m).free = s.free := by cases l <;> rfl
@[simp] theorem State.setMem_pending (s : State) (l : LaneId) (m : Memory) : (s.setMem l m).pending = s.pending := by cases l <;> rfl

@[simp] theorem State.setLane_lane (s : State) (l : LaneId) (x : Lane) : (s.setLane l x).lane l = x := by cases l <;> rfl
@[simp] theorem State.modLane_lane (s : State) (l : LaneId) (f : Lane → Lane) : (s.modLane l f).lane l = f (s.lane l) := by cases l <;> rfl
theorem State.setLane_lane_if (s : State) (l k : LaneId) (x : Lane) : (s.setLane l x).lane k = if k = l then x else s.lane k := by
  cases l <;> cases k <;> rfl
theorem State.modLane_lane_if (s : State) (l k : LaneId) (f : Lane → Lane) : (s.modLane l f).lane k = if k = l then f (s.lane l) else s.lane k := by
  cases l <;> cases k <;> rfl
@[simp] theorem State.setLane_other (s : State) (l : LaneId) (x : Lane) : (s.setLane l x).lane l.other = s.lane l.other := by cases l <;> rfl
@[simp] theorem State.modLane_other (s : State) (l : LaneId) (f : Lane → Lane) : (s.modLane l f).lane l.other = s.lane l.other := by cases l <;> rfl
@[simp] theorem State.setLane_otherOf (s : State) (l : LaneId) (x : Lane) : (s.setLane l.other x).lane l = s.lane l := by cases l <;> rfl
@[simp] theorem State.modLane_otherOf (s : State) (l : LaneId) (f : Lane → Lane) : (s.modLane l.other f).lane l = s.lane l := by cases l <;> rfl
@[simp] theorem State.setLane_mem (s : State) (l k : LaneId) (x : Lane) : (s.setLane l x).mem k = s.mem k := by cases l <;> cases k <;> rfl
@[simp] theorem State.modLane_mem (s : State) (l k : LaneId) (f : Lane → Lane) : (s.modLane l f).mem k = s.mem k := by cases l <;> cases k <;> rfl
@[simp] theorem State.setMem_lane (s : State) (l k : LaneId) (m : Memory) : (s.setMem l m).lane k = s.lane k := by cases l <;> cases k <;> rfl
@[simp] theorem State.setMem_mem (s : State) (l : LaneId) (m : Memory) : (s.setMem l m).mem l = m := by cases l <;> rfl
theorem State.setMem_mem_if (s : State) (l k : LaneId) (m : Memory) : (s.setMem l m).mem k = if k = l then m else s.mem k := by
  cases l <;> cases k <;> rfl
@[simp] theorem State.lane_A (s : State) : s.lane .A = s.laneA := rfl
@[simp] theorem State.lane_B (s : State) : s.lane .B = s.laneB := rfl
@[simp] theorem State.mem_A (s : State) : s.mem .A = s.memA := rfl
@[simp] theorem State.mem_B (s : State) : s.mem .B = s.memB := rfl

end Sys2Proof.Machine
end

