-- ==== Sys2Proof/Laws/Still.lean ====
section
/-! SUPPORT. What most operations leave alone: the queue, the memories, the test access port, under EXTEST the pins, and whether domain 0
runs with what the straps gave it. One lemma per operation. -/

namespace Sys2Proof.Machine

/-- Whether domain 0 runs, and the role, module number, ordering code and stepping read at power-on reset. -/
def PowerState.fixed (p : PowerState) : Bool × Nat × Nat × Bool × Nat := (p.booted, p.role, p.module, p.nx, p.stepping)

/-- The queue of commands, the test access port, what has left the pins while EXTEST holds them, both memories, and what power-on reset fixed. -/
structure Still where
  pending : List Instr
  jtag    : JtagState
  shown   : List Output
  memA    : Memory
  memB    : Memory
  fixed   : Bool × Nat × Nat × Bool × Nat

def State.still (s : State) : Still := ⟨s.pending, s.jtag, if s.jtag.extest then s.outbox else [], s.memA, s.memB, s.power.fixed⟩

theorem pending_of_still {s t : State} (h : t.still = s.still) : t.pending = s.pending := congrArg Still.pending h
theorem jtag_of_still {s t : State} (h : t.still = s.still) : t.jtag = s.jtag := congrArg Still.jtag h
theorem memA_of_still {s t : State} (h : t.still = s.still) : t.memA = s.memA := congrArg Still.memA h
theorem memB_of_still {s t : State} (h : t.still = s.still) : t.memB = s.memB := congrArg Still.memB h
theorem mem_of_still {s t : State} (h : t.still = s.still) (l : LaneId) : t.mem l = s.mem l := by
  cases l
  · exact memA_of_still h
  · exact memB_of_still h
theorem fixed_of_still {s t : State} (h : t.still = s.still) : t.power.fixed = s.power.fixed := congrArg Still.fixed h
/-- While EXTEST drives the pins nothing has left the block. -/
theorem outbox_of_still {s t : State} (h : t.still = s.still) (he : s.jtag.extest = true) : t.outbox = s.outbox := by
  have hs := congrArg Still.shown h
  have hj := jtag_of_still h
  simpa [State.still, hj, he] using hs

@[simp] theorem still_ite (c : Prop) [Decidable c] (a b : State) : (if c then a else b).still = if c then a.still else b.still := by
  split <;> rfl

@[simp] theorem foldl_still {α : Type} (f : State → α → State) (h : ∀ s a, (f s a).still = s.still) (l : List α) (s : State) :
    (l.foldl f s).still = s.still := by
  induction l generalizing s with
  | nil => rfl
  | cons a l ih => simp [List.foldl_cons, ih, h]

/-! The domain operations keep what power-on reset fixed. -/

@[simp] theorem wakeRequest_booted (ds : List Nat) (p : PowerState) : ((wakeRequest ds p)).booted = p.booted := rfl
@[simp] theorem wakeRequest_role (ds : List Nat) (p : PowerState) : ((wakeRequest ds p)).role = p.role := rfl
@[simp] theorem wakeRequest_module (ds : List Nat) (p : PowerState) : ((wakeRequest ds p)).module = p.module := rfl
@[simp] theorem wakeRequest_nx (ds : List Nat) (p : PowerState) : ((wakeRequest ds p)).nx = p.nx := rfl
@[simp] theorem wakeRequest_stepping (ds : List Nat) (p : PowerState) : ((wakeRequest ds p)).stepping = p.stepping := rfl
@[simp] theorem switchOff_booted (ds : List Nat) (p : PowerState) : ((switchOff ds p)).booted = p.booted := rfl
@[simp] theorem switchOff_role (ds : List Nat) (p : PowerState) : ((switchOff ds p)).role = p.role := rfl
@[simp] theorem switchOff_module (ds : List Nat) (p : PowerState) : ((switchOff ds p)).module = p.module := rfl
@[simp] theorem switchOff_nx (ds : List Nat) (p : PowerState) : ((switchOff ds p)).nx = p.nx := rfl
@[simp] theorem switchOff_stepping (ds : List Nat) (p : PowerState) : ((switchOff ds p)).stepping = p.stepping := rfl
@[simp] theorem inrushAdmit_booted (us : Nat) (p : PowerState) : ((inrushAdmit us p).1).booted = p.booted := rfl
@[simp] theorem inrushAdmit_role (us : Nat) (p : PowerState) : ((inrushAdmit us p).1).role = p.role := rfl
@[simp] theorem inrushAdmit_module (us : Nat) (p : PowerState) : ((inrushAdmit us p).1).module = p.module := rfl
@[simp] theorem inrushAdmit_nx (us : Nat) (p : PowerState) : ((inrushAdmit us p).1).nx = p.nx := rfl
@[simp] theorem inrushAdmit_stepping (us : Nat) (p : PowerState) : ((inrushAdmit us p).1).stepping = p.stepping := rfl
@[simp] theorem wakeDone_booted (us d : Nat) (p : PowerState) : ((wakeDone us d p).1).booted = p.booted := by unfold wakeDone; (repeat' split) <;> rfl
@[simp] theorem wakeDone_role (us d : Nat) (p : PowerState) : ((wakeDone us d p).1).role = p.role := by unfold wakeDone; (repeat' split) <;> rfl
@[simp] theorem wakeDone_module (us d : Nat) (p : PowerState) : ((wakeDone us d p).1).module = p.module := by unfold wakeDone; (repeat' split) <;> rfl
@[simp] theorem wakeDone_nx (us d : Nat) (p : PowerState) : ((wakeDone us d p).1).nx = p.nx := by unfold wakeDone; (repeat' split) <;> rfl
@[simp] theorem wakeDone_stepping (us d : Nat) (p : PowerState) : ((wakeDone us d p).1).stepping = p.stepping := by unfold wakeDone; (repeat' split) <;> rfl
theorem switchOff_fixed (ds : List Nat) (p : PowerState) : (switchOff ds p).fixed = p.fixed := rfl
theorem wakeDone_fixed (us d : Nat) (p : PowerState) : (wakeDone us d p).1.fixed = p.fixed := by simp [PowerState.fixed]

/-! The updates. -/

@[simp] theorem State.setLane_still (s : State) (l : LaneId) (x : Lane) : (s.setLane l x).still = s.still := by cases l <;> rfl
@[simp] theorem State.modLane_still (s : State) (l : LaneId) (f : Lane → Lane) : (s.modLane l f).still = s.still := by cases l <;> rfl
@[simp] theorem State.modTime_still (s : State) (f : TimeState → TimeState) : (s.modTime f).still = s.still := rfl
@[simp] theorem State.modArb_still (s : State) (f : ArbState → ArbState) : (s.modArb f).still = s.still := rfl
theorem State.modPower_keeps (s : State) (f : PowerState → PowerState) (h : (f s.power).fixed = s.power.fixed) : (s.modPower f).still = s.still := by
  show Still.mk _ _ _ _ _ (f s.power).fixed = _
  rw [h]
  rfl
@[simp] theorem State.modPower_still (s : State) (f : PowerState → PowerState) (hb : (f s.power).booted = s.power.booted)
    (hr : (f s.power).role = s.power.role) (hm : (f s.power).module = s.power.module) (hn : (f s.power).nx = s.power.nx)
    (hs : (f s.power).stepping = s.power.stepping) : (s.modPower f).still = s.still :=
  State.modPower_keeps s f (by rw [PowerState.fixed, PowerState.fixed, hb, hr, hm, hn, hs])
@[simp] theorem State.modSafety_still (s : State) (f : SafetyState → SafetyState) : (s.modSafety f).still = s.still := rfl
@[simp] theorem State.modKeep_still (s : State) (f : KeepState → KeepState) : (s.modKeep f).still = s.still := rfl
@[simp] theorem State.modLantern_still (s : State) (f : LanternState → LanternState) : (s.modLantern f).still = s.still := rfl
@[simp] theorem State.modHost_still (s : State) (f : HostState → HostState) : (s.modHost f).still = s.still := rfl
@[simp] theorem State.modOculus_still (s : State) (f : OculusState → OculusState) : (s.modOculus f).still = s.still := rfl
@[simp] theorem State.modBelfry_still (s : State) (f : BelfryState → BelfryState) : (s.modBelfry f).still = s.still := rfl
@[simp] theorem State.modNode_still (s : State) (f : NodeState → NodeState) : (s.modNode f).still = s.still := rfl
@[simp] theorem State.setBridge_still (s : State) (b : Bool) : (s.setBridge b).still = s.still := rfl
@[simp] theorem State.setLatched_still (s : State) (m : Option Nat) : (s.setLatched m).still = s.still := rfl
@[simp] theorem State.useFree_still (s : State) (n : Nat) : (s.useFree n).still = s.still := rfl
@[simp] theorem State.emit_still (s : State) (o : Output) : (s.emit o).still = s.still := by
  unfold State.emit
  split
  · rfl
  · next h => simp [State.still, h]
@[simp] theorem State.modLanes_still (s : State) (f : Lane → Lane) : (s.modLanes f).still = s.still := by
  unfold State.modLanes
  (repeat' split) <;> simp

/-! The operations. -/

@[simp] theorem advanceTo_still (t : Nat) (s : State) : (advanceTo t s).still = s.still := by
  unfold advanceTo
  split <;> simp

@[simp] theorem atTick_still (code t : Nat) (k : State → State) (s : State) (hk : ∀ u, (k u).still = u.still) : (atTick code t k s).still = s.still := by
  unfold atTick
  split <;> simp [hk]

@[simp] theorem countIn_still (l : LaneId) (ev q n : Nat) (s : State)  : (countIn l ev q n s).still = s.still := by
  unfold countIn
  first | rfl | (simp; done) | (split <;> simp [*]; done) | ((repeat' split) <;> simp [*]; done) | (dsimp only; (repeat' split) <;> simp [*])

@[simp] theorem count_still (src : Option LaneId) (ev q n : Nat) (s : State)  : (count src ev q n s).still = s.still := by
  unfold count
  first | rfl | (simp; done) | (split <;> simp [*]; done) | ((repeat' split) <;> simp [*]; done) | (dsimp only; (repeat' split) <;> simp [*])

@[simp] theorem bwCount_still (l : LaneId) (port i o frames drops : Nat) (s : State)  : (bwCount l port i o frames drops s).still = s.still := by
  unfold bwCount
  first | rfl | (simp; done) | (split <;> simp [*]; done) | ((repeat' split) <;> simp [*]; done) | (dsimp only; (repeat' split) <;> simp [*])

@[simp] theorem sendDatagram_still (p : EthPort) (dst : Source) (raw : Bytes) (s : State)  : (sendDatagram p dst raw s).still = s.still := by
  unfold sendDatagram
  first | rfl | (simp; done) | (split <;> simp [*]; done) | ((repeat' split) <;> simp [*]; done) | (dsimp only; (repeat' split) <;> simp [*])

@[simp] theorem keepPut_still (src : Option LaneId) (typ : Nat) (integ : Bool) (payload : Bytes) (s : State)  : (keepPut src typ integ payload s).still = s.still := by
  unfold keepPut
  first | rfl | (simp; done) | (split <;> simp [*]; done) | ((repeat' split) <;> simp [*]; done) | (dsimp only; (repeat' split) <;> simp [*])

@[simp] theorem closeChannel_still (c : Fin 4) (s : State)  : (closeChannel c s).still = s.still := by
  unfold closeChannel
  first | rfl | (simp; done) | (split <;> simp [*]; done) | ((repeat' split) <;> simp [*]; done) | (dsimp only; (repeat' split) <;> simp [*])

@[simp] theorem postNote_still (code : Nat) (tag : Option (Nat × Nat)) (payload : Bytes) (s : State) (c : Fin 4)  : (postNote code tag payload s c).still = s.still := by
  unfold postNote
  dsimp only
  split
  · rfl
  · next ss _ =>
    split
    · split
      · simp
      · simp
    · rfl

@[simp] theorem noteAll_still (src : Option LaneId) (code : Nat) (tag : Option (Nat × Nat)) (payload : Bytes) (s : State)  : (noteAll src code tag payload s).still = s.still := by
  unfold noteAll
  dsimp only
  generalize (_ && !s.power.pfail) = c
  cases c
  · rfl
  · exact foldl_still _ (fun u a => postNote_still _ _ _ u a) _ _

@[simp] theorem violate_still (l : LaneId) (kind island slot excess : Nat) (s : State)  : (violate l kind island slot excess s).still = s.still := by
  unfold violate
  first | rfl | (simp; done) | (split <;> simp [*]; done) | ((repeat' split) <;> simp [*]; done) | (dsimp only; (repeat' split) <;> simp [*])

@[simp] theorem applyEffect_still (src : Option LaneId) (s : State) (e : Effect)  : (applyEffect src s e).still = s.still := by
  unfold applyEffect
  first | rfl | (simp; done) | (split <;> simp [*]; done) | ((repeat' split) <;> simp [*]; done) | (dsimp only; (repeat' split) <;> simp [*])

@[simp] theorem applyEffects_still (src : Option LaneId) (es : List Effect) (s : State)  : (applyEffects src es s).still = s.still := by
  unfold applyEffects
  exact foldl_still _ (fun u a => applyEffect_still _ u a) _ _

@[simp] theorem laneMeets_still (l : LaneId) (code : Nat) (s : State)  : (laneMeets l code s).still = s.still := by
  unfold laneMeets
  first | rfl | (simp; done) | (split <;> simp [*]; done) | ((repeat' split) <;> simp [*]; done) | (dsimp only; (repeat' split) <;> simp [*])

@[simp] theorem idleTick_still (s : State)  : (idleTick s).still = s.still := by
  unfold idleTick
  first | rfl | (simp; done) | (split <;> simp [*]; done) | ((repeat' split) <;> simp [*]; done) | (dsimp only; (repeat' split) <;> simp [*])

@[simp] theorem advanceUs_still (us : Nat) (s : State)  : (advanceUs us s).still = s.still := by
  unfold advanceUs
  first | rfl | (simp; done) | (split <;> simp [*]; done) | ((repeat' split) <;> simp [*]; done) | (dsimp only; (repeat' split) <;> simp [*])

end Sys2Proof.Machine
end

