-- ==== Sys2Proof/Laws/StillHost.lean ====
section
/-! SUPPORT. What the host operations leave alone (Laws/Still.lean): the order of checks, the journal, the token, sessions, the actions of the lanes and of the Watchtower. -/

namespace Sys2Proof.Machine

/-- What a verdict does keeps the queue, the memories and the pins. -/
def Verdict.Still : Verdict → Prop
  | .refuseAnd _ act => ∀ t, (act t).still = t.still
  | .read _ act => ∀ t, (act t).still = t.still
  | .token f _ => ∀ t, (f t).still = t.still
  | _ => True

/-- What the lanes and the Watchtower do with an accepted command keeps the queue, the memories and the pins. -/
structure Actions.Still (ac : Actions) : Prop where
  lane : ∀ p f l t, (ac.lane p f l t).still = t.still
  wt   : ∀ p pkt t, (ac.wt p pkt t).1.still = t.still

@[simp] theorem putIn_still (l : LaneId) (e : JournalEntry) (s : State)  : (putIn l e s).still = s.still := by
  unfold putIn
  first | rfl | (simp; done) | (split <;> simp [*]; done) | ((repeat' split) <;> simp [*]; done) | (dsimp only; (repeat' split) <;> simp [*])

@[simp] theorem putNew_still (e : JournalEntry) (s : State)  : (putNew e s).still = s.still := by
  unfold putNew
  first | rfl | (simp; done) | (split <;> simp [*]; done) | ((repeat' split) <;> simp [*]; done) | (dsimp only; (repeat' split) <;> simp [*])

@[simp] theorem putBoth_still (e : JournalEntry) (s : State)  : (putBoth e s).still = s.still := by
  unfold putBoth
  first | rfl | (simp; done) | (split <;> simp [*]; done) | ((repeat' split) <;> simp [*]; done) | (dsimp only; (repeat' split) <;> simp [*])

@[simp] theorem ringOut_still (typ dst : Nat) (payload : Bytes) (s : State)  : (ringOut typ dst payload s).still = s.still := by
  unfold ringOut
  first | rfl | (simp; done) | (split <;> simp [*]; done) | ((repeat' split) <;> simp [*]; done) | (dsimp only; (repeat' split) <;> simp [*])

@[simp] theorem newEntry_still (p : HostPort) (pkt : Packet) (kind : Nat) (done system : Bool) (status : Nat) (boundary : Option Nat) (reply : Bytes) (s : State)  : (newEntry p pkt kind done system status boundary reply s).1.still = s.still := by
  unfold newEntry
  first | rfl | (simp; done) | (split <;> simp [*]; done) | ((repeat' split) <;> simp [*]; done) | (dsimp only; (repeat' split) <;> simp [*])

@[simp] theorem replyOut_still (pkt : Packet) (raw : Bytes) (s : State)  : (replyOut pkt raw s).still = s.still := by
  unfold replyOut
  first | rfl | (simp; done) | (split <;> simp [*]; done) | ((repeat' split) <;> simp [*]; done) | (dsimp only; (repeat' split) <;> simp [*])

@[simp] theorem answer_still (p : HostPort) (pkt : Packet) (replay : Bool) (status : Nat) (params : Bytes) (s : State)  : (answer p pkt replay status params s).still = s.still := by
  unfold answer
  first | rfl | (simp; done) | (split <;> simp [*]; done) | ((repeat' split) <;> simp [*]; done) | (dsimp only; (repeat' split) <;> simp [*])

@[simp] theorem answerOpen_still (p : HostPort) (pkt : Packet) (status : Nat) (params : Bytes) (s : State)  : (answerOpen p pkt status params s).still = s.still := by
  unfold answerOpen
  first | rfl | (simp; done) | (split <;> simp [*]; done) | ((repeat' split) <;> simp [*]; done) | (dsimp only; (repeat' split) <;> simp [*])

@[simp] theorem setFlight_still (p : HostPort) (f : InFlight) (s : State)  : (setFlight p f s).still = s.still := by
  unfold setFlight
  first | rfl | (simp; done) | (split <;> simp [*]; done) | ((repeat' split) <;> simp [*]; done) | (dsimp only; (repeat' split) <;> simp [*])

@[simp] theorem finishFlight_still (p : HostPort) (f : InFlight) (s : State)  : (finishFlight p f s).still = s.still := by
  unfold finishFlight
  first | rfl | (simp; done) | (split <;> simp [*]; done) | ((repeat' split) <;> simp [*]; done) | (dsimp only; (repeat' split) <;> simp [*])

@[simp] theorem replyWhenDue_still (p : HostPort) (f : InFlight) (s : State)  : (replyWhenDue p f s).still = s.still := by
  unfold replyWhenDue
  first | rfl | (simp; done) | (split <;> simp [*]; done) | ((repeat' split) <;> simp [*]; done) | (dsimp only; (repeat' split) <;> simp [*])

@[simp] theorem concludes_still (p : HostPort) (pkt : Packet) (kind : CmdKind) (entry : Nat) (replay : Bool) (status : Nat) (params : Bytes) (s : State)  : (concludes p pkt kind entry replay status params s).still = s.still := by
  unfold concludes
  first | rfl | (simp; done) | (split <;> simp [*]; done) | ((repeat' split) <;> simp [*]; done) | (dsimp only; (repeat' split) <;> simp [*])

@[simp] theorem refuse_still (p : HostPort) (pkt : Packet) (status : Nat) (detail : Bytes) (s : State)  : (refuse p pkt status detail s).still = s.still := by
  unfold refuse
  first | rfl | (simp; done) | (split <;> simp [*]; done) | ((repeat' split) <;> simp [*]; done) | (dsimp only; (repeat' split) <;> simp [*])

@[simp] theorem holdHead_still (p : HostPort) (s : State)  : (holdHead p s).still = s.still := by
  unfold holdHead
  first | rfl | (simp; done) | (split <;> simp [*]; done) | ((repeat' split) <;> simp [*]; done) | (dsimp only; (repeat' split) <;> simp [*])

@[simp] theorem wtTake_still (ac : Actions) (p : HostPort) (pkt : Packet) (s : State) (hac : ac.Still) : (wtTake ac p pkt s).1.still = s.still := by
  unfold wtTake
  split
  · rfl
  · dsimp only
    split
    · simp [hac.wt]
    · exact hac.wt _ _ _

@[simp] theorem execLanes_still (ac : Actions) (p : HostPort) (f : InFlight) (s : State) (hac : ac.Still) : (execLanes ac p f s).still = s.still := by
  unfold execLanes
  dsimp only
  split <;> simp [hac.lane]

@[simp] theorem forwardIt_still (ac : Actions) (p : HostPort) (f : InFlight) (s : State) (hac : ac.Still) : (forwardIt ac p f s).still = s.still := by
  unfold forwardIt
  first | rfl | (simp; done) | (split <;> simp [*]; done) | ((repeat' split) <;> simp [*]; done) | (dsimp only; (repeat' split) <;> simp [*])

@[simp] theorem acceptCommand_still (ac : Actions) (p : HostPort) (pkt : Packet) (sp : OpSpec) (status : Nat) (reply : Bytes) (later : Bool) (s : State) (hac : ac.Still) : (acceptCommand ac p pkt sp status reply later s).still = s.still := by
  unfold acceptCommand
  first | rfl | (simp; done) | (split <;> simp [*]; done) | ((repeat' split) <;> simp [*]; done) | (dsimp only; (repeat' split) <;> simp [*])

@[simp] theorem carryFlight_still (f : InFlight) (s : State)  : (carryFlight f s).2.still = s.still := by
  unfold carryFlight
  first | rfl | (simp; done) | (split <;> simp [*]; done) | ((repeat' split) <;> simp [*]; done) | (dsimp only; (repeat' split) <;> simp [*])

@[simp] theorem mirrorDone_still (ac : Actions) (p : HostPort) (s : State) (hac : ac.Still) : (mirrorDone ac p s).still = s.still := by
  unfold mirrorDone
  first | rfl | (simp; done) | (split <;> simp [*]; done) | ((repeat' split) <;> simp [*]; done) | (dsimp only; (repeat' split) <;> simp [*])

@[simp] theorem releaseMirrors_still (ac : Actions) (s : State) (hac : ac.Still) : (releaseMirrors ac s).still = s.still := by
  unfold releaseMirrors
  first | rfl | (simp; done) | (split <;> simp [*]; done) | ((repeat' split) <;> simp [*]; done) | (dsimp only; (repeat' split) <;> simp [*])

@[simp] theorem serve_still (ac : Actions) (p : HostPort) (chk : Packet → State → Verdict) (pkt : Packet) (s : State) (hac : ac.Still) (hchk : ∀ a t, (chk a t).Still) : (serve ac p chk pkt s).still = s.still := by
  unfold serve
  dsimp only
  split
  · simp
  split
  · simp
  split
  · simp
  · simp
  · next sp _ _ =>
    have hv := hchk pkt s
    split
    · simp
    · next st act h => rw [h] at hv; simp [hv _]
    · rfl
    · simp
    · next reply act h =>
      rw [h] at hv
      split <;> simp [hv _]
    · next f reply h => rw [h] at hv; simp [hv _]
    · split <;> simp [hac]
    · split <;> simp [hac]
    · split
      · split <;> simp [hac.wt]
      · split <;> simp [hac]

@[simp] theorem visited_still (p : HostPort) (s : State)  : (visited p s).still = s.still := by
  unfold visited
  first | rfl | (simp; done) | (split <;> simp [*]; done) | ((repeat' split) <;> simp [*]; done) | (dsimp only; (repeat' split) <;> simp [*])

@[simp] theorem hostCommand_still (ac : Actions) (p : HostPort) (op : Nat) (chk : Packet → State → Verdict) (s : State) (hac : ac.Still) (hchk : ∀ a t, (chk a t).Still) : (hostCommand ac p op chk s).still = s.still := by
  unfold hostCommand
  split
  · split
    · simp [hac, hchk]
    · rfl
  · rfl

@[simp] theorem syncTimeLost_still (s : State)  : (syncTimeLost s).still = s.still := by
  unfold syncTimeLost
  first | rfl | (simp; done) | (split <;> simp [*]; done) | ((repeat' split) <;> simp [*]; done) | (dsimp only; (repeat' split) <;> simp [*])

@[simp] theorem winReadFx_still (off : Nat) (l : LaneId) (s : State)  : (winReadFx off l s).still = s.still := by
  unfold winReadFx
  first | rfl | (simp; done) | (split <;> simp [*]; done) | ((repeat' split) <;> simp [*]; done) | (dsimp only; (repeat' split) <;> simp [*])

@[simp] theorem winWrite_still (off w : Nat) (l : LaneId) (s : State)  : (winWrite off w l s).still = s.still := by
  unfold winWrite
  first | rfl | (simp; done) | (split <;> simp [*]; done) | ((repeat' split) <;> simp [*]; done) | (dsimp only; (repeat' split) <;> simp [*])

@[simp] theorem skyReadFx_still (off : Nat) (s : State)  : (skyReadFx off s).still = s.still := by
  unfold skyReadFx
  first | rfl | (simp; done) | (split <;> simp [*]; done) | ((repeat' split) <;> simp [*]; done) | (dsimp only; (repeat' split) <;> simp [*])

@[simp] theorem skyWrite_still (off w : Nat) (s : State)  : (skyWrite off w s).still = s.still := by
  unfold skyWrite
  first | rfl | (simp; done) | (split <;> simp [*]; done) | ((repeat' split) <;> simp [*]; done) | (dsimp only; (repeat' split) <;> simp [*])

@[simp] theorem wtReadFx_still (off : Nat) (s : State)  : (wtReadFx off s).still = s.still := by
  unfold wtReadFx
  split
  · exact State.modArb_still s _
  split
  · exact State.modPower_still s _ rfl rfl rfl rfl rfl
  split
  · exact State.modSafety_still s _
  split
  · exact State.modKeep_still s _
  split
  · exact State.modLantern_still s _
  rfl

@[simp] theorem wtWrite_still (off w : Nat) (s : State)  : (wtWrite off w s).still = s.still := by
  unfold wtWrite
  split
  · exact State.modPower_keeps s _ rfl
  · simp
  · simp
  · rfl

@[simp] theorem wtRefuse_still (st : Nat) (d : Bytes) (s : State)  : (wtRefuse st d s).1.still = s.still := by
  unfold wtRefuse
  first | rfl | (simp; done) | (split <;> simp [*]; done) | ((repeat' split) <;> simp [*]; done) | (dsimp only; (repeat' split) <;> simp [*])

@[simp] theorem wtDone_still (reply : Bytes) (s : State)  : (wtDone reply s).1.still = s.still := by
  unfold wtDone
  first | rfl | (simp; done) | (split <;> simp [*]; done) | ((repeat' split) <;> simp [*]; done) | (dsimp only; (repeat' split) <;> simp [*])

@[simp] theorem syncReserved_still (s : State)  : (syncReserved s).still = s.still := by
  unfold syncReserved
  first | rfl | (simp; done) | (split <;> simp [*]; done) | ((repeat' split) <;> simp [*]; done) | (dsimp only; (repeat' split) <;> simp [*])

@[simp] theorem pendingGone_still (before : Bool) (s : State)  : (pendingGone before s).still = s.still := by
  unfold pendingGone
  first | rfl | (simp; done) | (split <;> simp [*]; done) | ((repeat' split) <;> simp [*]; done) | (dsimp only; (repeat' split) <;> simp [*])

@[simp] theorem wtKeepInfo_still (s : State)  : (wtKeepInfo s).1.still = s.still := by
  unfold wtKeepInfo
  first | rfl | (simp; done) | (split <;> simp [*]; done) | ((repeat' split) <;> simp [*]; done) | (dsimp only; (repeat' split) <;> simp [*])

@[simp] theorem wtKeepRead_still (p : Packet) (s : State)  : (wtKeepRead p s).1.still = s.still := by
  unfold wtKeepRead
  first | rfl | (simp; done) | (split <;> simp [*]; done) | ((repeat' split) <;> simp [*]; done) | (dsimp only; (repeat' split) <;> simp [*])

@[simp] theorem wtKeepMark_still (p : Packet) (s : State)  : (wtKeepMark p s).1.still = s.still := by
  unfold wtKeepMark
  first | rfl | (simp; done) | (split <;> simp [*]; done) | ((repeat' split) <;> simp [*]; done) | (dsimp only; (repeat' split) <;> simp [*])

@[simp] theorem wtArbRead_still (s : State)  : (wtArbRead s).1.still = s.still := by
  unfold wtArbRead
  first | rfl | (simp; done) | (split <;> simp [*]; done) | ((repeat' split) <;> simp [*]; done) | (dsimp only; (repeat' split) <;> simp [*])

@[simp] theorem wtLaneRestart_still (p : Packet) (s : State)  : (wtLaneRestart p s).1.still = s.still := by
  unfold wtLaneRestart
  first | rfl | (simp; done) | (split <;> simp [*]; done) | ((repeat' split) <;> simp [*]; done) | (dsimp only; (repeat' split) <;> simp [*])

theorem wtRegRun_still (n o : Nat) (s : State) : (wtRegRun n o s).2.still = s.still := by
  induction n generalizing o s with
  | zero => rfl
  | succ n ih => simp [wtRegRun, ih]

@[simp] theorem wtRegRead_still (p : Packet) (s : State)  : (wtRegRead p s).1.still = s.still := by
  unfold wtRegRead
  dsimp only
  split
  · rfl
  · split
    · rfl
    · exact wtRegRun_still _ _ s

@[simp] theorem wtSafetyStatus_still (s : State)  : (wtSafetyStatus s).1.still = s.still := by
  unfold wtSafetyStatus
  first | rfl | (simp; done) | (split <;> simp [*]; done) | ((repeat' split) <;> simp [*]; done) | (dsimp only; (repeat' split) <;> simp [*])

@[simp] theorem wtSafetyBlockLoad_still (p : Packet) (s : State)  : (wtSafetyBlockLoad p s).1.still = s.still := by
  unfold wtSafetyBlockLoad
  first | rfl | (simp; done) | (split <;> simp [*]; done) | ((repeat' split) <;> simp [*]; done) | (dsimp only; (repeat' split) <;> simp [*])

@[simp] theorem wtSafetyBlockRead_still (p : Packet) (s : State)  : (wtSafetyBlockRead p s).1.still = s.still := by
  unfold wtSafetyBlockRead
  first | rfl | (simp; done) | (split <;> simp [*]; done) | ((repeat' split) <;> simp [*]; done) | (dsimp only; (repeat' split) <;> simp [*])

@[simp] theorem wtSafetyConfirm_still (hp : HostPort) (p : Packet) (s : State)  : (wtSafetyConfirm hp p s).1.still = s.still := by
  unfold wtSafetyConfirm
  first | rfl | (simp; done) | (split <;> simp [*]; done) | ((repeat' split) <;> simp [*]; done) | (dsimp only; (repeat' split) <;> simp [*])

@[simp] theorem wtSafetyZoneRequest_still (p : Packet) (s : State)  : (wtSafetyZoneRequest p s).1.still = s.still := by
  unfold wtSafetyZoneRequest
  first | rfl | (simp; done) | (split <;> simp [*]; done) | ((repeat' split) <;> simp [*]; done) | (dsimp only; (repeat' split) <;> simp [*])

@[simp] theorem wtSafetyProofTest_still (p : Packet) (s : State)  : (wtSafetyProofTest p s).1.still = s.still := by
  unfold wtSafetyProofTest
  first | rfl | (simp; done) | (split <;> simp [*]; done) | ((repeat' split) <;> simp [*]; done) | (dsimp only; (repeat' split) <;> simp [*])

@[simp] theorem wtLtnStatus_still (s : State)  : (wtLtnStatus s).1.still = s.still := by
  unfold wtLtnStatus
  first | rfl | (simp; done) | (split <;> simp [*]; done) | ((repeat' split) <;> simp [*]; done) | (dsimp only; (repeat' split) <;> simp [*])

@[simp] theorem wtLtnShow_still (p : Packet) (s : State)  : (wtLtnShow p s).1.still = s.still := by
  unfold wtLtnShow
  first | rfl | (simp; done) | (split <;> simp [*]; done) | ((repeat' split) <;> simp [*]; done) | (dsimp only; (repeat' split) <;> simp [*])

@[simp] theorem wtLtnClear_still (s : State)  : (wtLtnClear s).1.still = s.still := by
  unfold wtLtnClear
  first | rfl | (simp; done) | (split <;> simp [*]; done) | ((repeat' split) <;> simp [*]; done) | (dsimp only; (repeat' split) <;> simp [*])

@[simp] theorem wtLtnPower_still (p : Packet) (s : State)  : (wtLtnPower p s).1.still = s.still := by
  unfold wtLtnPower
  first | rfl | (simp; done) | (split <;> simp [*]; done) | ((repeat' split) <;> simp [*]; done) | (dsimp only; (repeat' split) <;> simp [*])

@[simp] theorem wtAct_still (hp : HostPort) (p : Packet) (s : State)  : (wtAct hp p s).1.still = s.still := by
  unfold wtAct
  first | rfl | (simp; done) | (split <;> simp [*]; done) | ((repeat' split) <;> simp [*]; done) | (dsimp only; (repeat' split) <;> simp [*])

@[simp] theorem mgmtWordFx_still (l : LaneId) (x : Nat) (s : State)  : (mgmtWordFx l x s).still = s.still := by
  unfold mgmtWordFx
  first | rfl | (simp; done) | (split <;> simp [*]; done) | ((repeat' split) <;> simp [*]; done) | (dsimp only; (repeat' split) <;> simp [*])

theorem mgmtWords_still (l : LaneId) (n x : Nat) (s : State) : (mgmtWords l n x s).2.still = s.still := by
  induction n generalizing x s with
  | zero => rfl
  | succ n ih => simp [mgmtWords, ih]

@[simp] theorem mgmtRead_still (l : LaneId) (x n : Nat) (s : State)  : (mgmtRead l x n s).2.still = s.still := by
  unfold mgmtRead
  simp [mgmtWords_still]

@[simp] theorem syncPending_still (s : State)  : (syncPending s).still = s.still := by
  unfold syncPending
  first | rfl | (simp; done) | (split <;> simp [*]; done) | ((repeat' split) <;> simp [*]; done) | (dsimp only; (repeat' split) <;> simp [*])

@[simp] theorem laneAct_still (p : HostPort) (f : InFlight) (l : LaneId) (s : State)  : (laneAct p f l s).still = s.still := by
  unfold laneAct
  first | rfl | (simp; done) | (split <;> simp [*]; done) | ((repeat' split) <;> simp [*]; done) | (dsimp only; (repeat' split) <;> simp [*])

@[simp] theorem acts_still : acts.Still := ⟨fun p f l t => laneAct_still p f l t, fun p pkt t => wtAct_still p pkt t⟩

@[simp] theorem applySetting_still (l : LaneId) (g : Staged) (s : State)  : (applySetting l g s).still = s.still := by
  unfold applySetting
  first | rfl | (simp; done) | (split <;> simp [*]; done) | ((repeat' split) <;> simp [*]; done) | (dsimp only; (repeat' split) <;> simp [*])

@[simp] theorem applyDue_still (l : LaneId) (s : State)  : (applyDue l s).still = s.still := by
  unfold applyDue
  exact (foldl_still _ (fun u a => applySetting_still _ _ u) _ _).trans (by simp)

@[simp] theorem looseReply_still (pkt : Packet) (status : Nat) (s : State)  : (looseReply pkt status s).still = s.still := by
  unfold looseReply
  first | rfl | (simp; done) | (split <;> simp [*]; done) | ((repeat' split) <;> simp [*]; done) | (dsimp only; (repeat' split) <;> simp [*])

@[simp] theorem countDiscard_still (src : Source) (s : State)  : (countDiscard src s).still = s.still := by
  unfold countDiscard
  first | rfl | (simp; done) | (split <;> simp [*]; done) | ((repeat' split) <;> simp [*]; done) | (dsimp only; (repeat' split) <;> simp [*])

@[simp] theorem takeUdp_still (pkt : Packet) (s : State)  : (takeUdp pkt s).still = s.still := by
  unfold takeUdp
  first | rfl | (simp; done) | (split <;> simp [*]; done) | ((repeat' split) <;> simp [*]; done) | (dsimp only; (repeat' split) <;> simp [*])

@[simp] theorem packetReceive_still (p : EthPort) (src : Source) (sound : Bool) (raw : Bytes) (s : State)  : (packetReceive p src sound raw s).still = s.still := by
  unfold packetReceive
  first | rfl | (simp; done) | (split <;> simp [*]; done) | ((repeat' split) <;> simp [*]; done) | (dsimp only; (repeat' split) <;> simp [*])

@[simp] theorem svcWrite_still (raw : Bytes) (s : State)  : (svcWrite raw s).still = s.still := by
  unfold svcWrite
  first | rfl | (simp; done) | (split <;> simp [*]; done) | ((repeat' split) <;> simp [*]; done) | (dsimp only; (repeat' split) <;> simp [*])

@[simp] theorem svcRead_still (s : State)  : (svcRead s).still = s.still := by
  unfold svcRead
  first | rfl | (simp; done) | (split <;> simp [*]; done) | ((repeat' split) <;> simp [*]; done) | (dsimp only; (repeat' split) <;> simp [*])

@[simp] theorem svcStatus_still (s : State)  : (svcStatus s).still = s.still := by
  unfold svcStatus
  first | rfl | (simp; done) | (split <;> simp [*]; done) | ((repeat' split) <;> simp [*]; done) | (dsimp only; (repeat' split) <;> simp [*])

@[simp] theorem openOn_still (pkt : Packet) (s : State)  : (openOn pkt s).still = s.still := by
  unfold openOn
  first | rfl | (simp; done) | (split <;> simp [*]; done) | ((repeat' split) <;> simp [*]; done) | (dsimp only; (repeat' split) <;> simp [*])

@[simp] theorem refuseOpen_still (pkt : Packet) (status : Nat) (s : State)  : (refuseOpen pkt status s).still = s.still := by
  unfold refuseOpen
  first | rfl | (simp; done) | (split <;> simp [*]; done) | ((repeat' split) <;> simp [*]; done) | (dsimp only; (repeat' split) <;> simp [*])


@[simp] theorem serveOpen_still (s : State)  : (serveOpen s).still = s.still := by
  unfold serveOpen
  first | rfl | (simp; done) | (split <;> simp [*]; done) | ((repeat' split) <;> simp [*]; done) | (dsimp only; (repeat' split) <;> simp [*])

@[simp] theorem serveSvcOpen_still (s : State)  : (serveSvcOpen s).still = s.still := by
  unfold serveSvcOpen
  first | rfl | (simp; done) | (split <;> simp [*]; done) | ((repeat' split) <;> simp [*]; done) | (dsimp only; (repeat' split) <;> simp [*])

@[simp] theorem sessionTimeout_still (p : HostPort) (s : State)  : (sessionTimeout p s).still = s.still := by
  unfold sessionTimeout
  first | rfl | (simp; done) | (split <;> simp [*]; done) | ((repeat' split) <;> simp [*]; done) | (dsimp only; (repeat' split) <;> simp [*])

@[simp] theorem setToken_still (holder cause : Nat) (tag : Option (Nat × Nat)) (s : State)  : (setToken holder cause tag s).still = s.still := by
  unfold setToken
  first | rfl | (simp; done) | (split <;> simp [*]; done) | ((repeat' split) <;> simp [*]; done) | (dsimp only; (repeat' split) <;> simp [*])

@[simp] theorem tokenHoldEnd_still (c : Fin 4) (s : State)  : (tokenHoldEnd c s).still = s.still := by
  unfold tokenHoldEnd
  first | rfl | (simp; done) | (split <;> simp [*]; done) | ((repeat' split) <;> simp [*]; done) | (dsimp only; (repeat' split) <;> simp [*])

@[simp] theorem tokenSessionLoss_still (s0 : State)  : (tokenSessionLoss s0).still = s0.still := by
  unfold tokenSessionLoss
  first | rfl | (simp; done) | (split <;> simp [*]; done) | ((repeat' split) <;> simp [*]; done) | (dsimp only; (repeat' split) <;> simp [*])

@[simp] theorem resendNote_still (c : Fin 4) (n : HeldNote) (s : State)  : (resendNote c n s).still = s.still := by
  unfold resendNote
  first | rfl | (simp; done) | (split <;> simp [*]; done) | ((repeat' split) <;> simp [*]; done) | (dsimp only; (repeat' split) <;> simp [*])

@[simp] theorem holdElapsed_still (p : HostPort) (s : State)  : (holdElapsed p s).still = s.still := by
  unfold holdElapsed
  first | rfl | (simp; done) | (split <;> simp [*]; done) | ((repeat' split) <;> simp [*]; done) | (dsimp only; (repeat' split) <;> simp [*])

@[simp] theorem wtResult_still (p : HostPort) (s : State)  : (wtResult p s).still = s.still := by
  unfold wtResult
  first | rfl | (simp; done) | (split <;> simp [*]; done) | ((repeat' split) <;> simp [*]; done) | (dsimp only; (repeat' split) <;> simp [*])

end Sys2Proof.Machine
end

