-- ==== Sys2Proof/Laws/StillLane.lean ====
section
/-! SUPPORT. What the operations of the lanes, of the Sky die and of the networks leave alone (Laws/Still.lean). -/

namespace Sys2Proof.Machine

/-! The host checks. -/

theorem chkModeSet_still (p : Packet) (s : State) : (chkModeSet p s).Still := by
  unfold chkModeSet
  first | exact trivial | exact fun _ => rfl | ((repeat' split) <;> first | exact trivial | exact fun _ => rfl | (intro t; simp; done)) | (dsimp only; (repeat' split) <;> first | exact trivial | exact fun _ => rfl | (intro t; simp; done))

theorem chkModeStatus_still (a0 : Packet) (s : State) : (chkModeStatus a0 s).Still := by
  unfold chkModeStatus
  first | exact trivial | exact fun _ => rfl | ((repeat' split) <;> first | exact trivial | exact fun _ => rfl | (intro t; simp; done)) | (dsimp only; (repeat' split) <;> first | exact trivial | exact fun _ => rfl | (intro t; simp; done))

theorem chkSpPosition_still (p : Packet) (a0 : State) : (chkSpPosition p a0).Still := by
  unfold chkSpPosition
  first | exact trivial | exact fun _ => rfl | ((repeat' split) <;> first | exact trivial | exact fun _ => rfl | (intro t; simp; done)) | (dsimp only; (repeat' split) <;> first | exact trivial | exact fun _ => rfl | (intro t; simp; done))

theorem chkSpHeading_still (p : Packet) (a0 : State) : (chkSpHeading p a0).Still := by
  unfold chkSpHeading
  first | exact trivial | exact fun _ => rfl | ((repeat' split) <;> first | exact trivial | exact fun _ => rfl | (intro t; simp; done)) | (dsimp only; (repeat' split) <;> first | exact trivial | exact fun _ => rfl | (intro t; simp; done))

theorem chkSpSiteOrigin_still (p : Packet) (a0 : State) : (chkSpSiteOrigin p a0).Still := by
  unfold chkSpSiteOrigin
  first | exact trivial | exact fun _ => rfl | ((repeat' split) <;> first | exact trivial | exact fun _ => rfl | (intro t; simp; done)) | (dsimp only; (repeat' split) <;> first | exact trivial | exact fun _ => rfl | (intro t; simp; done))

theorem chkSpTrack_still (p : Packet) (a0 : State) : (chkSpTrack p a0).Still := by
  unfold chkSpTrack
  first | exact trivial | exact fun _ => rfl | ((repeat' split) <;> first | exact trivial | exact fun _ => rfl | (intro t; simp; done)) | (dsimp only; (repeat' split) <;> first | exact trivial | exact fun _ => rfl | (intro t; simp; done))

theorem chkSpTargetOffset_still (p : Packet) (a0 : State) : (chkSpTargetOffset p a0).Still := by
  unfold chkSpTargetOffset
  first | exact trivial | exact fun _ => rfl | ((repeat' split) <;> first | exact trivial | exact fun _ => rfl | (intro t; simp; done)) | (dsimp only; (repeat' split) <;> first | exact trivial | exact fun _ => rfl | (intro t; simp; done))

theorem chkSpJoystick_still (p : Packet) (s : State) : (chkSpJoystick p s).Still := by
  unfold chkSpJoystick
  first | exact trivial | exact fun _ => rfl | ((repeat' split) <;> first | exact trivial | exact fun _ => rfl | (intro t; simp; done)) | (dsimp only; (repeat' split) <;> first | exact trivial | exact fun _ => rfl | (intro t; simp; done))

theorem chkSpRead_still (a0 : Packet) (s : State) : (chkSpRead a0 s).Still := by
  unfold chkSpRead
  first | exact trivial | exact fun _ => rfl | ((repeat' split) <;> first | exact trivial | exact fun _ => rfl | (intro t; simp; done)) | (dsimp only; (repeat' split) <;> first | exact trivial | exact fun _ => rfl | (intro t; simp; done))

theorem chkRefSelect_still (p : Packet) (s : State) : (chkRefSelect p s).Still := by
  unfold chkRefSelect
  first | exact trivial | exact fun _ => rfl | ((repeat' split) <;> first | exact trivial | exact fun _ => rfl | (intro t; simp; done)) | (dsimp only; (repeat' split) <;> first | exact trivial | exact fun _ => rfl | (intro t; simp; done))

theorem chkChannelSelect_still (p : Packet) (s : State) : (chkChannelSelect p s).Still := by
  unfold chkChannelSelect
  first | exact trivial | exact fun _ => rfl | ((repeat' split) <;> first | exact trivial | exact fun _ => rfl | (intro t; simp; done)) | (dsimp only; (repeat' split) <;> first | exact trivial | exact fun _ => rfl | (intro t; simp; done))

theorem chkGnssSelect_still (p : Packet) (a0 : State) : (chkGnssSelect p a0).Still := by
  unfold chkGnssSelect
  first | exact trivial | exact fun _ => rfl | ((repeat' split) <;> first | exact trivial | exact fun _ => rfl | (intro t; simp; done)) | (dsimp only; (repeat' split) <;> first | exact trivial | exact fun _ => rfl | (intro t; simp; done))

theorem chkGnssNoiseRef_still (p : Packet) (a0 : State) : (chkGnssNoiseRef p a0).Still := by
  unfold chkGnssNoiseRef
  first | exact trivial | exact fun _ => rfl | ((repeat' split) <;> first | exact trivial | exact fun _ => rfl | (intro t; simp; done)) | (dsimp only; (repeat' split) <;> first | exact trivial | exact fun _ => rfl | (intro t; simp; done))

theorem chkRefRead_still (p : Packet) (s : State) : (chkRefRead p s).Still := by
  unfold chkRefRead
  first | exact trivial | exact fun _ => rfl | ((repeat' split) <;> first | exact trivial | exact fun _ => rfl | (intro t; simp; done)) | (dsimp only; (repeat' split) <;> first | exact trivial | exact fun _ => rfl | (intro t; simp; done))

theorem chkChannelRead_still (p : Packet) (s : State) : (chkChannelRead p s).Still := by
  unfold chkChannelRead
  first | exact trivial | exact fun _ => rfl | ((repeat' split) <;> first | exact trivial | exact fun _ => rfl | (intro t; simp; done)) | (dsimp only; (repeat' split) <;> first | exact trivial | exact fun _ => rfl | (intro t; simp; done))

theorem thruster_still (k : Nat) (s : State) : ((thrusterBad k s).getD staged).Still := by
  unfold thrusterBad
  (repeat' split) <;> exact trivial

theorem chkThrAvailable_still (p : Packet) (s : State) : (chkThrAvailable p s).Still := by
  unfold chkThrAvailable
  dsimp only
  split
  · exact trivial
  · exact thruster_still _ _

theorem chkThrOne_still (p : Packet) (s : State) : (chkThrOne p s).Still := by
  unfold chkThrOne
  dsimp only
  split
  · exact trivial
  · exact thruster_still _ _

theorem chkAllocRead_still (p : Packet) (s : State) : (chkAllocRead p s).Still := by
  unfold chkAllocRead
  first | exact trivial | exact fun _ => rfl | ((repeat' split) <;> first | exact trivial | exact fun _ => rfl | (intro t; simp; done)) | (dsimp only; (repeat' split) <;> first | exact trivial | exact fun _ => rfl | (intro t; simp; done))

theorem chkConseqRead_still (a0 : Packet) (s : State) : (chkConseqRead a0 s).Still := by
  unfold chkConseqRead
  first | exact trivial | exact fun _ => rfl | ((repeat' split) <;> first | exact trivial | exact fun _ => rfl | (intro t; simp; done)) | (dsimp only; (repeat' split) <;> first | exact trivial | exact fun _ => rfl | (intro t; simp; done))

theorem chkImageBegin_still (p : Packet) (a0 : State) : (chkImageBegin p a0).Still := by
  unfold chkImageBegin
  first | exact trivial | exact fun _ => rfl | ((repeat' split) <;> first | exact trivial | exact fun _ => rfl | (intro t; simp; done)) | (dsimp only; (repeat' split) <;> first | exact trivial | exact fun _ => rfl | (intro t; simp; done))

theorem chkImageData_still (p : Packet) (s : State) : (chkImageData p s).Still := by
  unfold chkImageData
  first | exact trivial | exact fun _ => rfl | ((repeat' split) <;> first | exact trivial | exact fun _ => rfl | (intro t; simp; done)) | (dsimp only; (repeat' split) <;> first | exact trivial | exact fun _ => rfl | (intro t; simp; done))

theorem chkImageVerify_still (a0 : Packet) (s : State) : (chkImageVerify a0 s).Still := by
  unfold chkImageVerify
  first | exact trivial | exact fun _ => rfl | ((repeat' split) <;> first | exact trivial | exact fun _ => rfl | (intro t; simp; done)) | (dsimp only; (repeat' split) <;> first | exact trivial | exact fun _ => rfl | (intro t; simp; done))

theorem chkImageCommit_still (a0 : Packet) (s : State) : (chkImageCommit a0 s).Still := by
  unfold chkImageCommit
  first | exact trivial | exact fun _ => rfl | ((repeat' split) <;> first | exact trivial | exact fun _ => rfl | (intro t; simp; done)) | (dsimp only; (repeat' split) <;> first | exact trivial | exact fun _ => rfl | (intro t; simp; done))

@[simp] theorem lastVerified_still (code : Nat) (s : State) : (lastVerified code s).still = s.still := by
  unfold lastVerified
  simp

theorem chkImageRollback_still (a0 : Packet) (s : State) : (chkImageRollback a0 s).Still := by
  unfold chkImageRollback
  first | exact trivial | exact fun _ => rfl | ((repeat' split) <;> first | exact trivial | exact fun _ => rfl | (intro t; simp; done)) | (dsimp only; (repeat' split) <;> first | exact trivial | exact fun _ => rfl | (intro t; simp; done))

theorem chkImageStatus_still (a0 : Packet) (s : State) : (chkImageStatus a0 s).Still := by
  unfold chkImageStatus
  first | exact trivial | exact fun _ => rfl | ((repeat' split) <;> first | exact trivial | exact fun _ => rfl | (intro t; simp; done)) | (dsimp only; (repeat' split) <;> first | exact trivial | exact fun _ => rfl | (intro t; simp; done))

theorem chkTierFloor_still (p : Packet) (a0 : State) : (chkTierFloor p a0).Still := by
  unfold chkTierFloor
  first | exact trivial | exact fun _ => rfl | ((repeat' split) <;> first | exact trivial | exact fun _ => rfl | (intro t; simp; done)) | (dsimp only; (repeat' split) <;> first | exact trivial | exact fun _ => rfl | (intro t; simp; done))

theorem chkForward_still (a0 : Packet) (a1 : State) : (chkForward a0 a1).Still := by
  unfold chkForward
  first | exact trivial | exact fun _ => rfl | ((repeat' split) <;> first | exact trivial | exact fun _ => rfl | (intro t; simp; done)) | (dsimp only; (repeat' split) <;> first | exact trivial | exact fun _ => rfl | (intro t; simp; done))

theorem chkHealthRead_still (a0 : Packet) (s : State) : (chkHealthRead a0 s).Still := by
  unfold chkHealthRead
  first | exact trivial | exact fun _ => rfl | ((repeat' split) <;> first | exact trivial | exact fun _ => rfl | (intro t; simp; done)) | (dsimp only; (repeat' split) <;> first | exact trivial | exact fun _ => rfl | (intro t; simp; done))

theorem chkRegRead_still (p : Packet) (s : State) : (chkRegRead p s).Still := by
  unfold chkRegRead
  dsimp only
  split
  · exact trivial
  · split
    · exact trivial
    · exact fun t => mgmtWords_still _ _ _ t

theorem chkNetTest_still (p : Packet) (s : State) : (chkNetTest p s).Still := by
  unfold chkNetTest
  first | exact trivial | exact fun _ => rfl | ((repeat' split) <;> first | exact trivial | exact fun _ => rfl | (intro t; simp; done)) | (dsimp only; (repeat' split) <;> first | exact trivial | exact fun _ => rfl | (intro t; simp; done))

theorem chkNetRestart_still (p : Packet) (s : State) : (chkNetRestart p s).Still := by
  unfold chkNetRestart
  first | exact trivial | exact fun _ => rfl | ((repeat' split) <;> first | exact trivial | exact fun _ => rfl | (intro t; simp; done)) | (dsimp only; (repeat' split) <;> first | exact trivial | exact fun _ => rfl | (intro t; simp; done))

theorem chkIdClear_still (p : Packet) (s : State) : (chkIdClear p s).Still := by
  unfold chkIdClear
  first | exact trivial | exact fun _ => rfl | ((repeat' split) <;> first | exact trivial | exact fun _ => rfl | (intro t; simp; done)) | (dsimp only; (repeat' split) <;> first | exact trivial | exact fun _ => rfl | (intro t; simp; done))

theorem chkGnssRawRead_still (p : Packet) (s : State) : (chkGnssRawRead p s).Still := by
  unfold chkGnssRawRead
  first | exact trivial | exact fun _ => rfl | ((repeat' split) <;> first | exact trivial | exact fun _ => rfl | (intro t; simp; done)) | (dsimp only; (repeat' split) <;> first | exact trivial | exact fun _ => rfl | (intro t; simp; done))

theorem chkTimeRead_still (a0 : Packet) (s : State) : (chkTimeRead a0 s).Still := by
  unfold chkTimeRead
  first | exact trivial | exact fun _ => rfl | ((repeat' split) <;> first | exact trivial | exact fun _ => rfl | (intro t; simp; done)) | (dsimp only; (repeat' split) <;> first | exact trivial | exact fun _ => rfl | (intro t; simp; done))

theorem chkAlarmAck_still (p : Packet) (s : State) : (chkAlarmAck p s).Still := by
  unfold chkAlarmAck
  first | exact trivial | exact fun _ => rfl | ((repeat' split) <;> first | exact trivial | exact fun _ => rfl | (intro t; simp; done)) | (dsimp only; (repeat' split) <;> first | exact trivial | exact fun _ => rfl | (intro t; simp; done))

theorem chkAlarmList_still (p : Packet) (s : State) : (chkAlarmList p s).Still := by
  unfold chkAlarmList
  first | exact trivial | exact fun _ => rfl | ((repeat' split) <;> first | exact trivial | exact fun _ => rfl | (intro t; simp; done)) | (dsimp only; (repeat' split) <;> first | exact trivial | exact fun _ => rfl | (intro t; simp; done))

theorem chkCntConfig_still (p : Packet) (eng : Bool) : (chkCntConfig p eng).Still := by
  unfold chkCntConfig
  first | exact trivial | exact fun _ => rfl | ((repeat' split) <;> first | exact trivial | exact fun _ => rfl | (intro t; simp; done)) | (dsimp only; (repeat' split) <;> first | exact trivial | exact fun _ => rfl | (intro t; simp; done))

theorem chkCntRead_still (p : Packet) (s : State) : (chkCntRead p s).Still := by
  unfold chkCntRead
  first | exact trivial | exact fun _ => rfl | ((repeat' split) <;> first | exact trivial | exact fun _ => rfl | (intro t; simp; done)) | (dsimp only; (repeat' split) <;> first | exact trivial | exact fun _ => rfl | (intro t; simp; done))

theorem chkCntClear_still (p : Packet) (eng : Bool) : (chkCntClear p eng).Still := by
  unfold chkCntClear
  first | exact trivial | exact fun _ => rfl | ((repeat' split) <;> first | exact trivial | exact fun _ => rfl | (intro t; simp; done)) | (dsimp only; (repeat' split) <;> first | exact trivial | exact fun _ => rfl | (intro t; simp; done))

theorem chkBwRead_still (p : Packet) (s : State) : (chkBwRead p s).Still := by
  unfold chkBwRead
  first | exact trivial | exact fun _ => rfl | ((repeat' split) <;> first | exact trivial | exact fun _ => rfl | (intro t; simp; done)) | (dsimp only; (repeat' split) <;> first | exact trivial | exact fun _ => rfl | (intro t; simp; done))

theorem engWrite_still (eng : Bool) (s : State) : (engWrite eng s).Still := by
  unfold engWrite
  first | exact trivial | exact fun _ => rfl | ((repeat' split) <;> first | exact trivial | exact fun _ => rfl | (intro t; simp; done)) | (dsimp only; (repeat' split) <;> first | exact trivial | exact fun _ => rfl | (intro t; simp; done))

theorem chkGainWrite_still (eng : Bool) (p : Packet) (s : State) : (chkGainWrite eng p s).Still := by
  unfold chkGainWrite
  dsimp only
  split
  · exact trivial
  split
  · exact trivial
  · exact engWrite_still _ _

theorem chkGainRead_still (p : Packet) (s : State) : (chkGainRead p s).Still := by
  unfold chkGainRead
  first | exact trivial | exact fun _ => rfl | ((repeat' split) <;> first | exact trivial | exact fun _ => rfl | (intro t; simp; done)) | (dsimp only; (repeat' split) <;> first | exact trivial | exact fun _ => rfl | (intro t; simp; done))

theorem chkClose_still (a0 : Packet) (a1 : State) : (chkClose a0 a1).Still := by
  unfold chkClose
  first | exact trivial | exact fun _ => rfl | ((repeat' split) <;> first | exact trivial | exact fun _ => rfl | (intro t; simp; done)) | (dsimp only; (repeat' split) <;> first | exact trivial | exact fun _ => rfl | (intro t; simp; done))

theorem chkTokenRequest_still (p : HostPort) (pkt : Packet) (s : State) : (chkTokenRequest p pkt s).Still := by
  unfold chkTokenRequest
  first | exact trivial | exact fun _ => rfl | ((repeat' split) <;> first | exact trivial | exact fun _ => rfl | (intro t; simp; done)) | (dsimp only; (repeat' split) <;> first | exact trivial | exact fun _ => rfl | (intro t; simp; done))

theorem chkTokenRelease_still (p : HostPort) (pkt : Packet) (s : State) : (chkTokenRelease p pkt s).Still := by
  unfold chkTokenRelease
  first | exact trivial | exact fun _ => rfl | ((repeat' split) <;> first | exact trivial | exact fun _ => rfl | (intro t; simp; done)) | (dsimp only; (repeat' split) <;> first | exact trivial | exact fun _ => rfl | (intro t; simp; done))

theorem chkKeepalive_still (p : HostPort) (pkt : Packet) (s : State) : (chkKeepalive p pkt s).Still := by
  unfold chkKeepalive
  first | exact trivial | exact fun _ => rfl | ((repeat' split) <;> first | exact trivial | exact fun _ => rfl | (intro t; simp; done)) | (dsimp only; (repeat' split) <;> first | exact trivial | exact fun _ => rfl | (intro t; simp; done))

theorem chkNotifyResend_still (p : HostPort) (pkt : Packet) (s : State) : (chkNotifyResend p pkt s).Still := by
  unfold chkNotifyResend
  dsimp only
  split
  · exact trivial
  · split
    · exact foldl_still _ (fun u a => resendNote_still _ _ u) _
    · exact fun _ => rfl

theorem chkChannelStatus_still (p : HostPort) (a0 : Packet) (s : State) : (chkChannelStatus p a0 s).Still := by
  unfold chkChannelStatus
  first | exact trivial | exact fun _ => rfl | ((repeat' split) <;> first | exact trivial | exact fun _ => rfl | (intro t; simp; done)) | (dsimp only; (repeat' split) <;> first | exact trivial | exact fun _ => rfl | (intro t; simp; done))

@[simp] theorem finishSlot_still (l : LaneId) (sl : Slot) (s : State)  : (finishSlot l sl s).still = s.still := by
  unfold finishSlot
  first | rfl | (simp; done) | (split <;> simp [*]; done) | ((repeat' split) <;> simp [*]; done) | (dsimp only; (repeat' split) <;> simp [*])

@[simp] theorem slotWork_still (l : LaneId) (purpose : Nat) (pick : Bytes → Option Slot) (tick : Slot → Nat) (k : Slot → State → State) (s : State) (hk : ∀ a0 t, (k a0 t).still = t.still) : (slotWork l purpose pick tick k s).still = s.still := by
  unfold slotWork
  first | rfl | (simp; done) | (split <;> simp [*]; done) | ((repeat' split) <;> simp [*]; done) | (dsimp only; (repeat' split) <;> simp [*])

@[simp] theorem slotStart_still (l : LaneId) (purpose : Nat) (k : Slot → State → State) (s : State) (hk : ∀ a0 t, (k a0 t).still = t.still) : (slotStart l purpose k s).still = s.still := by
  unfold slotStart
  first | rfl | (simp; done) | (split <;> simp [*]; done) | ((repeat' split) <;> simp [*]; done) | (dsimp only; (repeat' split) <;> simp [*])

@[simp] theorem queueOvf_still (l : LaneId) (q island : Nat) (s : State)  : (queueOvf l q island s).still = s.still := by
  unfold queueOvf
  first | rfl | (simp; done) | (split <;> simp [*]; done) | ((repeat' split) <;> simp [*]; done) | (dsimp only; (repeat' split) <;> simp [*])

@[simp] theorem qPut_still (l : LaneId) (q island : Nat) (s : State) (e : QEntry) : (qPut l q island s e).still = s.still := by
  unfold qPut
  first | rfl | (simp; done) | (split <;> simp [*]; done) | ((repeat' split) <;> simp [*]; done) | (dsimp only; (repeat' split) <;> simp [*])

@[simp] theorem qSend_still (l : LaneId) (q island : Nat) (es : List QEntry) (s : State) : (qSend l q island es s).still = s.still := by
  unfold qSend
  exact foldl_still _ (fun u a => qPut_still _ _ _ u a) _ _

@[simp] theorem lateOnBridge_still (l : LaneId) (s : State)  : (lateOnBridge l s).still = s.still := by
  unfold lateOnBridge
  first | rfl | (simp; done) | (split <;> simp [*]; done) | ((repeat' split) <;> simp [*]; done) | (dsimp only; (repeat' split) <;> simp [*])

@[simp] theorem writeUpdate_still (l : LaneId) (u : ChanUpdate) (s : State)  : (writeUpdate l u s).still = s.still := by
  unfold writeUpdate
  first | rfl | (simp; done) | (split <;> simp [*]; done) | ((repeat' split) <;> simp [*]; done) | (dsimp only; (repeat' split) <;> simp [*])

@[simp] theorem releaseUpTo_still (l : LaneId) (us n : Nat) (s : State) : (releaseUpTo l us n s).still = s.still := by
  induction n generalizing s with
  | zero => rfl
  | succ n ih =>
    unfold releaseUpTo
    split
    · rfl
    · split
      · rfl
      · simp [ih]

@[simp] theorem spireOverflow_still (l : LaneId) (purpose kind : Nat) (s : State)  : (spireOverflow l purpose kind s).still = s.still := by
  unfold spireOverflow
  first | rfl | (simp; done) | (split <;> simp [*]; done) | ((repeat' split) <;> simp [*]; done) | (dsimp only; (repeat' split) <;> simp [*])

@[simp] theorem digestSend_still (l : LaneId) (failed : Bool) (s : State)  : (digestSend l failed s).still = s.still := by
  unfold digestSend
  first | rfl | (simp; done) | (split <;> simp [*]; done) | ((repeat' split) <;> simp [*]; done) | (dsimp only; (repeat' split) <;> simp [*])

@[simp] theorem holdNets_still (s : State)  : (holdNets s).still = s.still := by
  unfold holdNets
  first | rfl | (simp; done) | (split <;> simp [*]; done) | ((repeat' split) <;> simp [*]; done) | (dsimp only; (repeat' split) <;> simp [*])

@[simp] theorem replayReply_still (c : Fin 4) (e : JournalEntry) (status : Nat) (reply : Bytes) (s : State)  : (replayReply c e status reply s).still = s.still := by
  unfold replayReply
  first | rfl | (simp; done) | (split <;> simp [*]; done) | ((repeat' split) <;> simp [*]; done) | (dsimp only; (repeat' split) <;> simp [*])

theorem readCheck_still (op : Nat) (chk : Packet → State → Verdict) (h : readCheck op = some chk) (p : Packet) (s : State) : (chk p s).Still := by
  unfold readCheck at h
  split at h <;> cases h
  · exact chkModeStatus_still p s
  · exact chkSpRead_still p s
  · exact chkRefRead_still p s
  · exact chkChannelRead_still p s
  · exact chkAllocRead_still p s
  · exact chkConseqRead_still p s
  · exact chkImageStatus_still p s
  · exact chkHealthRead_still p s
  · exact chkRegRead_still p s
  · exact chkGnssRawRead_still p s
  · exact chkTimeRead_still p s
  · exact chkAlarmList_still p s
  · exact chkCntRead_still p s
  · exact chkBwRead_still p s
  · exact chkGainRead_still p s

@[simp] theorem replayEntry_still (c : Fin 4) (s : State) (e0 : JournalEntry)  : (replayEntry c s e0).still = s.still := by
  unfold replayEntry
  dsimp only
  split
  · split
    · rfl
    · split
      · next chk _ _ hc =>
        split
        · next act hr =>
          have hv := readCheck_still _ _ hc (entryPacket { e0 with port := e0.port.map (swapPort s.sel.other s.sel) }) s
          rw [hr] at hv
          simp [hv s]
        · simp
        · rfl
      · simp
  · split <;> simp

@[simp] theorem replayChannel_still (declared : Nat) (s : State) (c : Fin 4)  : (replayChannel declared s c).still = s.still := by
  unfold replayChannel
  first | rfl | (simp; done) | (split <;> simp [*]; done) | ((repeat' split) <;> simp [*]; done) | (dsimp only; (repeat' split) <;> simp [*])

@[simp] theorem replayNotes_still (declared : Nat) (s : State) (c : Fin 4)  : (replayNotes declared s c).still = s.still := by
  unfold replayNotes
  first | rfl | (simp; done) | (split <;> simp [*]; done) | ((repeat' split) <;> simp [*]; done) | (dsimp only; (repeat' split) <;> simp [*])

@[simp] theorem passHost_still (old new : LaneId) (healthy : Bool) (s : State)  : (passHost old new healthy s).still = s.still := by
  unfold passHost
  first | rfl | (simp; done) | (split <;> simp [*]; done) | ((repeat' split) <;> simp [*]; done) | (dsimp only; (repeat' split) <;> simp [*])

@[simp] theorem moduleChange_still (b : Nat) (s : State)  : (moduleChange b s).still = s.still := by
  unfold moduleChange
  first | rfl | (simp; done) | (split <;> simp [*]; done) | ((repeat' split) <;> simp [*]; done) | (dsimp only; (repeat' split) <;> simp [*])

@[simp] theorem atBoundary_still (due : Nat → Bool) (k : Nat → State → State) (s : State) (hk : ∀ a0 t, (k a0 t).still = t.still) : (atBoundary due k s).still = s.still := by
  unfold atBoundary
  first | rfl | (simp; done) | (split <;> simp [*]; done) | ((repeat' split) <;> simp [*]; done) | (dsimp only; (repeat' split) <;> simp [*])

@[simp] theorem adoptSnapshot_still (l : LaneId) (s : State)  : (adoptSnapshot l s).still = s.still := by
  unfold adoptSnapshot
  first | rfl | (simp; done) | (split <;> simp [*]; done) | ((repeat' split) <;> simp [*]; done) | (dsimp only; (repeat' split) <;> simp [*])

@[simp] theorem endSnapshot_still (s : State)  : (endSnapshot s).still = s.still := by
  unfold endSnapshot
  first | rfl | (simp; done) | (split <;> simp [*]; done) | ((repeat' split) <;> simp [*]; done) | (dsimp only; (repeat' split) <;> simp [*])

@[simp] theorem igmpJoins_still (l : LaneId) (old : Option Bytes) (new : Bytes) (s : State)  : (igmpJoins l old new s).still = s.still := by
  unfold igmpJoins
  first | rfl | (simp; done) | (split <;> simp [*]; done) | ((repeat' split) <;> simp [*]; done) | (dsimp only; (repeat' split) <;> simp [*])

@[simp] theorem commitUnits_still (l : LaneId) (rollback : Bool) (g : ImgState) (s : State)  : (commitUnits l rollback g s).still = s.still := by
  unfold commitUnits
  first | rfl | (simp; done) | (split <;> simp [*]; done) | ((repeat' split) <;> simp [*]; done) | (dsimp only; (repeat' split) <;> simp [*])

@[simp] theorem nodeActive_still (s : State)  : (nodeActive s).still = s.still := by
  unfold nodeActive
  first | rfl | (simp; done) | (split <;> simp [*]; done) | ((repeat' split) <;> simp [*]; done) | (dsimp only; (repeat' split) <;> simp [*])

@[simp] theorem commitLane_still (l : LaneId) (s : State)  : (commitLane l s).still = s.still := by
  unfold commitLane
  first | rfl | (simp; done) | (split <;> simp [*]; done) | ((repeat' split) <;> simp [*]; done) | (dsimp only; (repeat' split) <;> simp [*])

@[simp] theorem rollbackLane_still (auto : Bool) (l : LaneId) (s : State)  : (rollbackLane auto l s).still = s.still := by
  unfold rollbackLane
  first | rfl | (simp; done) | (split <;> simp [*]; done) | ((repeat' split) <;> simp [*]; done) | (dsimp only; (repeat' split) <;> simp [*])

@[simp] theorem probationFails_still (l : LaneId) (s : State)  : (probationFails l s).still = s.still := by
  unfold probationFails
  first | rfl | (simp; done) | (split <;> simp [*]; done) | ((repeat' split) <;> simp [*]; done) | (dsimp only; (repeat' split) <;> simp [*])

@[simp] theorem lanesReload_still (took : List LaneId) (s : State) : (lanesReload took s).still = s.still := by
  unfold lanesReload
  exact foldl_still _ (fun u a => by split <;> simp) _ _

@[simp] theorem imageStep_still (s : State)  : (imageStep s).1.still = s.still := by
  unfold imageStep
  first | rfl | (simp; done) | (split <;> simp [*]; done) | ((repeat' split) <;> simp [*]; done) | (dsimp only; (repeat' split) <;> simp [*])

@[simp] theorem watchProbation_still (s : State)  : (watchProbation s).still = s.still := by
  unfold watchProbation
  first | rfl | (simp; done) | (split <;> simp [*]; done) | ((repeat' split) <;> simp [*]; done) | (dsimp only; (repeat' split) <;> simp [*])

@[simp] theorem probationLong_still (s : State)  : (probationLong s).still = s.still := by
  unfold probationLong
  dsimp only
  refine foldl_still _ (fun t l => ?_) _ _
  split
  · rfl
  · split
    · split <;> simp
    · simp

@[simp] theorem tierStep_still (l : LaneId) (s : State)  : (tierStep l s).still = s.still := by
  unfold tierStep
  first | rfl | (simp; done) | (split <;> simp [*]; done) | ((repeat' split) <;> simp [*]; done) | (dsimp only; (repeat' split) <;> simp [*])

@[simp] theorem removalStep_still (l : LaneId) (s : State)  : (removalStep l s).still = s.still := by
  unfold removalStep
  first | rfl | (simp; done) | (split <;> simp [*]; done) | ((repeat' split) <;> simp [*]; done) | (dsimp only; (repeat' split) <;> simp [*])

@[simp] theorem regionStep_still (l : LaneId) (s : State)  : (regionStep l s).still = s.still := by
  unfold regionStep
  first | rfl | (simp; done) | (split <;> simp [*]; done) | ((repeat' split) <;> simp [*]; done) | (dsimp only; (repeat' split) <;> simp [*])

@[simp] theorem laneSteps_still (committed : Bool) (l : LaneId) (s : State)  : (laneSteps committed l s).still = s.still := by
  unfold laneSteps
  first | rfl | (simp; done) | (split <;> simp [*]; done) | ((repeat' split) <;> simp [*]; done) | (dsimp only; (repeat' split) <;> simp [*])

@[simp] theorem nextCycle_still (s : State)  : (nextCycle s).still = s.still := by
  unfold nextCycle
  first | rfl | (simp; done) | (split <;> simp [*]; done) | ((repeat' split) <;> simp [*]; done) | (dsimp only; (repeat' split) <;> simp [*])

@[simp] theorem sendSummary_still (s : State)  : (sendSummary s).still = s.still := by
  unfold sendSummary
  first | rfl | (simp; done) | (split <;> simp [*]; done) | ((repeat' split) <;> simp [*]; done) | (dsimp only; (repeat' split) <;> simp [*])

@[simp] theorem lateViolation_still (s : State) (l : LaneId) : (lateViolation s l).still = s.still := by
  unfold lateViolation
  dsimp only
  split
  · exact (applyEffects_still _ _ _).trans (State.modLane_still _ _ _)
  · rfl

@[simp] theorem abandonLane_still (s : State) (l : LaneId)  : (abandonLane s l).still = s.still := by
  unfold abandonLane
  first | rfl | (simp; done) | (split <;> simp [*]; done) | ((repeat' split) <;> simp [*]; done) | (dsimp only; (repeat' split) <;> simp [*])

@[simp] theorem verifyLane_still (eng : Bool) (s : State) (l : LaneId)  : (verifyLane eng s l).still = s.still := by
  unfold verifyLane
  first | rfl | (simp; done) | (split <;> simp [*]; done) | ((repeat' split) <;> simp [*]; done) | (dsimp only; (repeat' split) <;> simp [*])

@[simp] theorem verifyDone_still (s : State)  : (verifyDone s).still = s.still := by
  unfold verifyDone
  first | rfl | (simp; done) | (split <;> simp [*]; done) | ((repeat' split) <;> simp [*]; done) | (dsimp only; (repeat' split) <;> simp [*])

@[simp] theorem lanternStart_still (i : Bytes) (s : State)  : (lanternStart i s).still = s.still := by
  unfold lanternStart
  first | rfl | (simp; done) | (split <;> simp [*]; done) | ((repeat' split) <;> simp [*]; done) | (dsimp only; (repeat' split) <;> simp [*])

@[simp] theorem startInstall_still (l : LaneId) (s : State)  : (startInstall l s).still = s.still := by
  unfold startInstall
  first | rfl | (simp; done) | (split <;> simp [*]; done) | ((repeat' split) <;> simp [*]; done) | (dsimp only; (repeat' split) <;> simp [*])

@[simp] theorem installDone_still (l : LaneId) (s : State)  : (installDone l s).still = s.still := by
  unfold installDone
  first | rfl | (simp; done) | (split <;> simp [*]; done) | ((repeat' split) <;> simp [*]; done) | (dsimp only; (repeat' split) <;> simp [*])

@[simp] theorem streamSnapshot_still (l : LaneId) (s : State) : (streamSnapshot l s).still = s.still := by
  unfold streamSnapshot
  first | rfl | (simp; done) | (split <;> simp [*]; done) | ((repeat' split) <;> simp [*]; done) | (dsimp only; (repeat' split) <;> simp [*])

@[simp] theorem snapshotSlot_still (l : LaneId) (b1 : Slot) (s : State)  : (snapshotSlot l b1 s).still = s.still := by
  unfold snapshotSlot
  first | rfl | (simp; done) | (split <;> simp [*]; done) | ((repeat' split) <;> simp [*]; done) | (dsimp only; (repeat' split) <;> simp [*])

@[simp] theorem handoffSlot_still (l : LaneId) (b1 : Slot) (s : State)  : (handoffSlot l b1 s).still = s.still := by
  unfold handoffSlot
  first | rfl | (simp; done) | (split <;> simp [*]; done) | ((repeat' split) <;> simp [*]; done) | (dsimp only; (repeat' split) <;> simp [*])

@[simp] theorem fusionSlot_still (l : LaneId) (b1 : Slot) (s : State)  : (fusionSlot l b1 s).still = s.still := by
  unfold fusionSlot
  first | rfl | (simp; done) | (split <;> simp [*]; done) | ((repeat' split) <;> simp [*]; done) | (dsimp only; (repeat' split) <;> simp [*])

@[simp] theorem observerOut_still (l : LaneId) (s : State) : (observerOut l s).still = s.still := by
  unfold observerOut
  first | rfl | (simp; done) | (split <;> simp [*]; done) | ((repeat' split) <;> simp [*]; done) | (dsimp only; (repeat' split) <;> simp [*])

@[simp] theorem observerSlot_still (l : LaneId) (b1 : Slot) (s : State)  : (observerSlot l b1 s).still = s.still := by
  unfold observerSlot
  first | rfl | (simp; done) | (split <;> simp [*]; done) | ((repeat' split) <;> simp [*]; done) | (dsimp only; (repeat' split) <;> simp [*])

@[simp] theorem controlOut_still (l : LaneId) (s : State) : (controlOut l s).still = s.still := by
  unfold controlOut
  first | rfl | (simp; done) | (split <;> simp [*]; done) | ((repeat' split) <;> simp [*]; done) | (dsimp only; (repeat' split) <;> simp [*])

@[simp] theorem controlLawSlot_still (l : LaneId) (b1 : Slot) (s : State)  : (controlLawSlot l b1 s).still = s.still := by
  unfold controlLawSlot
  first | rfl | (simp; done) | (split <;> simp [*]; done) | ((repeat' split) <;> simp [*]; done) | (dsimp only; (repeat' split) <;> simp [*])

@[simp] theorem deltaPacketSlot_still (l : LaneId) (sl : Slot) (s : State)  : (deltaPacketSlot l sl s).still = s.still := by
  unfold deltaPacketSlot
  first | rfl | (simp; done) | (split <;> simp [*]; done) | ((repeat' split) <;> simp [*]; done) | (dsimp only; (repeat' split) <;> simp [*])

@[simp] theorem allocCounts_still (l : LaneId) (sl : Slot) (ignored : Nat) (s : State)  : (allocCounts l sl ignored s).still = s.still := by
  unfold allocCounts
  first | rfl | (simp; done) | (split <;> simp [*]; done) | ((repeat' split) <;> simp [*]; done) | (dsimp only; (repeat' split) <;> simp [*])

@[simp] theorem allocationSlot_still (l : LaneId) (setupClk iterClk : Nat) (stop : Option StopAt) (sl : Slot) (s : State)  : (allocationSlot l setupClk iterClk stop sl s).still = s.still := by
  unfold allocationSlot
  first | rfl | (simp; done) | (split <;> simp [*]; done) | ((repeat' split) <;> simp [*]; done) | (dsimp only; (repeat' split) <;> simp [*])

@[simp] theorem deadlineSlot_still (l : LaneId) (stop : StopAt) (sl : Slot) (s : State) : (deadlineSlot l stop sl s).still = s.still := by
  unfold deadlineSlot
  simp

@[simp] theorem q10Send_still (l : LaneId) (words : List (List Nat)) (s : State)  : (q10Send l words s).still = s.still := by
  unfold q10Send
  first | rfl | (simp; done) | (split <;> simp [*]; done) | ((repeat' split) <;> simp [*]; done) | (dsimp only; (repeat' split) <;> simp [*])

@[simp] theorem outputSlot_still (l : LaneId) (b1 : Slot) (s : State)  : (outputSlot l b1 s).still = s.still := by
  unfold outputSlot
  first | rfl | (simp; done) | (split <;> simp [*]; done) | ((repeat' split) <;> simp [*]; done) | (dsimp only; (repeat' split) <;> simp [*])

@[simp] theorem spareSlot_still (l : LaneId) (n : Nat) (ok : Slot → Bool) (k : Slot → State → State) (s : State) (hk : ∀ a0 t, (k a0 t).still = t.still) : (spareSlot l n ok k s).still = s.still := by
  unfold spareSlot
  first | rfl | (simp; done) | (split <;> simp [*]; done) | ((repeat' split) <;> simp [*]; done) | (dsimp only; (repeat' split) <;> simp [*])

@[simp] theorem consequenceWork_still (l : LaneId) (ok : Bool) (s : State)  : (consequenceWork l ok s).still = s.still := by
  unfold consequenceWork
  first | rfl | (simp; done) | (split <;> simp [*]; done) | ((repeat' split) <;> simp [*]; done) | (dsimp only; (repeat' split) <;> simp [*])

@[simp] theorem testWork_still (l : LaneId) (e : Nat) (pass : Bool) (s : State) : (testWork l e pass s).still = s.still := by
  unfold testWork
  first | rfl | (simp; done) | (split <;> simp [*]; done) | ((repeat' split) <;> simp [*]; done) | (dsimp only; (repeat' split) <;> simp [*])

@[simp] theorem testRepeated_still (l : LaneId) (sl : Slot) (s : State) : (testRepeated l sl s).still = s.still := by
  unfold testRepeated
  first | rfl | (simp; done) | (split <;> simp [*]; done) | ((repeat' split) <;> simp [*]; done) | (dsimp only; (repeat' split) <;> simp [*])

@[simp] theorem testDiscard_still (l : LaneId) (sl : Slot) (s : State) : (testDiscard l sl s).still = s.still := by
  unfold testDiscard
  first | rfl | (simp; done) | (split <;> simp [*]; done) | ((repeat' split) <;> simp [*]; done) | (dsimp only; (repeat' split) <;> simp [*])

@[simp] theorem builtinFail_still (l : Option LaneId) (island : Nat) (s : State)  : (builtinFail l island s).still = s.still := by
  unfold builtinFail
  first | rfl | (simp; done) | (split <;> simp [*]; done) | ((repeat' split) <;> simp [*]; done) | (dsimp only; (repeat' split) <;> simp [*])

@[simp] theorem fallback_still (l : LaneId) (purpose used : Nat) (s : State)  : (fallback l purpose used s).still = s.still := by
  unfold fallback
  first | rfl | (simp; done) | (split <;> simp [*]; done) | ((repeat' split) <;> simp [*]; done) | (dsimp only; (repeat' split) <;> simp [*])

@[simp] theorem endTick_still (l : LaneId) (used : Nat) (done : Bool) (sl : Slot) (s0 : State)  : (endTick l used done sl s0).still = s0.still := by
  unfold endTick
  dsimp only
  split
  · split
    · simp
    · split <;> simp
  · split <;> simp
  · split <;> simp
  · split
    · simp
    · split <;> simp

@[simp] theorem slotEnd_still (l : LaneId) (n used : Nat) (done : Bool) (s : State)  : (slotEnd l n used done s).still = s.still := by
  unfold slotEnd
  first | rfl | (simp; done) | (split <;> simp [*]; done) | ((repeat' split) <;> simp [*]; done) | (dsimp only; (repeat' split) <;> simp [*])

@[simp] theorem clockIsland_still (l : LaneId) (clocks : Vector Nat 9) (s : State) (i : Nat)  : (clockIsland l clocks s i).still = s.still := by
  unfold clockIsland
  first | rfl | (simp; done) | (split <;> simp [*]; done) | ((repeat' split) <;> simp [*]; done) | (dsimp only; (repeat' split) <;> simp [*])

@[simp] theorem clockMeasure_still (l : LaneId) (clocks : Vector Nat 9) (s : State)  : (clockMeasure l clocks s).still = s.still := by
  unfold clockMeasure
  first | rfl | (simp; done) | (split <;> simp [*]; done) | ((repeat' split) <;> simp [*]; done) | (dsimp only; (repeat' split) <;> simp [*])

@[simp] theorem maskRequest_still (l : LaneId) (s : State)  : (maskRequest l s).still = s.still := by
  unfold maskRequest
  first | rfl | (simp; done) | (split <;> simp [*]; done) | ((repeat' split) <;> simp [*]; done) | (dsimp only; (repeat' split) <;> simp [*])

@[simp] theorem alarmWork_still (l : LaneId) (s : State)  : (alarmWork l s).still = s.still := by
  unfold alarmWork
  exact (applyEffects_still _ _ _).trans (State.setLane_still _ _ _)

@[simp] theorem publishWork_still (l : LaneId) (s : State)  : (publishWork l s).still = s.still := by
  unfold publishWork
  first | rfl | (simp; done) | (split <;> simp [*]; done) | ((repeat' split) <;> simp [*]; done) | (dsimp only; (repeat' split) <;> simp [*])

@[simp] theorem healthReport_still (l : LaneId) (s : State)  : (healthReport l s).still = s.still := by
  unfold healthReport
  first | rfl | (simp; done) | (split <;> simp [*]; done) | ((repeat' split) <;> simp [*]; done) | (dsimp only; (repeat' split) <;> simp [*])

@[simp] theorem startTimeout_still (l : LaneId) (s : State)  : (startTimeout l s).still = s.still := by
  unfold startTimeout
  first | rfl | (simp; done) | (split <;> simp [*]; done) | ((repeat' split) <;> simp [*]; done) | (dsimp only; (repeat' split) <;> simp [*])

@[simp] theorem advanceDevice_still (ns : Nat) (s : State)  : (advanceDevice ns s).still = s.still := by
  unfold advanceDevice
  first | rfl | (simp; done) | (split <;> simp [*]; done) | ((repeat' split) <;> simp [*]; done) | (dsimp only; (repeat' split) <;> simp [*])

@[simp] theorem bridgeUpdates_still (l : LaneId) (ups : List ChanUpdate) (s : State)  : (bridgeUpdates l ups s).still = s.still := by
  unfold bridgeUpdates
  first | rfl | (simp; done) | (split <;> simp [*]; done) | ((repeat' split) <;> simp [*]; done) | (dsimp only; (repeat' split) <;> simp [*])

@[simp] theorem bridgeSummary_still (l : LaneId) (q : Option (Nat × List InSummary)) (s : State) : (bridgeSummary l q s).still = s.still := by
  unfold bridgeSummary
  split <;> simp

@[simp] theorem ingestTake_still (l : LaneId) (q : Nat) (s : State) : (ingestTake l q s).still = s.still := by
  unfold ingestTake
  first | rfl | (simp; done) | (split <;> simp [*]; done) | ((repeat' split) <;> simp [*]; done) | (dsimp only; (repeat' split) <;> simp [*])

@[simp] theorem sendIngest_still (l : LaneId) (q island : Nat) (es : List QEntry) (s : State) : (sendIngest l q island es s).still = s.still := by
  unfold sendIngest
  exact foldl_still _ (fun u a => by simp) _ _

@[simp] theorem sendUpdates_still (l : LaneId) (q island : Nat) (ups : List ChanUpdate) (s : State) : (sendUpdates l q island ups s).still = s.still := by
  unfold sendUpdates
  first | rfl | (simp; done) | (split <;> simp [*]; done) | ((repeat' split) <;> simp [*]; done) | (dsimp only; (repeat' split) <;> simp [*])

@[simp] theorem takeFramed_still (l : LaneId) (img : Bytes) (kind : Nat) (fits : Nat → Bool) (lport port : Nat) (fs : List Framed) (s : State)  : (takeFramed l img kind fits lport port fs s).still = s.still := by
  unfold takeFramed
  first | rfl | (simp; done) | (split <;> simp [*]; done) | ((repeat' split) <;> simp [*]; done) | (dsimp only; (repeat' split) <;> simp [*])

@[simp] theorem rxOverflow_still (l : LaneId) (lport : Nat) (s : State)  : (rxOverflow l lport s).still = s.still := by
  unfold rxOverflow
  first | rfl | (simp; done) | (split <;> simp [*]; done) | ((repeat' split) <;> simp [*]; done) | (dsimp only; (repeat' split) <;> simp [*])

@[simp] theorem abortFrame_still (l : LaneId) (lport : Nat) (s : State)  : (abortFrame l lport s).still = s.still := by
  unfold abortFrame
  first | rfl | (simp; done) | (split <;> simp [*]; done) | ((repeat' split) <;> simp [*]; done) | (dsimp only; (repeat' split) <;> simp [*])

@[simp] theorem serialFrame_still (l : LaneId) (port : Fin 8) (raw : Bytes) (startNs endNs : Nat) (lost : Bool) (s0 : State)  : (serialFrame l port raw startNs endNs lost s0).still = s0.still := by
  unfold serialFrame
  first | rfl | (simp; done) | (split <;> simp [*]; done) | ((repeat' split) <;> simp [*]; done) | (dsimp only; (repeat' split) <;> simp [*])

@[simp] theorem binaryGap_still (l : LaneId) (port : Fin 8) (raw : Bytes) (startNs : Nat) (s : State)  : (binaryGap l port raw startNs s).still = s.still := by
  unfold binaryGap
  first | rfl | (simp; done) | (split <;> simp [*]; done) | ((repeat' split) <;> simp [*]; done) | (dsimp only; (repeat' split) <;> simp [*])

@[simp] theorem serialBreak_still (l : LaneId) (port : Fin 8) (inFrame : Bool) (s : State) : (serialBreak l port inFrame s).still = s.still := by
  unfold serialBreak
  first | rfl | (simp; done) | (split <;> simp [*]; done) | ((repeat' split) <;> simp [*]; done) | (dsimp only; (repeat' split) <;> simp [*])

@[simp] theorem serialSwitch_still (l : LaneId) (port : Fin 8) (s : State)  : (serialSwitch l port s).still = s.still := by
  unfold serialSwitch
  first | rfl | (simp; done) | (split <;> simp [*]; done) | ((repeat' split) <;> simp [*]; done) | (dsimp only; (repeat' split) <;> simp [*])

@[simp] theorem linkSeen_still (p : EthPort) (s : State) : (linkSeen p s).still = s.still := by
  unfold linkSeen
  first | rfl | (simp; done) | (split <;> simp [*]; done) | ((repeat' split) <;> simp [*]; done) | (dsimp only; (repeat' split) <;> simp [*])

@[simp] theorem ethDatagram_still (p : EthPort) (dst : Source) (raw : Bytes) (startNs : Nat) (stamps : List Nat) (lost : Bool) (s0 : State)  : (ethDatagram p dst raw startNs stamps lost s0).still = s0.still := by
  unfold ethDatagram
  first | rfl | (simp; done) | (split <;> simp [*]; done) | ((repeat' split) <;> simp [*]; done) | (dsimp only; (repeat' split) <;> simp [*])

@[simp] theorem releaseUpdate_still (l : LaneId) (s : State)  : (releaseUpdate l s).still = s.still := by
  unfold releaseUpdate
  first | rfl | (simp; done) | (split <;> simp [*]; done) | ((repeat' split) <;> simp [*]; done) | (dsimp only; (repeat' split) <;> simp [*])

@[simp] theorem takeUpdate_still (l : LaneId) (u : ChanUpdate) (s : State)  : (takeUpdate l u s).still = s.still := by
  unfold takeUpdate
  first | rfl | (simp; done) | (split <;> simp [*]; done) | ((repeat' split) <;> simp [*]; done) | (dsimp only; (repeat' split) <;> simp [*])

@[simp] theorem bridgeArrive_still (l : LaneId) (s : State)  : (bridgeArrive l s).still = s.still := by
  unfold bridgeArrive
  first | rfl | (simp; done) | (split <;> simp [*]; done) | ((repeat' split) <;> simp [*]; done) | (dsimp only; (repeat' split) <;> simp [*])

@[simp] theorem bridgeFails_still (s : State)  : (bridgeFails s).still = s.still := by
  unfold bridgeFails
  first | rfl | (simp; done) | (split <;> simp [*]; done) | ((repeat' split) <;> simp [*]; done) | (dsimp only; (repeat' split) <;> simp [*])

@[simp] theorem updatesFirst_still (l : LaneId) (s : State) : (updatesFirst l s).still = s.still := by
  unfold updatesFirst
  exact foldl_still _ (fun u a => bridgeArrive_still _ u) _ _

@[simp] theorem stagedAgain_still (tries : Nat) (s : State) : (stagedAgain tries s).still = s.still := by
  unfold stagedAgain
  first | rfl | (simp; done) | (split <;> simp [*]; done) | ((repeat' split) <;> simp [*]; done) | (dsimp only; (repeat' split) <;> simp [*])

@[simp] theorem stagedFrame_still (frame : Bytes) (f : InFlight) (s0 : State) : (stagedFrame frame f s0).still = s0.still := by
  unfold stagedFrame
  first | rfl | (simp; done) | (split <;> simp [*]; done) | ((repeat' split) <;> simp [*]; done) | (dsimp only; (repeat' split) <;> simp [*])

@[simp] theorem openDone_still (f : InFlight) (s : State) : (openDone f s).still = s.still := by
  unfold openDone
  simp

@[simp] theorem mirrorsUpTo_still (upTo : Option Nat) (n : Nat) (s : State) : (mirrorsUpTo upTo n s).still = s.still := by
  induction n generalizing s with
  | zero => rfl
  | succ n ih =>
    unfold mirrorsUpTo
    split
    · rfl
    · split
      · rfl
      · split
        · simp [ih]
        · split
          · split
            · simp [ih]
            · rfl
          · simp [ih]

@[simp] theorem mirrorComplete_still (p : Option HostPort) (s : State) : (mirrorComplete p s).still = s.still := by
  unfold mirrorComplete
  first | rfl | (simp; done) | (split <;> simp [*]; done) | ((repeat' split) <;> simp [*]; done) | (dsimp only; (repeat' split) <;> simp [*])

@[simp] theorem bridgeDeliver_still (l : LaneId) (frame : Bytes) (s : State) : (bridgeDeliver l frame s).still = s.still := by
  unfold bridgeDeliver
  first | rfl | (simp; done) | (split <;> simp [*]; done) | ((repeat' split) <;> simp [*]; done) | (dsimp only; (repeat' split) <;> simp [*])

@[simp] theorem bridgeReceive_still (l : LaneId) (frame : Bytes) (ok : Bool) (s : State) : (bridgeReceive l frame ok s).still = s.still := by
  unfold bridgeReceive
  first | rfl | (simp; done) | (split <;> simp [*]; done) | ((repeat' split) <;> simp [*]; done) | (dsimp only; (repeat' split) <;> simp [*])

@[simp] theorem bridgeTimeout_still (l : LaneId) (s : State)  : (bridgeTimeout l s).still = s.still := by
  unfold bridgeTimeout
  first | rfl | (simp; done) | (split <;> simp [*]; done) | ((repeat' split) <;> simp [*]; done) | (dsimp only; (repeat' split) <;> simp [*])

@[simp] theorem linkFail_still (l : LaneId) (sky : Bool) (s : State)  : (linkFail l sky s).still = s.still := by
  unfold linkFail
  first | rfl | (simp; done) | (split <;> simp [*]; done) | ((repeat' split) <;> simp [*]; done) | (dsimp only; (repeat' split) <;> simp [*])

@[simp] theorem satEvents_still (l : LaneId) (input : Fin 12) (now : Bool) (s : State) : (satEvents l input now s).still = s.still := by
  unfold satEvents
  first | rfl | (simp; done) | (split <;> simp [*]; done) | ((repeat' split) <;> simp [*]; done) | (dsimp only; (repeat' split) <;> simp [*])

@[simp] theorem outputWork_still (l : LaneId) (input : Fin 12) (g : Nat) (new newB : List (Nat × List Bool)) (s : State) : (outputWork l input g new newB s).still = s.still := by
  unfold outputWork
  first | rfl | (simp; done) | (split <;> simp [*]; done) | ((repeat' split) <;> simp [*]; done) | (dsimp only; (repeat' split) <;> simp [*])

@[simp] theorem filterOut_still (l : LaneId) (input : Fin 12) (g : Nat) (new newB : List (Nat × List Bool)) (s : State) : (filterOut l input g new newB s).still = s.still := by
  unfold filterOut
  split
  · exact atTick_still _ _ _ _ (fun u => outputWork_still _ _ _ _ _ u)
  · rfl

@[simp] theorem filterSummary_still (l : LaneId) (s : State) : (filterSummary l s).still = s.still := by
  unfold filterSummary
  split
  · rfl
  · refine atTick_still _ _ _ _ (fun u => ?_)
    simp

@[simp] theorem summaryForward_still (l : LaneId) (s : State)  : (summaryForward l s).still = s.still := by
  unfold summaryForward
  first | rfl | (simp; done) | (split <;> simp [*]; done) | ((repeat' split) <;> simp [*]; done) | (dsimp only; (repeat' split) <;> simp [*])

@[simp] theorem inputFault_still (l : LaneId) (input : Fin 12) (kind : Fin 4) (on : Bool) (s : State) : (inputFault l input kind on s).still = s.still := by
  unfold inputFault
  split
  · rfl
  · exact (foldl_still _ (fun u a => count_still _ _ _ _ u) _ _).trans (State.setLane_still _ _ _)

@[simp] theorem epochWork_still (ob : EpochObs) (s : State)  : (epochWork ob s).still = s.still := by
  unfold epochWork
  first | rfl | (simp; done) | (split <;> simp [*]; done) | ((repeat' split) <;> simp [*]; done) | (dsimp only; (repeat' split) <;> simp [*])

@[simp] theorem skyRecord_still (l : LaneId) (s : State)  : (skyRecord l s).still = s.still := by
  unfold skyRecord
  first | rfl | (simp; done) | (split <;> simp [*]; done) | ((repeat' split) <;> simp [*]; done) | (dsimp only; (repeat' split) <;> simp [*])

@[simp] theorem aidingFrame_still (l : LaneId) (s : State)  : (aidingFrame l s).still = s.still := by
  unfold aidingFrame
  first | rfl | (simp; done) | (split <;> simp [*]; done) | ((repeat' split) <;> simp [*]; done) | (dsimp only; (repeat' split) <;> simp [*])

@[simp] theorem rtcmSend_still (l : LaneId) (frame : Bytes) (s : State)  : (rtcmSend l frame s).still = s.still := by
  unfold rtcmSend
  first | rfl | (simp; done) | (split <;> simp [*]; done) | ((repeat' split) <;> simp [*]; done) | (dsimp only; (repeat' split) <;> simp [*])

@[simp] theorem rtcmFrame_still (l : LaneId) (frame : Bytes) (s : State)  : (rtcmFrame l frame s).still = s.still := by
  unfold rtcmFrame
  first | rfl | (simp; done) | (split <;> simp [*]; done) | ((repeat' split) <;> simp [*]; done) | (dsimp only; (repeat' split) <;> simp [*])

@[simp] theorem noiseDone_still (s : State) (w : HostPort × Nat × Nat × Nat)  : (noiseDone s w).still = s.still := by
  unfold noiseDone
  first | rfl | (simp; done) | (split <;> simp [*]; done) | ((repeat' split) <;> simp [*]; done) | (dsimp only; (repeat' split) <;> simp [*])

@[simp] theorem notchMonitor_still (chain : Chain) (ob : MonitorObs) (s : State)  : (notchMonitor chain ob s).still = s.still := by
  unfold notchMonitor
  first | rfl | (simp; done) | (split <;> simp [*]; done) | ((repeat' split) <;> simp [*]; done) | (dsimp only; (repeat' split) <;> simp [*])

@[simp] theorem setBelfry_still (b0 : BelfryState) (s : State) : (setBelfry b0 s).still = s.still := by
  unfold setBelfry
  first | rfl | (simp; done) | (split <;> simp [*]; done) | ((repeat' split) <;> simp [*]; done) | (dsimp only; (repeat' split) <;> simp [*])

@[simp] theorem setTime_still (c : Nat × Nat × Nat) (tag : Nat) (s : State) : (setTime c tag s).still = s.still := by
  unfold setTime
  first | rfl | (simp; done) | (split <;> simp [*]; done) | ((repeat' split) <;> simp [*]; done) | (dsimp only; (repeat' split) <;> simp [*])

@[simp] theorem originStart_still (s : State)  : (originStart s).still = s.still := by
  unfold originStart
  first | rfl | (simp; done) | (split <;> simp [*]; done) | ((repeat' split) <;> simp [*]; done) | (dsimp only; (repeat' split) <;> simp [*])

@[simp] theorem originFix_still (adopt : Option (Nat × Nat × Bool × Nat)) (gpsNs : Nat) (s : State)  : (originFix adopt gpsNs s).still = s.still := by
  unfold originFix
  first | rfl | (simp; done) | (split <;> simp [*]; done) | ((repeat' split) <;> simp [*]; done) | (dsimp only; (repeat' split) <;> simp [*])

@[simp] theorem originWaitExpire_still (s : State)  : (originWaitExpire s).still = s.still := by
  unfold originWaitExpire
  first | rfl | (simp; done) | (split <;> simp [*]; done) | ((repeat' split) <;> simp [*]; done) | (dsimp only; (repeat' split) <;> simp [*])

@[simp] theorem epochJudge_still (ob : TimeObs) (s : State)  : (epochJudge ob s).still = s.still := by
  unfold epochJudge
  first | rfl | (simp; done) | (split <;> simp [*]; done) | ((repeat' split) <;> simp [*]; done) | (dsimp only; (repeat' split) <;> simp [*])

@[simp] theorem returnWork_still (s : State)  : (returnWork s).still = s.still := by
  unfold returnWork
  first | rfl | (simp; done) | (split <;> simp [*]; done) | ((repeat' split) <;> simp [*]; done) | (dsimp only; (repeat' split) <;> simp [*])

@[simp] theorem tickMarker_still (l : LaneId) (dev : Int) (s : State)  : (tickMarker l dev s).still = s.still := by
  unfold tickMarker
  split
  · rfl
  · exact atTick_still _ _ _ _ (fun u => (syncTimeLost_still _).trans ((State.modPower_keeps _ _ rfl).trans (by simp)))

@[simp] theorem ppsWork_still (s : State)  : (ppsWork s).still = s.still := by
  unfold ppsWork
  first | rfl | (simp; done) | (split <;> simp [*]; done) | ((repeat' split) <;> simp [*]; done) | (dsimp only; (repeat' split) <;> simp [*])

@[simp] theorem timeqWork_still (s : State)  : (timeqWork s).still = s.still := by
  unfold timeqWork
  first | rfl | (simp; done) | (split <;> simp [*]; done) | ((repeat' split) <;> simp [*]; done) | (dsimp only; (repeat' split) <;> simp [*])

@[simp] theorem ptpOut_still (p : EthPort) (es : List Effect) (s : State)  : (ptpOut p es s).still = s.still := by
  unfold ptpOut
  refine foldl_still _ (fun t e => ?_) _ _
  split <;> simp

@[simp] theorem ptpReceive_still (p : EthPort) (dom typ seq : Nat) (carried rx : Int) (oneStep : Bool) (cls : Nat) (s : State) : (ptpReceive p dom typ seq carried rx oneStep cls s).still = s.still := by
  unfold ptpReceive
  first | rfl | (simp; done) | (split <;> simp [*]; done) | ((repeat' split) <;> simp [*]; done) | (dsimp only; (repeat' split) <;> simp [*])

@[simp] theorem ptpMasterSync_still (p : EthPort) (s : State)  : (ptpMasterSync p s).still = s.still := by
  unfold ptpMasterSync
  first | rfl | (simp; done) | (split <;> simp [*]; done) | ((repeat' split) <;> simp [*]; done) | (dsimp only; (repeat' split) <;> simp [*])

@[simp] theorem setBus_still (l : LaneId) (b : BusState) (s : State)  : (setBus l b s).still = s.still := by
  unfold setBus
  first | rfl | (simp; done) | (split <;> simp [*]; done) | ((repeat' split) <;> simp [*]; done) | (dsimp only; (repeat' split) <;> simp [*])

@[simp] theorem gateOut_still (outs : List Output) (s : State)  : (gateOut outs s).still = s.still := by
  unfold gateOut
  first | rfl | (simp; done) | (split <;> simp [*]; done) | ((repeat' split) <;> simp [*]; done) | (dsimp only; (repeat' split) <;> simp [*])

@[simp] theorem commandOnBus_still (data : Bytes) (s : State)  : (commandOnBus data s).still = s.still := by
  unfold commandOnBus
  first | rfl | (simp; done) | (split <;> simp [*]; done) | ((repeat' split) <;> simp [*]; done) | (dsimp only; (repeat' split) <;> simp [*])

@[simp] theorem cellWork_still (l : LaneId) (net col : Nat) (r : TxResult) (loop : Nat) (s : State)  : (cellWork l net col r loop s).still = s.still := by
  unfold cellWork
  dsimp only
  split
  · refine (foldl_still _ (fun t o => ?_) _ _).trans (by simp)
    split <;> simp
  · simp

@[simp] theorem cellCommand_still (l : LaneId) (net : Fin 4) (col : Nat) (r : TxResult) (loop : Nat) (s : State) : (cellCommand l net col r loop s).still = s.still := by
  unfold cellCommand
  first | rfl | (simp; done) | (split <;> simp [*]; done) | ((repeat' split) <;> simp [*]; done) | (dsimp only; (repeat' split) <;> simp [*])

@[simp] theorem refCommand_still (l : LaneId) (s : State)  : (refCommand l s).still = s.still := by
  unfold refCommand
  first | rfl | (simp; done) | (split <;> simp [*]; done) | ((repeat' split) <;> simp [*]; done) | (dsimp only; (repeat' split) <;> simp [*])

@[simp] theorem q10Command_still (l : LaneId) (s : State)  : (q10Command l s).still = s.still := by
  unfold q10Command
  first | rfl | (simp; done) | (split <;> simp [*]; done) | ((repeat' split) <;> simp [*]; done) | (dsimp only; (repeat' split) <;> simp [*])

@[simp] theorem exchangeCommand_still (l : LaneId) (s : State)  : (exchangeCommand l s).still = s.still := by
  unfold exchangeCommand
  first | rfl | (simp; done) | (split <;> simp [*]; done) | ((repeat' split) <;> simp [*]; done) | (dsimp only; (repeat' split) <;> simp [*])

@[simp] theorem stoRecord_still (l : LaneId) (fr : CanFrame) (u : ChanUpdate) (s : State)  : (stoRecord l fr u s).still = s.still := by
  unfold stoRecord
  first | rfl | (simp; done) | (split <;> simp [*]; done) | ((repeat' split) <;> simp [*]; done) | (dsimp only; (repeat' split) <;> simp [*])

@[simp] theorem matrixLag_still (l : LaneId) (net : Nat) (fr : CanFrame) (s : State)  : (matrixLag l net fr s).still = s.still := by
  unfold matrixLag
  first | rfl | (simp; done) | (split <;> simp [*]; done) | ((repeat' split) <;> simp [*]; done) | (dsimp only; (repeat' split) <;> simp [*])

@[simp] theorem foreignCommand_still (l : LaneId) (net : Nat) (fr : CanFrame) (s : State)  : (foreignCommand l net fr s).still = s.still := by
  unfold foreignCommand
  first | rfl | (simp; done) | (split <;> simp [*]; done) | ((repeat' split) <;> simp [*]; done) | (dsimp only; (repeat' split) <;> simp [*])

@[simp] theorem canLane_still (net : Nat) (fr : CanFrame) (durNs : Nat) (s : State) (l : LaneId)  : (canLane net fr durNs s l).still = s.still := by
  unfold canLane
  first | rfl | (simp; done) | (split <;> simp [*]; done) | ((repeat' split) <;> simp [*]; done) | (dsimp only; (repeat' split) <;> simp [*])

@[simp] theorem canCommand_still (net : Fin 4) (fr : CanFrame) (durNs : Nat) (s : State)  : (canCommand net fr durNs s).still = s.still := by
  unfold canCommand
  first | rfl | (simp; done) | (split <;> simp [*]; done) | ((repeat' split) <;> simp [*]; done) | (dsimp only; (repeat' split) <;> simp [*])

@[simp] theorem eventCommand_still (l : LaneId) (net : Fin 4) (r : TxResult) (loop : Nat) (s : State) : (eventCommand l net r loop s).still = s.still := by
  unfold eventCommand
  first | rfl | (simp; done) | (split <;> simp [*]; done) | ((repeat' split) <;> simp [*]; done) | (dsimp only; (repeat' split) <;> simp [*])

@[simp] theorem doorbellCommand_still (l : LaneId) (net : Fin 4) (s : State)  : (doorbellCommand l net s).still = s.still := by
  unfold doorbellCommand
  first | rfl | (simp; done) | (split <;> simp [*]; done) | ((repeat' split) <;> simp [*]; done) | (dsimp only; (repeat' split) <;> simp [*])

@[simp] theorem netEntries_still (l : LaneId) (net : Nat) (s : State)  : (netEntries l net s).still = s.still := by
  unfold netEntries
  first | rfl | (simp; done) | (split <;> simp [*]; done) | ((repeat' split) <;> simp [*]; done) | (dsimp only; (repeat' split) <;> simp [*])

@[simp] theorem peerCommand_still (l : LaneId) (net : Fin 4) (s : State)  : (peerCommand l net s).still = s.still := by
  unfold peerCommand
  first | rfl | (simp; done) | (split <;> simp [*]; done) | ((repeat' split) <;> simp [*]; done) | (dsimp only; (repeat' split) <;> simp [*])

@[simp] theorem idleCommand_still (l : LaneId) (net : Fin 4) (s : State)  : (idleCommand l net s).still = s.still := by
  unfold idleCommand
  first | rfl | (simp; done) | (split <;> simp [*]; done) | ((repeat' split) <;> simp [*]; done) | (dsimp only; (repeat' split) <;> simp [*])

@[simp] theorem recoverCommand_still (l : LaneId) (net : Fin 4) (s : State)  : (recoverCommand l net s).still = s.still := by
  unfold recoverCommand
  first | rfl | (simp; done) | (split <;> simp [*]; done) | ((repeat' split) <;> simp [*]; done) | (dsimp only; (repeat' split) <;> simp [*])

@[simp] theorem ackCommand_still (l : LaneId) (net : Fin 4) (mbx : Fin 64) (s : State)  : (ackCommand l net mbx s).still = s.still := by
  unfold ackCommand
  first | rfl | (simp; done) | (split <;> simp [*]; done) | ((repeat' split) <;> simp [*]; done) | (dsimp only; (repeat' split) <;> simp [*])

end Sys2Proof.Machine
end

