-- ==== Sys2Proof/Laws/StillDie.lean ====
section
/-! SUPPORT. What the operations of the safety island, Keep, Lantern, the node, power and memory leave alone (Laws/Still.lean). -/

namespace Sys2Proof.Machine

@[simp] theorem safDo_still (f : SafIn → SafetyState → SafetyState × List Effect) (s : State)  : (safDo f s).still = s.still := by
  unfold safDo
  first | rfl | (simp; done) | (split <;> simp [*]; done) | ((repeat' split) <;> simp [*]; done) | (dsimp only; (repeat' split) <;> simp [*])

@[simp] theorem safQuiet_still (f : SafIn → SafetyState → SafetyState) (s : State)  : (safQuiet f s).still = s.still := by
  unfold safQuiet
  first | rfl | (simp; done) | (split <;> simp [*]; done) | ((repeat' split) <;> simp [*]; done) | (dsimp only; (repeat' split) <;> simp [*])

@[simp] theorem safJudge_still (f : SafIn → SafetyState → SafetyState × List Effect) (s : State)  : (safJudge f s).still = s.still := by
  unfold safJudge
  first | rfl | (simp; done) | (split <;> simp [*]; done) | ((repeat' split) <;> simp [*]; done) | (dsimp only; (repeat' split) <;> simp [*])

@[simp] theorem safetyCycle_still (s : State)  : (safetyCycle s).still = s.still := by
  unfold safetyCycle
  first | rfl | (simp; done) | (split <;> simp [*]; done) | ((repeat' split) <;> simp [*]; done) | (dsimp only; (repeat' split) <;> simp [*])

@[simp] theorem safAt_still (off : Nat) (f : SafIn → SafetyState → SafetyState × List Effect) (s : State) : (safAt off f s).still = s.still := by
  unfold safAt
  first | rfl | (simp; done) | (split <;> simp [*]; done) | ((repeat' split) <;> simp [*]; done) | (dsimp only; (repeat' split) <;> simp [*])

@[simp] theorem pulseStart_still (c : SafeChan) (n : Nat) (s : State) : (pulseStart c n s).still = s.still := by
  unfold pulseStart
  first | rfl | (simp; done) | (split <;> simp [*]; done) | ((repeat' split) <;> simp [*]; done) | (dsimp only; (repeat' split) <;> simp [*])

@[simp] theorem pulseEnd_still (c : SafeChan) (pass : Bool) (s : State) : (pulseEnd c pass s).still = s.still := by
  unfold pulseEnd
  first | rfl | (simp; done) | (split <;> simp [*]; done) | ((repeat' split) <;> simp [*]; done) | (dsimp only; (repeat' split) <;> simp [*])

@[simp] theorem safetyStartup_still (inA inB : Nat) (s : State)  : (safetyStartup inA inB s).still = s.still := by
  unfold safetyStartup
  first | rfl | (simp; done) | (split <;> simp [*]; done) | ((repeat' split) <;> simp [*]; done) | (dsimp only; (repeat' split) <;> simp [*])

@[simp] theorem confirmAnswer_still (reply : Bytes) (s : State) (a : WtAction)  : (confirmAnswer reply s a).still = s.still := by
  unfold confirmAnswer
  first | rfl | (simp; done) | (split <;> simp [*]; done) | ((repeat' split) <;> simp [*]; done) | (dsimp only; (repeat' split) <;> simp [*])

@[simp] theorem blockActivate_still (s : State)  : (blockActivate s).still = s.still := by
  unfold blockActivate
  first | rfl | (simp; done) | (split <;> simp [*]; done) | ((repeat' split) <;> simp [*]; done) | (dsimp only; (repeat' split) <;> simp [*])

@[simp] theorem blockExpire_still (s : State)  : (blockExpire s).still = s.still := by
  unfold blockExpire
  first | rfl | (simp; done) | (split <;> simp [*]; done) | ((repeat' split) <;> simp [*]; done) | (dsimp only; (repeat' split) <;> simp [*])

@[simp] theorem digestIn_still (l : LaneId) (s : State)  : (digestIn l s).still = s.still := by
  unfold digestIn
  first | rfl | (simp; done) | (split <;> simp [*]; done) | ((repeat' split) <;> simp [*]; done) | (dsimp only; (repeat' split) <;> simp [*])

@[simp] theorem compareWork_still (s : State)  : (compareWork s).still = s.still := by
  unfold compareWork
  first | rfl | (simp; done) | (split <;> simp [*]; done) | ((repeat' split) <;> simp [*]; done) | (dsimp only; (repeat' split) <;> simp [*])

@[simp] theorem laneWakeUp_still (l : LaneId) (s : State)  : (laneWakeUp l s).still = s.still := by
  unfold laneWakeUp
  split
  · rfl
  dsimp only
  split
  · exact (State.modPower_keeps _ _ rfl).trans (State.modArb_still _ _)
  · exact State.modArb_still _ _

@[simp] theorem selftestDone_still (l : LaneId) (pass : Bool) (s : State)  : (selftestDone l pass s).still = s.still := by
  unfold selftestDone
  first | rfl | (simp; done) | (split <;> simp [*]; done) | ((repeat' split) <;> simp [*]; done) | (dsimp only; (repeat' split) <;> simp [*])

@[simp] theorem loadDone_still (l : LaneId) (s : State)  : (loadDone l s).still = s.still := by
  unfold loadDone
  first | rfl | (simp; done) | (split <;> simp [*]; done) | ((repeat' split) <;> simp [*]; done) | (dsimp only; (repeat' split) <;> simp [*])

@[simp] theorem shadowTransfer_still (s : State)  : (shadowTransfer s).still = s.still := by
  unfold shadowTransfer
  dsimp only
  split
  · refine atTick_still _ _ _ _ fun u => ?_
    split
    · simp
    · split <;> simp
  · rfl

@[simp] theorem arbOnlySelect_still (s : State)  : (arbOnlySelect s).still = s.still := by
  unfold arbOnlySelect
  first | rfl | (simp; done) | (split <;> simp [*]; done) | ((repeat' split) <;> simp [*]; done) | (dsimp only; (repeat' split) <;> simp [*])

@[simp] theorem ringIn_still (typ : Nat) (l : LaneId) (dir : RingDir) (f : Bytes) (k : Bytes → State → State) (s : State) (hk : ∀ a0 t, (k a0 t).still = t.still) : (ringIn typ l dir f k s).still = s.still := by
  unfold ringIn
  first | rfl | (simp; done) | (split <;> simp [*]; done) | ((repeat' split) <;> simp [*]; done) | (dsimp only; (repeat' split) <;> simp [*])

@[simp] theorem voteOut_still (s : State)  : (voteOut s).still = s.still := by
  unfold voteOut
  first | rfl | (simp; done) | (split <;> simp [*]; done) | ((repeat' split) <;> simp [*]; done) | (dsimp only; (repeat' split) <;> simp [*])

@[simp] theorem stateOut_still (s : State)  : (stateOut s).still = s.still := by
  unfold stateOut
  first | rfl | (simp; done) | (split <;> simp [*]; done) | ((repeat' split) <;> simp [*]; done) | (dsimp only; (repeat' split) <;> simp [*])

@[simp] theorem stateIn_still (f : Bytes) (s : State)  : (stateIn f s).still = s.still := by
  unfold stateIn
  exact State.modArb_still _ _

@[simp] theorem stageIn_still (g : Staged) (l : LaneId) (s : State)  : (stageIn g l s).still = s.still := by
  unfold stageIn
  first | rfl | (simp; done) | (split <;> simp [*]; done) | ((repeat' split) <;> simp [*]; done) | (dsimp only; (repeat' split) <;> simp [*])

@[simp] theorem systemEntry_still (p : Bytes) (s : State)  : (systemEntry p s).still = s.still := by
  unfold systemEntry
  first | rfl | (simp; done) | (split <;> simp [*]; done) | ((repeat' split) <;> simp [*]; done) | (dsimp only; (repeat' split) <;> simp [*])

@[simp] theorem snapshotPiece_still (p : Bytes) (s : State)  : (snapshotPiece p s).still = s.still := by
  unfold snapshotPiece
  first | rfl | (simp; done) | (split <;> simp [*]; done) | ((repeat' split) <;> simp [*]; done) | (dsimp only; (repeat' split) <;> simp [*])

@[simp] theorem journalIn_still (f : Bytes) (s : State)  : (journalIn f s).still = s.still := by
  unfold journalIn
  first | rfl | (simp; done) | (split <;> simp [*]; done) | ((repeat' split) <;> simp [*]; done) | (dsimp only; (repeat' split) <;> simp [*])

@[simp] theorem snapshotOut_still (s : State)  : (snapshotOut s).still = s.still := by
  unfold snapshotOut
  first | rfl | (simp; done) | (split <;> simp [*]; done) | ((repeat' split) <;> simp [*]; done) | (dsimp only; (repeat' split) <;> simp [*])

@[simp] theorem catchUp_still (s : State)  : (catchUp s).still = s.still := by
  unfold catchUp
  first | rfl | (simp; done) | (split <;> simp [*]; done) | ((repeat' split) <;> simp [*]; done) | (dsimp only; (repeat' split) <;> simp [*])

@[simp] theorem holdOut_still (s0 : State)  : (holdOut s0).still = s0.still := by
  unfold holdOut
  first | rfl | (simp; done) | (split <;> simp [*]; done) | ((repeat' split) <;> simp [*]; done) | (dsimp only; (repeat' split) <;> simp [*])

@[simp] theorem holdIn_still (f : Bytes) (s : State)  : (holdIn f s).still = s.still := by
  unfold holdIn
  first | rfl | (simp; done) | (split <;> simp [*]; done) | ((repeat' split) <;> simp [*]; done) | (dsimp only; (repeat' split) <;> simp [*])

@[simp] theorem agree_still (gen b : Nat) (s : State)  : (agree gen b s).still = s.still := by
  unfold agree
  first | rfl | (simp; done) | (split <;> simp [*]; done) | ((repeat' split) <;> simp [*]; done) | (dsimp only; (repeat' split) <;> simp [*])

@[simp] theorem commitOut_still (s : State)  : (commitOut s).still = s.still := by
  unfold commitOut
  first | rfl | (simp; done) | (split <;> simp [*]; done) | ((repeat' split) <;> simp [*]; done) | (dsimp only; (repeat' split) <;> simp [*])

@[simp] theorem commitIn_still (f : Bytes) (s : State)  : (commitIn f s).still = s.still := by
  unfold commitIn
  first | rfl | (simp; done) | (split <;> simp [*]; done) | ((repeat' split) <;> simp [*]; done) | (dsimp only; (repeat' split) <;> simp [*])

@[simp] theorem dataOut_still (s : State)  : (dataOut s).still = s.still := by
  unfold dataOut
  first | rfl | (simp; done) | (split <;> simp [*]; done) | ((repeat' split) <;> simp [*]; done) | (dsimp only; (repeat' split) <;> simp [*])

@[simp] theorem dataIn_still (f : Bytes) (s : State)  : (dataIn f s).still = s.still := by
  unfold dataIn
  first | rfl | (simp; done) | (split <;> simp [*]; done) | ((repeat' split) <;> simp [*]; done) | (dsimp only; (repeat' split) <;> simp [*])

@[simp] theorem beaconWork_still (l : LaneId) (dir : RingDir) (rx : Bool) (s : State)  : (beaconWork l dir rx s).still = s.still := by
  unfold beaconWork
  first | rfl | (simp; done) | (split <;> simp [*]; done) | ((repeat' split) <;> simp [*]; done) | (dsimp only; (repeat' split) <;> simp [*])

@[simp] theorem portDownWork_still (l : LaneId) (dir : RingDir) (lockLost : Bool) (s : State)  : (portDownWork l dir lockLost s).still = s.still := by
  unfold portDownWork
  first | rfl | (simp; done) | (split <;> simp [*]; done) | ((repeat' split) <;> simp [*]; done) | (dsimp only; (repeat' split) <;> simp [*])

@[simp] theorem timeStart_still (t1 : Int) (s : State)  : (timeStart t1 s).still = s.still := by
  unfold timeStart
  first | rfl | (simp; done) | (split <;> simp [*]; done) | ((repeat' split) <;> simp [*]; done) | (dsimp only; (repeat' split) <;> simp [*])

@[simp] theorem timeSyncIn_still (t2 : Int) (f : Bytes) (s : State)  : (timeSyncIn t2 f s).still = s.still := by
  unfold timeSyncIn
  first | rfl | (simp; done) | (split <;> simp [*]; done) | ((repeat' split) <;> simp [*]; done) | (dsimp only; (repeat' split) <;> simp [*])

@[simp] theorem timeDelayOut_still (t3 : Int) (s : State)  : (timeDelayOut t3 s).still = s.still := by
  unfold timeDelayOut
  first | rfl | (simp; done) | (split <;> simp [*]; done) | ((repeat' split) <;> simp [*]; done) | (dsimp only; (repeat' split) <;> simp [*])

@[simp] theorem timeDelayIn_still (t4 : Int) (f : Bytes) (s : State)  : (timeDelayIn t4 f s).still = s.still := by
  unfold timeDelayIn
  first | rfl | (simp; done) | (split <;> simp [*]; done) | ((repeat' split) <;> simp [*]; done) | (dsimp only; (repeat' split) <;> simp [*])

@[simp] theorem timeReplyIn_still (f : Bytes) (s : State)  : (timeReplyIn f s).still = s.still := by
  unfold timeReplyIn
  first | rfl | (simp; done) | (split <;> simp [*]; done) | ((repeat' split) <;> simp [*]; done) | (dsimp only; (repeat' split) <;> simp [*])

@[simp] theorem pfailOn_still (s : State)  : (pfailOn s).still = s.still := by
  unfold pfailOn
  first | rfl | (simp; done) | (split <;> simp [*]; done) | ((repeat' split) <;> simp [*]; done) | (dsimp only; (repeat' split) <;> simp [*])

@[simp] theorem atUs_still (due : Nat) (k : State → State) (s : State) (hk : ∀  t, (k t).still = t.still) : (atUs due k s).still = s.still := by
  unfold atUs
  first | rfl | (simp; done) | (split <;> simp [*]; done) | ((repeat' split) <;> simp [*]; done) | (dsimp only; (repeat' split) <;> simp [*])

@[simp] theorem admitWork_still (s : State)  : (admitWork s).still = s.still := by
  unfold admitWork
  exact (count_still _ _ _ _ _).trans (State.modPower_keeps _ _ rfl)

@[simp] theorem memoryUp_still (l : LaneId) (s : State)  : (memoryUp l s).still = s.still := by
  unfold memoryUp
  first | rfl | (simp; done) | (split <;> simp [*]; done) | ((repeat' split) <;> simp [*]; done) | (dsimp only; (repeat' split) <;> simp [*])

@[simp] theorem startActive_still (l : LaneId) (tier : Nat) (s : State)  : (startActive l tier s).still = s.still := by
  unfold startActive
  first | rfl | (simp; done) | (split <;> simp [*]; done) | ((repeat' split) <;> simp [*]; done) | (dsimp only; (repeat' split) <;> simp [*])

@[simp] theorem supplyFault_still (l : LaneId) (s : State)  : (supplyFault l s).still = s.still := by
  unfold supplyFault
  first | rfl | (simp; done) | (split <;> simp [*]; done) | ((repeat' split) <;> simp [*]; done) | (dsimp only; (repeat' split) <;> simp [*])

@[simp] theorem supplyLost_still (l : LaneId) (s : State)  : (supplyLost l s).still = s.still := by
  unfold supplyLost
  first | rfl | (simp; done) | (split <;> simp [*]; done) | ((repeat' split) <;> simp [*]; done) | (dsimp only; (repeat' split) <;> simp [*])

@[simp] theorem pllLoss_still (l : LaneId) (i : Fin 9) (stops : Bool) (s : State)  : (pllLoss l i stops s).still = s.still := by
  unfold pllLoss
  first | rfl | (simp; done) | (split <;> simp [*]; done) | ((repeat' split) <;> simp [*]; done) | (dsimp only; (repeat' split) <;> simp [*])

@[simp] theorem dieRead_still (die : Nat) (t : Int) (s : State)  : (dieRead die t s).still = s.still := by
  unfold dieRead
  dsimp only
  refine (foldl_still _ (fun u k => ?_) _ _).trans (State.modPower_keeps _ _ rfl)
  split <;> simp

@[simp] theorem coolLane_still (l : LaneId) (s : State)  : (coolLane l s).still = s.still := by
  unfold coolLane
  split
  · exact State.modArb_still _ _
  split
  · exact State.modPower_keeps _ _ rfl
  · rfl

@[simp] theorem coolWork_still (die : Fin 4) (t : Int) (s : State)  : (coolWork die t s).still = s.still := by
  unfold coolWork
  split
  · rfl
  dsimp only
  split
  · exact dieRead_still _ _ s
  have h2 : ((dieRead die.val t s).modPower fun p => { p with trip := vmodN p.trip die.val fun _ => false }).still = s.still :=
    (State.modPower_keeps _ _ rfl).trans (dieRead_still _ _ s)
  split
  · exact (coolLane_still _ _).trans h2
  · exact (coolLane_still _ _).trans h2
  · split
    · exact (State.modPower_keeps _ _ rfl).trans h2
    · exact h2

@[simp] theorem ageWork_still (l : LaneId) (mons : Vector (Vector Nat 4) 9) (tj : Int) (s : State)  : (ageWork l mons tj s).still = s.still := by
  unfold ageWork
  first | rfl | (simp; done) | (split <;> simp [*]; done) | ((repeat' split) <;> simp [*]; done) | (dsimp only; (repeat' split) <;> simp [*])

@[simp] theorem biasWork_still (l : LaneId) (i : Fin 9) (s : State)  : (biasWork l i s).still = s.still := by
  unfold biasWork
  first | rfl | (simp; done) | (split <;> simp [*]; done) | ((repeat' split) <;> simp [*]; done) | (dsimp only; (repeat' split) <;> simp [*])

@[simp] theorem slackWork_still (l : LaneId) (s : State)  : (slackWork l s).still = s.still := by
  unfold slackWork
  first | rfl | (simp; done) | (split <;> simp [*]; done) | ((repeat' split) <;> simp [*]; done) | (dsimp only; (repeat' split) <;> simp [*])

@[simp] theorem excWork_still (l : LaneId) (s : State)  : (excWork l s).still = s.still := by
  unfold excWork
  first | rfl | (simp; done) | (split <;> simp [*]; done) | ((repeat' split) <;> simp [*]; done) | (dsimp only; (repeat' split) <;> simp [*])

@[simp] theorem chainWork_still (ant : Fin 2) (pll : Option Chain) (s : State)  : (chainWork ant pll s).still = s.still := by
  unfold chainWork
  first | rfl | (simp; done) | (split <;> simp [*]; done) | ((repeat' split) <;> simp [*]; done) | (dsimp only; (repeat' split) <;> simp [*])

@[simp] theorem modMem_still (l : Option LaneId) (f : MemRegs → MemRegs) (s : State)  : (modMem l f s).still = s.still := by
  unfold modMem
  first | rfl | (simp; done) | (split <;> simp [*]; done) | ((repeat' split) <;> simp [*]; done) | (dsimp only; (repeat' split) <;> simp [*])

@[simp] theorem correctedWork_still (l : Option LaneId) (region init addr n pass : Nat) (scrub : Bool) (s : State)  : (correctedWork l region init addr n pass scrub s).still = s.still := by
  unfold correctedWork
  first | rfl | (simp; done) | (split <;> simp [*]; done) | ((repeat' split) <;> simp [*]; done) | (dsimp only; (repeat' split) <;> simp [*])

@[simp] theorem badWork_still (l : Option LaneId) (region init addr syndrome : Nat) (demand : Bool) (s : State)  : (badWork l region init addr syndrome demand s).still = s.still := by
  unfold badWork
  first | rfl | (simp; done) | (split <;> simp [*]; done) | ((repeat' split) <;> simp [*]; done) | (dsimp only; (repeat' split) <;> simp [*])

@[simp] theorem unhealthyMark_still (l : LaneId) (s : State)  : (unhealthyMark l s).still = s.still := by
  unfold unhealthyMark
  first | rfl | (simp; done) | (split <;> simp [*]; done) | ((repeat' split) <;> simp [*]; done) | (dsimp only; (repeat' split) <;> simp [*])

@[simp] theorem giveUp_still (l : LaneId) (purpose : Nat) (s : State)  : (giveUp l purpose s).still = s.still := by
  unfold giveUp
  first | rfl | (simp; done) | (split <;> simp [*]; done) | ((repeat' split) <;> simp [*]; done) | (dsimp only; (repeat' split) <;> simp [*])

@[simp] theorem spireInvalid_still (l : LaneId) (purpose : Nat) (s : State)  : (spireInvalid l purpose s).still = s.still := by
  unfold spireInvalid
  first | rfl | (simp; done) | (split <;> simp [*]; done) | ((repeat' split) <;> simp [*]; done) | (dsimp only; (repeat' split) <;> simp [*])

@[simp] theorem queueLost_still (l : LaneId) (q : Nat) (s : State)  : (queueLost l q s).still = s.still := by
  unfold queueLost
  first | rfl | (simp; done) | (split <;> simp [*]; done) | ((repeat' split) <;> simp [*]; done) | (dsimp only; (repeat' split) <;> simp [*])

@[simp] theorem bankHeld_still (l : LaneId) (net : Nat) (s : State)  : (bankHeld l net s).still = s.still := by
  unfold bankHeld
  first | rfl | (simp; done) | (split <;> simp [*]; done) | ((repeat' split) <;> simp [*]; done) | (dsimp only; (repeat' split) <;> simp [*])

@[simp] theorem refetch_still (l : LaneId) (s : State)  : (refetch l s).still = s.still := by
  unfold refetch
  first | rfl | (simp; done) | (split <;> simp [*]; done) | ((repeat' split) <;> simp [*]; done) | (dsimp only; (repeat' split) <;> simp [*])

@[simp] theorem regionAction_still (l : LaneId) (region part : Nat) (demand : Bool) (s : State)  : (regionAction l region part demand s).still = s.still := by
  unfold regionAction
  first | rfl | (simp; done) | (split <;> simp [*]; done) | ((repeat' split) <;> simp [*]; done) | (dsimp only; (repeat' split) <;> simp [*])

@[simp] theorem watchtowerWord_still (part : Nat) (s : State)  : (watchtowerWord part s).still = s.still := by
  unfold watchtowerWord
  first | rfl | (simp; done) | (split <;> simp [*]; done) | ((repeat' split) <;> simp [*]; done) | (dsimp only; (repeat' split) <;> simp [*])

@[simp] theorem regionError_still (l : Option LaneId) (region part : Nat) (demand : Bool) (s : State)  : (regionError l region part demand s).still = s.still := by
  unfold regionError
  first | rfl | (simp; done) | (split <;> simp [*]; done) | ((repeat' split) <;> simp [*]; done) | (dsimp only; (repeat' split) <;> simp [*])

@[simp] theorem scrubWork_still (l : Option LaneId) (region addr : Nat) (code : CodeResult) (pass part : Nat) (demand : Bool) (s : State)  : (scrubWork l region addr code pass part demand s).still = s.still := by
  unfold scrubWork
  first | rfl | (simp; done) | (split <;> simp [*]; done) | ((repeat' split) <;> simp [*]; done) | (dsimp only; (repeat' split) <;> simp [*])

@[simp] theorem setAccess_still (l : LaneId) (err : Bool) (d : Bytes) (s : State)  : (setAccess l err d s).still = s.still := by
  unfold setAccess
  first | rfl | (simp; done) | (split <;> simp [*]; done) | ((repeat' split) <;> simp [*]; done) | (dsimp only; (repeat' split) <;> simp [*])

@[simp] theorem accessQueued_still (l : LaneId) (c x n : Nat) (d : Bytes) (s : State) : (accessQueued l c x n d s).still = s.still := by
  unfold accessQueued
  first | rfl | (simp; done) | (split <;> simp [*]; done) | ((repeat' split) <;> simp [*]; done) | (dsimp only; (repeat' split) <;> simp [*])

@[simp] theorem accessRead_still (l : LaneId) (c x n : Nat) (s : State)  : (accessRead l c x n s).still = s.still := by
  unfold accessRead
  first | rfl | (simp; done) | (split <;> simp [*]; done) | ((repeat' split) <;> simp [*]; done) | (dsimp only; (repeat' split) <;> simp [*])

@[simp] theorem refuseSlot_still (l : LaneId) (island : Nat) (s : State)  : (refuseSlot l island s).still = s.still := by
  unfold refuseSlot
  first | rfl | (simp; done) | (split <;> simp [*]; done) | ((repeat' split) <;> simp [*]; done) | (dsimp only; (repeat' split) <;> simp [*])

@[simp] theorem windowRead_still (l : LaneId) (off : Nat) (s : State)  : (windowRead l off s).still = s.still := by
  unfold windowRead
  first | rfl | (simp; done) | (split <;> simp [*]; done) | ((repeat' split) <;> simp [*]; done) | (dsimp only; (repeat' split) <;> simp [*])

@[simp] theorem windowChange_still (l : LaneId) (other : Option (Vector BwWindow 19)) (s : State)  : (windowChange l other s).still = s.still := by
  unfold windowChange
  first | rfl | (simp; done) | (split <;> simp [*]; done) | ((repeat' split) <;> simp [*]; done) | (dsimp only; (repeat' split) <;> simp [*])

@[simp] theorem enqueueWork_still (src : Option LaneId) (typ : Nat) (integ : Bool) (payload : Bytes) (s : State)  : (enqueueWork src typ integ payload s).still = s.still := by
  unfold enqueueWork
  first | rfl | (simp; done) | (split <;> simp [*]; done) | ((repeat' split) <;> simp [*]; done) | (dsimp only; (repeat' split) <;> simp [*])

@[simp] theorem pollDrops_still (s : State)  : (pollDrops s).still = s.still := by
  unfold pollDrops
  first | rfl | (simp; done) | (split <;> simp [*]; done) | ((repeat' split) <;> simp [*]; done) | (dsimp only; (repeat' split) <;> simp [*])

@[simp] theorem unitDone_still (ok : Bool) (s : State)  : (unitDone ok s).still = s.still := by
  unfold unitDone
  first | rfl | (simp; done) | (split <;> simp [*]; done) | ((repeat' split) <;> simp [*]; done) | (dsimp only; (repeat' split) <;> simp [*])

@[simp] theorem keepDue_still (due : Bool) (f : State → State) (s : State) (hf : ∀  t, (f t).still = t.still) : (keepDue due f s).still = s.still := by
  unfold keepDue
  first | rfl | (simp; done) | (split <;> simp [*]; done) | ((repeat' split) <;> simp [*]; done) | (dsimp only; (repeat' split) <;> simp [*])

@[simp] theorem tallyWork_still (s : State)  : (tallyWork s).still = s.still := by
  unfold tallyWork
  exact keepDue_still _ _ _ (fun u => State.modKeep_still _ _)

@[simp] theorem summaryWork_still (s : State)  : (summaryWork s).still = s.still := by
  unfold summaryWork
  first | rfl | (simp; done) | (split <;> simp [*]; done) | ((repeat' split) <;> simp [*]; done) | (dsimp only; (repeat' split) <;> simp [*])

@[simp] theorem refreshWork_still (s : State)  : (refreshWork s).still = s.still := by
  unfold refreshWork
  dsimp only
  split
  · exact keepDue_still _ _ _ (fun u => State.modKeep_still _ _)
  · rfl

@[simp] theorem addBins_still (bins : List (Nat × Nat × Nat)) (s : State)  : (addBins bins s).still = s.still := by
  unfold addBins
  first | rfl | (simp; done) | (split <;> simp [*]; done) | ((repeat' split) <;> simp [*]; done) | (dsimp only; (repeat' split) <;> simp [*])

@[simp] theorem addExtreme_still (s : State) (e : Nat × Nat × Int × Int)  : (addExtreme s e).still = s.still := by
  unfold addExtreme
  dsimp only
  split <;> simp

@[simp] theorem histogramWork_still (s : State)  : (histogramWork s).still = s.still := by
  unfold histogramWork
  split
  · exact keepDue_still _ _ _ (fun u => atTick_still _ _ _ _ (fun v => (foldl_still _ (fun t e => addExtreme_still t e) _ _).trans (by simp)))
  · rfl

@[simp] theorem pumpDomain_still (s : State)  : (pumpDomain s).still = s.still := by
  unfold pumpDomain
  first | rfl | (simp; done) | (split <;> simp [*]; done) | ((repeat' split) <;> simp [*]; done) | (dsimp only; (repeat' split) <;> simp [*])

@[simp] theorem updateStart_still (s : State)  : (updateStart s).still = s.still := by
  unfold updateStart
  first | rfl | (simp; done) | (split <;> simp [*]; done) | ((repeat' split) <;> simp [*]; done) | (dsimp only; (repeat' split) <;> simp [*])

@[simp] theorem railsReady_still (s : State)  : (railsReady s).still = s.still := by
  unfold railsReady
  first | rfl | (simp; done) | (split <;> simp [*]; done) | ((repeat' split) <;> simp [*]; done) | (dsimp only; (repeat' split) <;> simp [*])

@[simp] theorem railFault_still (s : State)  : (railFault s).still = s.still := by
  unfold railFault
  first | rfl | (simp; done) | (split <;> simp [*]; done) | ((repeat' split) <;> simp [*]; done) | (dsimp only; (repeat' split) <;> simp [*])

@[simp] theorem updateEnd_still (s : State)  : (updateEnd s).still = s.still := by
  unfold updateEnd
  first | rfl | (simp; done) | (split <;> simp [*]; done) | ((repeat' split) <;> simp [*]; done) | (dsimp only; (repeat' split) <;> simp [*])

@[simp] theorem panelTemp_still (t : Int) (s : State)  : (panelTemp t s).still = s.still := by
  unfold panelTemp
  first | rfl | (simp; done) | (split <;> simp [*]; done) | ((repeat' split) <;> simp [*]; done) | (dsimp only; (repeat' split) <;> simp [*])

@[simp] theorem renderWork_still (s : State)  : (renderWork s).still = s.still := by
  unfold renderWork
  first | rfl | (simp; done) | (split <;> simp [*]; done) | ((repeat' split) <;> simp [*]; done) | (dsimp only; (repeat' split) <;> simp [*])

@[simp] theorem bookSave_still (s : State)  : (bookSave s).still = s.still := by
  unfold bookSave
  exact keepDue_still _ _ _ (fun u => (State.modLantern_still _ _).trans (State.modKeep_still _ _))

@[simp] theorem nodeTakes_still (net ident : Nat) (xtd : Bool) (d : Bytes) (durNs : Nat) (s : State) : (nodeTakes net ident xtd d durNs s).still = s.still := by
  unfold nodeTakes
  first | rfl | (simp; done) | (split <;> simp [*]; done) | ((repeat' split) <;> simp [*]; done) | (dsimp only; (repeat' split) <;> simp [*])

@[simp] theorem commitPending_still (id : Nat) (s : State)  : (commitPending id s).still = s.still := by
  unfold commitPending
  first | rfl | (simp; done) | (split <;> simp [*]; done) | ((repeat' split) <;> simp [*]; done) | (dsimp only; (repeat' split) <;> simp [*])

@[simp] theorem referenceWork_still (net : Fin 4) (frame : Bytes) (sofNs : Int) (s : State)  : (referenceWork net frame sofNs s).still = s.still := by
  unfold referenceWork
  first | rfl | (simp; done) | (split <;> simp [*]; done) | ((repeat' split) <;> simp [*]; done) | (dsimp only; (repeat' split) <;> simp [*])

@[simp] theorem holdoverWork_still (s : State)  : (holdoverWork s).still = s.still := by
  unfold holdoverWork
  first | rfl | (simp; done) | (split <;> simp [*]; done) | ((repeat' split) <;> simp [*]; done) | (dsimp only; (repeat' split) <;> simp [*])

@[simp] theorem timingWork_still (s : State)  : (timingWork s).still = s.still := by
  unfold timingWork
  split
  · exact atTick_still _ _ _ _ (fun u => State.modNode_still _ _)
  · rfl

@[simp] theorem driveSend_still (s : State)  : (driveSend s).still = s.still := by
  unfold driveSend
  first | rfl | (simp; done) | (split <;> simp [*]; done) | ((repeat' split) <;> simp [*]; done) | (dsimp only; (repeat' split) <;> simp [*])

@[simp] theorem commandWork_still (net : Fin 4) (ident : Nat) (d : Bytes) (durNs : Nat) (s : State) : (commandWork net ident d durNs s).still = s.still := by
  unfold commandWork
  first | rfl | (simp; done) | (split <;> simp [*]; done) | ((repeat' split) <;> simp [*]; done) | (dsimp only; (repeat' split) <;> simp [*])

@[simp] theorem resendWork_still (s : State)  : (resendWork s).still = s.still := by
  unfold resendWork
  first | rfl | (simp; done) | (split <;> simp [*]; done) | ((repeat' split) <;> simp [*]; done) | (dsimp only; (repeat' split) <;> simp [*])

@[simp] theorem holdTimeoutWork_still (s : State)  : (holdTimeoutWork s).still = s.still := by
  unfold holdTimeoutWork
  first | rfl | (simp; done) | (split <;> simp [*]; done) | ((repeat' split) <;> simp [*]; done) | (dsimp only; (repeat' split) <;> simp [*])

@[simp] theorem rampWork_still (s : State)  : (rampWork s).still = s.still := by
  unfold rampWork
  first | rfl | (simp; done) | (split <;> simp [*]; done) | ((repeat' split) <;> simp [*]; done) | (dsimp only; (repeat' split) <;> simp [*])

end Sys2Proof.Machine
end

