-- ==== Sys2Proof/Laws/Calm.lean ====
section
/-! SUPPORT. The operations that write a lane's memory: each keeps the canonical form, the queue, the test access port and, under EXTEST, the pins. -/

namespace Sys2Proof.Machine

/-- A change of state that keeps the queue, the test access port, the pins under EXTEST, and the canonical form of both memories. -/
structure Kept (s t : State) : Prop where
  pending : t.pending = s.pending
  jtag    : t.jtag = s.jtag
  shown   : s.jtag.extest = true → t.outbox = s.outbox
  memWf   : s.memWf = true → t.memWf = true

/-- It keeps domain 0 running too, with the role, module number, ordering code and stepping of its start. -/
structure Calm (s t : State) : Prop extends Kept s t where
  fixed   : t.power.fixed = s.power.fixed

theorem Calm.of_still {s t : State} (h : t.still = s.still) : Calm s t where
  pending := pending_of_still h
  jtag := jtag_of_still h
  shown := outbox_of_still h
  memWf hm := by rw [State.memWf, memA_of_still h, memB_of_still h]; exact hm
  fixed := fixed_of_still h

theorem Calm.refl (s : State) : Calm s s := Calm.of_still rfl

theorem Kept.trans {s t u : State} (h : Kept s t) (g : Kept t u) : Kept s u where
  pending := g.pending.trans h.pending
  jtag := g.jtag.trans h.jtag
  shown he := (g.shown (by rw [h.jtag]; exact he)).trans (h.shown he)
  memWf hm := g.memWf (h.memWf hm)

theorem Calm.trans {s t u : State} (h : Calm s t) (g : Calm t u) : Calm s u where
  toKept := h.toKept.trans g.toKept
  fixed := g.fixed.trans h.fixed

theorem Calm.ite {s a b : State} (c : Prop) [Decidable c] (ha : Calm s a) (hb : Calm s b) : Calm s (if c then a else b) := by
  split
  · exact ha
  · exact hb

theorem Calm.foldl {α : Type} (f : State → α → State) (h : ∀ s a, Calm s (f s a)) (l : List α) (s : State) : Calm s (l.foldl f s) := by
  induction l generalizing s with
  | nil => exact Calm.refl s
  | cons a l ih => exact (h s a).trans (ih _)

/-- A lane's memory is replaced by one in canonical form. -/
theorem setMem_calm (s : State) (l : LaneId) (m : Memory) (hm : s.memWf = true → m.wf = true) : Calm s (s.setMem l m) where
  pending := State.setMem_pending s l m
  jtag := State.setMem_jtag s l m
  shown _ := State.setMem_outbox s l m
  memWf h := by
    have h' : s.memA.wf = true ∧ s.memB.wf = true := by simpa [State.memWf] using h
    cases l
    · simpa [State.memWf, State.setMem] using ⟨hm h, h'.2⟩
    · simpa [State.memWf, State.setMem] using ⟨h'.1, hm h⟩
  fixed := by rw [State.setMem_power]

theorem mem_wf {s : State} (h : s.memWf = true) (l : LaneId) : (s.mem l).wf = true := by
  have h' : s.memA.wf = true ∧ s.memB.wf = true := by simpa [State.memWf] using h
  cases l
  · exact h'.1
  · exact h'.2

theorem storeMem_calm (s : State) (l : LaneId) (x : Nat) (d : Bytes) : Calm s (s.setMem l ((s.mem l).store x d)) :=
  setMem_calm s l _ fun h => Memory.store_wf _ _ _ (mem_wf h l)

/-! Time: what comes at a tick or at an instant. -/

theorem atTick_calm (code t : Nat) (k : State → State) (s : State) (hk : ∀ u, Calm u (k u)) : Calm s (atTick code t k s) := by
  unfold atTick
  split
  · exact (Calm.of_still (by simp)).trans (hk _)
  · exact Calm.refl s

theorem atUs_calm (due : Nat) (k : State → State) (s : State) (hk : ∀ u, Calm u (k u)) : Calm s (atUs due k s) := by
  unfold atUs
  dsimp only
  split
  · exact (Calm.of_still (advanceUs_still due s)).trans (hk _)
  · exact Calm.of_still (advanceUs_still due s)

theorem atBoundary_calm (due : Nat → Bool) (k : Nat → State → State) (s : State) (hk : ∀ b u, Calm u (k b u)) : Calm s (atBoundary due k s) := by
  unfold atBoundary
  split
  · exact hk _ _
  · split
    · exact (Calm.of_still (advanceTo_still _ s)).trans (hk _ _)
    · exact Calm.refl s

/-! Lanes off and on. -/

theorem laneOff_calm (l : LaneId) (s : State) : Calm s (laneOff l s) := by
  unfold laneOff
  have h0 : Calm s (if l = s.sel then holdNets s else s) := Calm.of_still (by simp)
  refine h0.trans ?_
  refine Calm.trans (t := ((((if l = s.sel then holdNets s else s).modPower fun p =>
    { switchOff (laneDomains l) p with starts := vmodN p.starts l.num fun _ => {} }).setLane l {}).setMem l [])) ?_ (Calm.of_still (by simp))
  exact (Calm.of_still (by simp)).trans (setMem_calm _ l [] fun _ => rfl)

theorem laneUp_calm (l : LaneId) (s : State) : Calm s (laneUp l s) := by
  unfold laneUp
  refine Calm.trans (t := (s.setLane l { pmu := biasWake {} }).setMem l []) ?_ (Calm.of_still ?_)
  · exact (Calm.of_still (by simp)).trans (setMem_calm _ l [] fun _ => rfl)
  · dsimp only
    split <;> simp

theorem domainUp_calm (d : Nat) (s : State) : Calm s (domainUp d s) := by
  unfold domainUp
  split
  · exact Calm.of_still (by simp)
  · exact Calm.of_still (by simp)
  · exact laneUp_calm _ s
  · exact laneUp_calm _ s
  · exact Calm.of_still (by simp)
  · exact Calm.of_still (by simp)
  · exact Calm.refl s

theorem domainAwake_calm (d : Nat) (s : State) : Calm s (domainAwake d s) := by
  unfold domainAwake
  split
  · exact atUs_calm _ _ _ fun u => (Calm.of_still (State.modPower_keeps u _ (wakeDone_fixed _ _ _))).trans (domainUp_calm d _)
  · exact Calm.refl s

theorem startFails_calm (l : LaneId) (s : State) : Calm s (startFails l s) := by
  unfold startFails
  exact (Calm.of_still (by simp)).trans (laneOff_calm l _)

theorem controlStart_calm (l : LaneId) (s : State) : Calm s (controlStart l s) := by
  unfold controlStart
  split
  · split
    · exact Calm.of_still (by simp)
    · exact startFails_calm l s
  · exact Calm.refl s

theorem laneSwitch_calm (b : Nat) (s : State) : Calm s (laneSwitch b s) := by
  unfold laneSwitch
  split
  · exact Calm.refl s
  · next new cause declared healthy _ =>
    dsimp only
    refine Calm.trans ?_ (Calm.of_still (applyEffects_still _ _ _))
    refine Calm.trans ?_ (Calm.of_still (foldl_still _ (fun u c => replayNotes_still _ u c) _ _))
    refine Calm.trans ?_ (Calm.of_still (foldl_still _ (fun u c => replayChannel_still _ u c) _ _))
    refine Calm.trans ?_ (Calm.of_still (State.modLane_still _ _ _))
    have h1 : Calm s (passHost s.sel new healthy ((if healthy = true then
        [0, 1, 2, 3].foldl (fun t c => mirrorDone acts (.chan c) t) (holdNets s) else holdNets s).modArb (applySwitch b new healthy))) :=
      Calm.of_still (by simp)
    refine h1.trans (Calm.ite _ (Calm.of_still (State.modLane_still _ _ _)) (laneOff_calm _ _))

theorem boundaryArbiter_calm (b : Nat) (s : State) : Calm s (boundaryArbiter b s) := by
  unfold boundaryArbiter
  exact (laneSwitch_calm b s).trans (Calm.of_still (moduleChange_still b _))

theorem belfryOrigin_still (s : State) (f : BelfryState → BelfryState) (b : Bool) :
    ((s.modBelfry f).modPower fun p => { p with origin := p.origin || b }).still = s.still := State.modPower_keeps _ _ rfl

theorem cycleBoundary_calm (s : State) : Calm s (cycleBoundary s) := by
  unfold cycleBoundary
  split
  · exact Calm.refl s
  extract_lets s0 s1 f s2 s3 i s4 s5 s6 s7 s8
  have h0 : Calm s s0 := Calm.of_still ((sendSummary_still _).trans (foldl_still _ (fun u l => lateViolation_still u l) _ _))
  have h1 : Calm s0 s1 := (Calm.of_still (t := (nextCycle s0).setLatched none) (by simp)).trans (boundaryArbiter_calm _ _)
  have h2 : Calm s1 s2 := (Calm.of_still (State.modArb_still s1 _)).trans (Calm.foldl _ (fun u l => laneOff_calm l u) _ _)
  have h3 : s3.still = s2.still := State.modHost_still s2 _
  have h4 : s4.still = s3.still :=
    (foldl_still _ (fun u l => by split <;> simp) _ _).trans ((syncPending_still _).trans ((nodeActive_still _).trans (imageStep_still s3)))
  have h5 : s5.still = s4.still := by
    rw [show s5.still = _ from watchProbation_still _]
    split <;> simp
  have h6 : s6.still = s5.still := by
    show State.still (if s5.phase = 0 then _ else _) = _
    split <;> simp
  have h7 : s7.still = s6.still := foldl_still _ (fun u l => by split <;> simp) _ _
  have h8 : s8.still = s7.still := by
    rw [show s8.still = _ from syncTimeLost_still _]
    split
    · exact belfryOrigin_still _ _ _
    · rfl
  have h9 : (if s8.isNode = true then s8.modNode nodeBoundary else s8).still = s8.still := by split <;> simp
  exact h0.trans (h1.trans (h2.trans (Calm.of_still (h9.trans (h8.trans (h7.trans (h6.trans (h5.trans (h4.trans h3)))))))))

/-! Power. -/

theorem resetAll_kept (s : State) : Kept s (resetAll s) := ⟨rfl, rfl, fun _ => rfl, fun _ => rfl⟩

theorem powerOn_kept (on : PowerOn) (s : State) : Kept s (powerOn on s) := by
  unfold powerOn
  split
  · exact (Calm.refl s).toKept
  · exact ⟨rfl, rfl, fun _ => rfl, fun _ => rfl⟩

theorem pfailOff_kept (s : State) : Kept s (pfailOff s) := by
  unfold pfailOff
  split
  · exact resetAll_kept s
  · exact (Calm.refl s).toKept

theorem vholdLost_kept (s : State) : Kept s (vholdLost s) := by
  unfold vholdLost
  split
  · exact resetAll_kept s
  · exact (Calm.refl s).toKept

theorem tripWork_calm (die : Fin 4) (t : Int) (s : State) : Calm s (tripWork die t s) := by
  unfold tripWork
  split
  · exact Calm.refl s
  dsimp only
  have h1 : Calm s (dieRead die.val t s) := Calm.of_still (dieRead_still _ _ s)
  have ht : ∀ k u, Calm u (tripWork.trip k u) := fun k u => Calm.of_still (State.modPower_keeps u _ rfl)
  split
  · exact h1
  · refine h1.trans ?_
    split
    · exact Calm.ite _ (((Calm.of_still (supplyFault_still _ _)).trans (laneOff_calm _ _)).trans (ht _ _)) (ht _ _)
    · exact Calm.ite _ (((Calm.of_still (supplyFault_still _ _)).trans (laneOff_calm _ _)).trans (ht _ _)) (ht _ _)
    · exact (ht 2 _).trans (Calm.of_still ((syncTimeLost_still _).trans ((State.modBelfry_still _ _).trans (State.modPower_keeps _ _ (switchOff_fixed _ _)))))
    · exact Calm.refl _

/-! Accesses. -/

theorem writeWords_calm (f : Nat → Nat → State → State) (h : ∀ o w u, Calm u (f o w u)) (n o : Nat) (d : Bytes) (s : State) :
    Calm s (writeWords f n o d s) := by
  induction n generalizing o d s with
  | zero => exact Calm.refl s
  | succ n ih => exact (h o _ s).trans (ih _ _ _)

theorem cupolaWrite_calm (l : LaneId) (o x : Nat) (d : Bytes) (s : State) : Calm s (cupolaWrite l o x d s) :=
  (storeMem_calm s l x d).trans (Calm.of_still (State.modLane_still _ _ _))

theorem mgmtWrite_calm (l : LaneId) (x : Nat) (d : Bytes) (s : State) : Calm s (mgmtWrite l x d s) := by
  unfold mgmtWrite
  dsimp only
  split
  · exact writeWords_calm _ (fun o w u => Calm.of_still (winWrite_still o w l u)) _ _ _ _
  · exact writeWords_calm _ (fun o w u => Calm.of_still (skyWrite_still o w u)) _ _ _ _
  · exact Calm.ite _ (storeMem_calm s l x d) (Calm.refl s)
  · exact Calm.ite _ (storeMem_calm s l.other _ d) (Calm.refl s)
  · exact cupolaWrite_calm l _ x d s
  · exact storeMem_calm s l x d
  · exact Calm.refl s

theorem accessWrite_calm (l : LaneId) (c x : Nat) (d : Bytes) (s : State) : Calm s (accessWrite l c x d s) := by
  unfold accessWrite
  split
  · exact Calm.of_still (setAccess_still _ _ _ s)
  · split
    · exact Calm.of_still (accessQueued_still _ _ _ _ _ s)
    · split
      · exact Calm.of_still ((setAccess_still _ _ _ _).trans (refuseSlot_still _ _ s))
      · exact (mgmtWrite_calm l x d s).trans (Calm.of_still (setAccess_still _ _ _ _))

theorem accessWork_calm (l : LaneId) (core x n : Nat) (w : Option Bytes) (s : State) : Calm s (accessWork l core x n w s) := by
  unfold accessWork
  split
  · split
    · exact accessWrite_calm _ _ _ _ s
    · exact Calm.of_still (accessRead_still _ _ _ _ s)
  · exact Calm.refl s

theorem serveRequest_calm (l : LaneId) (s : State) (q : MemAccess) : Calm s (serveRequest l s q) := by
  unfold serveRequest
  extract_lets init reply whole ext bad s1
  have hr : ∀ d u, Calm u (reply d u) := fun d u => Calm.of_still (State.modLane_still u _ _)
  have h1 : Calm s s1 := by
    show Calm s (match q.code with
      | .corrected n => _
      | .bad syn => _
      | .clean => _)
    split
    · exact Calm.of_still (by split <;> simp)
    · exact Calm.of_still (by split <;> simp)
    · exact Calm.refl s
  refine Calm.ite _ (hr _ _) (h1.trans (Calm.ite _ (hr _ _) ?_))
  split
  · exact (storeMem_calm s1 l _ _).trans (hr _ _)
  · exact hr _ _

theorem requestWork_calm (l : LaneId) (reqs : List MemAccess) (s : State) : Calm s (requestWork l reqs s) := by
  unfold requestWork
  exact Calm.ite _ ((Calm.of_still (State.modLane_still s l _)).trans (Calm.foldl _ (fun u q => serveRequest_calm l u q) _ _)) (Calm.refl s)

end Sys2Proof.Machine
end

