-- ==== Sys2Proof/Laws/Effects.lean ====
section
/-! SUPPORT. What counts, records, notifications and outputs leave alone: every die's units but Keep and the host side, and in each lane the engines
and everything that is no count and no register of the power-management unit. -/

namespace Sys2Proof.Machine

/-- What no effect touches in a lane. -/
structure LaneCore where
  ingest : IngestState
  filter : FilterState
  cupola : CupolaState
  observer : ObserverState
  control : ControlState
  alloc : AllocState
  bus : BusState
  alarms : List AlarmSt
  journal : List JournalEntry
  staged : List Staged
  finished : List Nat
  abandoned : List Nat
  test : TestState
  access : AccessResult
  incoming : List ChanUpdate
  jseq : Nat
  queued : Vector Queue 17
  snapPrev : Vector StoreEntry 256
  digestOut : Option Bytes
  mask : Option Nat
  shadow : Shadow
  clockUse : ℚ
  longOut : Vector Nat 9
  skyFault : Bool
  wtFault : Bool

def Lane.core (x : Lane) : LaneCore :=
  ⟨x.ingest, x.filter, x.cupola, x.observer, x.control, x.alloc, x.bus, x.alarms, x.journal, x.staged, x.finished, x.abandoned, x.test, x.access, x.incoming, x.jseq, x.queued, x.snapPrev, x.digestOut, x.mask, x.shadow, x.clockUse, x.longOut, x.skyFault, x.wtFault⟩

/-- What no effect touches in the module. -/
structure Rest where
  time : TimeState
  arb : ArbState
  power : PowerState
  safety : SafetyState
  lantern : LanternState
  oculus : OculusState
  belfry : BelfryState
  node : NodeState
  bridgeFault : Bool
  latched : Option Nat
  coreA : LaneCore
  coreB : LaneCore

def State.rest (s : State) : Rest :=
  ⟨s.time, s.arb, s.power, s.safety, s.lantern, s.oculus, s.belfry, s.node, s.bridgeFault, s.latched, s.laneA.core, s.laneB.core⟩

theorem time_of_rest {s t : State} (h : t.rest = s.rest) : t.time = s.time := congrArg Rest.time h
theorem arb_of_rest {s t : State} (h : t.rest = s.rest) : t.arb = s.arb := congrArg Rest.arb h
theorem power_of_rest {s t : State} (h : t.rest = s.rest) : t.power = s.power := congrArg Rest.power h
theorem safety_of_rest {s t : State} (h : t.rest = s.rest) : t.safety = s.safety := congrArg Rest.safety h
theorem lantern_of_rest {s t : State} (h : t.rest = s.rest) : t.lantern = s.lantern := congrArg Rest.lantern h
theorem oculus_of_rest {s t : State} (h : t.rest = s.rest) : t.oculus = s.oculus := congrArg Rest.oculus h
theorem belfry_of_rest {s t : State} (h : t.rest = s.rest) : t.belfry = s.belfry := congrArg Rest.belfry h
theorem node_of_rest {s t : State} (h : t.rest = s.rest) : t.node = s.node := congrArg Rest.node h
theorem bridgeFault_of_rest {s t : State} (h : t.rest = s.rest) : t.bridgeFault = s.bridgeFault := congrArg Rest.bridgeFault h
theorem latched_of_rest {s t : State} (h : t.rest = s.rest) : t.latched = s.latched := congrArg Rest.latched h
theorem core_of_rest {s t : State} (h : t.rest = s.rest) (l : LaneId) : (t.lane l).core = (s.lane l).core := by
  cases l
  · exact congrArg Rest.coreA h
  · exact congrArg Rest.coreB h

theorem Lane.ingest_of_core {x y : Lane} (h : y.core = x.core) : y.ingest = x.ingest := congrArg LaneCore.ingest h
theorem Lane.filter_of_core {x y : Lane} (h : y.core = x.core) : y.filter = x.filter := congrArg LaneCore.filter h
theorem Lane.cupola_of_core {x y : Lane} (h : y.core = x.core) : y.cupola = x.cupola := congrArg LaneCore.cupola h
theorem Lane.observer_of_core {x y : Lane} (h : y.core = x.core) : y.observer = x.observer := congrArg LaneCore.observer h
theorem Lane.control_of_core {x y : Lane} (h : y.core = x.core) : y.control = x.control := congrArg LaneCore.control h
theorem Lane.alloc_of_core {x y : Lane} (h : y.core = x.core) : y.alloc = x.alloc := congrArg LaneCore.alloc h
theorem Lane.bus_of_core {x y : Lane} (h : y.core = x.core) : y.bus = x.bus := congrArg LaneCore.bus h
theorem Lane.alarms_of_core {x y : Lane} (h : y.core = x.core) : y.alarms = x.alarms := congrArg LaneCore.alarms h
theorem Lane.journal_of_core {x y : Lane} (h : y.core = x.core) : y.journal = x.journal := congrArg LaneCore.journal h
theorem Lane.staged_of_core {x y : Lane} (h : y.core = x.core) : y.staged = x.staged := congrArg LaneCore.staged h
theorem Lane.finished_of_core {x y : Lane} (h : y.core = x.core) : y.finished = x.finished := congrArg LaneCore.finished h
theorem Lane.abandoned_of_core {x y : Lane} (h : y.core = x.core) : y.abandoned = x.abandoned := congrArg LaneCore.abandoned h
theorem Lane.test_of_core {x y : Lane} (h : y.core = x.core) : y.test = x.test := congrArg LaneCore.test h
theorem Lane.access_of_core {x y : Lane} (h : y.core = x.core) : y.access = x.access := congrArg LaneCore.access h
theorem Lane.incoming_of_core {x y : Lane} (h : y.core = x.core) : y.incoming = x.incoming := congrArg LaneCore.incoming h
theorem Lane.jseq_of_core {x y : Lane} (h : y.core = x.core) : y.jseq = x.jseq := congrArg LaneCore.jseq h
theorem Lane.queued_of_core {x y : Lane} (h : y.core = x.core) : y.queued = x.queued := congrArg LaneCore.queued h
theorem Lane.snapPrev_of_core {x y : Lane} (h : y.core = x.core) : y.snapPrev = x.snapPrev := congrArg LaneCore.snapPrev h
theorem Lane.digestOut_of_core {x y : Lane} (h : y.core = x.core) : y.digestOut = x.digestOut := congrArg LaneCore.digestOut h
theorem Lane.mask_of_core {x y : Lane} (h : y.core = x.core) : y.mask = x.mask := congrArg LaneCore.mask h
theorem Lane.shadow_of_core {x y : Lane} (h : y.core = x.core) : y.shadow = x.shadow := congrArg LaneCore.shadow h
theorem Lane.clockUse_of_core {x y : Lane} (h : y.core = x.core) : y.clockUse = x.clockUse := congrArg LaneCore.clockUse h
theorem Lane.longOut_of_core {x y : Lane} (h : y.core = x.core) : y.longOut = x.longOut := congrArg LaneCore.longOut h
theorem Lane.skyFault_of_core {x y : Lane} (h : y.core = x.core) : y.skyFault = x.skyFault := congrArg LaneCore.skyFault h
theorem Lane.wtFault_of_core {x y : Lane} (h : y.core = x.core) : y.wtFault = x.wtFault := congrArg LaneCore.wtFault h

@[simp] theorem rest_ite (c : Prop) [Decidable c] (a b : State) : (if c then a else b).rest = if c then a.rest else b.rest := by
  split <;> rfl

theorem foldl_rest {α : Type} (f : State → α → State) (h : ∀ s a, (f s a).rest = s.rest) (l : List α) (s : State) :
    (l.foldl f s).rest = s.rest := by
  induction l generalizing s with
  | nil => rfl
  | cons a l ih => simp [List.foldl_cons, ih, h]

/-! The updates that effects make. -/

theorem State.modLane_rest (s : State) (l : LaneId) (f : Lane → Lane) (h : (f (s.lane l)).core = (s.lane l).core) : (s.modLane l f).rest = s.rest := by
  cases l
  · show Rest.mk _ _ _ _ _ _ _ _ _ _ (f s.laneA).core _ = _
    rw [show (f s.laneA).core = s.laneA.core from h]
    rfl
  · show Rest.mk _ _ _ _ _ _ _ _ _ _ _ (f s.laneB).core = _
    rw [show (f s.laneB).core = s.laneB.core from h]
    rfl
theorem State.setLane_rest (s : State) (l : LaneId) (x : Lane) (h : x.core = (s.lane l).core) : (s.setLane l x).rest = s.rest :=
  State.modLane_rest s l (fun _ => x) h
@[simp] theorem State.modKeep_rest (s : State) (f : KeepState → KeepState) : (s.modKeep f).rest = s.rest := rfl
@[simp] theorem State.modHost_rest (s : State) (f : HostState → HostState) : (s.modHost f).rest = s.rest := rfl
@[simp] theorem State.useFree_rest (s : State) (n : Nat) : (s.useFree n).rest = s.rest := rfl
@[simp] theorem State.emit_rest (s : State) (o : Output) : (s.emit o).rest = s.rest := by
  unfold State.emit
  split <;> rfl
theorem State.modLanes_rest (s : State) (f : Lane → Lane) (h : ∀ x, (f x).core = x.core) : (s.modLanes f).rest = s.rest := by
  unfold State.modLanes
  dsimp only
  split
  · rw [State.modLane_rest _ _ _ (h _)]
    split
    · exact State.modLane_rest _ _ _ (h _)
    · rfl
  · split
    · exact State.modLane_rest _ _ _ (h _)
    · rfl

/-! The effects. -/

@[simp] theorem countIn_rest (l : LaneId) (ev q n : Nat) (s : State) : (countIn l ev q n s).rest = s.rest := by
  unfold countIn
  split
  · exact State.modLane_rest _ _ _ (by simp only [Lane.core])
  · rfl
@[simp] theorem count_rest (src : Option LaneId) (ev q n : Nat) (s : State) : (count src ev q n s).rest = s.rest := by
  unfold count
  split <;> simp
@[simp] theorem bwCount_rest (l : LaneId) (port i o frames drops : Nat) (s : State) : (bwCount l port i o frames drops s).rest = s.rest :=
  State.modLane_rest _ _ _ (by rfl)
@[simp] theorem sendDatagram_rest (p : EthPort) (dst : Source) (raw : Bytes) (s : State) : (sendDatagram p dst raw s).rest = s.rest := by
  simp [sendDatagram]
@[simp] theorem keepPut_rest (src : Option LaneId) (typ : Nat) (integ : Bool) (payload : Bytes) (s : State) :
    (keepPut src typ integ payload s).rest = s.rest := by
  unfold keepPut
  dsimp only
  split
  · rfl
  · split <;> simp
@[simp] theorem closeChannel_rest (c : Fin 4) (s : State) : (closeChannel c s).rest = s.rest := by
  unfold closeChannel
  exact State.modHost_rest s _
@[simp] theorem postNote_rest (code : Nat) (tag : Option (Nat × Nat)) (payload : Bytes) (s : State) (c : Fin 4) :
    (postNote code tag payload s c).rest = s.rest := by
  unfold postNote
  dsimp only
  split
  · rfl
  · split
    · split <;> simp
    · rfl
@[simp] theorem noteAll_rest (src : Option LaneId) (code : Nat) (tag : Option (Nat × Nat)) (payload : Bytes) (s : State) :
    (noteAll src code tag payload s).rest = s.rest := by
  unfold noteAll
  dsimp only
  generalize (_ && !s.power.pfail) = c
  cases c
  · rfl
  · exact foldl_rest _ (fun u a => postNote_rest _ _ _ u a) _ _
@[simp] theorem violate_rest (l : LaneId) (kind island slot excess : Nat) (s : State) : (violate l kind island slot excess s).rest = s.rest := by
  unfold violate
  dsimp only
  rw [keepPut_rest, count_rest]
  exact State.setLane_rest _ _ _ (by rfl)
@[simp] theorem applyEffect_rest (src : Option LaneId) (s : State) (e : Effect) : (applyEffect src s e).rest = s.rest := by
  unfold applyEffect
  split
  · simp
  · simp
  · simp
  · simp
  · simp
  · split <;> simp
  · split
    · exact State.modLane_rest _ _ _ (by rfl)
    · exact State.modLanes_rest _ _ fun _ => rfl
/-- Counts, records, notifications, violations, outputs, traffic and alarm conditions leave the rest of the module as it stands. -/
@[simp] theorem applyEffects_rest (src : Option LaneId) (es : List Effect) (s : State) : (applyEffects src es s).rest = s.rest :=
  foldl_rest _ (fun u a => applyEffect_rest _ u a) _ _
@[simp] theorem ringOut_rest (typ dst : Nat) (payload : Bytes) (s : State) :
    (ringOut typ dst payload s).rest = { s.rest with arb := (ringOut typ dst payload s).arb } := by
  unfold ringOut
  dsimp only
  split
  · rfl
  · rw [arb_of_rest (applyEffects_rest _ _ _), applyEffects_rest]
    rfl

/-! Field by field. -/

@[simp] theorem count_time (src : Option LaneId) (ev q n : Nat) (s : State) : (count src ev q n s).time = s.time := time_of_rest (count_rest _ _ _ _ s)
@[simp] theorem count_arb (src : Option LaneId) (ev q n : Nat) (s : State) : (count src ev q n s).arb = s.arb := arb_of_rest (count_rest _ _ _ _ s)
@[simp] theorem count_power (src : Option LaneId) (ev q n : Nat) (s : State) : (count src ev q n s).power = s.power := power_of_rest (count_rest _ _ _ _ s)
@[simp] theorem count_safety (src : Option LaneId) (ev q n : Nat) (s : State) : (count src ev q n s).safety = s.safety := safety_of_rest (count_rest _ _ _ _ s)
@[simp] theorem count_lantern (src : Option LaneId) (ev q n : Nat) (s : State) : (count src ev q n s).lantern = s.lantern := lantern_of_rest (count_rest _ _ _ _ s)
@[simp] theorem count_oculus (src : Option LaneId) (ev q n : Nat) (s : State) : (count src ev q n s).oculus = s.oculus := oculus_of_rest (count_rest _ _ _ _ s)
@[simp] theorem count_belfry (src : Option LaneId) (ev q n : Nat) (s : State) : (count src ev q n s).belfry = s.belfry := belfry_of_rest (count_rest _ _ _ _ s)
@[simp] theorem count_node (src : Option LaneId) (ev q n : Nat) (s : State) : (count src ev q n s).node = s.node := node_of_rest (count_rest _ _ _ _ s)
@[simp] theorem count_bridgeFault (src : Option LaneId) (ev q n : Nat) (s : State) : (count src ev q n s).bridgeFault = s.bridgeFault := bridgeFault_of_rest (count_rest _ _ _ _ s)
@[simp] theorem count_latched (src : Option LaneId) (ev q n : Nat) (s : State) : (count src ev q n s).latched = s.latched := latched_of_rest (count_rest _ _ _ _ s)
@[simp] theorem count_core (src : Option LaneId) (ev q n : Nat) (s : State) (k : LaneId) : ((count src ev q n s).lane k).core = (s.lane k).core := core_of_rest (count_rest _ _ _ _ s) k
@[simp] theorem bwCount_time (l : LaneId) (port i o frames drops : Nat) (s : State) : (bwCount l port i o frames drops s).time = s.time := time_of_rest (bwCount_rest _ _ _ _ _ _ s)
@[simp] theorem bwCount_arb (l : LaneId) (port i o frames drops : Nat) (s : State) : (bwCount l port i o frames drops s).arb = s.arb := arb_of_rest (bwCount_rest _ _ _ _ _ _ s)
@[simp] theorem bwCount_power (l : LaneId) (port i o frames drops : Nat) (s : State) : (bwCount l port i o frames drops s).power = s.power := power_of_rest (bwCount_rest _ _ _ _ _ _ s)
@[simp] theorem bwCount_safety (l : LaneId) (port i o frames drops : Nat) (s : State) : (bwCount l port i o frames drops s).safety = s.safety := safety_of_rest (bwCount_rest _ _ _ _ _ _ s)
@[simp] theorem bwCount_lantern (l : LaneId) (port i o frames drops : Nat) (s : State) : (bwCount l port i o frames drops s).lantern = s.lantern := lantern_of_rest (bwCount_rest _ _ _ _ _ _ s)
@[simp] theorem bwCount_oculus (l : LaneId) (port i o frames drops : Nat) (s : State) : (bwCount l port i o frames drops s).oculus = s.oculus := oculus_of_rest (bwCount_rest _ _ _ _ _ _ s)
@[simp] theorem bwCount_belfry (l : LaneId) (port i o frames drops : Nat) (s : State) : (bwCount l port i o frames drops s).belfry = s.belfry := belfry_of_rest (bwCount_rest _ _ _ _ _ _ s)
@[simp] theorem bwCount_node (l : LaneId) (port i o frames drops : Nat) (s : State) : (bwCount l port i o frames drops s).node = s.node := node_of_rest (bwCount_rest _ _ _ _ _ _ s)
@[simp] theorem bwCount_bridgeFault (l : LaneId) (port i o frames drops : Nat) (s : State) : (bwCount l port i o frames drops s).bridgeFault = s.bridgeFault := bridgeFault_of_rest (bwCount_rest _ _ _ _ _ _ s)
@[simp] theorem bwCount_latched (l : LaneId) (port i o frames drops : Nat) (s : State) : (bwCount l port i o frames drops s).latched = s.latched := latched_of_rest (bwCount_rest _ _ _ _ _ _ s)
@[simp] theorem bwCount_core (l : LaneId) (port i o frames drops : Nat) (s : State) (k : LaneId) : ((bwCount l port i o frames drops s).lane k).core = (s.lane k).core := core_of_rest (bwCount_rest _ _ _ _ _ _ s) k
@[simp] theorem sendDatagram_time (p : EthPort) (dst : Source) (raw : Bytes) (s : State) : (sendDatagram p dst raw s).time = s.time := time_of_rest (sendDatagram_rest _ _ _ s)
@[simp] theorem sendDatagram_arb (p : EthPort) (dst : Source) (raw : Bytes) (s : State) : (sendDatagram p dst raw s).arb = s.arb := arb_of_rest (sendDatagram_rest _ _ _ s)
@[simp] theorem sendDatagram_power (p : EthPort) (dst : Source) (raw : Bytes) (s : State) : (sendDatagram p dst raw s).power = s.power := power_of_rest (sendDatagram_rest _ _ _ s)
@[simp] theorem sendDatagram_safety (p : EthPort) (dst : Source) (raw : Bytes) (s : State) : (sendDatagram p dst raw s).safety = s.safety := safety_of_rest (sendDatagram_rest _ _ _ s)
@[simp] theorem sendDatagram_lantern (p : EthPort) (dst : Source) (raw : Bytes) (s : State) : (sendDatagram p dst raw s).lantern = s.lantern := lantern_of_rest (sendDatagram_rest _ _ _ s)
@[simp] theorem sendDatagram_oculus (p : EthPort) (dst : Source) (raw : Bytes) (s : State) : (sendDatagram p dst raw s).oculus = s.oculus := oculus_of_rest (sendDatagram_rest _ _ _ s)
@[simp] theorem sendDatagram_belfry (p : EthPort) (dst : Source) (raw : Bytes) (s : State) : (sendDatagram p dst raw s).belfry = s.belfry := belfry_of_rest (sendDatagram_rest _ _ _ s)
@[simp] theorem sendDatagram_node (p : EthPort) (dst : Source) (raw : Bytes) (s : State) : (sendDatagram p dst raw s).node = s.node := node_of_rest (sendDatagram_rest _ _ _ s)
@[simp] theorem sendDatagram_bridgeFault (p : EthPort) (dst : Source) (raw : Bytes) (s : State) : (sendDatagram p dst raw s).bridgeFault = s.bridgeFault := bridgeFault_of_rest (sendDatagram_rest _ _ _ s)
@[simp] theorem sendDatagram_latched (p : EthPort) (dst : Source) (raw : Bytes) (s : State) : (sendDatagram p dst raw s).latched = s.latched := latched_of_rest (sendDatagram_rest _ _ _ s)
@[simp] theorem sendDatagram_core (p : EthPort) (dst : Source) (raw : Bytes) (s : State) (k : LaneId) : ((sendDatagram p dst raw s).lane k).core = (s.lane k).core := core_of_rest (sendDatagram_rest _ _ _ s) k
@[simp] theorem keepPut_time (src : Option LaneId) (typ : Nat) (integ : Bool) (payload : Bytes) (s : State) : (keepPut src typ integ payload s).time = s.time := time_of_rest (keepPut_rest _ _ _ _ s)
@[simp] theorem keepPut_arb (src : Option LaneId) (typ : Nat) (integ : Bool) (payload : Bytes) (s : State) : (keepPut src typ integ payload s).arb = s.arb := arb_of_rest (keepPut_rest _ _ _ _ s)
@[simp] theorem keepPut_power (src : Option LaneId) (typ : Nat) (integ : Bool) (payload : Bytes) (s : State) : (keepPut src typ integ payload s).power = s.power := power_of_rest (keepPut_rest _ _ _ _ s)
@[simp] theorem keepPut_safety (src : Option LaneId) (typ : Nat) (integ : Bool) (payload : Bytes) (s : State) : (keepPut src typ integ payload s).safety = s.safety := safety_of_rest (keepPut_rest _ _ _ _ s)
@[simp] theorem keepPut_lantern (src : Option LaneId) (typ : Nat) (integ : Bool) (payload : Bytes) (s : State) : (keepPut src typ integ payload s).lantern = s.lantern := lantern_of_rest (keepPut_rest _ _ _ _ s)
@[simp] theorem keepPut_oculus (src : Option LaneId) (typ : Nat) (integ : Bool) (payload : Bytes) (s : State) : (keepPut src typ integ payload s).oculus = s.oculus := oculus_of_rest (keepPut_rest _ _ _ _ s)
@[simp] theorem keepPut_belfry (src : Option LaneId) (typ : Nat) (integ : Bool) (payload : Bytes) (s : State) : (keepPut src typ integ payload s).belfry = s.belfry := belfry_of_rest (keepPut_rest _ _ _ _ s)
@[simp] theorem keepPut_node (src : Option LaneId) (typ : Nat) (integ : Bool) (payload : Bytes) (s : State) : (keepPut src typ integ payload s).node = s.node := node_of_rest (keepPut_rest _ _ _ _ s)
@[simp] theorem keepPut_bridgeFault (src : Option LaneId) (typ : Nat) (integ : Bool) (payload : Bytes) (s : State) : (keepPut src typ integ payload s).bridgeFault = s.bridgeFault := bridgeFault_of_rest (keepPut_rest _ _ _ _ s)
@[simp] theorem keepPut_latched (src : Option LaneId) (typ : Nat) (integ : Bool) (payload : Bytes) (s : State) : (keepPut src typ integ payload s).latched = s.latched := latched_of_rest (keepPut_rest _ _ _ _ s)
@[simp] theorem keepPut_core (src : Option LaneId) (typ : Nat) (integ : Bool) (payload : Bytes) (s : State) (k : LaneId) : ((keepPut src typ integ payload s).lane k).core = (s.lane k).core := core_of_rest (keepPut_rest _ _ _ _ s) k
@[simp] theorem noteAll_time (src : Option LaneId) (code : Nat) (tag : Option (Nat × Nat)) (payload : Bytes) (s : State) : (noteAll src code tag payload s).time = s.time := time_of_rest (noteAll_rest _ _ _ _ s)
@[simp] theorem noteAll_arb (src : Option LaneId) (code : Nat) (tag : Option (Nat × Nat)) (payload : Bytes) (s : State) : (noteAll src code tag payload s).arb = s.arb := arb_of_rest (noteAll_rest _ _ _ _ s)
@[simp] theorem noteAll_power (src : Option LaneId) (code : Nat) (tag : Option (Nat × Nat)) (payload : Bytes) (s : State) : (noteAll src code tag payload s).power = s.power := power_of_rest (noteAll_rest _ _ _ _ s)
@[simp] theorem noteAll_safety (src : Option LaneId) (code : Nat) (tag : Option (Nat × Nat)) (payload : Bytes) (s : State) : (noteAll src code tag payload s).safety = s.safety := safety_of_rest (noteAll_rest _ _ _ _ s)
@[simp] theorem noteAll_lantern (src : Option LaneId) (code : Nat) (tag : Option (Nat × Nat)) (payload : Bytes) (s : State) : (noteAll src code tag payload s).lantern = s.lantern := lantern_of_rest (noteAll_rest _ _ _ _ s)
@[simp] theorem noteAll_oculus (src : Option LaneId) (code : Nat) (tag : Option (Nat × Nat)) (payload : Bytes) (s : State) : (noteAll src code tag payload s).oculus = s.oculus := oculus_of_rest (noteAll_rest _ _ _ _ s)
@[simp] theorem noteAll_belfry (src : Option LaneId) (code : Nat) (tag : Option (Nat × Nat)) (payload : Bytes) (s : State) : (noteAll src code tag payload s).belfry = s.belfry := belfry_of_rest (noteAll_rest _ _ _ _ s)
@[simp] theorem noteAll_node (src : Option LaneId) (code : Nat) (tag : Option (Nat × Nat)) (payload : Bytes) (s : State) : (noteAll src code tag payload s).node = s.node := node_of_rest (noteAll_rest _ _ _ _ s)
@[simp] theorem noteAll_bridgeFault (src : Option LaneId) (code : Nat) (tag : Option (Nat × Nat)) (payload : Bytes) (s : State) : (noteAll src code tag payload s).bridgeFault = s.bridgeFault := bridgeFault_of_rest (noteAll_rest _ _ _ _ s)
@[simp] theorem noteAll_latched (src : Option LaneId) (code : Nat) (tag : Option (Nat × Nat)) (payload : Bytes) (s : State) : (noteAll src code tag payload s).latched = s.latched := latched_of_rest (noteAll_rest _ _ _ _ s)
@[simp] theorem noteAll_core (src : Option LaneId) (code : Nat) (tag : Option (Nat × Nat)) (payload : Bytes) (s : State) (k : LaneId) : ((noteAll src code tag payload s).lane k).core = (s.lane k).core := core_of_rest (noteAll_rest _ _ _ _ s) k
@[simp] theorem violate_time (l : LaneId) (kind island slot excess : Nat) (s : State) : (violate l kind island slot excess s).time = s.time := time_of_rest (violate_rest _ _ _ _ _ s)
@[simp] theorem violate_arb (l : LaneId) (kind island slot excess : Nat) (s : State) : (violate l kind island slot excess s).arb = s.arb := arb_of_rest (violate_rest _ _ _ _ _ s)
@[simp] theorem violate_power (l : LaneId) (kind island slot excess : Nat) (s : State) : (violate l kind island slot excess s).power = s.power := power_of_rest (violate_rest _ _ _ _ _ s)
@[simp] theorem violate_safety (l : LaneId) (kind island slot excess : Nat) (s : State) : (violate l kind island slot excess s).safety = s.safety := safety_of_rest (violate_rest _ _ _ _ _ s)
@[simp] theorem violate_lantern (l : LaneId) (kind island slot excess : Nat) (s : State) : (violate l kind island slot excess s).lantern = s.lantern := lantern_of_rest (violate_rest _ _ _ _ _ s)
@[simp] theorem violate_oculus (l : LaneId) (kind island slot excess : Nat) (s : State) : (violate l kind island slot excess s).oculus = s.oculus := oculus_of_rest (violate_rest _ _ _ _ _ s)
@[simp] theorem violate_belfry (l : LaneId) (kind island slot excess : Nat) (s : State) : (violate l kind island slot excess s).belfry = s.belfry := belfry_of_rest (violate_rest _ _ _ _ _ s)
@[simp] theorem violate_node (l : LaneId) (kind island slot excess : Nat) (s : State) : (violate l kind island slot excess s).node = s.node := node_of_rest (violate_rest _ _ _ _ _ s)
@[simp] theorem violate_bridgeFault (l : LaneId) (kind island slot excess : Nat) (s : State) : (violate l kind island slot excess s).bridgeFault = s.bridgeFault := bridgeFault_of_rest (violate_rest _ _ _ _ _ s)
@[simp] theorem violate_latched (l : LaneId) (kind island slot excess : Nat) (s : State) : (violate l kind island slot excess s).latched = s.latched := latched_of_rest (violate_rest _ _ _ _ _ s)
@[simp] theorem violate_core (l : LaneId) (kind island slot excess : Nat) (s : State) (k : LaneId) : ((violate l kind island slot excess s).lane k).core = (s.lane k).core := core_of_rest (violate_rest _ _ _ _ _ s) k
@[simp] theorem applyEffects_time (src : Option LaneId) (es : List Effect) (s : State) : (applyEffects src es s).time = s.time := time_of_rest (applyEffects_rest _ _ s)
@[simp] theorem applyEffects_arb (src : Option LaneId) (es : List Effect) (s : State) : (applyEffects src es s).arb = s.arb := arb_of_rest (applyEffects_rest _ _ s)
@[simp] theorem applyEffects_power (src : Option LaneId) (es : List Effect) (s : State) : (applyEffects src es s).power = s.power := power_of_rest (applyEffects_rest _ _ s)
@[simp] theorem applyEffects_safety (src : Option LaneId) (es : List Effect) (s : State) : (applyEffects src es s).safety = s.safety := safety_of_rest (applyEffects_rest _ _ s)
@[simp] theorem applyEffects_lantern (src : Option LaneId) (es : List Effect) (s : State) : (applyEffects src es s).lantern = s.lantern := lantern_of_rest (applyEffects_rest _ _ s)
@[simp] theorem applyEffects_oculus (src : Option LaneId) (es : List Effect) (s : State) : (applyEffects src es s).oculus = s.oculus := oculus_of_rest (applyEffects_rest _ _ s)
@[simp] theorem applyEffects_belfry (src : Option LaneId) (es : List Effect) (s : State) : (applyEffects src es s).belfry = s.belfry := belfry_of_rest (applyEffects_rest _ _ s)
@[simp] theorem applyEffects_node (src : Option LaneId) (es : List Effect) (s : State) : (applyEffects src es s).node = s.node := node_of_rest (applyEffects_rest _ _ s)
@[simp] theorem applyEffects_bridgeFault (src : Option LaneId) (es : List Effect) (s : State) : (applyEffects src es s).bridgeFault = s.bridgeFault := bridgeFault_of_rest (applyEffects_rest _ _ s)
@[simp] theorem applyEffects_latched (src : Option LaneId) (es : List Effect) (s : State) : (applyEffects src es s).latched = s.latched := latched_of_rest (applyEffects_rest _ _ s)
@[simp] theorem applyEffects_core (src : Option LaneId) (es : List Effect) (s : State) (k : LaneId) : ((applyEffects src es s).lane k).core = (s.lane k).core := core_of_rest (applyEffects_rest _ _ s) k

end Sys2Proof.Machine
end

