-- ==== Sys2Proof/Tests/States.lean ====
section
/-! SUPPORT. Small images and states from which the tests start. -/

set_option Elab.async false

namespace Sys2Proof.Tests

open Sys2Proof Sys2Proof.Machine

/-- Bytes from numbers. -/
def bs (l : List Nat) : Bytes := l.map (BitVec.ofNat 8 ·)
/-- The bytes of an image with the given sections (Tables 3.1 and 3.4): number, instance, contents; one tier, staging closes at tick 18,000. -/
def imageOf (secs : List (Nat × Nat × Bytes)) : Bytes :=
  let dir := (secs.foldl (fun (a : Bytes × Nat) x =>
    (a.1 ++ leBytes 2 x.1 ++ leBytes 2 x.2.1 ++ leBytes 4 a.2 ++ leBytes 4 x.2.2.length ++ leBytes 4 0, a.2 + x.2.2.length)) ([], 128 + 16 * secs.length)).1
  zeroBytes 24 ++ leBytes 2 secs.length ++ leBytes 4 1 ++ leBytes 2 18000 ++ zeroBytes 96 ++ dir ++ (secs.map fun x => x.2.2).flatten
/-- A row of the slot table (Table 3.7): number, island, class, start, stop, purpose. -/
def slotRow (r : Nat × Nat × Nat × Nat × Nat × Nat) : Bytes :=
  leBytes 2 r.1 ++ leBytes 1 r.2.1 ++ leBytes 1 r.2.2.1 ++ leBytes 2 r.2.2.2.1 ++ leBytes 2 r.2.2.2.2.1 ++ padTo 11 (leBytes 4 1000) ++
    leBytes 1 r.2.2.2.2.2 ++ zeroBytes 12
/-- One slot for each PURPOSE of Table 3.7, in the order of R45. -/
def slots : Bytes := ([(1, 6, 0, 200, 250, 2), (2, 4, 0, 300, 350, 1), (3, 1, 0, 400, 2400, 3), (4, 2, 0, 2500, 2900, 4), (5, 3, 0, 3000, 3500, 5), (6, 0, 0, 3600, 3700, 6),
  (7, 2, 0, 3800, 8000, 7), (8, 2, 0, 8100, 8500, 8), (9, 2, 3, 8600, 12000, 9), (10, 1, 3, 8600, 9000, 10), (11, 0, 2, 9100, 9200, 11), (12, 0, 2, 12100, 12200, 12)] :
  List (Nat × Nat × Nat × Nat × Nat × Nat)).flatMap slotRow
/-- A consequence plan in which every phase runs group 1 (Table 3.9). -/
def plan : Bytes := bs (List.replicate 64 1)
/-- REDUNDANCY (Table 15.10): `modules` modules, module 1 preferred, TAKEBACK set; HOLDOFF 0 and SYNC_CYC 2; at most 2 wakes. -/
def redSec (modules : Nat) : Bytes := bs [0, 0, modules, 0, 0, 1, 1, 3] ++ leBytes 2 0 ++ leBytes 2 2 ++ bs [3, 2, 5, 5] ++ leBytes 2 100 ++ zeroBytes 14
/-- An image of a single module, and one of a system of three. -/
def img : Bytes := imageOf [(secSlotTable, 0, slots), (secPlan, 0xFF, plan), (secRedundancy, 0xFF, redSec 1)]
def img3 : Bytes := imageOf [(secSlotTable, 0, slots), (secPlan, 0xFF, plan), (secRedundancy, 0xFF, redSec 3)]

/-- A lane with an image in force. -/
def laneWith (i : Bytes) : Lane := { image := { active := some i } }
/-- A running controller: every domain on, Lane A ACTIVE and Lane B STANDBY, cycle 100. -/
def up : State := { State.reset with
  time := { cycle := 100, us := 2000000 }
  power := { booted := true, on := Vector.replicate 16 true }
  arb := { lanes := #v[{ state := 6, running := true }, { state := 5, running := true }], started := true }
  laneA := laneWith img, laneB := laneWith img }
/-- The same module as the first of three on a ring. -/
def ring : State := { up with laneA := laneWith img3, laneB := laneWith img3, power := { up.power with module := 1 } }
/-- A state at another cycle, or at another tick of the cycle. -/
def atCycle (n : Nat) (s : State) : State := { s with time := { s.time with cycle := n } }
def atTickOf (t : Nat) (s : State) : State := { s with time := { s.time with tick := t } }
/-- A state whose arbiter holds other values for one lane. -/
def withArb (l : LaneId) (f : LaneArb → LaneArb) (s : State) : State := s.modArb fun a => a.modLane l f

end Sys2Proof.Tests
end

