-- ==== Sys2Proof/Tests/WitnessCycle.lean ====
section
/-! SUPPORT. States and operands that meet the hypotheses of the statements about the slots of the cycle, the sequencer, sensors and links. -/

set_option Elab.async false

namespace Sys2Proof.Tests

open Sys2Proof Sys2Proof.Machine

/-! The slots of the control path, as the test image has them. -/

/-- Row `n` of the test image's slot table: island, class, start, stop, purpose. -/
def row (n island cls start stop purpose : Nat) : Slot := ⟨n, island, cls, start, stop, 1000, 0, 0, 0, purpose⟩
theorem due_of (l : LaneId) (p tick : Nat) (sl : Slot) (s : State) (h : (pathRuns s l && clocked s l sl.island && !((s.lane l).finished.contains sl.slot) && !((s.lane l).abandoned.contains p) &&
    decide (s.time.tick ≤ tick) && !(s.time.ran.contains (laneCodeOf (1000 + sl.slot) l))) = true) : SlotDue l p tick sl s := by
  simp only [Bool.and_eq_true, decide_eq_true_eq, Bool.not_eq_true', List.contains_eq_mem, decide_eq_false_iff_not] at h
  obtain ⟨⟨⟨⟨⟨h1, h2⟩, h3⟩, h4⟩, h5⟩, h6⟩ := h
  exact ⟨h1, h2, h3, h4, h5, h6⟩
/-- An entry waits in a queue of Lane A. -/
def queueHeld (q : Nat) : State := up.modLane .A fun x => { x with queued := x.queued.set! q { waiting := [{}] } }
theorem witness_ControlPathSlotsDoTheirWork : pathRuns State.reset .A = false ∧
    (slotOf .A 2 up = some (row 1 6 0 200 250 2) ∧ SlotDue .A 2 200 (row 1 6 0 200 250 2) up) ∧
    (slotOf .A 1 up = some (row 2 4 0 300 350 1) ∧ SlotDue .A 1 300 (row 2 4 0 300 350 1) up ∧ (vget (up.lane .A).queued 8).waiting = [] ∧
      (vget ((queueHeld 8).lane .A).queued 8).waiting ≠ []) ∧
    (lastSlotOf .A 3 up = some (row 3 1 0 400 2400 3) ∧ SlotDue .A 3 2400 (row 3 1 0 400 2400 3) up) ∧
    (slotOf .A 4 up = some (row 4 2 0 2500 2900 4) ∧ SlotDue .A 4 2500 (row 4 2 0 2500 2900 4) up) ∧
    (slotOf .A 5 up = some (row 5 3 0 3000 3500 5) ∧ SlotDue .A 5 3000 (row 5 3 0 3000 3500 5) up) ∧
    (slotOf .A 6 up = some (row 6 0 0 3600 3700 6) ∧ SlotDue .A 6 3600 (row 6 0 0 3600 3700 6) up) ∧
    (slotOf .A 12 up = some (row 12 0 2 12100 12200 12) ∧ pathRuns up .A = true ∧ up.phase = 0 ∧ clocked up .A 0 = true ∧ dueAt (laneCodeOf 70 .A) 12100 up) ∧
    (slotOf .A 7 up = some (row 7 2 0 3800 8000 7) ∧ SlotDue .A 7 3800 (row 7 2 0 3800 8000 7) up ∧ SlotDue .A 7 8000 (row 7 2 0 3800 8000 7) up) ∧
    (lastSlotOf .A 8 up = some (row 8 2 0 8100 8500 8) ∧ SlotDue .A 8 8500 (row 8 2 0 8100 8500 8) up ∧ clocked up .A 2 = true ∧ (up.lane .A).wtFault = false) := by
  unfold dueAt
  refine ⟨?_, ⟨?_, due_of _ _ _ _ _ ?_⟩, ⟨?_, due_of _ _ _ _ _ ?_, ?_⟩, ⟨?_, due_of _ _ _ _ _ ?_⟩, ⟨?_, due_of _ _ _ _ _ ?_⟩, ⟨?_, due_of _ _ _ _ _ ?_⟩, ⟨?_, due_of _ _ _ _ _ ?_⟩, ?_,
    ⟨?_, due_of _ _ _ _ _ ?_, due_of _ _ _ _ _ ?_⟩, ⟨?_, due_of _ _ _ _ _ ?_, ?_⟩⟩ <;> decide +kernel
theorem witness_ControlPathSlotsDoTheirWork_queues :
    (vget (up.lane .A).queued 4).fill + (q04Words (cupolaFusion (cplIn up .A) (up.lane .A).cupola).1.q04).length ≤ 32 ∧ (vget (up.lane .A).queued 9).fill + 2 ≤ 8 ∧
    (vget (up.lane .A).queued 6).fill + 5 ≤ 16 ∧ (vget (up.lane .A).queued 5).fill + 3 ≤ 16 ∧ (vget (up.lane .A).queued 7).fill + 3 ≤ 16 := by
  and_intros <;> decide +kernel

/-! The sequencer and the guard window. -/

/-- The consequence plan runs group 1 in phase 1; cycle 149 is the last of its long cycle. -/
def phase49 : State := atCycle 149 up
def latchedAs (m : Option Nat) : State := { up with latched := m }
theorem witness_SequencerAndGuardWindow :
    (∀ n sl, (n, sl) ∈ [(1, row 1 6 0 200 250 2), (2, row 2 4 0 300 350 1), (3, row 3 1 0 400 2400 3), (11, row 11 0 2 9100 9200 11), (10, row 10 1 3 8600 9000 10)] →
      (up.laneImg .A).bind (fun i => imgSlotNum i (up.lane .A).pmu.tier n) = some sl ∧ pathRuns up .A = true ∧ clocked up .A sl.island = true ∧ up.time.tick ≤ sl.stop ∧
      laneCodeOf (2000 + n) .A ∉ up.time.ran ∧ n ∉ (up.lane .A).finished ∧ sl.slot = n ∧ sl.purpose ∉ (up.lane .A).abandoned ∧ 1000 ≤ sl.clocks ∧
      (vget (up.lane .A).queued 4).fill < 32) ∧
    ((up.laneImg .A).bind (fun i => imgSlotNum i (up.lane .A).pmu.tier 9) = some (row 9 2 3 8600 12000 9) ∧ SlotDue .A 9 12000 (row 9 2 3 8600 12000 9) up ∧ planNow up .A ≠ 0) ∧
    ((up.laneImg .A).bind (fun i => imgSlotNum i (up.lane .A).pmu.tier 10) = some (row 10 1 3 8600 9000 10) ∧ SlotDue .A 10 9000 (row 10 1 3 8600 9000 10) (atCycle 150 up) ∧
      testSlot (atCycle 150 up) .A (row 10 1 3 8600 9000 10) = true ∧ engineOf 1 = testEngine (atCycle 150 up) ∧ testSlot up .A (row 10 1 3 8600 9000 10) = false ∧
      (pathRuns (atCycle 150 up) .A = true ∧ clocked (atCycle 150 up) .A 1 = true ∧ dueAt (laneCodeOf 2010 .A) 9000 (atCycle 150 up))) ∧
    (∀ i, i = 0 ∨ i = 6 → (up.laneRuns .A && up.islandRuns .A i && [0, 4, 5, 6].contains i) = true) ∧ (up.laneRuns .A = true ∧ dueAt (laneCodeOf 60 .A) up.time.tick up) ∧
    (pathRuns up .A = true ∧ dueAt (laneCodeOf 62 .A) 19900 up ∧ (up.lane .A).wtFault = false ∧ (latchedAs (some 5)).latched = some 5 ∧ (latchedAs none).latched = none ∧ up.safety.active = none) ∧
    (coreRuns up .A 1 = true ∧ dueAt (laneCodeOf 63 .A) 19910 up) ∧ (pathRuns phase49 .A = true ∧ phase49.phase = 49 ∧ dueAt (laneCodeOf 64 .A) 19910 phase49) ∧ up.phase ≠ 49 ∧
    (phase49.activeLane = some .A ∧ dueAt 130 19910 phase49) := by
  unfold dueAt
  refine ⟨?_, ⟨?_, due_of _ _ _ _ _ ?_, ?_⟩, ⟨?_, due_of _ _ _ _ _ ?_, ?_⟩, ?_, ?_, ?_, ?_, ?_, ?_, ?_⟩
  · intro n sl h
    simp only [List.mem_cons, Prod.mk.injEq, List.not_mem_nil, or_false] at h
    obtain ⟨rfl, rfl⟩ | ⟨rfl, rfl⟩ | ⟨rfl, rfl⟩ | ⟨rfl, rfl⟩ | ⟨rfl, rfl⟩ := h <;> decide +kernel
  case refine_8 => rintro i (rfl | rfl) <;> decide +kernel
  all_goals decide +kernel

/-! Sensors. -/

/-- Serial port 1 of Lane A receives at 9,600 characters of 8 bits; an update of channel 3 waits, measured at an instant, or is on its way from Lane B. -/
def onLine (s : State) : State := s.modLane .A fun x => { x with ingest := { x.ingest with ports := x.ingest.ports.set 0 { line := bs [0, 0, 0, 0, 0, 0, 0, 0, 128, 37] } } }
def lineUp : State := onLine up
def update (cycle meas : Nat) : ChanUpdate := { chan := 3, value := Vector.replicate 8 7, quality := 0, meas := meas, capture := meas, stampNs := cycle * 20000000, srcTime := false, saturated := false, lane := 0, port := 0, pos := 0 }
def waiting (cycle meas stored : Nat) (empty : Bool) : State := up.modLane .A fun x => { x with ingest := { x.ingest with release := [update cycle meas], store := x.ingest.store.set 3 { empty := empty, meas := stored } } }
def crossing (cycle : Nat) : State := up.modLane .A fun x => { x with incoming := [update cycle 1] }
/-- A table with channel 0 on serial port 1 and on Ethernet ports 0 and 1, read by parser entry 0; Ethernet port 0 takes binary frames on UDP port 500 and the
group 239.0.0.1. Parser entry 0 reads field 1 of HDT sentences, with a checksum, into value word 0. -/
def ports : Bytes := zeroBytes 64 ++ zeroBytes 256 ++ (bs [1] ++ zeroBytes 15 ++ leBytes 2 500 ++ zeroBytes 2 ++ leBytes 4 0xEF000001 ++ leBytes 2 60001 ++ zeroBytes 38) ++ zeroBytes 192 ++
  (bs [1, 0, 1, 0] ++ zeroBytes 2 ++ leBytes 2 1000 ++ zeroBytes 56)
def hdt : Bytes := zeroBytes 64 ++ (bs [0, 1] ++ leBytes 2 82 ++ bs [63, 63, 72, 68, 84] ++ zeroBytes 17 ++ bs [1, 255, 255, 0, 0, 0] ++
  (bs [1, 1, 0, 0, 0, 1, 0, 0] ++ leBytes 4 65536 ++ zeroBytes 4))
def heard : State := let i := imageOf [(secChannels, 0xFF, ports), (secParser, 0xFF, hdt)]; onLine { up with laneA := laneWith i, laneB := laneWith i }
/-- $HEHDT,274.5,T*2B CR LF, and the same with a wrong checksum. -/
def heading : Bytes := bs [36, 72, 69, 72, 68, 84, 44, 50, 55, 52, 46, 53, 44, 84, 42, 50, 66, 13, 10]
def misread : Bytes := heading.set 16 0x46
/-- Written out by hand from R111, R113 and Table 4.8: 274.5 in Q16.16 in value word 0, from a frame whose checksum is right, and no update of the other. -/
theorem test_sentence_forms_an_update :
    ((((serialFrame .A 0 heading 2000000000 2001900000 false heard).lane .A).ingest.release.map fun u => (u.chan, vget u.value 0, u.capture, u.stampNs)) =
      [(0, 274 * 65536 + 32768, 2000000000, 2001900000)]) ∧ ((serialFrame .A 0 misread 2000000000 2001900000 false heard).lane .A).ingest.release = [] ∧
    (vget ((serialFrame .A 0 misread 2000000000 2001900000 false heard).lane .A).ingest.ports 0).check = 1 := by decide +kernel
theorem witness_SensorFramesBecomeUpdates :
    ((ingestRuns heard .A && lineOn (vget (heard.lane .A).ingest.ports 0).line) = true ∧ (parseImage heard .A 2000000000).isSome = true ∧ 2001900000 / 20000000 = heard.time.cycle ∧
      heard.time.tick ≤ 2001900000 / 1000 % 20000 ∧ (ingestRuns up .A && lineOn (vget (up.lane .A).ingest.ports 0).line) = false) ∧
    (∃ i, parseImage heard .A 2000000000 = some i ∧ (ingestRuns heard .A && ethTaken i ⟨.A, 0⟩ ⟨0, 500⟩) = true ∧ ethBinary i ⟨.A, 0⟩ ⟨0, 500⟩ = true ∧
      (ingestRuns heard .A && ethTaken i ⟨.A, 0⟩ ⟨0xEF000001, 60001⟩) = true ∧ ethBinary i ⟨.A, 0⟩ ⟨0xEF000001, 60001⟩ = false ∧ udpbc.take 6 = udpbc ∧ heading.take 6 ≠ udpbc ∧
      (ingestRuns heard .A && ethTaken i ⟨.A, 1⟩ ⟨0, 500⟩) = false) ∧ ingestRuns heard .A = true ∧ ingestRuns State.reset .A = false :=
  ⟨by decide +kernel, ⟨imageOf [(secChannels, 0xFF, ports), (secParser, 0xFF, hdt)], by decide +kernel⟩, by decide +kernel⟩
theorem witness_UpdatesEnterTheStoreInTheirOrder :
    (∀ m st e, (m, st, e) ∈ [(6, 5, false), (5, 5, false), (4, 5, false), (4, 5, true)] → ingestRuns (waiting 100 m st e) .A = true ∧
      firstUpdate ((waiting 100 m st e).lane .A).ingest.release = some (update 100 m) ∧ (update 100 m).releaseUs / 20000 ≤ (waiting 100 m st e).time.cycle ∧ (update 100 m).chan < 256 ∧
      (vget ((waiting 100 m st e).lane .A).ingest.store 3).empty = e ∧ (vget ((waiting 100 m st e).lane .A).ingest.store 3).meas = st ∧
      (update 100 m).releaseUs / 20000 = (waiting 100 m st e).time.cycle ∧ (waiting 100 m st e).time.tick ≤ (update 100 m).releaseUs % 20000) ∧
    (ingestRuns State.reset .A = false ∧ (up.lane .A).ingest.release = [] ∧ firstUpdate ((waiting 101 6 5 false).lane .A).ingest.release = some (update 101 6) ∧
      (waiting 101 6 5 false).time.cycle < (update 101 6).releaseUs / 20000) ∧ (up.lane .A).incoming = [] ∧
    (((crossing 100).lane .A).incoming = [update 100 1] ∧ ingestRuns (crossing 100) .A = true ∧ (crossing 100).time.cycle * 20000 + (crossing 100).time.tick ≤ (update 100 1).releaseUs ∧
      ((crossing 99).lane .A).incoming = [update 99 1] ∧ (update 99 1).releaseUs < (crossing 99).time.cycle * 20000 + (crossing 99).time.tick) := by
  refine ⟨?_, by decide +kernel⟩
  intro m st e h
  simp only [List.mem_cons, Prod.mk.injEq, List.not_mem_nil, or_false] at h
  obtain ⟨rfl, rfl, rfl⟩ | ⟨rfl, rfl, rfl⟩ | ⟨rfl, rfl, rfl⟩ | ⟨rfl, rfl, rfl⟩ := h <;> decide +kernel

/-! Links and analogue inputs. -/

/-- A frame of Lane A over the bridge, or its links, has failed once; Lane B is SYNCING. -/
def tried (n : Nat) : State := { up with laneA := { up.laneA with bridgeTry := n, wtTry := n, skyTry := n } }
def syncingB : State := withArb .B (fun x => { x with state := 4 }) (tried 1)
/-- Input 1 gives an output every 10 grid points, from point 3; a summary of Lane B waits. -/
def filtering : State := up.modLane .A fun x => { x with filter := { x.filter with inputs := x.filter.inputs.set 0 { x.filter.inputs[0] with
  plane := { x.filter.inputs[0].plane with conf := bs [0, 0, 10, 0, 1, 0, 0, 0, 3, 0, 1, 0], entry := bs [2, 2, 2, 2, 2, 2, 2, 2] } } } }
theorem witness_LinksAndInputsBetweenTheLanes : (up.bridgeFault = false ∧ up.laneRuns .A = true ∧ (up.lane .A).bridgeTry = 0 ∧ ((tried 1).lane .A).bridgeTry ≠ 0) ∧
    ((syncingB.arb.lane .B).state = 4 ∧ (syncingB.arb.lane .B).faultAt = none ∧ (up.arb.lane .B).state = 5) ∧ { up with bridgeFault := true }.bridgeFault = true ∧
    ((up.lane .A).wtFault = false ∧ (up.lane .A).wtTry = 0 ∧ (up.lane .A).skyFault = false ∧ (up.lane .A).skyTry = 0 ∧ ((tried 1).lane .A).wtTry ≠ 0 ∧ ((tried 1).lane .A).skyTry ≠ 0) ∧
    (filterRuns filtering .A = true ∧ outputDue (filtering.lane .A).filter.inputs[(0 : Fin 12)] 3 = true ∧ outputDue (filtering.lane .A).filter.inputs[(0 : Fin 12)] 493 = true ∧
      dueAt (laneCodeOf (5000 + 512 * 0 + 3) .A) (40 * 3) filtering ∧ (vget (filtering.lane .A).queued 2).waiting = [] ∧ clocked filtering .A 6 = true ∧
      (outputUpdates (section_ filtering .A secChannels) (section_ filtering .A secFilter) .A 1 2000120000 0).length ≤ 32 ∧ filterRuns State.reset .A = false) ∧
    (dueAt (laneCodeOf 65 .A) filtering.time.tick filtering ∧ filtering.time.tick ≤ 20 ∧ filtering.laneRuns .B = true ∧ (filtering.laneRuns .A && clocked filtering .A 0) = true) ∧
    (∀ k, k = 0 ∨ k = 1 → faultApplies (inMode (vget (filtering.lane .A).filter.inputs 0).plane.entry) k = true ∧ faultApplies (inMode (vget (up.lane .A).filter.inputs 0).plane.entry) k = false) := by
  unfold dueAt
  refine ⟨by decide +kernel, by decide +kernel, rfl, by decide +kernel, by decide +kernel, by decide +kernel, ?_⟩
  rintro k (rfl | rfl) <;> decide +kernel

end Sys2Proof.Tests
end

