-- ==== Sys2Proof/Tests/WitnessArb.lean ====
section
/-! SUPPORT. States and operands that meet the hypotheses of the statements about lanes, arbitration and the Baique ring. -/

set_option Elab.async false

namespace Sys2Proof.Tests

open Sys2Proof Sys2Proof.Machine

/-- The state that a command leaves. -/
def after (c : Instr) (s : State) : State := match exec c s with
  | .next t => t
  | _ => s

/-! Digests. -/

/-- A digest of a cycle whose compared bytes are all zero but the first. -/
def dg (cycle x : Nat) : Bytes := leBytes 4 cycle ++ zeroBytes 4 ++ bs [x] ++ zeroBytes 55
/-- The lanes with these digests, at the comparison of cycle 100; Lane B in a state, with a run of matches since a cycle. -/
def comparing (x y st run since : Nat) : State := atTickOf 8700 { up with arb := { up.arb with lanes := #v[{ state := 6, running := true, digest := some (dg 100 x) },
  { state := st, running := true, digest := some (dg 100 y), syncRun := run, syncFrom := since }] } }
theorem witness_DigestComparisonJudgesLanes :
    (((up.modLane .A fun x => { x with digestOut := some (dg 100 0) }).lane .A).digestOut = some (dg 100 0) ∧ up.laneRuns .A = true ∧ (up.lane .A).wtFault = false ∧ arbitrates up = true) ∧
    (∀ y, y = 0 ∨ y = 1 → arbitrates (comparing 0 y 5 0 0) = true ∧ compareTick (comparing 0 y 5 0 0) = some 8700 ∧ dueAt 140 8700 (comparing 0 y 5 0 0) ∧
      compared ((comparing 0 y 5 0 0).arb.lane .A) = true ∧ compared ((comparing 0 y 5 0 0).arb.lane .B) = true ∧ digestOf 100 (comparing 0 y 5 0 0).arb .A = some (dg 100 0) ∧
      digestOf 100 (comparing 0 y 5 0 0).arb .B = some (dg 100 y) ∧ ∀ l, laneCode 100 (comparing 0 y 5 0 0).arb l = none) ∧
    sliceB (dg 100 0) 8 28 = sliceB (dg 100 0) 8 28 ∧ (sliceB (dg 100 0) 8 28 ≠ sliceB (dg 100 1) 8 28 ∧ dgShows (dg 100 0) = false ∧ dgShows (dg 100 1) = false) := by
  unfold dueAt
  refine ⟨by decide +kernel, ?_, rfl, by decide +kernel⟩
  rintro y (rfl | rfl) <;> refine ⟨by decide +kernel, by decide +kernel, by decide +kernel, by decide +kernel, by decide +kernel, by decide +kernel, by decide +kernel, ?_⟩ <;>
    (intro l; cases l <;> decide +kernel)
/-- What every clause about a SYNCING Lane B asks. -/
def syncing (y run since : Nat) : Prop :=
  let s := comparing 0 y 4 run since
  arbitrates s = true ∧ compareTick s = some 8700 ∧ dueAt 140 8700 s ∧ (s.arb.lane .B).state = 4 ∧ compared (s.arb.lane .A) = true ∧ compared (s.arb.lane .B) = true ∧
    (s.arb.lane .B).condNow = false ∧ 0 < redSyncCyc s.image ∧ digestOf s.time.cycle s.arb .A = some (dg 100 0) ∧ digestOf s.time.cycle s.arb .B = some (dg 100 y) ∧
    (laneCode s.time.cycle s.arb .A = none ∧ laneCode s.time.cycle s.arb .B = none)
theorem witness_SyncingLaneBecomesStandby : (syncing 0 1 90 ∧ redSyncCyc (comparing 0 0 4 1 90).image ≤ 1 + 1) ∧
    (syncing 0 0 81 ∧ 0 + 1 < redSyncCyc (comparing 0 0 4 0 81).image ∧ 10 * redSyncCyc (comparing 0 0 4 0 81).image ≤ 100 + 1 - 81) ∧
    (syncing 0 0 82 ∧ 100 + 1 - 82 < 10 * redSyncCyc (comparing 0 0 4 0 82).image) ∧
    (syncing 1 1 90 ∧ sliceB (dg 100 0) 8 28 ≠ sliceB (dg 100 1) 8 28 ∧ dgShows (dg 100 0) = false ∧ dgShows (dg 100 1) = false) := by
  unfold syncing dueAt; and_intros <;> decide +kernel

/-! Switchover and rejoin. -/

/-- A switchover from Lane A to Lane B is due at cycle 100; a take-back by Lane A is due. -/
def switching : State := { up with arb := { up.arb with switch := some (.B, 1, 100, 99) } }
def takingBack : State := { up with arb := { up.arb with lanes := #v[{ state := 5, running := true }, { state := 6, running := true }], active := .B, takeback := some 100 } }
/-- At tick 19,900 the preferred Lane A is STANDBY and healthy. -/
def takebackDue : State := atTickOf 19900 { takingBack with arb := { takingBack.arb with takeback := none } }
theorem witness_SwitchoverSelectsTheNewLane :
    (arbitrates switching = true ∧ switching.arb.active ≠ .B ∧ switchDue switching.image switching.time.cycle switching.arb = some (.B, 1, 99, false)) ∧
    (arbitrates takingBack = true ∧ takingBack.arb.active ≠ .A ∧ switchDue takingBack.image takingBack.time.cycle takingBack.arb = some (.A, 15, 99, true)) ∧
    (switchDue up.image up.time.cycle up.arb = none ∧ switchDue up.image (up.time.cycle + 1) up.arb = none) ∧
    (arbitrates takebackDue = true ∧ dueAt 141 19900 takebackDue ∧ redTakeback takebackDue.image = 1 ∧ redPrefLane takebackDue.image = 0 ∧ takebackDue.arb.switch = none ∧
      takebackDue.arb.takeback = none ∧ .A ≠ takebackDue.arb.active ∧ (takebackDue.arb.lane takebackDue.arb.active).state = 6 ∧ (takebackDue.arb.lane .A).state = 5 ∧
      (takebackDue.arb.lane .A).faultAt = none ∧ redHoldoff takebackDue.image ≤ (takebackDue.arb.lane .A).healthyRun ∧ deferOf (advanceTo 19900 takebackDue) = 0) := by
  unfold dueAt; and_intros <;> decide +kernel
/-- Lane B is FAULTED and due at a cycle, after some wakes; it stands in a state of its rejoin. -/
def faulted (w : Nat) (wakes : List Nat) : State := withArb .B (fun _ => { state := 7, wakeAt := some w, rejoins := wakes }) up
def rejoining (st : Nat) : State := withArb .B (fun _ => { state := st }) up
/-- Lane B is JOINING in phase 0; Lane A has taken its shadow state or not. -/
def joining (taken : Bool) : State := if taken then (rejoining 3).modLane .A fun x => { x with shadow := {
  store := some (x.ingest.store, x.ingest.deselected), filter := some (350, x.filter), cupola := some (2400, x.cupola), observer := some (2900, x.observer)
  control := some (3500, x.control), alloc := some (8500, x.alloc), mgmt := some (x.alarms, x.alloc, x.queued) } } else rejoining 3
theorem witness_RejoinIsLimitedAndOrdered :
    ((faulted 101 []).power.booted = true ∧ (faulted 101 []).isController = true ∧ vget (faulted 101 []).power.trip LaneId.B.num = false ∧ ((faulted 101 []).arb.lane .B).state = 7 ∧
      ((faulted 101 []).arb.lane .B).wakeAt = some 101 ∧ (faulted 101 []).time.cycle < 101) ∧
    (((faulted 100 [90]).arb.lane .B).wakeAt = some 100 ∧ 100 ≤ (faulted 100 [90]).time.cycle ∧
      (recentRejoins (faulted 100 [90]).time.cycle ((faulted 100 [90]).arb.lane .B)).length < redRejoinMax (faulted 100 [90]).image) ∧
    (((faulted 100 [80, 90]).arb.lane .B).wakeAt = some 100 ∧
      redRejoinMax (faulted 100 [80, 90]).image ≤ (recentRejoins (faulted 100 [80, 90]).time.cycle ((faulted 100 [80, 90]).arb.lane .B)).length) ∧
    (((rejoining 1).arb.lane .B).state = 1 ∧ laneAwake (rejoining 1) .B = true ∧ (rejoining 1).laneRuns .B = true ∧ ((rejoining 1).arb.lane .B).faultAt = none) ∧
    (((rejoining 2).arb.lane .B).state = 2 ∧ (rejoining 2).laneRuns .B = true ∧ (rejoining 2).isActive LaneId.B.other = true ∧ pathRuns (rejoining 2) LaneId.B.other = true ∧
      (rejoining 2).bridgeFault = false ∧ { rejoining 2 with bridgeFault := true }.bridgeFault = true) ∧
    (nextMirror (joining true) = none ∧ ((joining true).lane (joining true).sel.other).incoming = []) ∧
    (∀ w, transferring (joining w) (joining w).sel = true ∧ dueAt 142 19899 (joining w) ∧ dueAt (laneCodeOf 61 .A) (closeTick (joining w)) (joining w)) ∧
    (takeShadow (joining true) .B ((joining true).lane .A) ((joining true).lane .B)).isSome = true ∧ ((joining false).lane (joining false).sel).shadow.observer = none ∧
    (slotOf .A 4 (joining false) = some (row 4 2 0 2500 2900 4) ∧ SlotDue .A 4 2500 (row 4 2 0 2500 2900 4) (joining false)) := by
  unfold dueAt
  refine ⟨by decide +kernel, by decide +kernel, by decide +kernel, by decide +kernel, by decide +kernel, by decide +kernel, ?_, by decide +kernel, by decide +kernel,
    by decide +kernel, due_of _ _ _ _ _ (by decide +kernel)⟩
  intro w; cases w <;> decide +kernel

/-! Votes. -/

/-- What module `m` sent in cycle 100: a vote, ELIGIBLE or not, IMAGE_LAG or not. -/
def voteFrom (v : Nat) (eligible lag : Bool) : VoteInfo := ⟨100, v, at1 2 eligible + at1 7 lag, 0, 0, 1000, 0, 0, 1, 0⟩
/-- Modules 2 and 3 vote for this one, which has been named for long. -/
def named : State := { ring with arb := { ring.arb with votes := #v[some (voteFrom 1 true false), some (voteFrom 1 false false), some (voteFrom 1 false false)], heardAt := #v[some 100, some 100, some 100], takeRun := 100, belowRun := 100, stateRun := 100 } }
/-- The module in control has another origin than this one. -/
def conflicting : State := { ring with arb := { ring.arb with originTag := 7, votes := #v[none, some { voteFrom 2 true false with vflags := 5 }, none], heardAt := #v[none, some 100, none] } }
def arbiterOnly : State := { ring with power := { ring.power with role := 1, module := 3 } }
theorem witness_VoteNamesAnEligibleModule : (votes up = true ∧ dueAt 143 19900 up ∧ ringSize up.image ≤ 1) ∧ (votes named = true ∧ dueAt 143 19900 named ∧ 1 < ringSize named.image) ∧
    (named.arb.inControl = false ∧ (after (.voteForm 0) named).arb.pendCtl ≠ named.arb.pendCtl) ∧
    (votes conflicting = true ∧ dueAt 143 19900 conflicting ∧ (after (.voteForm 0) conflicting).arb.conflict = true) ∧
    (votes arbiterOnly = true ∧ dueAt 143 19900 arbiterOnly ∧ arbiterOnly.power.role = 1 ∧ 1 < ringSize arbiterOnly.image) := by
  unfold dueAt; and_intros <;> decide +kernel

/-! The ring. -/

/-- A frame that ends with its own CRC is valid (R422): the check value need not be evaluated. -/
theorem u32_after (b : Bytes) (n : Nat) (h : n < 2 ^ 32) : u32 (b ++ leBytes 4 n) b.length = n := by
  simp [u32, u16, u8, leBytes, Nat.add_assoc]

  omega
theorem crc_lt (b : Bytes) : crc32c b < 2 ^ 32 := by unfold crc32c; exact BitVec.isLt _
/-- A frame of a type from module 2 for every module, with a payload: its bytes before the CRC, and whole. -/
def frameHead (typ : Nat) (p : Bytes) : Bytes := leBytes 1 typ ++ leBytes 1 2 ++ leBytes 1 0 ++ leBytes 1 0 ++ leBytes 2 p.length ++ leBytes 2 7 ++ leBytes 4 100 ++ leBytes 4 1 ++ p
def frameOf (typ : Nat) (p : Bytes) : Bytes := ringFrame typ 2 0 0 7 100 1 p
theorem frameOf_eq (typ : Nat) (p : Bytes) : frameOf typ p = frameHead typ p ++ leBytes 4 (crc32c (frameHead typ p)) := rfl
theorem valid_of (typ : Nat) (p : Bytes) (h : (decide (u16 (frameOf typ p) 4 ≤ 492) && decide (16 + u16 (frameOf typ p) 4 = (frameHead typ p).length) &&
    decide (u8 (frameOf typ p) 1 < 8) && decide (rfSrc (frameOf typ p) ≠ 0) && decide (u8 (frameOf typ p) 2 ≤ 3)) = true) : rfValid (frameOf typ p) = true := by
  simp only [Bool.and_eq_true, decide_eq_true_eq] at h
  obtain ⟨⟨⟨⟨h1, h2⟩, h3⟩, h4⟩, h5⟩ := h
  have hl : (frameOf typ p).length = (frameHead typ p).length + 4 := by rw [frameOf_eq, List.length_append]; rfl
  have hc : crc32c ((frameOf typ p).take (16 + u16 (frameOf typ p) 4)) = u32 (frameOf typ p) (16 + u16 (frameOf typ p) 4) := by
    rw [h2, frameOf_eq, u32_after _ _ (crc_lt _), List.take_left']; rfl
  unfold rfValid
  simp only [Bool.and_eq_true, decide_eq_true_eq, beq_iff_eq]
  exact ⟨⟨⟨⟨⟨⟨by omega, h1⟩, by omega⟩, h3⟩, h4⟩, h5⟩, hc⟩
/-- The frame is heard at Lane A's port for the first time. -/
theorem heard_of (typ : Nat) (p : Bytes) (s : State) (h : (votes s && s.laneRuns .A && decide (1 < ringSize s.image) && decide (rfType (frameOf typ p) = typ) &&
    (decide (u16 (frameOf typ p) 4 ≤ 492) && decide (16 + u16 (frameOf typ p) 4 = (frameHead typ p).length) &&
    decide (u8 (frameOf typ p) 1 < 8) && decide (rfSrc (frameOf typ p) ≠ 0) && decide (u8 (frameOf typ p) 2 ≤ 3)) &&
    decide (rfSrc (frameOf typ p) ≠ s.power.module) && !(s.arb.taken.contains (rfSrc (frameOf typ p), rfType (frameOf typ p), rfSeq (frameOf typ p))) &&
    decide (rfDst (frameOf typ p) = 0) && decide (LaneId.A = s.sel)) = true) : Heard typ .A (frameOf typ p) s := by
  have hv := fun g => valid_of typ p g
  simp only [Bool.and_eq_true, decide_eq_true_eq, Bool.not_eq_true'] at h hv
  obtain ⟨⟨⟨⟨⟨⟨⟨⟨h1, h2⟩, h3⟩, h4⟩, h5⟩, h6⟩, h7⟩, h8⟩, h9⟩ := h
  exact ⟨h1, h2, h3, h4, hv h5, h6, by simpa using h7, .inl h8, .inl h9⟩
/-- Module 2 is about to be in control; a DIGEST frame has been taken before. -/
def pending1 : State := { ring with arb := { ring.arb with pendCtl := some (true, 2) } }
def takenOnce : State := { ring with arb := { ring.arb with taken := [(2, 1, 7)] } }
theorem witness_ControlChangesAtTheBoundary : (votes pending1 = true ∧ pending1.arb.pendCtl = some (true, 2)) ∧ ring.arb.pendCtl = none ∧ (ring.power.booted && ring.isController) = true ∧
    (State.reset.power.booted && State.reset.isController) = false ∧ (votes ring = true ∧ 1 < ringSize ring.image ∧ dueAt 145 15000 ring ∧ ring.power.pfail = false ∧ 1 ≤ ring.power.module ∧
      ring.power.module ≤ 3) ∧
    Heard 1 .A (frameOf 1 (zeroBytes 16)) ring ∧
    (rfSrc (frameOf 1 (zeroBytes 16)), rfType (frameOf 1 (zeroBytes 16)), rfSeq (frameOf 1 (zeroBytes 16))) ∈ takenOnce.arb.taken := by
  unfold dueAt; refine ⟨?_, ?_, ?_, ?_, ?_, heard_of _ _ _ ?_, ?_⟩ <;> decide +kernel
/-- The module in control, at the cycle of its STATE frame; one that lags names module 2. -/
def controlling (lag : Bool) : State := { ring with arb := { ring.arb with inControl := true, votes := #v[none, some (voteFrom 1 false lag), none], heardAt := #v[none, some 100, none] } }
/-- A commit of generation 5 is pending in Lane A. -/
def committing : State := ring.modLane .A fun x => { x with image := { x.image with gen := 5, commit := some { earliest := 90, accepted := 99 } } }
def held0 : State := { ring with arb := { ring.arb with holdSent := some 2 } }
theorem witness_RingFramesCarryStateAndImages :
    (votes (controlling false) = true ∧ (controlling false).isController = true ∧ (controlling false).inControl = true ∧ 1 < ringSize (controlling false).image ∧
      pathRuns (controlling false) (controlling false).sel = true ∧ dueAt 146 9500 (controlling false) ∧ (controlling false).power.pfail = false) ∧ ring.inControl = false ∧
    Heard 2 .A (frameOf 2 (zeroBytes 64)) ring ∧ (votes ring = true ∧ 1 < ringSize ring.image ∧ ring.arb.imageLag = false ∧ ring.power.pfail = false ∧ ring.arb.holdSent ≠ some (ring.time.cycle / 50)) ∧
    held0.arb.holdSent = some (held0.time.cycle / 50) ∧ Heard 7 .A (frameOf 7 (zeroBytes 12)) ring ∧
    (Heard 8 .A (frameOf 8 (leBytes 4 150 ++ leBytes 4 5)) committing ∧ committing.laneRuns .A = true ∧ (committing.lane .A).image.commit = some { earliest := 90, accepted := 99 } ∧
      (committing.lane .A).image.gen = u32 (rfPayload (frameOf 8 (leBytes 4 150 ++ leBytes 4 5))) 4) ∧ (ring.lane ring.sel).image.commit = none ∧
    (Heard 9 .A (frameOf 9 (zeroBytes 20)) ring ∧ ring.arb.imageLag = false) ∧
    (votes (controlling true) = true ∧ (controlling true).inControl = true ∧ (controlling true).power.pfail = false ∧ 1 < ringSize (controlling true).image ∧ laggard (controlling true) = some 2 ∧
      (controlling true).laneImg (controlling true).sel = some img3) := by
  unfold dueAt
  refine ⟨?_, ?_, heard_of _ _ _ ?_, ?_, ?_, heard_of _ _ _ ?_, ⟨heard_of _ _ _ ?_, ?_, ?_, ?_⟩, ?_, ⟨heard_of _ _ _ ?_, ?_⟩, ?_⟩ <;> decide +kernel
/-- A JOURNAL frame (Table 15.9): an SP_POSITION setting with SSN 9, or a TOKEN entry. -/
def settingFrame : Bytes := frameOf 6 (leBytes 4 100 ++ leBytes 4 9 ++ bs [1] ++ zeroBytes 9 ++ leBytes 2 0x0301 ++ zeroBytes 10 ++ leBytes 2 8 ++ zeroBytes 4 ++ leBytes 4 77 ++ zeroBytes 32)
def tokenFrame : Bytes := frameOf 6 (leBytes 4 100 ++ leBytes 4 9 ++ bs [4] ++ zeroBytes 31 ++ leBytes 2 2 ++ leBytes 2 3 ++ zeroBytes 20 ++ leBytes 2 5)
def knownEntry : State := { ring with host := { ring.host with sys := [⟨9, 1, 0x0301, 0, u32 (rfPayload settingFrame) 36, 0, 0, [], 99⟩] } }
def snapshotting : State := atCycle 125 (controlling false)
theorem witness_SystemEntriesArriveOnce :
    (Heard 6 .A settingFrame knownEntry ∧ u8 (rfPayload settingFrame) 8 ≠ 0xFF ∧
      (knownEntry.host.sys.any fun e => e.ssn == u32 (rfPayload settingFrame) 4 && e.crc == u32 (rfPayload settingFrame) 36) = true) ∧
    (Heard 6 .A settingFrame ring ∧ (ring.host.sys.any fun e => e.ssn == u32 (rfPayload settingFrame) 4 && e.crc == u32 (rfPayload settingFrame) 36) = false ∧
      u8 (rfPayload settingFrame) 8 ≠ 4 ∧ u16 (rfPayload settingFrame) 18 ≠ 0x0604 ∧ ring.laneRuns .B = true ∧ ring.laneState .B ≠ 3) ∧
    (Heard 6 .A tokenFrame ring ∧ u8 (rfPayload tokenFrame) 8 = 4) ∧
    (votes snapshotting = true ∧ snapshotting.inControl = true ∧ 1 < ringSize snapshotting.image ∧ snapshotting.phase = 25 ∧ dueAt 148 17000 snapshotting ∧ snapshotting.power.pfail = false ∧
      snapshotting.jtag.extest = false) ∧ ring.phase ≠ 25 := by
  unfold dueAt
  refine ⟨⟨heard_of _ _ _ ?_, ?_, ?_⟩, ⟨heard_of _ _ _ ?_, ?_, ?_, ?_, ?_, ?_⟩, ⟨heard_of _ _ _ ?_, ?_⟩, ?_, ?_⟩ <;> decide +kernel
/-- Lane A's east port is down after 99 valid beacons, or up; this module is the time master, or in an exchange with module 2. -/
def portAt (up : Bool) (valid : Nat) : State := { ring with arb := { ring.arb with ports := ring.arb.ports.set 0 ⟨up, 1999600, valid⟩ } }
def master : State := { atCycle 110 ring with arb := { ring.arb with timeMaster := true } }
def exchanging (t3 : Option Int) : State := { ring with arb := { ring.arb with timeEx := { t1 := some 10, t2 := some 30, t3 := t3, cycle := 100, peer := 2 } } }
theorem witness_RingPortsAndTimeExchange :
    (votes ring = true ∧ 1 < ringSize ring.image ∧ ring.laneRuns .A = true ∧ (vget (portAt true 0).arb.ports (portIx .A .east)).up = true ∧
      (vget (portAt false 99).arb.ports (portIx .A .east)).up = false ∧ 99 ≤ (vget (portAt false 99).arb.ports (portIx .A .east)).valid ∧
      ¬99 ≤ (vget (portAt false 98).arb.ports (portIx .A .east)).valid) ∧ (ring.laneRuns ring.sel = true ∧ ring.power.pfail = false ∧ ring.jtag.extest = false) ∧
    (votes (portAt true 0) = true ∧ portMonitored (portAt true 0).image .A .east (portAt true 0).arb = true ∧
      (vget (portAt true 0).arb.ports (portIx .A .east)).lastUs + 400 ≤ (portAt true 0).time.us ∧ portMonitored ring.image .B .east ring.arb = false) ∧
    (votes master = true ∧ master.arb.timeMaster = true ∧ 1 < ringSize master.image ∧ master.phase = 10 ∧ dueAt 147 500 master ∧ master.power.pfail = false) ∧
    (Heard 3 .A (frameOf 3 (zeroBytes 8)) ring ∧ ring.arb.timeMaster = false) ∧ Heard 3 .A (frameOf 3 (zeroBytes 8)) master ∧
    (votes (exchanging none) = true ∧ (exchanging none).arb.timeMaster = false ∧ (exchanging none).arb.timeEx.t2.isSome = true ∧ (exchanging none).arb.timeEx.t3 = none ∧
      (exchanging none).arb.timeEx.cycle = (exchanging none).time.cycle ∧ dueAt 149 700 (exchanging none)) ∧
    (Heard 4 .A (frameOf 4 (zeroBytes 8)) master ∧ master.arb.timeMaster = true ∧ master.power.pfail = false) ∧
    (Heard 5 .A (frameOf 5 (zeroBytes 24)) (exchanging (some 40)) ∧ (exchanging (some 40)).arb.timeEx.t1 = some 10 ∧ (exchanging (some 40)).arb.timeEx.t2 = some 30 ∧
      (exchanging (some 40)).arb.timeEx.t3 = some 40 ∧ (exchanging (some 40)).arb.timeEx.cycle = (exchanging (some 40)).time.cycle ∧
      (exchanging (some 40)).arb.timeEx.peer = rfSrc (frameOf 5 (zeroBytes 24))) := by
  unfold dueAt
  refine ⟨?_, ?_, ?_, ?_, ⟨heard_of _ _ _ ?_, ?_⟩, heard_of _ _ _ ?_, ?_, ⟨heard_of _ _ _ ?_, ?_, ?_⟩, ⟨heard_of _ _ _ ?_, ?_, ?_, ?_, ?_, ?_⟩⟩ <;> decide +kernel

end Sys2Proof.Tests
end

