-- ==== Sys2Proof/Tests/WitnessSafety.lean ====
section
/-! SUPPORT. States and operands that meet the hypotheses of the statements about the safety island. -/

set_option Elab.async false

namespace Sys2Proof.Tests

open Sys2Proof Sys2Proof.Machine

/-! A parameter block, and its check value (R385). -/

/-- The first 252 bytes of a block of a one-module system (Table 14.6): input 1 demands zone 1, input 2 resets it, zone 1 holds thruster 1, pair 1 is used, module 2 is heard. -/
def blockHead : Bytes := bs [1, 0, 0, 0, 0, 3] ++ leBytes 2 0x100 ++ leBytes 2 10 ++ leBytes 2 100 ++ leBytes 2 100 ++ bs [6, 10] ++ bs [1, 2, 0, 0, 0, 0, 0, 0] ++
  bs [1] ++ zeroBytes 15 ++ bs [1, 0, 1, 0, 2, 0, 0, 0] ++ zeroBytes 56 ++ zeroBytes 8 ++ bs [1, 0, 0, 0, 5, 0, 0, 0] ++ zeroBytes 132
def soundBlock : Bytes := blockHead ++ leBytes 4 0x2bf6e078
/-- The check of the block (R385), 36 bytes at a time: chunk `k` takes the CRC register from one value to the next. -/
def chunk0 : Bytes := bs [1, 0, 0, 0, 0, 3, 0, 1, 10, 0, 100, 0, 100, 0, 6, 10, 1, 2] ++ zeroBytes 6 ++ bs [1] ++ zeroBytes 11
def chunk1 : Bytes := bs [0, 0, 0, 0, 1, 0, 1, 0, 2] ++ zeroBytes 27
def chunk2 : Bytes := zeroBytes 36
def chunk3 : Bytes := bs [0, 0, 0, 0, 1] ++ zeroBytes 31
def chunk4 : Bytes := zeroBytes 36
def chunk5 : Bytes := zeroBytes 36
def chunk6 : Bytes := zeroBytes 36
theorem chunk0_crc : chunk0.foldl crc32Byte 0xffffffff#32 = 0x97f493b5#32 := by decide +kernel
theorem chunk1_crc : chunk1.foldl crc32Byte 0x97f493b5#32 = 0x97d55944#32 := by decide +kernel
theorem chunk2_crc : chunk2.foldl crc32Byte 0x97d55944#32 = 0x77d16aa8#32 := by decide +kernel
theorem chunk3_crc : chunk3.foldl crc32Byte 0x77d16aa8#32 = 0x8b307df2#32 := by decide +kernel
theorem chunk4_crc : chunk4.foldl crc32Byte 0x8b307df2#32 = 0xc518a7fb#32 := by decide +kernel
theorem chunk5_crc : chunk5.foldl crc32Byte 0xc518a7fb#32 = 0xa8e86c27#32 := by decide +kernel
theorem chunk6_crc : chunk6.foldl crc32Byte 0xa8e86c27#32 = 0xd4091f87#32 := by decide +kernel
theorem check_block : sbCheck soundBlock = sbCheckValue soundBlock := by
  have hp : patchB (patchB (patchB (sliceB (padTo 256 soundBlock) 0 252) 108 (zeroBytes 4)) 116 (zeroBytes 4)) 124 (zeroBytes 4) =
      chunk0 ++ (chunk1 ++ (chunk2 ++ (chunk3 ++ (chunk4 ++ (chunk5 ++ chunk6))))) := by decide +kernel
  have hc : sbCheck soundBlock = 0x2bf6e078 := by decide +kernel
  rw [hc, sbCheckValue, hp]
  simp only [crc32, List.foldl_append, chunk0_crc, chunk1_crc, chunk2_crc, chunk3_crc, chunk4_crc, chunk5_crc, chunk6_crc]
  rfl
theorem sound_block : sbBad false 0 soundBlock = none := by decide +kernel
/-- The same block without its check, which the island in RUN looks at no more. -/
def block : Bytes := blockHead ++ zeroBytes 4

/-! The island in RUN with that block. -/

/-- A channel that reads every input energised, with thruster 1 on. -/
def chanOn : SafeChannel := { energised := 255, latch := 0xFFFE, out := 1, ok := true, netUp := true }
def isle : State := { up with safety := { up.safety with state := 2, cycle := 300, a := chanOn, b := chanOn, active := some block } }
theorem isle_driven : isle.Driven := ⟨by intro c n; cases c <;> revert n <;> decide +kernel, by intro _ b _ p hp; cases hp⟩
theorem witness_TorqueOutputsFollowTheIsland : isle.Driven ∧ bitOf 0 (isle.safety.ch .A).out = true ∧ ∃ t, step isle = .next t := ⟨isle_driven, by decide +kernel, ⟨_, rfl⟩⟩
theorem witness_NoLaneOrCommandWeakensSafety : islandEvent .cycleBoundary = false ∧ resetsDomain0 .cycleBoundary = false ∧ isle.Driven := ⟨rfl, rfl, isle_driven⟩
/-- Changes of the island's state. -/
def isleAs (f : SafetyState → SafetyState) : State := isle.modSafety f
/-- Zone 1 waits for its reset, inactive since an instant. -/
def zoneWaits (since : Nat) : State := isleAs fun x => { x with zones := x.zones.set 0 { wait := true, since := since } }
theorem witness_DemandRemovesTorqueAtOnce : isle.power.booted = true ∧ isle.isNode = false ∧ isle.safety.state = 2 ∧ isle.safety.active = some block ∧
    bitOf 0 (szInput block 0) = true ∧ bitOf 0 (szThr block 0) = true ∧ (zoneWaits 0).safety.zones[0].wait = true ∧
    bitOf 0 (isle.safety.ch .A).energised = true ∧ isle.safety.proofs = [] ∧ causes (safIn isle) isle.safety .B ||| (isle.safety.ch .B).latch = (isle.safety.ch .B).latch ∧
    (∀ z : Fin 8, (isle.safety.zones[z]).act = true → zoneDemand block isle.safety .A z.val = true ∨ zoneDemand block isle.safety .B z.val = true) := by
  and_intros <;> decide +kernel
/-- The zone's reset has been operated, both latches hold thruster 1, and both outputs follow. -/
def zoneReset : State := isleAs fun x => { x with zones := x.zones.set 0 { wait := true, reset := true }, a := { x.a with latch := 0xFFFF, out := 0 }, b := { x.b with latch := 0xFFFF, out := 0 } }
theorem zoneReset_driven : zoneReset.Driven := ⟨by intro c n; cases c <;> revert n <;> decide +kernel, by intro _ b _ p hp; cases hp⟩
theorem witness_SafetyCycleReenergises : zoneReset.Driven ∧ (zoneReset.safety.ch .A).pulse = none ∧ runningProof zoneReset.safety 0 = none ∧ bitOf 0 (zoneReset.safety.ch .A).out = false ∧
    bitOf 0 (safetyCycle zoneReset).safety.a.out = true ∧ bitOf 0 (szThr block 0) = true := ⟨zoneReset_driven, by and_intros <;> decide +kernel⟩
theorem witness_SafetyCycleReleasesUnderItsRules :
    ((zoneWaits 0).power.booted = true ∧ (zoneWaits 0).isNode = false ∧ (zoneWaits 0).safety.state = 2 ∧ (zoneWaits 0).safety.active = some block ∧
      (zoneWaits 0).safety.cycleUs + 5000 ≤ (zoneWaits 0).time.us ∧ (zoneWaits 0).safety.zones[0].act = false) ∧
    (∀ dur, dur = 100000 ∨ dur = 2000000 → sbFunction block 1 = 2 ∧ 100000 ≤ dur ∧ dur ≤ 5000000 ∧ (zoneWaits 0).safety.inputs[1].fault = false ∧ szReset block 0 = 1 + 1 ∧
      (zoneWaits 0).safety.zones[0].wait = true ∧ (zoneWaits 0).safety.zones[0].act = false ∧ (zoneWaits 0).safety.zones[0].since + dur ≤ (zoneWaits 0).time.us) ∧
    ¬(zoneWaits 1).safety.zones[0].since + 2000000 ≤ (zoneWaits 1).time.us := by
  refine ⟨by decide +kernel, ?_, by decide +kernel⟩
  rintro dur (rfl | rfl) <;> decide +kernel
/-- The test pulse of Channel A's pair 1 is due: the safety cycle is a multiple of 200. -/
def pulseDue (cycle : Nat) : State := isleAs fun x => { x with cycle := cycle, cycleUs := 2000000 }
def pulsing (discarded : Bool) : State := isleAs fun x => { x with cycleUs := 2000000, a := { x.a with pulse := some (0, discarded), out := 0 } }
/-- The instant of its pulse has passed. -/
def late400 : State := { pulseDue 400 with time := { (pulseDue 400).time with us := (pulseDue 400).safety.cycleUs + 1001 } }
theorem witness_PulsesAndPairFaults :
    (isle.power.pfail = false ∧ sbUse block 0 = true ∧ (isle.safety.proofs.all fun p => p.pair != 0) = true) ∧ { isle with power := { isle.power with pfail := true } }.power.pfail = true ∧
    (∀ n, n = 400 ∨ n = 401 → (pulseDue n).power.booted = true ∧ (pulseDue n).safety.state = 2 ∧ (pulseDue n).safety.active = some block ∧ ((pulseDue n).safety.ch .A).pulse = none ∧
      bitOf 0 ((pulseDue n).safety.ch .A).out = true ∧ vget ((pulseDue n).safety.ch .A).onCycle 0 + 1 < (pulseDue n).safety.cycle) ∧
    (pulseDue 400).safety.cycle % 200 = 12 * 0 + 0 ∧ safInstant 1000 (pulseDue 400) ∧ safInstant 1300 (pulsing false) ∧ safInstant 1300 (pulsing true) ∧
    (late400.safety.cycleUs + 1000 < late400.time.us ∧ late400.safety.active = some block) ∧ (pulseDue 401).safety.cycle % 200 ≠ 12 * 0 + 0 ∧
    (∀ x, ((pulsing x).safety.ch .A).pulse = some (0, x) ∧ (pulsing x).power.booted = true ∧ (pulsing x).power.pfail = false ∧ (pulsing x).safety.active = some block ∧
      (pulsing x).safety.state = 2 ∧ ((pulsing x).safety.proofs.all fun p => p.pair != 0) = true) := by
  unfold safInstant
  refine ⟨by decide +kernel, rfl, ?_, by decide +kernel, by decide +kernel, by decide +kernel, by decide +kernel, by decide +kernel, by decide +kernel, ?_⟩
  · rintro n (rfl | rfl) <;> decide +kernel
  · intro x; cases x <;> decide +kernel

/-! Messages, streams, and the island's own faults. -/

/-- Module 2 says that zone 1 is active and thruster 1 removed, with SEQ 7. -/
def messageHead : Bytes := leBytes 2 7 ++ bs [2, 0] ++ leBytes 2 1 ++ bs [1, 1] ++ leBytes 4 5
def message : Bytes := messageHead ++ leBytes 4 (crc32c (leBytes 4 0x104 ++ messageHead))
/-- Channel A has heard module 2 on network 1, SEQ before this one; the last one some time ago. -/
def heardAt (seq us : Nat) : State := isleAs fun x => { x with a := { x.a with streams := x.a.streams.set 2 { lastSeq := seq, seen := true, run := 1, lastUs := us } } }
def differing (since : Option Nat) : State := isleAs fun x => { x with a := { x.a with discSince := x.a.discSince.set 1 since } }
def safeState : State := isleAs fun x => { x with state := 3 }
theorem witness_MessagesStreamsAndIslandFault :
    (isle.power.booted = true ∧ isle.safety.active = some block ∧ senderOf (safIn isle) block 0x104 = some (2, 1) ∧ ([] : Bytes).length ≠ 16) ∧
    (∀ q, q = 6 ∨ q = 7 - 7 → messageValid (safIn (heardAt q 0)) block (vget ((heardAt q 0).safety.ch .A).streams (streamIx 1 0)) 2 1 0 0x104 message) ∧
    messageValid (safIn isle) block (vget (isle.safety.ch .B).streams (streamIx 1 0)) 2 1 0 0x104 message ∧
    ((vget ((heardAt 6 1994000).safety.ch .A).streams (streamIx 1 0)).seen = true ∧
      (vget ((heardAt 6 1994000).safety.ch .A).streams (streamIx 1 0)).lastUs + 1000 * sbTimeoutMs block ≤ (heardAt 6 1994000).time.us) ∧
    (∀ c : SafeChan, ({ heardAt 6 1994001 with time := { tick := 0, us := 5999 } } : State).time.us < (vget ((heardAt 6 1994001).safety.ch c).streams (streamIx 1 0)).lastUs + 1000 * sbTimeoutMs block) ∧
    ((differing (some 1989999)).safety.a.discSince[1] = some 1989999 ∧ 1989999 + 1000 * sbStreamDiscMs block < (differing (some 1989999)).time.us ∧
      (differing (some 1990000)).time.us ≤ 1990000 + 1000 * sbStreamDiscMs block ∧ (differing none).safety.a.discSince[1] = none) ∧
    (isle.power.pfail = false ∧ isle.safety.state ≠ 3) ∧ safeState.safety.state = 3 := by
  unfold messageValid
  refine ⟨by decide +kernel, ?_, by decide +kernel, by decide +kernel, ?_, by decide +kernel, by decide +kernel, by decide +kernel⟩
  · rintro q (rfl | rfl) <;> decide +kernel
  · intro c; cases c <;> decide +kernel

/-- The controller of S-A in a state, set up by the block or not. -/
def isleBus (k : SafeCtl) (up : Bool) : State := isleAs fun x => { x with a := { x.a with can := k, netUp := up } }
theorem witness_SafetyControllers :
    (∀ k, k = ({} : SafeCtl) ∨ k = { wire := true } ∨ k = { wire := true, taken := true, tec := 248 } →
      (isleBus k true).power.booted = true ∧ (isleBus k true).safety.active = some block ∧ ((isleBus k true).safety.ch (netChan 0)).up = true ∧
      ((isleBus k true).safety.ch (netChan 0)).can = k) ∧
    ((isleBus {} false).safety.ch (netChan 0)).up = false ∧
    ((isleBus { off := true, taken := true } true).safety.ch (netChan 0)).can.off = true ∧ ((isleBus { off := true, taken := true } true).safety.ch (netChan 0)).netUp = true := by
  refine ⟨?_, by decide +kernel, by decide +kernel, by decide +kernel⟩
  rintro k (rfl | rfl | rfl) <;> decide +kernel

/-! Proof tests and blocks. -/

/-- A proof test of pair 1 in a stage, of some outputs, begun long ago. -/
def proving (stage outs latches start : Nat) (failA : Bool) : State := isleAs fun x => { x with pairFault := 1, proofs := [{ pair := 0, outs := outs, stage := stage, latches := latches, startUs := start, failA := failA }] }
theorem witness_ProofTestsRunAndJudge :
    (∀ k, k = 1 ∨ k = 2 → (proving 0 3 k 0 false).power.booted = true ∧ (proving 0 3 k 0 false).isNode = false ∧
      ((proving 0 3 k 0 false).safety.proofs.find? fun q => q.pair == 0 && q.stage == 0) = some { pair := 0, outs := 3, stage := 0, latches := k }) ∧
    (∀ st outs, (st, outs) ∈ [(1, 1), (2, 2), (2, 3), (3, 3)] → ∀ fa, (proving st outs 2 1900000 fa).power.pfail = false ∧ (proving st outs 2 1900000 fa).safety.active = some block ∧
      ((proving st outs 2 1900000 fa).safety.proofs.find? fun q => q.pair == 0 && (q.stage == 1 || q.stage == 2 || q.stage == 3)) =
        some { pair := 0, outs := outs, stage := st, latches := 2, startUs := 1900000, failA := fa } ∧
      1900000 + 1000 * sbProofMs block ≤ (proving st outs 2 1900000 fa).time.us ∧ bitOf 0 (proving st outs 2 1900000 fa).safety.pairFault = true) ∧
    (proving 2 3 2 1900001 false).time.us < 1900001 + 1000 * sbProofMs block := by
  refine ⟨?_, ?_, by decide +kernel⟩
  · rintro k (rfl | rfl) <;> decide +kernel
  · intro st outs h fa
    simp only [List.mem_cons, Prod.mk.injEq, List.not_mem_nil, or_false] at h
    obtain ⟨rfl, rfl⟩ | ⟨rfl, rfl⟩ | ⟨rfl, rfl⟩ | ⟨rfl, rfl⟩ := h <;> cases fa <;> decide +kernel
/-- A block is pending, loaded at an instant, perhaps confirmed for a safety cycle. -/
def pendingAt (us : Nat) (at_ : Option Nat) : State := isleAs fun x => { x with pending := some block, confirmed := if at_.isSome then some block else none, pendUs := us, activateAt := at_, displayed := true }
def late (s : State) : State := { s with time := { s.time with us := 900000000 } }
def copyHeld (copy : Option Bytes) : State := { up with keep := { up.keep with flash := { up.keep.flash with safety1 := copy } } }
/-- The copy in flash: the block and the CRC-32C over it (R388). -/
def soundCopy : Bytes := soundBlock ++ leBytes 4 (crc32c soundBlock)
theorem sound_length : soundBlock.length = 256 := by decide +kernel
theorem copy_block : copyBlock soundCopy = some soundBlock := by
  have ht : soundCopy.take 256 = soundBlock := by rw [soundCopy, ← sound_length, List.take_left]
  have hl : soundCopy.length = 260 := by simp [soundCopy, sound_length, leBytes]
  have hu : u32 soundCopy 256 = crc32c soundBlock := by
    have h := u32_after soundBlock (crc32c soundBlock) (BitVec.isLt _)
    rwa [sound_length] at h
  simp [copyBlock, ht, hl, hu, check_block]
theorem flash_block : flashBlock (copyHeld (some soundCopy)).keep = some soundBlock := by
  have hk : ∀ c, (copyHeld c).keep.st ≠ 3 := by intro c; show up.keep.st ≠ 3; decide +kernel
  have h1 : (copyHeld (some soundCopy)).keep.flash.safety1 = some soundCopy := rfl
  rw [flashBlock, if_neg (hk _), h1, Option.bind_some, copy_block, Option.orElse_some]
/-- A newer block loaded while a confirmed one waits stays pending. -/
theorem witness_BlocksActivateNewerPending :
    let s : State := { pendingAt 0 (some 300) with safety := { (pendingAt 0 (some 300)).safety with pending := some soundBlock } }
    s.power.booted = true ∧ s.safety.confirmed = some block ∧ s.safety.activateAt = some 300 ∧ 300 ≤ s.safety.cycle ∧ s.safety.pending ≠ some block := by
  decide +kernel

theorem witness_BlocksActivateOnlyWhenConfirmed :
    (∀ c, c = 300 ∨ c = 301 → (pendingAt 0 (some c)).power.booted = true ∧ (pendingAt 0 (some c)).safety.pending = some block ∧ (pendingAt 0 (some c)).safety.confirmed = some block ∧ (pendingAt 0 (some c)).safety.activateAt = some c) ∧
    300 ≤ (pendingAt 0 (some 300)).safety.cycle ∧ (pendingAt 0 (some 301)).safety.cycle < 301 ∧ (pendingAt 0 none).safety.activateAt = none ∧ (pendingAt 0 none).keep.st ≠ 3 ∧
    (pendingAt 0 none).safety.pendUs + 900000000 ≤ (late (pendingAt 0 none)).time.us ∧ (late (pendingAt 1 none)).time.us < (pendingAt 1 none).safety.pendUs + 900000000 ∧
    (up.power.booted = true ∧ up.safety.state = 0 ∧ flashBlock (copyHeld none).keep = none ∧ flashBlock (copyHeld (some soundCopy)).keep = some soundBlock) := by
  refine ⟨?_, by decide +kernel, by decide +kernel, rfl, by decide +kernel, by decide +kernel, by decide +kernel, by decide +kernel, by decide +kernel, by decide +kernel, flash_block⟩
  rintro c (rfl | rfl) <;> decide +kernel

end Sys2Proof.Tests
end

