-- ==== Sys2Proof/Tests/Hosts.lean ====
section
/-! SUPPORT. Command packets and the states in which a host channel serves them, for the tests of the host commands. -/

set_option Elab.async false

namespace Sys2Proof.Tests

open Sys2Proof Sys2Proof.Machine

/-- An image with one entry in every table that a host command looks at. -/
def hostImg : Bytes := imageOf [(secRedundancy, 0xFF, redSec 1), (secGains, 0xFF, bs [0, 0, 1, 0]), (secThrusters, 0xFF, bs [0, 0, 1, 0]), (secFusion, 0xFF, zeroBytes 256 ++ bs [1] ++ zeroBytes 95),
  (secChannels, 0xFF, zeroBytes 576 ++ bs [1] ++ zeroBytes 63)]
/-- A command packet of station 7 under EPOCH 1: SEQ 1, TAG 5 (Table 16.1). -/
def cmdWith (flags op seq : Nat) (d : Bytes) : Packet := ⟨leBytes 2 0xA960 ++ bs [1, flags] ++ leBytes 2 op ++ leBytes 2 5 ++ leBytes 4 seq ++ leBytes 2 d.length ++ leBytes 2 0 ++ leBytes 2 7 ++
  leBytes 2 1 ++ leBytes 4 0 ++ d ++ leBytes 4 99, ⟨1, 2⟩, some ⟨.A, 0⟩, 100, 0⟩
def cmd (op : Nat) (d : Bytes) : Packet := cmdWith 0 op 1 d
/-- An engineering session of station 7, opened on ETH_LA_0 and last heard at an instant. -/
def session (us : Nat) : Session := { src := ⟨1, 2⟩, port := ⟨.A, 0⟩, station := 7, timeoutMs := 2000, mask := 3, eng := true, lastUs := us, openRaw := [], anyCmd := true }
/-- Lane A serves alone; channel 1 holds station 7's session and other parts of it. -/
def alone : State := { withArb .B (fun _ => {}) up with laneA := laneWith hostImg }
def withChan (f : Channel → Channel) (s : State) : State := s.modHost fun h => { h with chans := h.chans.set 0 (f { session := some (session 2000000) }), token := { holder := 7, epoch := 1 } }
/-- A packet is the head of channel 1. -/
def heads (pkt : Packet) (s : State) : State := withChan (fun c => { c with buf := [pkt] }) s
/-- A packet is the head of the service port. -/
def svcHeads (pkt : Packet) (s : State) : State := s.modHost fun h => { h with svc := { session := some (session 2000000), buf := [pkt] }, token := { holder := 7, epoch := 1 } }
theorem served_of (p : HostPort) (pkt : Packet) (s : State) (h : (decide (headNow p s = some pkt) && decide (p = .svc ∨ s.host.bytes + heldSize pkt ≤ 163840) && decide (resubMatch pkt s = none) &&
    decide (firstChecks p pkt s = none)) = true) : Served p pkt.opcode pkt s := by
  simp only [Bool.and_eq_true, decide_eq_true_eq] at h
  obtain ⟨⟨⟨h1, h2⟩, h3⟩, h4⟩ := h
  exact ⟨h1, rfl, h2, h3, h4⟩
theorem alone_of (c : Instr) (pkt : Packet) (s : State) (h : (decide (hostRow c = some (.chan 0, pkt.opcode)) && decide (headNow (.chan 0) s = some pkt) &&
    decide (s.host.bytes + heldSize pkt ≤ 163840) && decide (resubMatch pkt s = none) && decide (firstChecks (.chan 0) pkt s = none) && !mirrorWaited s && decide (redModules s.image ≤ 1)) = true) :
    Alone 0 c pkt s := by
  simp only [Bool.and_eq_true, decide_eq_true_eq, Bool.not_eq_true'] at h
  obtain ⟨⟨⟨⟨⟨⟨h1, h2⟩, h3⟩, h4⟩, h5⟩, h6⟩, h7⟩ := h
  exact ⟨h1, ⟨h2, rfl, .inr h3, h4, h5⟩, h6, h7⟩

end Sys2Proof.Tests
end

