-- ==== Sys2Proof/Tests/Slice0.lean ====
section
/-! SUPPORT. The smoke test of WellFormed: an ill-formed command for each check. -/

set_option Elab.async false

namespace Sys2Proof.Tests

open Sys2Proof Sys2Proof.Machine

/-! Commands that well-formedness refuses, one for each check. -/

def longFrame : Bytes := zeroBytes 513
def canOf (ident : Nat) (xtd fd : Bool) (n : Nat) : CanFrame := ⟨ident, xtd, fd, false, false, false, false, false, zeroBytes n, 0⟩

theorem test_wf_datagrams :
    (Instr.packetReceive ⟨.A, 0⟩ ⟨0, 0⟩ true (zeroBytes 1473)).wf = false ∧ (Instr.svcWrite (zeroBytes 4097)).wf = false ∧
    (Instr.ethSensorDatagram ⟨.A, 0⟩ ⟨0, 0⟩ (zeroBytes 1473) 0 [] false).wf = false ∧ (Instr.bridgeFrameReceive .A (zeroBytes 257) true).wf = false ∧
    (Instr.rtcmFrame .A (zeroBytes 1030)).wf = false := by decide +kernel
theorem test_wf_slots_and_islands :
    (Instr.consequenceStep .A 0 true).wf = false ∧ (Instr.selftestSegment .A 513 true).wf = false ∧ (Instr.slotEndTick .A 0 0 true).wf = false ∧
    (Instr.builtinTest (some .A) 9 true).wf = false ∧ (Instr.domainWakeDone 16).wf = false := by decide +kernel
theorem test_wf_ptp : (Instr.ptpMessage ⟨.A, 0⟩ ⟨0, 16⟩ 0 0 0 false 0).wf = false ∧ (Instr.ptpMessage ⟨.A, 0⟩ ⟨0, 0⟩ 65536 0 0 false 0).wf = false ∧
    (Instr.ptpMessage ⟨.A, 0⟩ ⟨0, 0⟩ 0 0 0 false 256).wf = false ∧ (Instr.ptpMessage ⟨.A, 0⟩ ⟨256, 0⟩ 0 0 0 false 0).wf = false := by decide +kernel
theorem test_wf_can : (Instr.cellStart .A 0 32 ⟨.acked, 20⟩).wf = false ∧ (Instr.canFrameReceive 0 (canOf 2048 false true 8) 0).wf = false ∧
    (Instr.canFrameReceive 0 (canOf 536870912 true true 8) 0).wf = false ∧ (Instr.canFrameReceive 0 (canOf 1 false false 9) 0).wf = false ∧
    (Instr.canFrameReceive 0 (canOf 1 false true 65) 0).wf = false := by decide +kernel
theorem test_wf_safety : (Instr.safeMessageReceive 0 2048 (.frame (zeroBytes 16))).wf = false ∧ (Instr.safeMessageReceive 0 1 (.frame (zeroBytes 65))).wf = false ∧ (Instr.safeMessageReceive 0 1 .recovered).wf = false ∧
    (Instr.islandFault 16 .A true).wf = false ∧ (Instr.safetyStartup 256 0).wf = false ∧ (Instr.safetyStartup 0 256).wf = false := by decide +kernel
theorem test_wf_ring : (Instr.voteForm 8).wf = false ∧ (Instr.voteFrameReceive .A .east (zeroBytes 19)).wf = false ∧ (Instr.stateFrameReceive .A .east longFrame).wf = false ∧
    (Instr.journalFrameReceive .A .east longFrame).wf = false ∧ (Instr.imageHold (some (.A, .east, longFrame))).wf = false ∧
    (Instr.imageCommitFrame (some (.A, .east, longFrame))).wf = false ∧ (Instr.imageDataFrame (some (.A, .east, longFrame))).wf = false ∧
    (Instr.timeSync .A .east longFrame 0).wf = false ∧ (Instr.timeDelay (some (.A, .east, longFrame)) 0).wf = false ∧ (Instr.timeReply .A .east longFrame).wf = false := by decide +kernel
theorem test_wf_memory : (Instr.scrubAccess none 16 0 .clean 0 0 false).wf = false ∧ (Instr.scrubAccess none 0 (2 ^ 40) .clean 0 0 false).wf = false ∧
    (Instr.memRequest .A [⟨0, 2 ^ 40, none, 4, .clean⟩]).wf = false ∧ (Instr.memRequest .A [⟨0, 0, some (zeroBytes 3), 4, .clean⟩]).wf = false ∧
    (Instr.mgmtAccess .A 0 (2 ^ 40) 4 none).wf = false ∧ (Instr.mgmtAccess .A 0 0 4 (some (zeroBytes 3))).wf = false ∧ (Instr.registerWrite .A (2 ^ 40) 0).wf = false ∧
    (Instr.registerWrite .A 2 0).wf = false ∧ (Instr.registerWrite .A 0 (2 ^ 32)).wf = false ∧ (Instr.registerReadClear .A (2 ^ 40)).wf = false ∧
    (Instr.registerReadClear .A 2).wf = false := by decide +kernel
theorem test_wf_records_and_nodes : (Instr.keepRecordEnqueue none 256 false []).wf = false ∧ (Instr.keepRecordEnqueue none 1 false (zeroBytes 233)).wf = false ∧
    (Instr.nodeReferenceReceive 0 (zeroBytes 65) 0).wf = false ∧ (Instr.nodeCommandReceive 0 536870912 ⟨[], 0⟩).wf = false ∧ (Instr.nodeCommandReceive 0 1 ⟨zeroBytes 65, 0⟩).wf = false := by
  decide +kernel

end Sys2Proof.Tests
end

