-- ==== Sys2Proof/Tests/WitnessHost.lean ====
section
/-! SUPPORT. States and operands that meet the hypotheses of the statements about packets, sessions, the token, refusals, mirrors and the boundary. -/

set_option Elab.async false

namespace Sys2Proof.Tests

open Sys2Proof Sys2Proof.Machine

/-! Packets as they arrive. -/

/-- A packet of station 7 with its CRC, as it arrives at ETH_LA_0. -/
def rawOf (op seq : Nat) (d : Bytes) : Bytes := packetBytes 0 op 5 seq 0 7 1 0 d
def arrived (raw : Bytes) : Packet := ⟨raw, ⟨1, 2⟩, some ⟨.A, 0⟩, 100, 0⟩
theorem arrives_of (raw : Bytes) (s : State) (h : (s.islandRuns .A 6 && !s.power.pfail && packetSound raw && decide (u8 raw 2 = 1) && decide (s.server = some .A)) = true) :
    Arrives ⟨.A, 0⟩ true raw s := by
  simp only [Bool.and_eq_true, decide_eq_true_eq, Bool.not_eq_true'] at h
  obtain ⟨⟨⟨⟨h1, h2⟩, h3⟩, h4⟩, h5⟩ := h
  exact ⟨h1, h2, rfl, h3, h4, .A, h5, .inl rfl⟩
/-- Channel 1 has answered SEQ 1 with a packet of this CRC. -/
def answeredWith (crc : Nat) : State := withChan (fun c => { c with base := 2, cache := [⟨1, crc, []⟩] }) alone
def open7 : State := withChan id alone
def svcOpen : State := alone.modHost fun h => { h with svc := { session := some (session 2000000) } }
theorem witness_PacketsTakeTheirPlace :
    (∀ q, q = 1 ∨ q = 64 → Arrives ⟨.A, 0⟩ true (rawOf 0x0105 q (zeroBytes 4)) open7 ∧ (arrived (rawOf 0x0105 q (zeroBytes 4))).opcode ≠ 0x0101 ∧
      channelOf ⟨1, 2⟩ (arrived (rawOf 0x0105 q (zeroBytes 4))).station open7 = some 0 ∧ (arrived (rawOf 0x0105 q (zeroBytes 4))).seq ≠ 0 ∧
      seqDist (arrived (rawOf 0x0105 q (zeroBytes 4))).seq open7.host.chans[(0 : Fin 4)].base < 64 ∧ open7.host.chans[(0 : Fin 4)].cache = [] ∧ open7.host.chans[(0 : Fin 4)].buf = [] ∧
      open7.host.chans[(0 : Fin 4)].inFlight = none) ∧
    (Arrives ⟨.A, 0⟩ true (rawOf 0x0105 65 (zeroBytes 4)) open7 ∧ 64 ≤ seqDist (arrived (rawOf 0x0105 65 (zeroBytes 4))).seq open7.host.chans[(0 : Fin 4)].base) ∧
    (Arrives ⟨.A, 0⟩ true (rawOf 0x0105 1 []) (answeredWith (arrived (rawOf 0x0105 1 [])).crc) ∧ alone.jtag.extest = false ∧
      (answeredWith (arrived (rawOf 0x0105 1 [])).crc).host.chans[(0 : Fin 4)].cache.find? (·.seq == (arrived (rawOf 0x0105 1 [])).seq) = some ⟨1, (arrived (rawOf 0x0105 1 [])).crc, []⟩) ∧
    ((answeredWith 0).host.chans[(0 : Fin 4)].cache.find? (·.seq == (arrived (rawOf 0x0105 1 [])).seq) = some ⟨1, 0, []⟩ ∧ 0 ≠ (arrived (rawOf 0x0105 1 [])).crc) ∧
    (Arrives ⟨.A, 0⟩ true (rawOf 0x0105 1 []) alone ∧ channelOf ⟨1, 2⟩ (arrived (rawOf 0x0105 1 [])).station alone = none) ∧
    (Arrives ⟨.A, 0⟩ true (rawOf 0x0101 0 (zeroBytes 8)) alone ∧ (arrived (rawOf 0x0101 0 (zeroBytes 8))).opcode = 0x0101 ∧
      ∀ c : Fin 4, openAgain (arrived (rawOf 0x0101 0 (zeroBytes 8))) alone.host.chans[c] = none) ∧
    (alone.islandRuns .A 6 = true ∧ alone.power.pfail = false ∧ (true && packetSound []) = false ∧ (false && packetSound (rawOf 0x0105 1 [])) = false) ∧
    (svcOpen.power.booted = true ∧ packetSound (rawOf 0x0105 1 []) = true ∧ u8 (rawOf 0x0105 1 []) 2 = 1 ∧ u16 (rawOf 0x0105 1 []) 4 ≠ 0x0101 ∧ svcOpen.host.svc.session = some (session 2000000) ∧
      (session 2000000).station = u16 (rawOf 0x0105 1 []) 16 ∧ svcOpen.host.svc.buf = [] ∧ svcOpen.host.svc.inFlight = none ∧ u32 (rawOf 0x0105 1 []) 8 = svcOpen.host.svc.base ∧
      svcOpen.host.svc.cache = []) := by
  refine ⟨?_, ⟨arrives_of _ _ ?_, ?_⟩, ⟨arrives_of _ _ ?_, ?_, ?_⟩, ?_, ⟨arrives_of _ _ ?_, ?_⟩, ⟨arrives_of _ _ ?_, ?_, ?_⟩, ?_, ?_⟩
  · rintro q (rfl | rfl) <;> exact ⟨arrives_of _ _ (by decide +kernel), by decide +kernel⟩
  all_goals decide +kernel

/-! Sessions. -/

/-- A SESSION_OPEN of station 8 waits on a channel, or at the service port; its timeout is in range or not. -/
def openPkt (timeout : Nat) : Packet := ⟨packetBytes 0 0x0101 5 0 0 8 0 0 (leBytes 2 timeout ++ zeroBytes 6), ⟨1, 2⟩, some ⟨.A, 0⟩, 100, 0⟩
def opening (timeout : Nat) : State := alone.modHost fun h => { h with opens := [openPkt timeout] }
def svcOpening : State := alone.modHost fun h => { h with svc := { buf := [openPkt 500] } }
/-- Channel 1 holds a notification with number 4 that is not acknowledged. -/
def noted4 (pkt : Packet) : State := withChan (fun c => { c with buf := [pkt], nextNote := 5, notes := [⟨4, 0xF001, 0, [], 99, 1⟩] }) alone
def quietSince (us : Nat) : State := withChan (fun c => { c with session := some (session us) }) alone
theorem witness_SessionsOpenAndClose :
    (∀ t, t = 500 ∨ t = 60000 → (opening t).host.opens = [openPkt t] ∧ (openPkt t).opcode = 0x0101 ∧ servesNow (opening t) = true ∧
      (opening t).host.openTurn (opening t).time.cycle (opening t).time.tick = true ∧ (opening t).host.bytes + heldSize (openPkt t) ≤ 163840 ∧
      (∀ c : Fin 4, openAgain (openPkt t) (opening t).host.chans[c] = none) ∧ openRefusal false (openPkt t) (opening t) = none) ∧
    (∀ t, t = 499 ∨ t = 60001 → openRefusal false (openPkt t) (opening t) = some RANGE) ∧
    (svcOpening.host.svc.buf = [openPkt 500] ∧ svcOpening.power.pfail = false ∧ openRefusal true (openPkt 500) svcOpening = none) ∧
    Alone 0 (.sessionClose (.chan 0)) (cmd 0x0102 []) (heads (cmd 0x0102 []) alone) ∧
    ((quietSince 0).host.chans[(0 : Fin 4)].session = some (session 0) ∧ (session 0).lastUs + 1000 * (session 0).timeoutMs ≤ (quietSince 0).time.us ∧
      (quietSince 1).time.us < (session 1).lastUs + 1000 * (session 1).timeoutMs) ∧
    (∀ a, a = 0 ∨ a = 4 → Alone 0 (.keepalive (.chan 0)) (cmd 0x0105 (leBytes 4 a)) (noted4 (cmd 0x0105 (leBytes 4 a))) ∧ u32 (cmd 0x0105 (leBytes 4 a)).params 0 = a ∧
      later32 a ((noted4 (cmd 0x0105 (leBytes 4 a))).host.chans[(0 : Fin 4)].nextNote - 1) = false) ∧
    (∀ a, a = 4 ∨ a = 5 → Alone 0 (.notifyResend (.chan 0)) (cmd 0x0106 (leBytes 4 a)) (noted4 (cmd 0x0106 (leBytes 4 a))) ∧
      (noted4 (cmd 0x0106 (leBytes 4 a))).host.chans[(0 : Fin 4)].session.isSome = true ∧ u32 (cmd 0x0106 (leBytes 4 a)).params 0 = a ∧
      (a = (noted4 (cmd 0x0106 (leBytes 4 a))).host.chans[(0 : Fin 4)].nextNote ∨ ∃ h ∈ (noted4 (cmd 0x0106 (leBytes 4 a))).host.chans[(0 : Fin 4)].notes, h.num = a)) := by
  refine ⟨?_, ?_, by decide +kernel, alone_of _ _ _ (by decide +kernel), by decide +kernel, ?_, ?_⟩
  · rintro t (rfl | rfl) <;> decide +kernel
  · rintro t (rfl | rfl) <;> decide +kernel
  · rintro a (rfl | rfl) <;> exact ⟨alone_of _ _ _ (by decide +kernel), by decide +kernel, by decide +kernel⟩
  · rintro a (rfl | rfl) <;> exact ⟨alone_of _ _ _ (by decide +kernel), by decide +kernel⟩

/-! The token. -/

/-- A TOKEN_REQUEST is the head of channel 1, held or not; a station holds the token. -/
def asking (ready : Bool) (holder : Nat) : State :=
  (withChan (fun c => { c with buf := [cmd 0x0103 []], tokenReady := ready }) alone).modHost fun h => { h with token := { holder := holder, epoch := 1 } }
/-- The holder, station 8, has had no session since the start; or it is station 7. -/
def lost (holder : Nat) : State := late ((withChan id alone).modHost fun h => { h with token := { holder := holder, epoch := 1, lostUs := some 890000000 } })
theorem witness_TokenHasOneHolder :
    ((asking false 0).host.chans[(0 : Fin 4)].head = some (cmd 0x0103 []) ∧ (cmd 0x0103 []).opcode = 0x0103 ∧
      (cmd 0x0103 []).cycle * 20000 + (cmd 0x0103 []).tick + 2 ≤ (atTickOf 2 (asking false 0)).time.cycle * 20000 + (atTickOf 2 (asking false 0)).time.tick ∧
      (atTickOf 1 (asking false 0)).time.cycle * 20000 + (atTickOf 1 (asking false 0)).time.tick < (cmd 0x0103 []).cycle * 20000 + (cmd 0x0103 []).tick + 2) ∧
    (∀ r h, (r = true ∨ r = false) → (h = 0 ∨ h = 7 ∨ h = 8) → Alone 0 (.tokenRequest (.chan 0)) (cmd 0x0103 []) (asking r h) ∧ (asking r h).server = some (asking r h).sel ∧
      (∀ c : Fin 4, (asking r h).host.chans[c].notes.length < 1024) ∧ (asking r h).host.chans[(0 : Fin 4)].tokenReady = r ∧ otherAsksFirst (cmd 0x0103 []) (asking r h) = false ∧
      (asking r h).host.token.holder = h ∧ (cmd 0x0103 []).station = 7) ∧
    (∀ d, d = 0 ∨ d = 7 → Alone 0 (.tokenRelease (.chan 0)) (cmd 0x0104 (leBytes 2 d)) (heads (cmd 0x0104 (leBytes 2 d)) alone) ∧
      (heads (cmd 0x0104 (leBytes 2 d)) alone).server = some (heads (cmd 0x0104 (leBytes 2 d)) alone).sel ∧
      ∀ c : Fin 4, (heads (cmd 0x0104 (leBytes 2 d)) alone).host.chans[c].notes.length < 1024) ∧
    ((lost 8).host.token.holder ≠ 0 ∧ (lost 8).host.hasSession (lost 8).host.token.holder = false ∧ (lost 8).host.token.lostUs = some 890000000 ∧ 890000000 + 10000000 ≤ (lost 8).time.us ∧
      (lost 8).inControl = true ∧ (lost 8).server.isSome = true) ∧ (lost 7).host.hasSession (lost 7).host.token.holder = true := by
  refine ⟨by decide +kernel, ?_, ?_, by decide +kernel, by decide +kernel⟩
  · rintro r h (rfl | rfl) (rfl | rfl | rfl) <;> exact ⟨alone_of _ _ _ (by decide +kernel), by decide +kernel⟩
  · rintro d (rfl | rfl) <;> exact ⟨alone_of _ _ _ (by decide +kernel), by decide +kernel⟩

/-! The other cases of settings and of Watchtower actions. -/

/-- The serving lane's mirror is waited for; REF_SELECT of the first reference of class 1. -/
def mirrored : State := { up with laneA := laneWith hostImg }
theorem witness_SettingsAreJournalledThenStaged_mirrored :
    (Served (.chan 0) 0x0301 (cmd 0x0301 (zeroBytes 8)) (heads (cmd 0x0301 (zeroBytes 8)) mirrored) ∧ mirrorWaited (heads (cmd 0x0301 (zeroBytes 8)) mirrored) = true) ∧
    Alone 0 (.refSelect (.chan 0)) (cmd 0x0401 (bs [1, 1, 2, 0])) (heads (cmd 0x0401 (bs [1, 1, 2, 0])) alone) ∧
    settingOk 0 (cmd 0x0401 (bs [1, 1, 2, 0])) (heads (cmd 0x0401 (bs [1, 1, 2, 0])) alone) := by
  refine ⟨⟨served_of (.chan 0) (cmd 0x0301 (zeroBytes 8)) _ (by decide +kernel), by decide +kernel⟩, alone_of _ _ _ (by decide +kernel), ?_⟩
  simp only [settingOk, show (cmd 0x0401 (bs [1, 1, 2, 0])).opcode = 0x0401 from by decide +kernel]
  exact ⟨by decide +kernel, by decide +kernel, by decide +kernel, by decide +kernel, by decide +kernel, 0, by decide +kernel, by decide +kernel⟩
/-- KEEP_INFO has been executed before; a SAFETY_CONFIRM names another check value. -/
def recordedOnce : State := (heads (cmd 0x0701 []) alone).modHost fun h => { h with recA := [⟨7, 0, 1, 0, [1]⟩] }
def confirming : State := heads (cmd 0x0904 (zeroBytes 4)) (alone.modSafety fun x => { x with
  state := 2, active := some block, pending := some soundBlock, displayed := true, a := { x.a with commission := some 0 }, b := { x.b with commission := some 0 } })
theorem witness_WatchtowerActionsAreDoneOnce_recorded :
    (Alone 0 (.keepInfo (.chan 0)) (cmd 0x0701 []) recordedOnce ∧ recordedOnce.host.cmds < 96 ∧ recordedOnce.host.recorded 7 0 1 = some ⟨7, 0, 1, 0, [1]⟩) ∧
    (Alone 0 (.safetyConfirm (.chan 0)) (cmd 0x0904 (zeroBytes 4)) confirming ∧ confirming.host.cmds < 96 ∧ confirming.safety.pending = some soundBlock ∧ confirming.safety.displayed = true ∧
      commissionReady confirming.time.us confirming.safety = true ∧ u32 (cmd 0x0904 (zeroBytes 4)).params 0 ≠ sbCheckValue soundBlock ∧ confirming.host.recorded 7 0 1 = none) := by
  have h : u32 (cmd 0x0904 (zeroBytes 4)).params 0 ≠ sbCheckValue soundBlock := by rw [← check_block]; decide +kernel
  refine ⟨⟨alone_of _ _ _ ?_, ?_, ?_⟩, alone_of _ _ _ ?_, ?_, ?_, ?_, ?_, h, ?_⟩ <;> decide +kernel

/-! Refusals, resubmissions, mirrors. -/

/-- A command of no table, one of the wrong length, one past its VALID_UNTIL, one of a station without the token. -/
def unknown : Packet := cmd 0x0F00 []
def short : Packet := cmd 0x0301 []
def expired : Packet := cmdWith 1 0x0301 1 (zeroBytes 8)
def resubmitted : Packet := cmdWith 2 0x0301 1 (zeroBytes 8)
def resubState : State := (heads resubmitted alone).modHost fun h => { h with sys := [⟨9, 7, 0x0301, 5, resubmitted.crc, 0, 0, [], 99⟩] }
def full : State := (heads short alone).modHost fun h => { h with bytes := 163840 }
/-- A command in flight on channel 1. -/
def flight (op : Nat) : InFlight := ⟨cmd op (zeroBytes 8), .read, 4, 0, 0, [], none, true, false, false, true, false, 0⟩
def flying (f : InFlight) : State := withChan (fun c => { c with inFlight := some f }) up
def entry4 : JournalEntry := ⟨4, 0, 1, false, 0, 1, 7, 0x0701, 5, 0, 100, 0, [], 0, 99, [], 1, ⟨1, 2⟩, some ⟨.A, 0⟩⟩
/-- Another module runs on the ring. -/
def accompanied (f : InFlight) : State := withChan (fun c => { c with inFlight := some f }) { ring with arb := { ring.arb with heardAt := #v[none, some 100, none], votes := #v[none, some ⟨100, 1, 4, 0, 0, 1000, 0, 0, 1, 0⟩, none] } }
theorem witness_RefusalsAndMirrorsSettleACommand :
    ((opSpec unknown.opcode).isNone = true ∧ opSpec short.opcode = some { kind := .boundary, entry := 1, token := true, lo := 8, hi := 8 } ∧
      lengthOk short.opcode short.params { kind := .boundary, entry := 1, token := true, lo := 8, hi := 8 } = false ∧
      lengthOk expired.opcode expired.params { kind := .boundary, entry := 1, token := true, lo := 8, hi := 8 } = true ∧ expired.vu = true ∧
      later32 (alone.time.cycle % 2 ^ 32) expired.validUntil = true ∧ resubmitted.vu = false ∧ redModules alone.image ≤ 1 ∧ resubmitted.station ≠ alone.host.token.holder) ∧
    (hostRow (.spPosition (.chan 0)) = some (.chan 0, 0x0301) ∧ headNow (.chan 0) (heads short alone) = some short ∧ short.opcode = 0x0301 ∧ (heads short alone).host.bytes + heldSize short ≤ 163840 ∧
      resubMatch short (heads short alone) = none ∧ firstChecks (.chan 0) short (heads short alone) = some ST_LENGTH ∧ mirrorWaited (heads short alone) = false) ∧
    (headNow (.chan 0) (heads unknown alone) = some unknown ∧ resubMatch unknown (heads unknown alone) = none) ∧
    (headNow (.chan 0) resubState = some resubmitted ∧ resubmitted.opcode ≠ 0x0102 ∧ resubState.host.bytes + heldSize resubmitted ≤ 163840 ∧
      resubMatch resubmitted resubState = some ⟨9, 7, 0x0301, 5, resubmitted.crc, 0, 0, [], 99⟩ ∧ mirrorWaited resubState = false) ∧
    (headNow (.chan 0) full = some short ∧ 163840 < full.host.bytes + heldSize short) ∧
    (∀ op b, (op, b) ∈ [(0x0202, none), (0x0301, some 101)] → (flying { flight op with boundary := b, kind := if op = 0x0202 then .read else .boundary }).host.chans[(0 : Fin 4)].inFlight =
        some { flight op with boundary := b, kind := if op = 0x0202 then .read else .boundary } ∧ up.bridgeFault = false ∧ (flight op).pkt.opcode = op ∧ (up.lane .B).incoming = [] ∧ up.host.openWait = [] ∧
        (∀ j : Fin 4, j ≠ 0 → mirrorOf (flying { flight op with boundary := b, kind := if op = 0x0202 then .read else .boundary }) j = none)) ∧
    (let w : State := { up with host := { up.host with openWait := [flight 0x0101] } }; w.host.openWait = [flight 0x0101] ∧ (∀ j : Fin 4, mirrorOf w j = none) ∧ (w.lane w.sel.other).incoming = [] ∧ w.bridgeFault = false) ∧
    (∀ w, w = true ∨ w = false → (flying { flight 0x0301 with waitMirror := false, waitHold := true, result := w }).host.chans[(0 : Fin 4)].inFlight =
      some { flight 0x0301 with waitMirror := false, waitHold := true, result := w } ∧ (flight 0x0301).sentUs + 8 ≤ up.time.us) ∧
    ((accompanied { flight 0x0301 with waitHold := true, sentUs := 1999993 }).time.us < 1999993 + 8 ∧ othersRun (accompanied { flight 0x0301 with waitHold := true, sentUs := 1999993 }) = true) ∧
    ((flight 0x0701).jsn = 4 ∧ entryAt 4 ((flying { flight 0x0701 with forwarded := true, waitMirror := false }).modLane .A fun x => { x with journal := [entry4] }) = some entry4) := by
  refine ⟨⟨by decide +kernel, rfl, by decide +kernel⟩, by decide +kernel, by decide +kernel, by decide +kernel, by decide +kernel, ?_, by decide +kernel, ?_, ⟨by decide +kernel, by decide +kernel⟩, by decide +kernel, by decide +kernel⟩
  · intro op b h
    simp only [List.mem_cons, Prod.mk.injEq, List.not_mem_nil, or_false] at h
    obtain ⟨rfl, rfl⟩ | ⟨rfl, rfl⟩ := h <;> decide +kernel
  · rintro w (rfl | rfl) <;> decide +kernel

/-- Lane B takes the bytes of an IMAGE_DATA over the bridge, some of which it has. -/
def storing (try_ : Nat) : State := (flying (flight 0x0602)).modLane .B fun x => { x with image := { x.image with rx := bs [7], rxTry := try_ } }
theorem witness_LinksAndInputsBetweenTheLanes_store : ∀ k, k = 0 ∨ k = 1 → (storing k).bridgeFault = false ∧ (storing k).laneRuns .B = true ∧ ((storing k).lane .B).incoming = [] ∧
    .B = (storing k).sel.other ∧ firstMirror (storing k) = some (0, flight 0x0602) ∧ (flight 0x0602).pkt.opcode = 0x0602 ∧
    ((storing k).lane .B).image.rx.length + (bs [1, 2]).length < (flight 0x0602).pkt.params.length - 4 ∧
    ((storing k).lane .B).image.rx.length + (bs [1, 2, 3]).length = (flight 0x0602).pkt.params.length - 4 ∧
    crc32c (((storing k).lane .B).image.rx ++ bs [1, 2, 3]) ≠ crc32c ((flight 0x0602).pkt.params.drop 4) ∧ ((storing k).lane .B).image.rxTry = k := by
  rintro k (rfl | rfl) <;> decide +kernel

/-! The boundary. -/

theorem quiet_of (s : State) (h : (s.power.booted && decide (s.arb.switch = none) && decide (s.arb.takeback = none) && decide (s.arb.pendCtl = none) && s.arb.snapIn.isNone &&
    ([LaneId.A, LaneId.B].all fun l => (s.arb.lane l).faultAt.isNone && (s.lane l).image.commit.isNone && (s.lane l).image.rollbackAt.isNone && ((s.lane l).staged.all fun g => g.opcode != 0x0605))) = true) :
    QuietBoundary s := by
  simp only [Bool.and_eq_true, decide_eq_true_eq, List.all_cons, List.all_nil, Option.isNone_iff_eq_none, List.all_eq_true, bne_iff_ne] at h
  obtain ⟨⟨⟨⟨⟨h1, h2⟩, h3⟩, h4⟩, h5⟩, hA, hB, -⟩ := h
  refine ⟨h1, h2, h3, h4, h5, ?_, ?_, ?_⟩ <;> intro l <;> cases l
  · exact hA.1.1.1
  · exact hB.1.1.1
  · exact hA.1.1.2
  · exact hB.1.1.2
  · exact ⟨hA.1.2, hA.2⟩
  · exact ⟨hB.1.2, hB.2⟩
/-- A setting due at the next boundary is the only one staged. -/
def setting (op : Nat) (d : Bytes) : Staged := ⟨101, 1, 1, op, d, 7, 0, 5, false⟩
def due (op : Nat) (d : Bytes) : State := up.modLane .A fun x => { x with staged := [setting op d] }
def committingAt (c : Nat) : State := up.modLane .A fun x => { x with image := { x.image with commit := some { earliest := 0, accepted := c } } }
def installing : State := up.modLane .A fun x => { x with image := { x.image with staged := 5 } }
/-- Input 1 has a new plane of mode 1 whose chain, of group delay 1 µs, has not run yet. -/
def warmingUp : State := installing.modLane .A fun x => { x with filter := { x.filter with inputs := x.filter.inputs.set 0 { x.filter.inputs[0] with
  next := some { entry := bs [1], conf := zeroBytes 24 ++ leBytes 4 1000 } } } }
theorem witness_BoundaryBeginsTheCycle : up.power.booted = true ∧ State.reset.power.booted = false ∧
    (QuietBoundary up ∧ pathRuns up .A = true ∧ dueSettings ((up.time.cycle + 1) % 2 ^ 48) (up.lane .A) = []) ∧
    (∀ op, op = 0x0305 ∨ op = 0x0402 → QuietBoundary (due op (zeroBytes 8)) ∧ pathRuns (due op (zeroBytes 8)) .A = true ∧
      dueSettings (((due op (zeroBytes 8)).time.cycle + 1) % 2 ^ 48) ((due op (zeroBytes 8)).lane .A) = [setting op (zeroBytes 8)] ∧ (setting op (zeroBytes 8)).opcode = op ∧
      u16 (setting op (zeroBytes 8)).params 0 ≤ 255) ∧
    ((committingAt 150).lane .A).image.commit = some { earliest := 0, accepted := 150 } ∧ ¬150 + 250 ≤ (committingAt 150).time.cycle ∧ 150 + 250 ≤ (atCycle 400 (committingAt 150)).time.cycle ∧
    (installing.laneRuns .A = true ∧ (installing.lane .A).image.staged = 5 ∧ (clocked installing .A 4 && ((installing.lane .A).filter.warming || fading (installing.lane .A).filter)) = false ∧
      (clocked warmingUp .A 4 && ((warmingUp.lane .A).filter.warming || fading (warmingUp.lane .A).filter)) = true ∧ (warmingUp.lane .A).image.staged = 5) ∧ State.reset.laneRuns .A = false ∧ (up.laneRuns .A = true ∧ dueAt (laneCodeOf 61 .A) (closeTick up) up) := by
  unfold dueAt
  refine ⟨by decide +kernel, by decide +kernel, ⟨quiet_of _ ?_, ?_, ?_⟩, ?_, by decide +kernel, by decide +kernel, by decide +kernel, by decide +kernel, by decide +kernel, by decide +kernel⟩
  · decide +kernel
  · decide +kernel
  · decide +kernel
  · rintro op (rfl | rfl) <;> exact ⟨quiet_of _ (by decide +kernel), by decide +kernel, by decide +kernel, by decide +kernel, by decide +kernel⟩

end Sys2Proof.Tests
end

