-- ==== Sys2Proof/Tests/WitnessKeep.lean ====
section
/-! SUPPORT. States and operands that meet the hypotheses of the statements about Keep and Lantern. -/

set_option Elab.async false

namespace Sys2Proof.Tests

open Sys2Proof Sys2Proof.Machine

/-! Keep. -/

/-- Keep in a state: running, its operating time since power-on the module's. -/
def keeping (f : KeepState → KeepState) : State := { up with keep := f { up.keep with st := 1 } }
/-- A record of type 12 with 32 payload bytes: 56 bytes in all. -/
def rec12 : KeepRec := ⟨12, 0, false, zeroBytes 32, 2, 100⟩
theorem witness_KeepRecordsAndWritesTheFlash :
    ((State.reset.power.booted && (none : Option LaneId).all fun l => State.reset.laneRuns l && !(State.reset.lane l).wtFault) = false ∧ some LaneId.B ≠ some up.sel ∧ some LaneId.A = some up.sel) ∧
    (((keeping id).power.booted && (some LaneId.A).all fun l => (keeping id).laneRuns l && !((keeping id).lane l).wtFault) = true ∧ (keeping id).keep.st ≠ 3 ∧ (keeping id).keep.dropRecs = 0 ∧
      (keeping fun k => { k with st := 3 }).keep.st = 3) ∧
    (recordIntegrity 12 false = false ∧ recordIntegrity 1 false = true ∧ recordIntegrity 3 true = true ∧ recordIntegrity 3 false = false ∧ rec12.len = 56) ∧
    (budgetAt 2000000 (keeping fun k => { k with budget := 55, budgetUs := 2000000 }).keep < rec12.len ∧ (rec12.len : Int) ≤ budgetAt 2000000 (keeping fun k => { k with budget := 56, budgetUs := 2000000 }).keep ∧
      (keeping fun k => { k with pfail := true }).keep.pfail = true ∧ (keeping id).keep.pfail = false) ∧
    ((∀ n, n = 584 ∨ n = 585 → (queuedBytes (keeping fun k => { k with queue := List.replicate n rec12 }).keep = n * 56)) ∧ 32768 < 585 * 56 + rec12.len ∧ 584 * 56 + rec12.len ≤ 32768) ∧
    State.reset.power.booted = false ∧
    (∀ u, u = .record ∨ u = .tally 1 → (keeping fun k => { k with busy := some (u, false), queue := [rec12] }).keep.busy = some (u, false) ∧ (keeping fun k => { k with busy := some (u, false) }).power.booted = true ∧
      (keeping fun k => { k with busy := some (u, false), queue := [rec12] }).keep.queue = rec12 :: []) ∧
    (keeping fun k => { k with busy := some (.record, true) }).keep.busy = some (.record, true) := by
  refine ⟨?_, ?_, ?_, ?_, ⟨?_, ?_, ?_⟩, ?_, ?_, ?_⟩
  case refine_5 => rintro n (rfl | rfl) <;> decide +kernel
  case refine_9 => rintro u (rfl | rfl) <;> decide +kernel
  all_goals decide +kernel
/-- Operating time, and what the next tasks count from. -/
def atSecs (secs : Nat) (f : KeepState → KeepState) : State := keeping fun k => f { k with opBase := secs - 2 }
/-- A panel of 4 pixels. -/
def panel : Bytes := leBytes 2 0 ++ leBytes 2 2 ++ leBytes 2 2 ++ bs [2, 1, 1, 0] ++ zeroBytes 6 ++ bs [0, 10, 0, 0, 0, 0, 0, 0, 40] ++ zeroBytes 39
theorem witness_KeepRecordsAndWritesTheFlash_tasks :
    (State.reset.power.booted && !State.reset.power.pfail && State.reset.keep.st != 3) = false ∧
    ((atSecs 360 id).power.booted && !(atSecs 360 id).power.pfail && (atSecs 360 id).keep.st != 3) = true ∧
    (opSecs (atSecs 359 id).time.us (atSecs 359 id).keep < (atSecs 359 id).keep.lastTally + 360 ∧ (atSecs 360 id).keep.lastTally + 360 ≤ opSecs (atSecs 360 id).time.us (atSecs 360 id).keep ∧
      unitWaits (atSecs 360 id).keep (· == .tally 1) = false ∧ unitWaits (atSecs 360 fun k => { k with units := [.tally 1] }).keep (· == .tally 1) = true) ∧
    (opSecs (atSecs 3599 id).time.us (atSecs 3599 id).keep < (atSecs 3599 id).keep.lastSummary + 3600 ∧ (atSecs 3600 id).keep.lastSummary + 3600 ≤ opSecs (atSecs 3600 id).time.us (atSecs 3600 id).keep) ∧
    ((refreshable (atSecs 157679999 id).keep.flash).find? (fun p => decide (p.2 + 157680000 ≤ opSecs (atSecs 157679999 id).time.us (atSecs 157679999 id).keep)) = none ∧
      (refreshable (late (atSecs 157680000 id)).keep.flash).find? (fun p => decide (p.2 + 157680000 ≤ opSecs (late (atSecs 157680000 id)).time.us (late (atSecs 157680000 id)).keep)) = some (0, 0) ∧
      (late (atSecs 157680000 id)).keep.refreshing = false ∧ unitWaits (late (atSecs 157680000 id)).keep (fun u => u.prio == 8) = false ∧ (late (atSecs 157680000 id)).keep.flash.statePos + 3 ≤ 1024 ∧
      (late (atSecs 157680000 id)).keep.lastRefreshUs + 10000000 ≤ (late (atSecs 157680000 id)).time.us) ∧
    ((atCycle 101 (keeping id)).phase ≠ 0 ∧ (keeping id).phase = 0 ∧ dueAt 151 (keeping id).time.tick (keeping id) ∧ (keeping id).keep.sample = none ∧
      (keeping fun k => { k with sample := some ⟨[], [(1, 2, 3, 4)]⟩ }).keep.sample = some ⟨[], [(1, 2, 3, 4)]⟩) ∧
    (∀ t, t = (3599, false) ∨ t = (3600, true) →
      let s : State := { atSecs t.1 id with lantern := { up.lantern with table := panel } }
      (decide (s.lantern.lastSave + 3600 ≤ opSecs s.time.us s.keep) && !s.lantern.table.isEmpty && decide (0 < ltnPixels s.lantern.table)) = t.2) := by
  unfold dueAt
  refine ⟨?_, ?_, ?_, ?_, ?_, ?_, ?_⟩
  case refine_7 => rintro t (rfl | rfl) <;> decide +kernel
  all_goals decide +kernel

/-! Lantern. -/

/-- The panel in a state, with its table, its temperature read. -/
def paneled (f : LanternState → LanternState) : State := { up with lantern := f { up.lantern with st := 2, table := panel, tempRead := true } }
def drawing (w : Target) (driven : Bool) : State := paneled fun x => { x with st := 3, run := some ⟨w, 0, 4, [0, 0, 0, 0], driven, 0, 1⟩ }
theorem witness_PanelUpdatesStartDriveAndEnd : (State.reset.power.booted && !State.reset.power.pfail) = false ∧
    (∀ st, st = 1 ∨ st = 2 → ∀ u, u = none ∨ u = some 1000000 →
      let s := paneled fun x => { x with st := st, pending := some ⟨1, true, []⟩, lastStart := u }
      (s.power.booted && !s.power.pfail) = true ∧ s.lantern.pending = some ⟨1, true, []⟩ ∧ s.lantern.run = none ∧ s.lantern.st = st ∧ (∀ v, u = some v → v + 1000000 ≤ s.time.us) ∧ s.lantern.tempRead = true ∧
        s.lantern.tempOut = false) ∧
    ((paneled id).lantern.pending = none ∧ (paneled id).time.us < 1000001 + 1000000) ∧
    (∀ d, d = true ∨ d = false → ∃ r, (drawing ⟨0x7F, true, []⟩ d).lantern.run = some r ∧ r.driven = d) ∧
    (∃ s : State, ∃ r, s.lantern.run = some r ∧ r.driven = true ∧ r.target.screen = 0x7F ∧ nowDisplayed r.target s = true) ∧
    (nowDisplayed ⟨1, true, []⟩ (drawing ⟨1, true, []⟩ true) = false ∧ (paneled fun x => { x with st := 1 }).lantern.st = 1) ∧
    ((paneled id).power.booted = true ∧ bandOf panel 0 = some 0 ∧ bandOf panel (40 * 256) = none ∧ bandOf panel (40 * 256 - 1) = some 1 ∧ bandOf panel (-1) = none) ∧
    ((paneled id).lantern.reserved = false ∧ (paneled id).lantern.mode = 0 ∧ (paneled id).lantern.lastStatus ≠ some (statusContent (paneled id)) ∧
      (paneled fun x => { x with lastStatus := some (statusContent (paneled id)) }).lantern.lastStatus = some (statusContent (paneled id))) := by
  refine ⟨?_, ?_, ?_, ?_, ⟨(drawing (checkTarget (paneled id) []) true).modSafety fun x => { x with pending := some [] }, _, rfl, rfl, rfl, ?_⟩, ?_, ?_, ?_, ?_, ?_, rfl⟩
  case refine_2 => rintro st (rfl | rfl) u (rfl | rfl) <;> refine ⟨by decide +kernel, by decide +kernel, by decide +kernel, by decide +kernel, ?_, by decide +kernel, by decide +kernel⟩ <;> rintro v ⟨⟩ <;> decide +kernel
  case refine_4 => rintro d (rfl | rfl) <;> exact ⟨_, rfl, rfl⟩
  case refine_5 => exact beq_iff_eq.mpr rfl
  all_goals decide +kernel

end Sys2Proof.Tests
end

