-- ==== Sys2Proof/Tests/WitnessMem.lean ====
section
/-! SUPPORT. States and operands that meet the hypotheses of the statements about memory and registers. -/

set_option Elab.async false

namespace Sys2Proof.Tests

open Sys2Proof Sys2Proof.Machine

/-! Accesses, memory protection and bandwidth windows. -/

/-- One page of external memory is usable in Lane A, and the memory registers hold counts. -/
def paged : State := up.modLane .A fun x => { x with pmu := { x.pmu with mem := { x.pmu.mem with usablePages := 1, ce := 5, ue := 1 } } }
/-- The clocks of Cupola, of the memory island and of the counters' island stand. -/
def stopped : State := paged.modLane .A fun x => { x with pmu := { x.pmu with clockRuns := ((x.pmu.clockRuns.set 1 false).set 7 false).set 0 false } }
/-- In the EngineTables slot of Cupola, ticks 9,100 to 9,200. -/
def granted : State := { paged with time := { paged.time with tick := 9100 } }
/-- The queue of Cupola is full, and core 2 waits with one more access. -/
def stalled : State := stopped.modLane .A fun x => { x with queued := x.queued.set 11 { waiting := List.replicate 64 { place := 1, words := [0, 0x01000000, 4] } ++ [{ place := 1, words := [2, 0x01000000, 4] }] } }
theorem witness_AccessesReachMemoryAndRegisters_cores : coreRuns .reset .A (0 : Fin 4).val = false ∧ coreRuns paged .A (3 : Fin 4).val = true ∧
    coreRuns stalled .A (2 : Fin 4).val = false ∧ coreRuns stalled .A (1 : Fin 4).val = true ∧
    (busError paged .A 0x00BFFFFF (max 1 2) false = true ∧ busError paged .A 0x00BFFFFE (max 1 2) false = false ∧ accessWaits paged .A 0x00BFFFFE = false ∧ regionAt 0x00BFFFFE = some (.sram, 0, 0x00BFFFFF)) ∧
    (busError paged .A 0x100000FFC (max 1 4) false = false ∧ accessWaits paged .A 0x100000FFC = false ∧ regionAt 0x100000FFC = some (.external, 0x100000000, 0x1FFFFFFFF) ∧ busError paged .A 0x100000FFD (max 1 4) false = true) ∧
    (busError paged .A 0x02000000 (max 1 (bs [1, 2, 3, 4]).length) true = true ∧ busError paged .A 0x01000000 (max 1 (bs [1, 2, 3, 4]).length) true = false ∧
      accessWaits paged .A 0x01000000 = false ∧ slotRefused paged .A 0x01000000 = some 1) ∧
    (busError stopped .A 0x01000000 (max 1 4) false = false ∧ accessIsland 0x01000000 = some 1 ∧ vget (stopped.lane .A).pmu.clockRuns 1 = false) ∧
    (busError stopped .A 0x100000FFC (max 1 4) false = false ∧ accessIsland 0x100000FFC = some 7 ∧ vget (stopped.lane .A).pmu.clockRuns 7 = false) ∧
    (busError granted .A 0x010FFFFC (max 1 (bs [1, 2, 3, 4]).length) true = false ∧ accessWaits granted .A 0x010FFFFC = false ∧ slotRefused granted .A 0x010FFFFC = none ∧ regionAt 0x010FFFFC = some (.cupola, 0x01000000, 0x010FFFFF) ∧ granted.memWf = true) ∧
    (busError paged .A 0x080FFFFC (max 1 (bs [1, 2, 3, 4]).length) true = false ∧ accessWaits paged .A 0x080FFFFC = false ∧ slotRefused paged .A 0x080FFFFC = none ∧ regionAt 0x080FFFFC = some (.mirror, 0x08000000, 0x080FFFFF) ∧
      paged.laneRuns .B = true ∧ paged.bridgeFault = false) := by
  and_intros <;> decide +kernel
/-- Counter 1 chains to counter 0; its value is held. -/
def chained (latch : Option Nat) : State := up.modLane .A fun x => { x with counters := x.counters.set 1 { x.counters[1] with chain := true, latch := latch } }
theorem witness_AccessesReachMemoryAndRegisters_registers : State.reset.laneRuns .A = false ∧ coreRuns paged .A 0 = true ∧ busError paged .A 0x04080000 4 true = true ∧
    (busError paged .A 0x04060304 4 true = false ∧ (0xFFFFFFFF : Nat) < 2 ^ 32) ∧ (busError paged .A (0x04070008 + 16 * 63) 4 true = false ∧ (63 : Nat) < 64) ∧
    (∀ x ∈ [0x04060304, 0x04070008 + 16 * 63, 0x04060308, 0x0406030C, 0x04060100, 0x04060310, 0x04070000 + 16 * (0 : Fin 64).val, 0x04070000 + 16 * (1 : Fin 64).val],
      accessWaits paged .A x = false) ∧ (busError stopped .A 0x04070008 4 true = false ∧ busError stopped .A 0x04070000 4 false = false ∧ accessWaits stopped .A 0x04070008 = true ∧
      accessWaits stopped .A 0x04070000 = true) ∧ busError paged .A 0x04060308 4 false = false ∧ busError paged .A 0x0406030C 4 false = false ∧ busError paged .A 0x04060100 4 false = false ∧ paged.power.skyOn = true ∧
    ({ paged with power := { paged.power with on := vmodN paged.power.on 3 fun _ => false } } : State).power.skyOn = false ∧ busError paged .A 0x04060310 4 false = false ∧
    (busError (chained none) .A (0x04070000 + 16 * (0 : Fin 64).val) 4 false = false ∧ accessWaits (chained none) .A (0x04070000 + 16 * (0 : Fin 64).val) = false ∧ (vget ((chained none).lane .A).counters 1).chain = true ∧ (1 : Fin 64).val % 2 = 1 ∧
      (vget ((chained none).lane .A).counters 1).latch = none ∧ (vget ((chained (some 7)).lane .A).counters 1).latch = some 7 ∧ (0 : Fin 64).val % 2 = 0) := by
  and_intros <;> decide +kernel
def ask (c : CodeResult) (w : Option Bytes) (x : Nat) : MemAccess := ⟨0, x, w, 4, c⟩
theorem witness_AccessesReachMemoryAndRegisters_protection : (!scrubReach up (some .A) 15 || (15 == 15 && !false)) = true ∧ (!scrubReach up (some .A) 3 || (3 == 15 && !true)) = false ∧ (1 : Nat) < 3 ∧
    (!scrubReach up none 13 || (13 == 15 && !false)) = false ∧ up.isNode = false ∧ (!scrubReach up (some .B) 2 || (2 == 15 && !false)) = false ∧
    (State.reset.laneRuns .A && State.reset.islandRuns .A 7) = false ∧ (paged.laneRuns .A && paged.islandRuns .A 7) = true ∧ paged.time.tick % 5 = 0 ∧ (ask .clean none 0x100000000).source.val = 0 ∧
    busError paged .A 0x100001000 (max 1 4) false = true ∧ ((0x100000000 : Nat) ≤ 0x100000FFC ∧ busError paged .A 0x100000FFC (max 1 4) false = false ∧ busError paged .A 0x100000FFC (max 1 4) true = false ∧
      paged.memWf = true) ∧
    (State.reset.power.booted && State.reset.phase == 0) = false ∧ ((paged.power.booted && paged.phase == 0) = true ∧ dueAt 150 1 paged ∧ State.reset.laneRuns .B = false) := by
  unfold dueAt; and_intros <;> decide +kernel

end Sys2Proof.Tests
end

