-- ==== Sys2Proof/Tests/WitnessNet.lean ====
section
/-! SUPPORT. States and operands that meet the hypotheses of the statements about the networks and about the thruster node. -/

set_option Elab.async false

namespace Sys2Proof.Tests

open Sys2Proof Sys2Proof.Machine

/-! The thruster and auxiliary networks. -/

/-- The block of network 1 (Table 13.4): MODE 2, one basic cycle of five columns: reference, command, feedback and command of thruster 1, and an arbitrating cell. NODATA rates `nom`. -/
def netBytes (nom : Nat) : Bytes := bs [2, nom, 4, 0] ++ zeroBytes 8 ++ bs [1, 5, 2, 1, 10, 0] ++ leBytes 4 0x10 ++ leBytes 4 0x20 ++ leBytes 4 0x40 ++ leBytes 4 0x60 ++ zeroBytes 30 ++
  leBytes 2 200 ++ leBytes 2 400 ++ zeroBytes 4 ++ leBytes 2 500 ++ leBytes 2 900 ++ zeroBytes 4 ++ leBytes 2 1000 ++ leBytes 2 1400 ++ zeroBytes 4 ++ leBytes 2 1500 ++ leBytes 2 1900 ++ zeroBytes 4 ++
  leBytes 2 2000 ++ leBytes 2 6000 ++ zeroBytes 220 ++ bs [1, 0, 0, 0, 2, 1, 0, 0, 3, 1, 0, 0, 4, 1, 0, 0, 7, 0, 0, 0]
def matrix (nom : Nat) : Bytes := zeroBytes 64 ++ netBytes nom
/-- The first filter of network 1 puts identifiers 0x70 to 0x7F into mailbox 63. -/
def canFilters : Bytes := zeroBytes 64 ++ bs [1, 0, 2, 0] ++ leBytes 4 0x70 ++ leBytes 4 0x7F ++ leBytes 2 0 ++ bs [63, 0]
def netImg : Bytes := imageOf [(secThrusters, 0xFF, bs [0, 0, 1, 0]), (secCanFilters, 0xFF, canFilters), (secMatrix, 0xFF, matrix 0)]
/-- Network 1 of Lane A in a state. -/
def onNet (f : NetState → NetState) : State := ({ up with laneA := laneWith netImg } : State).modLane .A fun x => { x with bus := { x.bus with nets := x.bus.nets.set 0 (f { x.bus.nets[0] with state := 2, restricted := false }) } }
def net0 : State := onNet id
def withQ10 (k : Nat) (ex : Bool) : State := (onNet fun n => { n with exchanged := ex }).modLane .A fun x => { x with bus := { x.bus with q10 := [(k, [100, 0, 0])] } }
def frame (ident : Nat) (remote res : Bool) : CanFrame := ⟨ident, false, true, true, false, remote, res, false, bs [1, 2, 3, 4], 0⟩
/-- A frame waits in network 1's event queue, after some attempts and clashes; the tick lies in the arbitrating cell or not. -/
def evented (att cl tick : Nat) : State := atTickOf tick (onNet fun n => { n with events := [frame 0x300 false false], attempts := att, clashes := [((false, 0x300), cl)] })
def netSetting (op : Nat) : State := net0.modLane .A fun x => { x with staged := [⟨100, 1, 1, op, bs [0, 1, 0, 0], 7, 0, 5, false⟩] }
theorem witness_NetworksSendReceiveAndRetire : busRuns State.reset .A = false ∧
    (busRuns net0 .A && nhMode (netBlock .A 0 net0) == 2 && decide (5 < nhColumns (netBlock .A 0 net0))) = false ∧
    (∀ c, c = 0 ∨ c = 1 ∨ c = 2 ∨ c = 3 → (busRuns net0 .A && nhMode (netBlock .A 0 net0) == 2 && decide (c < nhColumns (netBlock .A 0 net0))) = true ∧
      dueAt (laneCodeOf (3000 + c) .A) (colStart (netBlock .A 0 net0) c) net0 ∧
      (viewCell (nodeThruster net0) (netBlock .A 0 net0) (basicOf (netBlock .A 0 net0) net0.time.cycle) c).kind = c + 1 ∧ cellsRun (netOf .A 0 net0) = true ∧
      (netOf .A 0 net0).restricted = false ∧ net0.isNode = false ∧ (netOf .A 0 net0).repeating = false ∧ net0.power.pfail = false) ∧
    ((netOf .A 0 (onNet fun n => { n with expect := some 5 })).expect ≠ none ∧ cellsRun (netOf .A 0 (onNet fun n => { n with state := 1 })) = false ∧
      (netOf .A 0 (onNet fun n => { n with restricted := true })).restricted = true) ∧
    (busRuns net0 .A = true ∧ net0.isNode = false ∧ dueAt (laneCodeOf 71 .A) 100 net0 ∧ (net0.lane .A).bus.q10 = []) ∧
    (∀ k e, (k, e) ∈ [(0, true), (0, false), (1, false), (16, false)] → busRuns (withQ10 k e) .A = true ∧ ((withQ10 k e).lane .A).bus.q10 = [(k, [100, 0, 0])] ∧ k ≤ 16 ∧
      (netOf .A 0 (withQ10 k e)).exchanged = e) ∧
    (firstCommandTick (netBlock .A 0 net0) net0.time.cycle = some 500 ∧ dueAt (laneCodeOf 72 .A) 500 net0 ∧ (netOf .A 0 net0).exchanged = false ∧
      2 ^ (tmCount (section_ net0 .A secThrusters) + 1) - 1 = 3 ∧ (netOf .A 0 (onNet fun n => { n with got := 3, gotCycle := 100 })).got &&& 3 = 3 ∧ (netOf .A 0 net0).got &&& 3 ≠ 3) ∧
    (busRuns net0 .B = true ∧ (netOf .B 0 net0).state = 0 ∧ ¬((netOf .A 0 net0).state = 0 ∨ (netOf .A 0 net0).state = 5 ∨ (netOf .A 0 net0).state = 6) ∧ (frame 0x70 false true).res = true ∧
      findFilter (section_ net0 .A secCanFilters) 0 (frame 0x80 false false) = none ∧ (frame 0x70 true false).remote = true ∧
      findFilter (section_ net0 .A secCanFilters) 0 (frame 0x7F false false) = some (0, 0, filterAt canFilters 0 0) ∧ (filterAt canFilters 0 0).action = 2 ∧ (filterAt canFilters 0 0).mbx < 64) := by
  unfold dueAt
  refine ⟨?_, ?_, ?_, ?_, ?_, ?_, ?_, ?_⟩
  case refine_3 => rintro c (rfl | rfl | rfl | rfl) <;> decide +kernel
  case refine_6 =>
    intro k e h
    simp only [List.mem_cons, Prod.mk.injEq, List.not_mem_nil, or_false] at h
    obtain ⟨rfl, rfl⟩ | ⟨rfl, rfl⟩ | ⟨rfl, rfl⟩ | ⟨rfl, rfl⟩ := h <;> decide +kernel
  all_goals decide +kernel
theorem witness_NetworksSendReceiveAndRetire_events : (busRuns net0 .A = true ∧ nextEvent (netOf .A 0 net0) = none) ∧
    (∀ att cl, (att, cl) ∈ [(14, 1), (15, 2)] → busRuns (evented att cl 2000) .A = true ∧ nextEvent (netOf .A 0 (evented att cl 2000)) = some (frame 0x300 false false, 0) ∧
      (!(netOf .A 0 (evented att cl 2000)).restricted && !(netOf .A 0 (evented att cl 2000)).evtSuspended &&
        eventFits (section_ (evented att cl 2000) .A secMatrix) (nodeThruster (evented att cl 2000)) 100 2000 0 (frame 0x300 false false) (netOf .A 0 (evented att cl 2000))) = true ∧
      (netOf .A 0 (evented att cl 2000)).attempts = att ∧ clashRun (false, 0x300) (netOf .A 0 (evented att cl 2000)) = cl) ∧
    eventFits (section_ net0 .A secMatrix) (nodeThruster net0) 100 5999 0 (frame 0x300 false false) (netOf .A 0 (evented 0 0 5999)) = false ∧
    (dueAt (laneCodeOf 80 .A) 19900 net0 ∧ (net0.lane .A).staged = [] ∧ (netOf .A 0 net0).state = 2 ∧ (netOf .A 0 (onNet fun n => { n with state := 3 })).state = 3) ∧
    (∀ op, op = 0x0804 ∨ op = 0x0805 → ((netSetting op).lane .A).staged = [⟨100, 1, 1, op, bs [0, 1, 0, 0], 7, 0, 5, false⟩] ∧ u8 (bs [0, 1, 0, 0]) 0 = 0 ∧ u8 (bs [0, 1, 0, 0]) 1 ≠ 0) ∧
    ((net0.laneRuns .A && clocked net0 .A 5) = true ∧ (State.reset.laneRuns .A && clocked State.reset .A 5) = false) := by
  unfold dueAt
  refine ⟨?_, ?_, ?_, ?_, ?_, ?_⟩
  case refine_2 =>
    intro att cl h
    simp only [List.mem_cons, Prod.mk.injEq, List.not_mem_nil, or_false] at h
    obtain ⟨rfl, rfl⟩ | ⟨rfl, rfl⟩ := h <;> decide +kernel
  case refine_5 => rintro op (rfl | rfl) <;> decide +kernel
  all_goals decide +kernel

theorem witness_NetworksSendReceiveAndRetire_controllers : ((netOf .A 0 net0).tdcFault = false ∧ (netOf .A 0 net0).integrating = false ∧ nhData (netBlock .A 0 net0) ≠ 0) ∧
    (busRuns (onNet fun n => { n with tdcFault := true }) .A = true ∧ cellsRun (netOf .A 0 (onNet fun n => { n with tdcFault := true })) = true ∧
      (netOf .A 0 (onNet fun n => { n with tdcFault := true })).tdcFault = true) ∧ (netOf .A 0 (onNet fun n => { n with integrating := true })).integrating = true := by decide +kernel

/-! The thruster node. -/

/-- A node's image: thruster 1, hold 100 ms by an action, ramp 50, both drive links, HOLDOVER 3 cycles (Table 23.2). -/
def nodeImg (action : Nat) : Bytes := imageOf [(secRedundancy, 0xFF, bs [0, 0, 1, action] ++ leBytes 2 100 ++ bs [3, 3] ++ leBytes 2 50 ++ leBytes 2 0 ++ leBytes 4 0x55 ++ bs [0, 3] ++ zeroBytes 14),
  (secMatrix, 0xFF, matrix 0)]
/-- A running node. -/
def nodeAs (action : Nat) (f : NodeState → NodeState) : State := { up with power := { up.power with role := 2 }, laneA := laneWith (nodeImg action), node := f { up.node with locked := true, lastRef := some 99 } }
def node : State := nodeAs 0 id
/-- Its staged image changes the nominal rate of network 1. -/
def retiming (alt : Option Nat) (pending : Nat) : State := (nodeAs 0 fun n => { n with pending := pending, altTiming := alt, noRefRun := 1 }).modLane .A fun x => { x with
  image := { x.image with data := imageOf [(secMatrix, 0xFF, matrix 1)] } }
def refFrame : Bytes := leBytes 4 100 ++ bs [0, 0] ++ leBytes 2 0
/-- A command of thruster 1 for a control cycle (Table 13.7), with its check. -/
def command (cycle : Nat) : Bytes :=
  let b := leBytes 2 cycle ++ bs [1, 1] ++ leSigned 2 16384 ++ zeroBytes 8
  b ++ leBytes 2 (crcE2E 0x21 b)
def held (cycle : Nat) : NodeCmd := ⟨cycle, 0, 16384, 0, 0, 0, 0⟩
theorem witness_NodesFollowReferenceAndCommand : nodeRuns up = false ∧ (2 ≤ (2 : Fin 4).val ∧ ([] : Bytes).length ≠ 8) ∧
    (nodeRuns node = true ∧ (0 : Fin 4).val < 2 ∧ refFrame.length = 8 ∧ node.node.pending = 0 ∧ node.node.refThis = false ∧ (nodeAs 0 fun n => { n with refThis := true }).node.refThis = true ∧
      |(220000 : Int) - (colStart (nodeNet node 0) 0 : Int) * 1000| ≤ 20000 ∧ 20000 < |(220001 : Int) - (colStart (nodeNet node 0) 0 : Int) * 1000|) ∧
    (nodeRuns (retiming none 1) = true ∧ dueAt 152 19900 (retiming none 1) ∧ (retiming none 1).node.altTiming = none ∧ (retiming none 1).node.pending ≠ 0 ∧ timingChanges (retiming none 1) = true ∧
      2 ≤ (retiming none 1).node.noRefRun + 1 ∧ (retiming none 0).node.pending = 0 ∧ (retiming (some 0) 1).node.altTiming = some 0 ∧ (retiming (some 1) 1).node.altTiming = some 1) ∧
    (0x300 ≠ nhCmd (nodeNet node 0) + nbThruster (nodeBlock node) ∧ nhCmd (nodeNet node 0) + nbThruster (nodeBlock node) = 0x21 ∧
      (16 ≤ (command 100).length ∧ crcE2E 0x21 (sliceB (command 100) 0 14) = u16 (command 100) 14) ∧ ¬16 ≤ ([] : Bytes).length ∧ node.node.first = none ∧
      (nodeAs 0 fun n => { n with first := some (1, command 100) }).node.first = some (1, command 100) ∧ (1 : Nat) ≠ (0 : Fin 4).val ∧ node.node.cmd = none ∧ node.node.timeout = false ∧
      (nodeAs 0 fun n => { n with cmd := some (held 100) }).node.cmd = some (held 100)) ∧
    (¬(1 ≤ (u16 (command 100) 0 + 65536 - (held 100).cycle) % 65536 ∧ (u16 (command 100) 0 + 65536 - (held 100).cycle) % 65536 ≤ 32767) ∧ u16 (command 100) 0 = (held 100).cycle ∧
      bitOf 0 (u8 (command 100) 2) = true ∧ ¬(1 ≤ (u16 (command 100) 0 + 65536 - (held 101).cycle) % 65536 ∧ (u16 (command 100) 0 + 65536 - (held 101).cycle) % 65536 ≤ 32767) ∧
      u16 (command 100) 0 ≠ (held 101).cycle) ∧
    ((nodeAs 0 fun n => { n with appliedThis := true }).node.appliedThis = true ∧ node.node.appliedThis = false ∧ dueAt 153 15000 node ∧ bitOf (2 - 2) (nbLinks (nodeBlock node)) = true ∧
      (nbDriveXtd (nodeBlock node), nbDriveId (nodeBlock node)) ∉ (netOf .A 2 node).suspended ∧ (netOf .A 2 node).events.length < 16) := by
  unfold dueAt
  refine ⟨?_, ?_, ?_, ?_, ?_, ?_, ?_⟩ <;> decide +kernel
/-- The first network's copy was another one, and was not applied, or was. -/
def twinned (applied : Bool) : State := nodeAs 0 fun n => { n with first := some (1, command 99), appliedThis := applied, cmd := some (held 99) }
theorem witness_NodesFollowReferenceAndCommand_copies : (∀ a, (twinned a).node.first = some (1, command 99) ∧ (1 : Nat) ≠ (0 : Fin 4).val ∧ command 99 ≠ command 100 ∧
    nodeNewer (command 100) (twinned a).node = true ∧ (twinned a).node.appliedThis = a) := by intro a; cases a <;> decide +kernel
/-- The hold of a node has passed, or passes in a microsecond, with an output; a ramp is due. -/
def holding (action refreshed : Nat) (out : ℚ) : State := nodeAs action fun n => { n with refreshed := refreshed, out := out }
def ramping (at_ : Nat) (out : ℚ) : State := nodeAs 0 fun n => { n with ramp := some at_, out := out, timeout := true }
theorem witness_NodesFollowReferenceAndCommand_ramp :
    (∀ a, a = 0 ∨ a = 1 ∨ a = 2 → nodeRuns (holding a 1900000 100) = true ∧ (holding a 1900000 100).node.timeout = false ∧ nbAction (nodeBlock (holding a 1900000 100)) = a ∧
      (holding a 1900000 100).node.refreshed + 1000 * nbHoldMs (nodeBlock (holding a 1900000 100)) ≤ (holding a 1900000 100).time.us) ∧
    (holding 0 1900001 100).time.us < (holding 0 1900001 100).node.refreshed + 1000 * nbHoldMs (nodeBlock (holding 0 1900001 100)) ∧
    (0 < rampUnit (nodeBlock (holding 0 0 100)) ∧ rampUnit (nodeBlock (holding 0 0 100)) < absQ (holding 0 0 100).node.out ∧ absQ (holding 0 0 1).node.out ≤ rampUnit (nodeBlock (holding 0 0 1))) ∧
    ((ramping 2000000 100).node.ramp = some 2000000 ∧ 2000000 ≤ (ramping 2000000 100).time.us ∧ (ramping 2000001 100).time.us < 2000001 ∧ nodeRuns (ramping 2000000 100) = true ∧
      rampUnit (nodeBlock (ramping 2000000 100)) < absQ (rampTarget (ramping 2000000 100).node - (ramping 2000000 100).node.out) ∧
      absQ (rampTarget (ramping 2000000 1).node - (ramping 2000000 1).node.out) ≤ rampUnit (nodeBlock (ramping 2000000 1))) := by
  refine ⟨?_, ?_, ?_, ?_⟩
  case refine_1 => rintro a (rfl | rfl | rfl) <;> decide +kernel
  all_goals decide +kernel

end Sys2Proof.Tests
end

