-- ==== Sys2Proof/Tests/WitnessPower.lean ====
section
/-! SUPPORT. States and operands that meet the hypotheses of the statements about the whole machine, about power, start-up, ageing and boundary scan. -/

set_option Elab.async false

namespace Sys2Proof.Tests

open Sys2Proof Sys2Proof.Machine

theorem witness_StepRunsFrontCommand : ({ up with pending := [.pfailAssert, .svcRead] } : State).pending = .pfailAssert :: [.svcRead] := by decide +kernel
theorem witness_IdleStepPassesOneTick : State.reset.pending = [] ∧ State.reset.power.booted = false ∧
    ((atTickOf 19998 up).pending = [] ∧ (atTickOf 19998 up).power.booted = true ∧ (atTickOf 19998 up).time.tick < 19999) ∧
    ((atTickOf 19999 up).pending = [] ∧ (atTickOf 19999 up).power.booted = true ∧ 19999 ≤ (atTickOf 19999 up).time.tick) := by
  and_intros <;> decide +kernel
theorem witness_StepKeepsMemoryCanonical : ({ up with pending := [.pfailAssert] } : State).memWf = true ∧ ∃ t, step { up with pending := [.pfailAssert] } = .next t :=
  ⟨by decide +kernel, _, rfl⟩
theorem witness_OnlyNamedCommandsWriteMemory : writesMemory .pfailAssert = false ∧ writesMemory (.scrubAccess (some .A) 2 0 (.bad 1) 0 0 true) = false := by decide +kernel
theorem witness_ExtestHoldsThePins : (∀ op, Instr.svcRead ≠ .boundaryScan op) ∧ ({ up with jtag := { extest := true } } : State).jtag.extest = true :=
  ⟨nofun, rfl⟩
/-- What a board with straps for module 2 in the controller role presents. -/
def straps (mv : Nat) : PowerOn := ⟨0, 2, false, 1, mv, #v[(3, 1), (3, 1)]⟩
theorem witness_RoleFixedUntilPowerOnReset : (State.reset.power.booted = false ∧ 8000 ≤ (straps 8000).vholdMv) ∧
    ((∀ on, Instr.powerOnReset (straps 8000) = .powerOnReset on → up.power.booted = true) ∧ Instr.powerOnReset (straps 8000) ≠ .pfailDeassert ∧
      Instr.powerOnReset (straps 8000) ≠ .vholdLoss) ∧
    ((∀ on, Instr.cycleBoundary = .powerOnReset on → up.power.booted = true) ∧ Instr.cycleBoundary ≠ .pfailDeassert ∧ Instr.cycleBoundary ≠ .vholdLoss) :=
  ⟨⟨rfl, by decide⟩, ⟨fun _ _ => rfl, nofun, nofun⟩, ⟨nofun, nofun, nofun⟩⟩
/-- A module whose PFAIL_N is asserted, with both sequences complete or not. -/
def failing (done : Bool) : State := { up with power := { up.power with pfail := true, holdup := true }, keep := { up.keep with pfail := true, pfDone := done }, lantern := { up.lantern with st := 5, pfDone := done } }
theorem witness_Domain0StaysOn : (up.power.booted = true ∧ (up.power.pfail = true → Instr.vholdLoss ≠ .pfailDeassert ∧ Instr.vholdLoss ≠ .vholdLoss)) ∧
    ((failing true).power.booted = true ∧ ((failing true).power.pfail = true → Instr.cycleBoundary ≠ .pfailDeassert ∧ Instr.cycleBoundary ≠ .vholdLoss)) :=
  ⟨⟨rfl, nofun⟩, ⟨rfl, fun _ => ⟨nofun, nofun⟩⟩⟩
theorem witness_PowerOnResetStartsDomain0 : State.reset.power.booted = false ∧ (straps 7999).vholdMv < 8000 ∧ 8000 ≤ (straps 8000).vholdMv := by decide +kernel
theorem witness_PowerFailureIsTakenOnce : (up.power.booted = true ∧ up.power.pfail = false) ∧ ((failing false).power.booted = true ∧ (failing false).power.pfail = true) := by
  decide +kernel
theorem witness_ResetAfterPowerFailure : ((failing true).power.booted = true ∧ (failing true).power.pfail = true) ∧ up.power.pfail = false ∧
    ((failing true).keep.pfDone = true ∧ (failing true).lantern.pfDone = true) ∧ (failing false).keep.pfDone = false := by decide +kernel
/-- Domains 4 and 9 of Lane A wait, and domain 5 wakes since the window of now: 0.7 A of VDD_LA. -/
def waking : State := { up with power := { up.power with on := Vector.replicate 16 false, waiting := [⟨4, false⟩, ⟨9, false⟩], waking := [⟨5, 20000⟩] } }
theorem witness_InrushBudgetHolds : waking.power.booted = true ∧ ∀ rail w, railLoad rail w waking.power.waking ≤ 15 := by
  refine ⟨rfl, fun rail w => ?_⟩
  simp only [waking, railLoad, inrushOf, List.map_cons, List.map_nil, List.sum_cons, List.sum_nil]
  split <;> omega
theorem witness_WakeTakesItsTime : waking.power.booted = true ∧ waking.power.waking.find? (·.dom == 4) = none ∧
    (waking.power.waking.find? (·.dom == 5) = some ⟨5, 20000⟩ ∧ inrushOf 5 = some (0, 7, 2, 5) ∧
      ({ waking with time := { waking.time with us := 2000200 } } : State).power.booted = true ∧ (20000 + 2) * 100 ≤ ({ waking with time := { waking.time with us := 2000200 } } : State).time.us) := by
  decide +kernel
theorem witness_DieTripsAt135 : up.power.booted = true ∧ ((134 : Int) < 135 ∧ (135 : Int) ≤ 135 ∧ (3 : Fin 4) = 3) ∧ up.power.laneOn .A = true ∧ ((115 : Int) ≤ 115 ∧ (114 : Int) < 115 ∧ (2 : Fin 4) ≠ 3) := by
  decide +kernel
theorem witness_LossOfSupplyOrClock : (up.power.laneOn .B = true ∧ vget up.power.lost LaneId.B.num = false ∧ compared (up.arb.lane .B) = true ∧ up.isNode = false) ∧
    (up.laneRuns .A = true ∧ up.islandRuns .A (8 : Fin 9).val = true ∧ up.islandRuns .A (0 : Fin 9).val = true) := by decide +kernel
/-- The Sky die has no power, nor has domain 7 of Lane A. -/
def partly : State := { up with power := { up.power with on := (Vector.replicate 16 true).set 3 false |>.set 7 false } }
theorem witness_InputAndChainFaults : (up.laneRuns .A && up.islandRuns .A 4) = true ∧ (partly.laneRuns .A && partly.islandRuns .A 4) = false ∧ up.power.skyOn = true ∧ partly.power.skyOn = false := by
  decide +kernel
/-- The margins of Lane A are measured; island 2 is at a bias step and last changed at a cycle. -/
def aged (d : ℚ) (step : Nat) (last : Option Nat) : State := atTickOf 19950 (up.modLane .A fun x => { x with pmu := { x.pmu with measured := 1, certExhausted := true, age := x.pmu.age.set 2 ⟨d, step, last⟩ } })
theorem witness_AgeingAndBodyBias : up.laneRuns .A = true ∧
    ((aged 0 1 none).laneRuns .A = true ∧ (aged 0 1 none).islandRuns .A (2 : Fin 9).val = true ∧ (aged 0 1 none).time.tick ≤ 19950 ∧ laneCodeOf (90 + (2 : Fin 9).val) .A ∉ (aged 0 1 none).time.ran) ∧
    ¬(0 < (up.lane .A).pmu.measured) ∧
    (0 < ((aged 0 1 (some 50)).lane .A).pmu.measured ∧ (∀ c, (some 50 : Option Nat) = some c → c + 50 ≤ (aged 0 1 (some 50)).time.cycle) ∧
      5 / 100 ≤ margin 0 2 0 1 ∧ 0 < 1 ∧ 7 / 100 ≤ margin 0 2 0 (1 - 1)) ∧
    (margin 1000000 2 0 11 < 5 / 100 ∧ 11 < 12) ∧ ((aged 0 1 none).laneRuns .A = true ∧ ((aged 0 1 none).lane .A).pmu.certExhausted = true) := by
  and_intros <;> first | (intro c h; cases h; decide +kernel) | decide +kernel
/-- Lane A has passed its self-test and is in step; its tiers have margin or none; the first boundary of a long cycle. -/
def starting (tiers : Nat) : State := { up with arb := { lanes := #v[{ state := 2 }, {}] }, power := { up.power with starts := #v[{ tested := true, steered := 50 }, {}] } }.modLane .A fun x =>
  { x with pmu := { x.pmu with measured := 1, age := Vector.replicate 9 ⟨if tiers = 0 then 1000000 else 0, 0, none⟩ } }
theorem witness_FirstLaneReadyBecomesActive :
    ((starting 1).power.booted = true ∧ (starting 1).isController = true ∧ (starting 1).phase = 0 ∧ (starting 1).time.tick = 0 ∧ startReady (starting 1) .A = true ∧
      otherFirst (starting 1) .A = false ∧ (starting 1).activeLane = none ∧ laneRunning (starting 1) = false ∧ (starting 1).laneImg .A = some img ∧
      entryTier false 0 (marginMask ((starting 1).lane .A).pmu) img = some 0) ∧
    (startReady (starting 0) .A = true ∧ otherFirst (starting 0) .A = false ∧ (starting 0).activeLane = none ∧ laneRunning (starting 0) = false ∧
      entryTier false 0 (marginMask ((starting 0).lane .A).pmu) img = none) ∧
    (up.phase ≠ 0 ∨ up.time.tick ≠ 0 ∨ startReady up .A = false) ∧ ({ up with belfry := { originSet := true } } : State).belfry.originSet = true ∧ partly.power.skyOn = false ∧
    (up.power.skyOn = true ∧ up.belfry.originSet = false ∧ waitOver 2000000 ({ up with time := { up.time with us := 1000000000 } }) = true) := by
  and_intros <;> decide +kernel
theorem witness_BoundaryScanMovesTheChain : up.jtag.extest = false ∧ ({ up with jtag := { extest := true } } : State).jtag.extest = true := by decide +kernel

end Sys2Proof.Tests
end

