-- ==== Sys2Proof/Tests/WitnessRows.lean ====
section
/-! SUPPORT. Packets and states that meet the hypotheses of the statements about host commands, one for every row. -/

set_option Elab.async false

namespace Sys2Proof.Tests

open Sys2Proof Sys2Proof.Machine

/-! Every row of a host command, served with operands at a boundary of their range. -/

/-- The row serves a boundary setting that its table accepts; the like for reads, lane actions, and Watchtower actions of a host channel and of the service port. -/
def SettingMet (c : HostPort → Instr) (op : Nat) (d : Bytes) (s : State) : Prop :=
  Alone 0 (c (.chan 0)) (cmd op d) (heads (cmd op d) s) ∧ (heads (cmd op d) s).host.cmds < 96 ∧ settingOk 0 (cmd op d) (heads (cmd op d) s)
def ReadMet (c : HostPort → Instr) (op : Nat) (d : Bytes) (s : State) : Prop :=
  Alone 0 (c (.chan 0)) (cmd op d) (heads (cmd op d) s) ∧ readOk 0 (cmd op d) (heads (cmd op d) s)
def ActionMet (c : HostPort → Instr) (op : Nat) (d : Bytes) (s : State) : Prop :=
  Alone 0 (c (.chan 0)) (cmd op d) (heads (cmd op d) s) ∧ (heads (cmd op d) s).host.cmds < 96 ∧
    (∀ j : Fin 4, (heads (cmd op d) s).host.chans[j].notes.length + ((heads (cmd op d) s).lane .A).alarms.length + ((heads (cmd op d) s).lane .B).alarms.length < 1023) ∧
    actionOk 0 (cmd op d) (heads (cmd op d) s)
def WatchtowerMet (c : HostPort → Instr) (op : Nat) (d : Bytes) (s : State) : Prop :=
  Alone 0 (c (.chan 0)) (cmd op d) (heads (cmd op d) s) ∧ (heads (cmd op d) s).host.cmds < 96 ∧
    (∀ j : Fin 4, (heads (cmd op d) s).host.chans[j].notes.length + (heads (cmd op d) s).safety.proofs.length < 1023) ∧
    (heads (cmd op d) s).host.recorded 7 0 1 = none ∧ wtOk (cmd op d) (heads (cmd op d) s)
def ServiceMet (c : HostPort → Instr) (op : Nat) (d : Bytes) (s : State) : Prop :=
  hostRow (c .svc) = some (.svc, op) ∧ Served .svc op { cmd op d with port := none } (svcHeads { cmd op d with port := none } s) ∧
    wtOk { cmd op d with port := none } (svcHeads { cmd op d with port := none } s)
theorem opcode_is (op : Nat) (d : Bytes) (h : (decide (op < 65536)) = true) : (cmd op d).opcode = op := by
  have h' : op < 65536 := by simpa using h
  simp [cmd, cmdWith, Packet.opcode, u16, u8, leBytes, bs]
  omega
/-- Lane A holds a staged image of 64 bytes loaded by station 7, in a state, with or without a gap. -/
def imageAt (staged : Nat) (gap : Bool) : State := alone.modLane .A fun x => { x with image := { x.image with staged := staged, size := 64, gen := 5, loader := 7, data := hostImg, gaps := if gap then [(0, 64)] else [] } }
/-- Network 4 of Lane A is running. -/
def netUp : State := alone.modLane .A fun x => { x with bus := { x.bus with nets := x.bus.nets.set 3 { x.bus.nets[3] with state := 2 } } }
/-- Lane B may not wake again; a block is active, another pending and shown, COMMISSION_EN asserted for long. -/
def limited : State := withArb .B (fun _ => { limited := true }) alone
def confirmable : State := alone.modSafety fun x => { x with
  state := 2, active := some block, pending := some soundBlock, displayed := true, a := { x.a with commission := some 0 }, b := { x.b with commission := some 0 } }


theorem witness_SettingsAreJournalledThenStaged :
    SettingMet .modeSet 0x0201 (zeroBytes 4) alone ∧
    SettingMet .spPosition 0x0301 (leSigned 4 (20000 * 65536) ++ leSigned 4 (-20000 * 65536)) alone ∧
    SettingMet .spHeading 0x0302 (leSigned 4 (360 * 65536 - 1)) alone ∧
    SettingMet .spSiteOrigin 0x0303 (leSigned 8 (-85000000000) ++ leSigned 8 179999999999) alone ∧
    SettingMet .spTrack 0x0304 (bs [2, 0, 0, 0] ++ leBytes 4 131072 ++ zeroBytes 16) alone ∧
    SettingMet .spTargetOffset 0x0305 (leSigned 4 (10000 * 65536) ++ zeroBytes 4) alone ∧
    SettingMet .spJoystick 0x0306 (bs [1, 2, 3, 4, 5, 6, 0, 0]) alone ∧
    SettingMet .channelSelect 0x0402 (bs [0, 0, 1, 0]) alone ∧
    SettingMet .gnssSelect 0x0403 (bs [5, 1, 0, 0]) alone ∧
    SettingMet .thrAvailable 0x0501 (bs [1, 1, 0, 0]) alone ∧
    SettingMet .thrStart 0x0502 (bs [1, 0, 0, 0]) alone ∧
    SettingMet .thrStop 0x0503 (bs [1, 0, 0, 0]) alone ∧
    SettingMet .tierFloor 0x0607 (bs [3, 0, 0, 0]) alone ∧
    SettingMet .gainWrite 0x0C01 (bs [0, 23, 0, 0] ++ leBytes 4 3000) alone ∧
    SettingMet .gainRevert 0x0C02 ([]) alone := by
  refine ⟨?_, ?_, ?_, ?_, ?_, ?_, ?_, ?_, ?_, ?_, ?_, ?_, ?_, ?_, ?_⟩
  · exact ⟨alone_of _ _ _ (by decide +kernel), by decide +kernel, by simp only [settingOk, opcode_is 0x0201 _ rfl]; decide +kernel⟩
  · exact ⟨alone_of _ _ _ (by decide +kernel), by decide +kernel, by simp only [settingOk, opcode_is 0x0301 _ rfl]; decide +kernel⟩
  · exact ⟨alone_of _ _ _ (by decide +kernel), by decide +kernel, by simp only [settingOk, opcode_is 0x0302 _ rfl]; decide +kernel⟩
  · exact ⟨alone_of _ _ _ (by decide +kernel), by decide +kernel, by simp only [settingOk, opcode_is 0x0303 _ rfl]; decide +kernel⟩
  · exact ⟨alone_of _ _ _ (by decide +kernel), by decide +kernel, by simp only [settingOk, opcode_is 0x0304 _ rfl]; decide +kernel⟩
  · exact ⟨alone_of _ _ _ (by decide +kernel), by decide +kernel, by simp only [settingOk, opcode_is 0x0305 _ rfl]; decide +kernel⟩
  · exact ⟨alone_of _ _ _ (by decide +kernel), by decide +kernel, by simp only [settingOk, opcode_is 0x0306 _ rfl]; decide +kernel⟩
  · exact ⟨alone_of _ _ _ (by decide +kernel), by decide +kernel, by simp only [settingOk, opcode_is 0x0402 _ rfl]; decide +kernel⟩
  · exact ⟨alone_of _ _ _ (by decide +kernel), by decide +kernel, by simp only [settingOk, opcode_is 0x0403 _ rfl]; decide +kernel⟩
  · exact ⟨alone_of _ _ _ (by decide +kernel), by decide +kernel, by simp only [settingOk, opcode_is 0x0501 _ rfl]; decide +kernel⟩
  · exact ⟨alone_of _ _ _ (by decide +kernel), by decide +kernel, by simp only [settingOk, opcode_is 0x0502 _ rfl]; decide +kernel⟩
  · exact ⟨alone_of _ _ _ (by decide +kernel), by decide +kernel, by simp only [settingOk, opcode_is 0x0503 _ rfl]; decide +kernel⟩
  · exact ⟨alone_of _ _ _ (by decide +kernel), by decide +kernel, by simp only [settingOk, opcode_is 0x0607 _ rfl]; decide +kernel⟩
  · exact ⟨alone_of _ _ _ (by decide +kernel), by decide +kernel, by simp only [settingOk, opcode_is 0x0C01 _ rfl]; decide +kernel⟩
  · exact ⟨alone_of _ _ _ (by decide +kernel), by decide +kernel, by simp only [settingOk, opcode_is 0x0C02 _ rfl]; decide +kernel⟩

theorem witness_ReadsAnswerWhatTheStateHolds :
    ReadMet .channelStatus 0x0107 ([]) alone ∧
    ReadMet .modeStatus 0x0202 ([]) alone ∧
    ReadMet .spRead 0x0307 ([]) alone ∧
    ReadMet .conseqRead 0x0505 ([]) alone ∧
    ReadMet .imageStatus 0x0606 ([]) alone ∧
    ReadMet .healthRead 0x0801 ([]) alone ∧
    ReadMet .timeRead 0x0809 ([]) alone ∧
    ReadMet .refRead 0x0405 (bs [31, 0, 0, 0]) alone ∧
    ReadMet .channelRead 0x0406 (bs [255, 0, 0, 0]) alone ∧
    ReadMet .allocRead 0x0504 (bs [16, 1, 0, 0]) alone ∧
    ReadMet .regRead 0x0803 (leBytes 8 0x04000000 ++ leBytes 2 1 ++ zeroBytes 2) alone ∧
    ReadMet .gnssRawRead 0x0808 (bs [0xFF, 0, 1, 0]) alone ∧
    ReadMet .alarmList 0x080B (zeroBytes 4) alone ∧
    ReadMet .cntRead 0x0A02 (bs [0, 64, 0, 0]) alone ∧
    ReadMet .bwRead 0x0A04 (bs [18, 0, 0, 0]) alone ∧
    ReadMet .gainRead 0x0C03 (bs [0, 0, 0, 0]) alone := by
  refine ⟨?_, ?_, ?_, ?_, ?_, ?_, ?_, ?_, ?_, ?_, ?_, ?_, ?_, ?_, ?_, ?_⟩
  · exact ⟨alone_of _ _ _ (by decide +kernel), by simp only [readOk, opcode_is 0x0107 _ rfl]⟩
  · exact ⟨alone_of _ _ _ (by decide +kernel), by simp only [readOk, opcode_is 0x0202 _ rfl]⟩
  · exact ⟨alone_of _ _ _ (by decide +kernel), by simp only [readOk, opcode_is 0x0307 _ rfl]⟩
  · exact ⟨alone_of _ _ _ (by decide +kernel), by simp only [readOk, opcode_is 0x0505 _ rfl]⟩
  · exact ⟨alone_of _ _ _ (by decide +kernel), by simp only [readOk, opcode_is 0x0606 _ rfl]⟩
  · exact ⟨alone_of _ _ _ (by decide +kernel), by simp only [readOk, opcode_is 0x0801 _ rfl]⟩
  · exact ⟨alone_of _ _ _ (by decide +kernel), by simp only [readOk, opcode_is 0x0809 _ rfl]⟩
  · exact ⟨alone_of _ _ _ (by decide +kernel), by simp only [readOk, opcode_is 0x0405 _ rfl]; decide +kernel⟩
  · exact ⟨alone_of _ _ _ (by decide +kernel), by simp only [readOk, opcode_is 0x0406 _ rfl]; decide +kernel⟩
  · exact ⟨alone_of _ _ _ (by decide +kernel), by simp only [readOk, opcode_is 0x0504 _ rfl]; decide +kernel⟩
  · exact ⟨alone_of _ _ _ (by decide +kernel), by simp only [readOk, opcode_is 0x0803 _ rfl]; decide +kernel⟩
  · exact ⟨alone_of _ _ _ (by decide +kernel), by simp only [readOk, opcode_is 0x0808 _ rfl]; decide +kernel⟩
  · exact ⟨alone_of _ _ _ (by decide +kernel), by simp only [readOk, opcode_is 0x080B _ rfl]; decide +kernel⟩
  · exact ⟨alone_of _ _ _ (by decide +kernel), by simp only [readOk, opcode_is 0x0A02 _ rfl]; decide +kernel⟩
  · exact ⟨alone_of _ _ _ (by decide +kernel), by simp only [readOk, opcode_is 0x0A04 _ rfl]; decide +kernel⟩
  · exact ⟨alone_of _ _ _ (by decide +kernel), by simp only [readOk, opcode_is 0x0C03 _ rfl]; decide +kernel⟩

theorem witness_LaneActionsAreExecutedOnce :
    ActionMet .gnssNoiseRef 0x0404 (bs [15, 1, 0, 0]) alone ∧
    ActionMet .imageBegin 0x0601 (leBytes 4 0x600000 ++ leBytes 4 1) alone ∧
    ActionMet .imageData 0x0602 (leBytes 4 63 ++ bs [9]) (imageAt 1 true) ∧
    ActionMet .imageVerify 0x0603 ([]) (imageAt 1 false) ∧
    ActionMet .imageCommit 0x0604 (zeroBytes 4) (imageAt 3 false) ∧
    ActionMet .netTest 0x0804 (bs [3, 0, 0, 0]) alone ∧
    ActionMet .netRestart 0x0805 (bs [3, 0, 0, 0]) netUp ∧
    ActionMet .idClear 0x0806 (bs [3, 2, 0, 0, 0, 0, 0, 0]) alone ∧
    ActionMet .alarmAck 0x080A (bs [0xFF, 0xFF, 0, 0]) alone ∧
    ActionMet .cntConfig 0x0A01 (bs [56, 0, 0, 0] ++ leBytes 4 (2 ^ 31 + 0x0103)) alone ∧
    ActionMet .cntClear 0x0A03 (leBytes 8 (2 ^ 64 - 1)) alone := by
  refine ⟨?_, ?_, ?_, ?_, ?_, ?_, ?_, ?_, ?_, ?_, ?_⟩
  · exact ⟨alone_of _ _ _ (by decide +kernel), by decide +kernel, by decide +kernel, by simp only [actionOk, opcode_is 0x0404 _ rfl]; decide +kernel⟩
  · exact ⟨alone_of _ _ _ (by decide +kernel), by decide +kernel, by decide +kernel, by simp only [actionOk, opcode_is 0x0601 _ rfl]; decide +kernel⟩
  · exact ⟨alone_of _ _ _ (by decide +kernel), by decide +kernel, by decide +kernel, by simp only [actionOk, opcode_is 0x0602 _ rfl]; decide +kernel⟩
  · exact ⟨alone_of _ _ _ (by decide +kernel), by decide +kernel, by decide +kernel, by simp only [actionOk, opcode_is 0x0603 _ rfl]; decide +kernel⟩
  · exact ⟨alone_of _ _ _ (by decide +kernel), by decide +kernel, by decide +kernel, by simp only [actionOk, opcode_is 0x0604 _ rfl]; decide +kernel⟩
  · exact ⟨alone_of _ _ _ (by decide +kernel), by decide +kernel, by decide +kernel, by simp only [actionOk, opcode_is 0x0804 _ rfl]; decide +kernel⟩
  · exact ⟨alone_of _ _ _ (by decide +kernel), by decide +kernel, by decide +kernel, by simp only [actionOk, opcode_is 0x0805 _ rfl]; decide +kernel⟩
  · exact ⟨alone_of _ _ _ (by decide +kernel), by decide +kernel, by decide +kernel, by simp only [actionOk, opcode_is 0x0806 _ rfl]; decide +kernel⟩
  · exact ⟨alone_of _ _ _ (by decide +kernel), by decide +kernel, by decide +kernel, by simp only [actionOk, opcode_is 0x080A _ rfl]; decide +kernel⟩
  · exact ⟨alone_of _ _ _ (by decide +kernel), by decide +kernel, by decide +kernel, by simp only [actionOk, opcode_is 0x0A01 _ rfl]; decide +kernel⟩
  · exact ⟨alone_of _ _ _ (by decide +kernel), by decide +kernel, by decide +kernel, by simp only [actionOk, opcode_is 0x0A03 _ rfl]; decide +kernel⟩

theorem witness_WatchtowerActionsAreDoneOnce :
    WatchtowerMet .keepInfo 0x0701 ([]) alone ∧
    WatchtowerMet .keepRead 0x0702 (zeroBytes 8 ++ leBytes 2 64) alone ∧
    WatchtowerMet .keepMark 0x0703 (bs [1]) alone ∧
    WatchtowerMet .arbRead 0x0802 ([]) alone ∧
    WatchtowerMet .laneRestart 0x0807 (bs [1, 0, 0, 0]) limited ∧
    WatchtowerMet .safetyStatus 0x0901 ([]) alone ∧
    WatchtowerMet .safetyBlockLoad 0x0902 (soundBlock) alone ∧
    WatchtowerMet .safetyBlockRead 0x0903 (bs [1, 0, 0, 0]) confirmable := by
  refine ⟨?_, ?_, ?_, ?_, ?_, ?_, ?_, ?_⟩
  · exact ⟨alone_of _ _ _ (by decide +kernel), by decide +kernel, by decide +kernel, by decide +kernel, by simp only [wtOk, opcode_is 0x0701 _ rfl]⟩
  · exact ⟨alone_of _ _ _ (by decide +kernel), by decide +kernel, by decide +kernel, by decide +kernel, by simp only [wtOk, opcode_is 0x0702 _ rfl]; decide +kernel⟩
  · exact ⟨alone_of _ _ _ (by decide +kernel), by decide +kernel, by decide +kernel, by decide +kernel, by simp only [wtOk, opcode_is 0x0703 _ rfl]⟩
  · exact ⟨alone_of _ _ _ (by decide +kernel), by decide +kernel, by decide +kernel, by decide +kernel, by simp only [wtOk, opcode_is 0x0802 _ rfl]⟩
  · exact ⟨alone_of _ _ _ (by decide +kernel), by decide +kernel, by decide +kernel, by decide +kernel, by simp only [wtOk, opcode_is 0x0807 _ rfl]; decide +kernel⟩
  · exact ⟨alone_of _ _ _ (by decide +kernel), by decide +kernel, by decide +kernel, by decide +kernel, by simp only [wtOk, opcode_is 0x0901 _ rfl]⟩
  · exact ⟨alone_of _ _ _ (by decide +kernel), by decide +kernel, by decide +kernel, by decide +kernel, by simp only [wtOk, opcode_is 0x0902 _ rfl, show (cmd 0x0902 soundBlock).params = soundBlock from by decide +kernel]; exact ⟨by decide +kernel, check_block⟩⟩
  · exact ⟨alone_of _ _ _ (by decide +kernel), by decide +kernel, by decide +kernel, by decide +kernel, by simp only [wtOk, opcode_is 0x0903 _ rfl]; decide +kernel⟩

theorem witness_WatchtowerActionsAreDoneOnce_pending :
    WatchtowerMet .safetyConfirm 0x0904 (leBytes 4 0x2bf6e078) confirmable ∧
    WatchtowerMet .safetyZoneRequest 0x0905 (bs [1, 0, 0, 0]) confirmable ∧
    WatchtowerMet .safetyProofTest 0x0906 (bs [16, 3, 0, 0]) confirmable ∧
    WatchtowerMet .ltnStatus 0x0B01 ([]) alone ∧
    WatchtowerMet .ltnShow 0x0B02 (bs [0, 0, 0, 0]) alone ∧
    WatchtowerMet .ltnClear 0x0B03 ([]) alone ∧
    WatchtowerMet .ltnPower 0x0B04 (bs [1, 0, 0, 0]) alone := by
  refine ⟨?_, ?_, ?_, ?_, ?_, ?_, ?_⟩
  · exact ⟨alone_of _ _ _ (by decide +kernel), by decide +kernel, by decide +kernel, by decide +kernel, by simp only [wtOk, opcode_is 0x0904 _ rfl]; exact ⟨soundBlock, rfl, by decide +kernel, by decide +kernel, by rw [← check_block]; decide +kernel, by decide +kernel⟩⟩
  · exact ⟨alone_of _ _ _ (by decide +kernel), by decide +kernel, by decide +kernel, by decide +kernel, by simp only [wtOk, opcode_is 0x0905 _ rfl]; decide +kernel⟩
  · exact ⟨alone_of _ _ _ (by decide +kernel), by decide +kernel, by decide +kernel, by decide +kernel, by simp only [wtOk, opcode_is 0x0906 _ rfl]; decide +kernel⟩
  · exact ⟨alone_of _ _ _ (by decide +kernel), by decide +kernel, by decide +kernel, by decide +kernel, by simp only [wtOk, opcode_is 0x0B01 _ rfl]⟩
  · exact ⟨alone_of _ _ _ (by decide +kernel), by decide +kernel, by decide +kernel, by decide +kernel, by simp only [wtOk, opcode_is 0x0B02 _ rfl]; decide +kernel⟩
  · exact ⟨alone_of _ _ _ (by decide +kernel), by decide +kernel, by decide +kernel, by decide +kernel, by simp only [wtOk, opcode_is 0x0B03 _ rfl]⟩
  · exact ⟨alone_of _ _ _ (by decide +kernel), by decide +kernel, by decide +kernel, by decide +kernel, by simp only [wtOk, opcode_is 0x0B04 _ rfl]; decide +kernel⟩

theorem witness_WatchtowerActionsAreDoneOnce_service :
    ServiceMet .keepInfo 0x0701 ([]) alone ∧
    ServiceMet .keepRead 0x0702 (zeroBytes 8 ++ leBytes 2 64) alone ∧
    ServiceMet .arbRead 0x0802 ([]) alone ∧
    ServiceMet .safetyStatus 0x0901 ([]) alone ∧
    ServiceMet .safetyBlockRead 0x0903 (bs [1, 0, 0, 0]) confirmable ∧
    ServiceMet .ltnStatus 0x0B01 ([]) alone ∧
    ServiceMet .ltnShow 0x0B02 (bs [0, 0, 0, 0]) alone ∧
    ServiceMet .ltnClear 0x0B03 ([]) alone ∧
    ServiceMet .ltnPower 0x0B04 (bs [1, 0, 0, 0]) alone ∧
    ServiceMet .regRead 0x0803 (leBytes 8 0xBFFFC ++ leBytes 2 1 ++ zeroBytes 2) alone := by
  refine ⟨?_, ?_, ?_, ?_, ?_, ?_, ?_, ?_, ?_, ?_⟩
  · exact ⟨by decide +kernel, served_of .svc { cmd 0x0701 _ with port := none } _ (by decide +kernel), by simp only [wtOk, show Packet.opcode { cmd 0x0701 ([]) with port := none } = 0x0701 from by decide +kernel]⟩
  · exact ⟨by decide +kernel, served_of .svc { cmd 0x0702 _ with port := none } _ (by decide +kernel), by simp only [wtOk, show Packet.opcode { cmd 0x0702 (zeroBytes 8 ++ leBytes 2 64) with port := none } = 0x0702 from by decide +kernel]; decide +kernel⟩
  · exact ⟨by decide +kernel, served_of .svc { cmd 0x0802 _ with port := none } _ (by decide +kernel), by simp only [wtOk, show Packet.opcode { cmd 0x0802 ([]) with port := none } = 0x0802 from by decide +kernel]⟩
  · exact ⟨by decide +kernel, served_of .svc { cmd 0x0901 _ with port := none } _ (by decide +kernel), by simp only [wtOk, show Packet.opcode { cmd 0x0901 ([]) with port := none } = 0x0901 from by decide +kernel]⟩
  · exact ⟨by decide +kernel, served_of .svc { cmd 0x0903 _ with port := none } _ (by decide +kernel), by simp only [wtOk, show Packet.opcode { cmd 0x0903 (bs [1, 0, 0, 0]) with port := none } = 0x0903 from by decide +kernel]; decide +kernel⟩
  · exact ⟨by decide +kernel, served_of .svc { cmd 0x0B01 _ with port := none } _ (by decide +kernel), by simp only [wtOk, show Packet.opcode { cmd 0x0B01 ([]) with port := none } = 0x0B01 from by decide +kernel]⟩
  · exact ⟨by decide +kernel, served_of .svc { cmd 0x0B02 _ with port := none } _ (by decide +kernel), by simp only [wtOk, show Packet.opcode { cmd 0x0B02 (bs [0, 0, 0, 0]) with port := none } = 0x0B02 from by decide +kernel]; decide +kernel⟩
  · exact ⟨by decide +kernel, served_of .svc { cmd 0x0B03 _ with port := none } _ (by decide +kernel), by simp only [wtOk, show Packet.opcode { cmd 0x0B03 ([]) with port := none } = 0x0B03 from by decide +kernel]⟩
  · exact ⟨by decide +kernel, served_of .svc { cmd 0x0B04 _ with port := none } _ (by decide +kernel), by simp only [wtOk, show Packet.opcode { cmd 0x0B04 (bs [1, 0, 0, 0]) with port := none } = 0x0B04 from by decide +kernel]; decide +kernel⟩
  · exact ⟨by decide +kernel, served_of .svc { cmd 0x0803 _ with port := none } _ (by decide +kernel), by simp only [wtOk, show Packet.opcode { cmd 0x0803 (leBytes 8 0xBFFFC ++ leBytes 2 1 ++ zeroBytes 2) with port := none } = 0x0803 from by decide +kernel]; decide +kernel⟩

end Sys2Proof.Tests
end

