-- ==== Sys2Proof/Tests/WitnessSky.lean ====
section
/-! SUPPORT. States and operands that meet the hypotheses of the statements about the Sky die: Oculus and Belfry. -/

set_option Elab.async false

namespace Sys2Proof.Tests

open Sys2Proof Sys2Proof.Machine

/-! Oculus. -/

/-- An image whose corrections come over UDP, whose channel 0 carries the record of SOURCE 5, whose ETH_LA_0 is a PTP slave and ETH_LA_1 a master. -/
def skyImg : Bytes := imageOf [(secOculus, 0xFF, bs [0, 0, 1, 15] ++ zeroBytes 44 ++ bs [17] ++ zeroBytes 79), (secTime, 0xFF, bs [0, 0, 7, 1] ++ zeroBytes 32 ++ bs [2, 1] ++ zeroBytes 26),
  (secChannels, 0xFF, zeroBytes 576 ++ bs [11, 5, 5] ++ zeroBytes 61)]
def sky : State := { up with laneA := laneWith skyImg, laneB := laneWith skyImg }
def record5 : OcuRecord := ⟨5, Vector.replicate 8 9, 2000000000⟩
def recorded (fault : Bool) : State := { sky with oculus := { sky.oculus with toA := [record5], antDesel := #v[true, false] }, laneA := { sky.laneA with skyFault := fault } }
/-- Lane A's Cupola has a position and an origin. -/
def aiding (fault : Bool) : State := { sky with laneA := { sky.laneA with skyFault := fault, cupola := { sky.laneA.cupola with aid := some (Vector.replicate 2 {}), origin := some (0, 0) } } }
/-- An RTCM frame with a message of a number and a right CRC, or a wrong one. -/
def rtcm (n wrong : Nat) : Bytes :=
  let b := bs [0xD3, 0, 2, n / 16, n % 16 * 16]
  let c := crc24q b + wrong
  b ++ bs [c / 65536, c / 256 % 256, c % 256]
def knowing : State := { sky with oculus := { sky.oculus with rtcmSeen := [(8, crc24q (bs [0xD3, 0, 2, 62, 208]), 1000000)] } }
/-- A spectral monitor's period at a power; a GNSS_NOISE_REF waits since an instant. -/
def monitor (power : ℚ) : MonitorObs := ⟨[], power⟩
def noise (us : Nat) : State := { sky with host := { sky.host with noiseWait := [(.chan 0, 3, 0, us)] } }
theorem witness_OculusMeasuresAndReports :
    (epochDue sky = true ∧ dueAt 132 0 sky ∧ 0 ∉ (default : EpochObs).late ∧ (recorded false).oculus.antDesel[0] = true) ∧ epochDue State.reset = false ∧ skyQueue .A sky.oculus = [] ∧
    (skyQueue .A (recorded true).oculus = [record5] ∧ ((recorded true).lane .A).skyFault = true) ∧
    (skyQueue .A (recorded false).oculus = [record5] ∧ ingestRuns (recorded false) .A = true ∧ ((recorded false).lane .A).skyFault = false ∧ recordChannel (recorded false) .A 5 = some 0 ∧
      (recorded false).time.cycle * 20000 + (recorded false).time.tick ≤ (recordUpdate (recorded false) .A 0 record5).releaseUs) ∧
    (pathRuns State.reset .A = false ∧ 19900 ≤ (atTickOf 19900 sky).time.tick) ∧
    (pathRuns (atTickOf 19899 sky) .A = true ∧ (atTickOf 19899 sky).time.tick < 19900 ∧ dueAt (laneCodeOf 66 .A) (atTickOf 19899 sky).time.tick (atTickOf 19899 sky) ∧ (sky.lane .A).cupola.aid = none) ∧
    (pathRuns (aiding false) .A = true ∧ ((aiding false).lane .A).cupola.aid.isSome = true ∧ ((aiding false).lane .A).cupola.origin.isSome = true ∧ ((aiding false).lane .A).skyFault = false ∧
      skyMeasures (aiding false) = true ∧ ((aiding true).lane .A).skyFault = true) ∧
    (ingestRuns sky .A && corrHere sky .A && rtcmFramed []) = false ∧
    (∀ f, f ∈ [rtcm 1005 0, rtcm 1005 1, rtcm 1001 0] → (ingestRuns sky .A && corrHere sky .A && rtcmFramed f) = true) ∧
    ({ sky with bridgeFault := true }.bridgeFault = true ∧ sky.bridgeFault = false ∧ (sky.lane .A).skyFault = false ∧ skyMeasures sky = true ∧ sky.laneRuns .B = true ∧ (sky.lane .B).skyFault = false) ∧
    (rtcmSound (rtcm 1005 0) = true ∧ rtcmSound (rtcm 1005 1) = false ∧ rtcmKnown (rtcm 1005 0) sky = false ∧ rtcmKnown (rtcm 1005 0) knowing = true ∧ rtcmUsed (rtcmNumber (rtcm 1005 0)) = true ∧
      rtcmUsed (rtcmNumber (rtcm 1001 0)) = false ∧ rtcmSound (rtcm 1001 0) = true) ∧
    (skyMeasures State.reset = false ∧ sky.oculus.chains[(0 : Fin 4)].jam ≤ 2 ∧ sky.oculus.chains[(0 : Fin 4)].notches.length ≤ 4 ∧
      sky.oculus.chains[(0 : Fin 4)].leaveMs < 999 ∧ atLeastDb (ocuJamAlarm (ocuCfg sky)) 1000 sky.oculus.chains[(0 : Fin 4)].pref = true) ∧
    (∀ w ∈ (noise 1900001).host.noiseWait, (noise 1900001).time.us < w.2.2.2 + 100000) ∧ (noise 1900000).host.noiseWait = [(.chan 0, 3, 0, 1900000)] ∧ 1900000 + 100000 ≤ (noise 1900000).time.us := by
  unfold dueAt
  refine ⟨?_, ?_, ?_, ?_, ?_, ?_, ?_, ?_, ?_, ?_, ?_, ?_, ?_, ?_, ?_, ?_⟩
  case refine_10 => intro f h; simp only [List.mem_cons, List.not_mem_nil, or_false] at h; obtain rfl | rfl | rfl := h <;> decide +kernel
  all_goals decide +kernel

/-! Belfry. -/

/-- Belfry in a state. -/
def bel (f : BelfryState → BelfryState) : State := { sky with belfry := f sky.belfry }
/-- Ten good epochs of Oculus before the origin. -/
def ready10 : State := bel fun b => { b with originRun := #v[0, 10, 0, 0] }
def waited (us : Nat) : State := { sky with time := { sky.time with us := us } }
def steering (st : Nat) : State := bel fun b => { b with originSet := true, originGnss := true, state := st, source := 1 }
/-- Oculus has measured this cycle's epoch and shows an offset, in ns, from 4 satellites. -/
def shown (off : ℚ) (s : State) : State :=
  { s with time := { s.time with ran := [132] }, oculus := { s.oculus with timeSats := 4, timeSd := 1, clk := -(off * lightSpeed / 1000000000) } }
def qualifies (k : Nat) : State := bel fun b => { b with originSet := true, originGnss := true, state := 3, qualSource := k, qualCount := 9, qualOffset := 20 }
def qualifiedNow (ph : Nat) : State := atCycle (100 + ph) (bel fun b => { b with originSet := true, originGnss := true, state := 3, qualified := true, qualSource := 1, qualOffset := 20 })
theorem witness_BelfryKeepsTime :
    (State.reset.power.skyOn = false ∧ (steering 1).belfry.originSet = true) ∧ (sky.power.skyOn = true ∧ sky.belfry.originSet = false) ∧
    originSource (isMaster ready10) ready10.belfry = some 1 ∧
    (originSource (isMaster (waited 8000000)) (waited 8000000).belfry = none ∧ waitOver 0 (waited 8000000) = true ∧ lowerUnset (waited 8000000) = false ∧
      (waited 8000000).belfry.waitFrom + timeWaitMs (timeCfg (waited 8000000)) * 1000 ≤ 8000000) ∧
    (epochDue (shown 0 sky) = true ∧ dueAt 131 sky.time.tick (shown 0 sky) ∧ (shown 0 sky).belfry.originSet = false ∧ epochDue State.reset = false) ∧
    (∀ st, st = 1 ∨ st = 2 → epochDue (shown 0 (steering st)) = true ∧ (steering st).belfry.originSet = true ∧ (steering st).belfry.state = st ∧
      sourceOk (timeCfg (steering st)) (sourceViews (shown 0 (steering st))) 1 = true ∧
      absQ ((viewOf (sourceViews (shown 0 (steering st))) 1).measured - (steering st).belfry.offset) ≤ (timeStepGuard (timeCfg (steering st)) : ℚ) ∧
      (timeStepGuard (timeCfg (steering st)) : ℚ) < absQ ((viewOf (sourceViews (shown 1001 (steering st))) 1).measured - (steering st).belfry.offset) ∧
      sourceOk (timeCfg (steering st)) (sourceViews (steering st)) 1 = false) ∧
    ((qualifies 1).belfry.state ≠ 1 ∧ (qualifies 1).belfry.state ≠ 2 ∧ (qualifies 1).belfry.qualSource ≠ 0 ∧ sourceOk (timeCfg (qualifies 1)) (sourceViews (shown 0 (qualifies 1))) 1 = true ∧
      (qualifies 0).belfry.qualSource = 0 ∧ firstSource (timeCfg (qualifies 0)) (isMaster (qualifies 0)) (sourceViews (qualifies 0)) = none ∧
      firstSource (timeCfg (qualifies 0)) (isMaster (qualifies 0)) (sourceViews (shown 0 (qualifies 0))) = some 1) ∧
    (sky.power.skyOn && sky.belfry.qualified) = false ∧
    (((qualifiedNow 0).power.skyOn && (qualifiedNow 0).belfry.qualified) = true ∧ dueAt 134 0 (qualifiedNow 0) ∧ (qualifiedNow 25).phase < 26 ∧ 26 ≤ (qualifiedNow 26).phase) := by
  unfold dueAt
  refine ⟨?_, ?_, ?_, ?_, ?_, ?_, ?_, ?_, ?_⟩
  case refine_6 => rintro st (rfl | rfl) <;> decide +kernel
  all_goals decide +kernel
/-- Lane A is off by 1,001 ns for the third time, or the first; it is STANDBY. -/
def deviating (run : Nat) : State := withArb .A (fun x => { x with state := 5, devRun := run }) sky
/-- A PTP port after a Sync of sequence 7, and after its Follow_Up. -/
def synced (t1 t3 : Option Int) : State := bel fun b => { b with ports := b.ports.set 0 { syncSeq := 7, t2 := 400, t1 := t1, t3 := t3 } }
theorem witness_BelfryKeepsTime_boundaries :
    ((atCycle 101 sky).power.skyOn && (atCycle 101 sky).phase == 0) = false ∧
    (∀ st, st = 1 ∨ st = 2 ∨ st = 3 ∨ st = 0 ∨ st = 5 → (steering st).power.skyOn = true ∧ (steering st).phase = 0 ∧ dueAt 133 0 (steering st) ∧ dueAt 135 0 (steering st) ∧ (steering st).belfry.state = st) ∧
    ((sky.laneRuns .A && !sky.isNode) = true ∧ (State.reset.laneRuns .A && !State.reset.isNode) = false ∧ tickRefOf sky .A = 0 ∧ tickRefOf (recorded true) .A = 1 ∧
      dueAt (laneCodeOf 67 .A) sky.time.tick sky ∧ (1000 : Int).natAbs ≤ 1000 ∧ 1000 < (1001 : Int).natAbs) ∧
    (∀ r, r = 0 ∨ r = 1 ∨ r = 2 → ((deviating r).laneRuns .A && !(deviating r).isNode) = true ∧ tickRefOf (deviating r) .A = 0 ∧ ((deviating r).arb.lane .A).state ∉ [0, 6, 7] ∧
      ((deviating r).arb.lane .A).faultAt = none ∧ ((deviating r).arb.lane .A).devRun = r) ∧
    (dueAt 136 0 (steering 1) ∧ ((steering 1).belfry.originSet && ppsOpen (timeCfg (steering 1)) (steering 1).belfry) = true ∧ (sky.belfry.originSet && ppsOpen (timeCfg sky) sky.belfry) = false) ∧
    ((atCycle 125 sky).phase = 25 ∧ dueAt 137 100 (atCycle 125 sky)) ∧ (bel fun b => { b with leapPending := true }).belfry.leapPending = true ∧
    ((sky.power.skyOn && sky.laneRuns .A) = true ∧ bitOf (ethIdx ⟨.A, 0⟩) (timePtpSlave (timeCfg sky)) = true ∧ bitOf (ethIdx ⟨.A, 1⟩) (timePtpSlave (timeCfg sky)) = false ∧
      bitOf (ethIdx ⟨.A, 1⟩) (timePtpMaster (timeCfg sky)) = true ∧ bitOf (ethIdx ⟨.A, 0⟩) (timePtpMaster (timeCfg sky)) = false) ∧
    (timePtpDomain (timeCfg sky) = 0 ∧ (vget sky.belfry.ports (ethIdx ⟨.A, 1⟩)).sendAt ≤ sky.time.us ∧ (vget (synced none none).belfry.ports 0).syncSeq = 7 ∧ (vget (synced (some 1) (some 2)).belfry.ports 0).t1 = some 1 ∧ (vget (synced (some 1) (some 2)).belfry.ports 0).t3 = some 2) := by
  unfold dueAt
  refine ⟨?_, ?_, ?_, ?_, ?_, ?_, ?_, ?_, ?_⟩
  case refine_2 => rintro st (rfl | rfl | rfl | rfl | rfl) <;> decide +kernel
  case refine_4 => rintro r (rfl | rfl | rfl) <;> decide +kernel
  all_goals decide +kernel

end Sys2Proof.Tests
end

section
/-! SUPPORT. What every command but the four that reset or scan leaves alone, and the statement about the role (R1). -/

namespace Sys2Proof.Machine

/-! What a row's meaning does, from what its work does. -/

theorem leaves_of_calm {c : Instr} {s t : State} (he : exec c s = .next t) (h : Calm s t) : leaves c s (Calm s) := ⟨t, he, h⟩

theorem leaves_of_still {c : Instr} {s t : State} (he : exec c s = .next t) (h : t.still = s.still) : leaves c s (Calm s) :=
  leaves_of_calm he (.of_still h)

/-- A host opcode: its own checks are all that differs (R445). -/
theorem leaves_of_hostCommand {c : Instr} {p : HostPort} {op : Nat} {chk : Packet → State → Verdict} {s : State}
    (he : exec c s = .next (hostCommand acts p op chk s)) (hchk : ∀ a t, (chk a t).Still) : leaves c s (Calm s) :=
  leaves_of_still he (hostCommand_still acts p op chk s acts_still hchk)

/-- A row whose condition does not hold changes nothing (log entry 18). -/
theorem guarded_still (c : Prop) [Decidable c] {s t : State} (h : t.still = s.still) : (if c then t else s).still = s.still := by
  split
  · exact h
  · rfl

/-! The rows whose meaning chooses between works. -/

theorem regReadCheck_still (p : HostPort) (a : Packet) (t : State) : ((if p = .svc then chkForward else chkRegRead) a t).Still := by
  split
  · exact chkForward_still a t
  · exact chkRegRead_still a t

theorem sessionOpen_calm (svc : Bool) (s : State) : leaves (.sessionOpen svc) s (Calm s) := by
  cases svc
  · exact leaves_of_still rfl (serveOpen_still s)
  · exact leaves_of_still rfl (serveSvcOpen_still s)

theorem opcodeUnknown_calm (p : HostPort) (s : State) : leaves (.opcodeUnknown p) s (Calm s) := by
  refine leaves_of_still rfl ?_
  split
  · exact guarded_still _ ((serve_still acts p (fun _ _ => .refuse ST_OPCODE []) _ _ acts_still fun _ _ => trivial).trans (visited_still p s))
  · rfl

theorem conseqInputWrite_calm (l : LaneId) (s : State) : leaves (.conseqInputWrite l) s (Calm s) := by
  refine leaves_of_still rfl ?_
  split
  · exact guarded_still _ (atTick_still _ _ _ _ fun t => State.modLane_still t _ _)
  · rfl

theorem standbyHealth_calm (s : State) : leaves .standbyHealth s (Calm s) := by
  refine leaves_of_still rfl ?_
  split
  · exact guarded_still _ (atTick_still _ _ _ _ (healthReport_still _))
  · rfl

theorem digestCompare_calm (s : State) : leaves .digestCompare s (Calm s) := by
  refine leaves_of_still rfl ?_
  split
  · exact guarded_still _ (atTick_still _ _ _ _ compareWork_still)
  · rfl

/-- Every command but those that put domain 0 in or out of reset and BOUNDARY_SCAN keeps the queue, the test access port, the pins under EXTEST, the
canonical form of the memories, and what power-on reset fixed. -/
theorem exec_calm (c : Instr) (s : State) (hp : ∀ on, c ≠ .powerOnReset on) (hd : c ≠ .pfailDeassert) (hv : c ≠ .vholdLoss)
    (hs : ∀ op, c ≠ .boundaryScan op) : leaves c s (Calm s) := by
  cases c with
  | packetReceive _ _ _ _ => exact leaves_of_still rfl (packetReceive_still ..)
  | svcWrite _ => exact leaves_of_still rfl (svcWrite_still ..)
  | svcRead => exact leaves_of_still rfl (svcRead_still ..)
  | svcStatus => exact leaves_of_still rfl (svcStatus_still ..)
  | sessionOpen _ => exact sessionOpen_calm _ s
  | sessionClose _ => exact leaves_of_hostCommand rfl chkClose_still
  | tokenRequest _ => exact leaves_of_hostCommand rfl (chkTokenRequest_still _)
  | tokenRelease _ => exact leaves_of_hostCommand rfl (chkTokenRelease_still _)
  | keepalive _ => exact leaves_of_hostCommand rfl (chkKeepalive_still _)
  | notifyResend _ => exact leaves_of_hostCommand rfl (chkNotifyResend_still _)
  | channelStatus _ => exact leaves_of_hostCommand rfl (chkChannelStatus_still _)
  | modeSet _ => exact leaves_of_hostCommand rfl chkModeSet_still
  | modeStatus _ => exact leaves_of_hostCommand rfl chkModeStatus_still
  | spPosition _ => exact leaves_of_hostCommand rfl chkSpPosition_still
  | spHeading _ => exact leaves_of_hostCommand rfl chkSpHeading_still
  | spSiteOrigin _ => exact leaves_of_hostCommand rfl chkSpSiteOrigin_still
  | spTrack _ => exact leaves_of_hostCommand rfl chkSpTrack_still
  | spTargetOffset _ => exact leaves_of_hostCommand rfl chkSpTargetOffset_still
  | spJoystick _ => exact leaves_of_hostCommand rfl chkSpJoystick_still
  | spRead _ => exact leaves_of_hostCommand rfl chkSpRead_still
  | refSelect _ => exact leaves_of_hostCommand rfl chkRefSelect_still
  | channelSelect _ => exact leaves_of_hostCommand rfl chkChannelSelect_still
  | gnssSelect _ => exact leaves_of_hostCommand rfl chkGnssSelect_still
  | gnssNoiseRef _ => exact leaves_of_hostCommand rfl chkGnssNoiseRef_still
  | refRead _ => exact leaves_of_hostCommand rfl chkRefRead_still
  | channelRead _ => exact leaves_of_hostCommand rfl chkChannelRead_still
  | thrAvailable _ => exact leaves_of_hostCommand rfl chkThrAvailable_still
  | thrStart _ => exact leaves_of_hostCommand rfl chkThrOne_still
  | thrStop _ => exact leaves_of_hostCommand rfl chkThrOne_still
  | allocRead _ => exact leaves_of_hostCommand rfl chkAllocRead_still
  | conseqRead _ => exact leaves_of_hostCommand rfl chkConseqRead_still
  | imageBegin _ => exact leaves_of_hostCommand rfl chkImageBegin_still
  | imageData _ => exact leaves_of_hostCommand rfl chkImageData_still
  | imageVerify _ => exact leaves_of_hostCommand rfl chkImageVerify_still
  | imageCommit _ => exact leaves_of_hostCommand rfl chkImageCommit_still
  | imageRollback _ => exact leaves_of_hostCommand rfl chkImageRollback_still
  | imageStatus _ => exact leaves_of_hostCommand rfl chkImageStatus_still
  | tierFloor _ => exact leaves_of_hostCommand rfl chkTierFloor_still
  | keepInfo _ => exact leaves_of_hostCommand rfl chkForward_still
  | keepRead _ => exact leaves_of_hostCommand rfl chkForward_still
  | keepMark _ => exact leaves_of_hostCommand rfl chkForward_still
  | healthRead _ => exact leaves_of_hostCommand rfl chkHealthRead_still
  | arbRead _ => exact leaves_of_hostCommand rfl chkForward_still
  | regRead _ => exact leaves_of_hostCommand rfl (regReadCheck_still _)
  | netTest _ => exact leaves_of_hostCommand rfl chkNetTest_still
  | netRestart _ => exact leaves_of_hostCommand rfl chkNetRestart_still
  | idClear _ => exact leaves_of_hostCommand rfl chkIdClear_still
  | laneRestart _ => exact leaves_of_hostCommand rfl chkForward_still
  | gnssRawRead _ => exact leaves_of_hostCommand rfl chkGnssRawRead_still
  | timeRead _ => exact leaves_of_hostCommand rfl chkTimeRead_still
  | alarmAck _ => exact leaves_of_hostCommand rfl chkAlarmAck_still
  | alarmList _ => exact leaves_of_hostCommand rfl chkAlarmList_still
  | safetyStatus _ => exact leaves_of_hostCommand rfl chkForward_still
  | safetyBlockLoad _ => exact leaves_of_hostCommand rfl chkForward_still
  | safetyBlockRead _ => exact leaves_of_hostCommand rfl chkForward_still
  | safetyConfirm _ => exact leaves_of_hostCommand rfl chkForward_still
  | safetyZoneRequest _ => exact leaves_of_hostCommand rfl chkForward_still
  | safetyProofTest _ => exact leaves_of_hostCommand rfl chkForward_still
  | cntConfig _ => exact leaves_of_hostCommand rfl fun d _ => chkCntConfig_still d _
  | cntRead _ => exact leaves_of_hostCommand rfl chkCntRead_still
  | cntClear _ => exact leaves_of_hostCommand rfl fun d _ => chkCntClear_still d _
  | bwRead _ => exact leaves_of_hostCommand rfl chkBwRead_still
  | ltnStatus _ => exact leaves_of_hostCommand rfl chkForward_still
  | ltnShow _ => exact leaves_of_hostCommand rfl chkForward_still
  | ltnClear _ => exact leaves_of_hostCommand rfl chkForward_still
  | ltnPower _ => exact leaves_of_hostCommand rfl chkForward_still
  | gainWrite _ => exact leaves_of_hostCommand rfl fun d t => chkGainWrite_still _ d t
  | gainRevert _ => exact leaves_of_hostCommand rfl fun _ t => engWrite_still _ t
  | gainRead _ => exact leaves_of_hostCommand rfl chkGainRead_still
  | opcodeUnknown _ => exact opcodeUnknown_calm ..
  | journalMirrorComplete _ => exact leaves_of_still rfl (mirrorComplete_still ..)
  | journalHoldElapsed _ => exact leaves_of_still rfl (holdElapsed_still ..)
  | watchtowerActionResult _ => exact leaves_of_still rfl (wtResult_still ..)
  | sessionTimeout _ => exact leaves_of_still rfl (sessionTimeout_still ..)
  | tokenSessionLoss => exact leaves_of_still rfl (tokenSessionLoss_still ..)
  | journalSnapshot => exact leaves_of_still rfl (snapshotOut_still ..)
  | cycleBoundary => exact leaves_of_calm rfl (cycleBoundary_calm s)
  | commitAbandonTimeout => exact leaves_of_still rfl (foldl_still _ abandonLane_still _ _)
  | imageVerifyDone => exact leaves_of_still rfl (verifyDone_still ..)
  | imageInstallDone _ => exact leaves_of_still rfl (installDone_still ..)
  | snapshot _ => exact leaves_of_still rfl (slotStart_still _ _ _ _ (snapshotSlot_still _))
  | filterHandoff _ => exact leaves_of_still rfl (slotStart_still _ _ _ _ (handoffSlot_still _))
  | cupolaFusion _ => exact leaves_of_still rfl (slotWork_still _ _ _ _ _ _ (fusionSlot_still _))
  | observerRun _ => exact leaves_of_still rfl (slotStart_still _ _ _ _ (observerSlot_still _))
  | controlLawSlot _ => exact leaves_of_still rfl (slotStart_still _ _ _ _ (controlLawSlot_still _))
  | deltaPacketSlot _ => exact leaves_of_still rfl (slotStart_still _ _ _ _ (deltaPacketSlot_still _))
  | conseqInputWrite _ => exact conseqInputWrite_calm ..
  | allocationSolve _ _ _ => exact leaves_of_still rfl (slotStart_still _ _ _ _ (allocationSlot_still _ _ _ _))
  | allocationDeadline _ _ => exact leaves_of_still rfl (slotWork_still _ _ _ _ _ _ (deadlineSlot_still _ _))
  | outputStage _ => exact leaves_of_still rfl (slotWork_still _ _ _ _ _ _ (outputSlot_still _))
  | consequenceStep _ _ _ => exact leaves_of_still rfl (spareSlot_still _ _ _ _ _ fun _ t => consequenceWork_still _ _ t)
  | selftestSegment _ _ _ => exact leaves_of_still rfl (spareSlot_still _ _ _ _ _ fun _ t => (testRepeated_still _ _ _).trans (testWork_still _ _ _ t))
  | builtinTest _ _ _ => exact leaves_of_still rfl (guarded_still _ (builtinFail_still ..))
  | slotEndTick _ _ _ _ => exact leaves_of_still rfl (slotEnd_still ..)
  | clockMeasure _ _ => exact leaves_of_still rfl (clockMeasure_still ..)
  | stagingClose _ => exact leaves_of_still rfl (guarded_still _ (atTick_still _ _ _ _ (State.modLane_still · _ _)))
  | removalMaskRequest _ => exact leaves_of_still rfl (guarded_still _ (atTick_still _ _ _ _ (maskRequest_still _)))
  | alarmEvaluation _ => exact leaves_of_still rfl (guarded_still _ (atTick_still _ _ _ _ (alarmWork_still _)))
  | conseqPublish _ => exact leaves_of_still rfl (guarded_still _ (atTick_still _ _ _ _ (publishWork_still _)))
  | standbyHealth => exact standbyHealth_calm s
  | startTimeout _ => exact leaves_of_still rfl (guarded_still _ (startTimeout_still ..))
  | serialFrameComplete _ _ _ _ _ _ => exact leaves_of_still rfl (serialFrame_still ..)
  | ethSensorDatagram _ _ _ _ _ _ => exact leaves_of_still rfl (ethDatagram_still ..)
  | serialBreak _ _ => exact leaves_of_still rfl (serialBreak_still ..)
  | binaryGapTimeout _ _ _ _ => exact leaves_of_still rfl (binaryGap_still ..)
  | serialSettingsSwitch _ _ => exact leaves_of_still rfl (serialSwitch_still ..)
  | channelUpdateRelease _ => exact leaves_of_still rfl (releaseUpdate_still ..)
  | bridgeUpdateArrive _ => exact leaves_of_still rfl (bridgeArrive_still ..)
  | bridgeFrameReceive _ _ _ => exact leaves_of_still rfl (bridgeReceive_still ..)
  | bridgeAckTimeout _ => exact leaves_of_still rfl (bridgeTimeout_still ..)
  | linkFrameFail _ _ => exact leaves_of_still rfl (linkFail_still ..)
  | filterOutput _ _ _ _ _ => exact leaves_of_still rfl (filterOut_still ..)
  | filterSummary _ => exact leaves_of_still rfl (filterSummary_still ..)
  | summaryForward _ => exact leaves_of_still rfl (summaryForward_still ..)
  | inputFaultRaise _ _ _ => exact leaves_of_still rfl (inputFault_still ..)
  | inputFaultClear _ _ _ => exact leaves_of_still rfl (inputFault_still ..)
  | measurementEpoch _ => exact leaves_of_still rfl (guarded_still _ (atTick_still _ _ _ _ (epochWork_still _)))
  | skyRecordReceive _ => exact leaves_of_still rfl (skyRecord_still ..)
  | aidingFrame _ => exact leaves_of_still rfl (guarded_still _ (atTick_still _ _ _ _ (aidingFrame_still _)))
  | rtcmFrame _ _ => exact leaves_of_still rfl (rtcmFrame_still ..)
  | notchMonitor _ _ => exact leaves_of_still rfl (notchMonitor_still ..)
  | originFix _ _ => exact leaves_of_still rfl (originFix_still ..)
  | blfEpochEval _ => exact leaves_of_still rfl (guarded_still _ (atTick_still _ _ _ _ (epochJudge_still _)))
  | returnQualified => exact leaves_of_still rfl (guarded_still _ (atTick_still _ _ _ _ (returnWork_still)))
  | blfLongCycleUpdate => exact leaves_of_still rfl (guarded_still _ (atTick_still _ _ _ _ (fun t => setBelfry_still _ t)))
  | blfBoundaryUpdate _ => exact leaves_of_still rfl (guarded_still _ (atTick_still _ _ _ _ (fun t => setBelfry_still _ t)))
  | laneTickMarker _ _ => exact leaves_of_still rfl (tickMarker_still ..)
  | ppsEdge => exact leaves_of_still rfl (guarded_still _ (atTick_still _ _ _ _ (ppsWork_still)))
  | timeqCompute => exact leaves_of_still rfl (guarded_still _ (atTick_still _ _ _ _ (timeqWork_still)))
  | leapSecond => exact leaves_of_still rfl (guarded_still _ (State.modBelfry_still ..))
  | ptpMessage _ _ _ _ _ _ _ => exact leaves_of_still rfl (ptpReceive_still ..)
  | ptpSyncSend _ => exact leaves_of_still rfl (ptpMasterSync_still ..)
  | cellStart _ _ _ _ => exact leaves_of_still rfl (cellCommand_still ..)
  | refFrameForm _ => exact leaves_of_still rfl (refCommand_still ..)
  | q10Receive _ => exact leaves_of_still rfl (q10Command_still ..)
  | txBankExchange _ => exact leaves_of_still rfl (exchangeCommand_still ..)
  | canFrameReceive _ _ _ => exact leaves_of_still rfl (canCommand_still ..)
  | eventFrameSend _ _ _ => exact leaves_of_still rfl (eventCommand_still ..)
  | netPeerCount _ _ => exact leaves_of_still rfl (peerCommand_still ..)
  | busIdleDetect _ _ => exact leaves_of_still rfl (idleCommand_still ..)
  | busOffRecovery _ _ => exact leaves_of_still rfl (recoverCommand_still ..)
  | mailboxAck _ _ _ => exact leaves_of_still rfl (ackCommand_still ..)
  | busEvtDoorbell _ _ => exact leaves_of_still rfl (doorbellCommand_still ..)
  | safetyInputChange _ _ _ => exact leaves_of_still rfl (safDo_still ..)
  | safetyCycleStart => exact leaves_of_still rfl (safetyCycle_still ..)
  | resetInputOperation _ _ => exact leaves_of_still rfl (safQuiet_still ..)
  | outputStuckFault _ => exact leaves_of_still rfl (safJudge_still ..)
  | testPulseStart _ _ => exact leaves_of_still rfl (pulseStart_still ..)
  | testPulseEnd _ _ => exact leaves_of_still rfl (pulseEnd_still ..)
  | safeMessageReceive _ _ _ => exact leaves_of_still rfl (safDo_still ..)
  | streamTimeout _ _ => exact leaves_of_still rfl (safDo_still ..)
  | senderDiscrepant _ => exact leaves_of_still rfl (safQuiet_still ..)
  | islandFault _ _ _ => exact leaves_of_still rfl (safJudge_still ..)
  | proofTestBegin _ => exact leaves_of_still rfl (safDo_still ..)
  | proofPhaseEnd _ _ => exact leaves_of_still rfl (safJudge_still ..)
  | blockActivate => exact leaves_of_still rfl (blockActivate_still ..)
  | pendingBlockExpire => exact leaves_of_still rfl (blockExpire_still ..)
  | commissionEnChange _ => exact leaves_of_still rfl (safQuiet_still ..)
  | safetyStartup _ _ => exact leaves_of_still rfl (safetyStartup_still ..)
  | digestReceive _ => exact leaves_of_still rfl (digestIn_still ..)
  | digestCompare => exact digestCompare_calm s
  | laneSwitchover => exact leaves_of_calm rfl (.ite _ (atBoundary_calm _ _ s laneSwitch_calm) (.refl s))
  | takebackEval => exact leaves_of_still rfl (guarded_still _ (atTick_still _ _ _ _ (State.modArb_still · _)))
  | laneWake _ => exact leaves_of_still rfl (laneWakeUp_still ..)
  | laneSelftestDone _ _ => exact leaves_of_still rfl (selftestDone_still ..)
  | laneLoadDone _ => exact leaves_of_still rfl (loadDone_still ..)
  | shadowTransfer => exact leaves_of_still rfl (shadowTransfer_still ..)
  | voteForm _ => exact leaves_of_still rfl (guarded_still _ (atTick_still _ _ _ _ (State.modArb_still · _)))
  | moduleControlChange => exact leaves_of_still rfl (guarded_still _ ((moduleChange_still _ _).trans (advanceTo_still _ s)))
  | arbExtChange _ _ => exact leaves_of_still rfl (guarded_still _ (State.modArb_still ..))
  | voteFrameSend => exact leaves_of_still rfl (voteOut_still ..)
  | voteFrameReceive _ _ _ => exact leaves_of_still rfl (ringIn_still _ _ _ _ _ _ fun _ t => State.modArb_still t _)
  | stateFrameSend => exact leaves_of_still rfl (stateOut_still ..)
  | stateFrameReceive _ _ _ => exact leaves_of_still rfl (ringIn_still _ _ _ _ _ _ stateIn_still)
  | journalFrameReceive _ _ _ => exact leaves_of_still rfl (ringIn_still _ _ _ _ _ _ journalIn_still)
  | imageHold rx =>
    obtain _ | ⟨l, dir, f⟩ := rx
    · exact leaves_of_still rfl (holdOut_still s)
    · exact leaves_of_still rfl (ringIn_still _ _ _ _ _ _ holdIn_still)
  | imageCommitFrame rx =>
    obtain _ | ⟨l, dir, f⟩ := rx
    · exact leaves_of_still rfl (commitOut_still s)
    · exact leaves_of_still rfl (ringIn_still _ _ _ _ _ _ commitIn_still)
  | imageDataFrame rx =>
    obtain _ | ⟨l, dir, f⟩ := rx
    · exact leaves_of_still rfl (dataOut_still s)
    · exact leaves_of_still rfl (ringIn_still _ _ _ _ _ _ dataIn_still)
  | beacon _ _ _ => exact leaves_of_still rfl (beaconWork_still ..)
  | baiquePortDown _ _ _ => exact leaves_of_still rfl (portDownWork_still ..)
  | timeExchangeStart _ => exact leaves_of_still rfl (timeStart_still ..)
  | timeSync _ _ _ _ => exact leaves_of_still rfl (ringIn_still _ _ _ _ _ _ (timeSyncIn_still _))
  | timeDelay rx _ =>
    obtain _ | ⟨l, dir, f⟩ := rx
    · exact leaves_of_still rfl (timeDelayOut_still _ s)
    · exact leaves_of_still rfl (ringIn_still _ _ _ _ _ _ (timeDelayIn_still _))
  | timeReply _ _ _ => exact leaves_of_still rfl (ringIn_still _ _ _ _ _ _ timeReplyIn_still)
  | pfailAssert => exact leaves_of_still rfl (pfailOn_still ..)
  | pfailDeassert => exact absurd rfl hd
  | vholdLoss => exact absurd rfl hv
  | powerOnReset _ => exact absurd rfl (hp _)
  | originWaitExpire => exact leaves_of_still rfl (originWaitExpire_still ..)
  | controlPathStart _ => exact leaves_of_calm rfl (controlStart_calm _ s)
  | inrushAdmit => exact leaves_of_still rfl (guarded_still _ (atUs_still _ _ _ admitWork_still))
  | domainWakeDone _ => exact leaves_of_calm rfl (.ite _ (domainAwake_calm _ s) (.refl s))
  | thermalTrip _ _ => exact leaves_of_calm rfl (tripWork_calm _ _ s)
  | thermalRewake _ _ => exact leaves_of_still rfl (coolWork_still ..)
  | ageingSample _ _ _ => exact leaves_of_still rfl (ageWork_still ..)
  | bodyBiasStep _ _ => exact leaves_of_still rfl (biasWork_still ..)
  | slackEstimate _ => exact leaves_of_still rfl (slackWork_still ..)
  | scrubAccess _ _ _ _ _ _ _ => exact leaves_of_still rfl (scrubWork_still ..)
  | memRequest _ _ => exact leaves_of_calm rfl (requestWork_calm _ _ s)
  | mgmtAccess _ _ _ _ _ => exact leaves_of_calm rfl (accessWork_calm _ _ _ _ _ s)
  | registerWrite _ _ _ => exact leaves_of_calm rfl (.ite _ (accessWrite_calm _ _ _ _ s) (.refl s))
  | registerReadClear _ _ => exact leaves_of_still rfl (guarded_still _ (accessRead_still ..))
  | cycleLoRead _ => exact leaves_of_still rfl (windowRead_still ..)
  | offsetLoRead _ => exact leaves_of_still rfl (guarded_still _ (accessRead_still ..))
  | errAddrLoRead _ => exact leaves_of_still rfl (windowRead_still ..)
  | cntValueLowRead _ _ => exact leaves_of_still rfl (windowRead_still ..)
  | bwWindowUpdate => exact leaves_of_still rfl (guarded_still _ (atTick_still _ _ _ _ (fun t => (windowChange_still _ _ _).trans (windowChange_still _ _ t))))
  | keepRecordEnqueue _ _ _ _ => exact leaves_of_still rfl (enqueueWork_still ..)
  | flashUnitDone _ => exact leaves_of_still rfl (unitDone_still ..)
  | tallyPeriodic => exact leaves_of_still rfl (tallyWork_still ..)
  | summaryWrite => exact leaves_of_still rfl (summaryWork_still ..)
  | sectorRefresh => exact leaves_of_still rfl (refreshWork_still ..)
  | keepHistogramSample => exact leaves_of_still rfl (histogramWork_still ..)
  | lanternUpdateStart => exact leaves_of_still rfl (updateStart_still ..)
  | pumpRailsReady => exact leaves_of_still rfl (railsReady_still ..)
  | pumpRailFault => exact leaves_of_still rfl (railFault_still ..)
  | lanternUpdateEnd => exact leaves_of_still rfl (updateEnd_still ..)
  | panelTempSample _ => exact leaves_of_still rfl (panelTemp_still ..)
  | statusRender => exact leaves_of_still rfl (renderWork_still ..)
  | bookSave => exact leaves_of_still rfl (bookSave_still ..)
  | nodeReferenceReceive _ _ _ => exact leaves_of_still rfl (referenceWork_still ..)
  | nodeHoldoverExpire => exact leaves_of_still rfl (holdoverWork_still ..)
  | nodeTimingFallback => exact leaves_of_still rfl (timingWork_still ..)
  | nodeCommandReceive _ _ _ => exact leaves_of_still rfl (commandWork_still ..)
  | driveCmdResend => exact leaves_of_still rfl (resendWork_still ..)
  | cmdHoldTimeout => exact leaves_of_still rfl (holdTimeoutWork_still ..)
  | rampStep => exact leaves_of_still rfl (rampWork_still ..)
  | laneSupplyLoss _ => exact leaves_of_still rfl (supplyLost_still ..)
  | pllLossOfLock _ _ _ => exact leaves_of_still rfl (pllLoss_still ..)
  | tokenHoldEnd _ => exact leaves_of_still rfl (tokenHoldEnd_still ..)
  | excFault _ => exact leaves_of_still rfl (excWork_still ..)
  | chainFault _ _ => exact leaves_of_still rfl (chainWork_still ..)
  | boundaryScan _ => exact absurd rfl (hs _)

/-! Boundary scan: outputs of the test access port, and of the safety island again when EXTEST ends (R593). -/

theorem foldl_power {α : Type} (f : State → α → State) (h : ∀ s a, (f s a).power = s.power) (l : List α) (s : State) : (l.foldl f s).power = s.power := by
  induction l generalizing s with
  | nil => rfl
  | cons a l ih => rw [List.foldl_cons, ih, h]

theorem scanWork_power (op : JtagOp) (s : State) : (scanWork op s).power = s.power := by
  unfold scanWork
  extract_lets r s1
  have h1 : s1.power = s.power := foldl_power _ (fun t e => by cases e <;> rfl) _ _
  split
  · rw [foldl_power State.emitPin State.emitPin_power, h1]
  · exact h1

/-! The role (R1). -/

/-- With domain 0 running there is no power-on reset (R536). -/
theorem powerOn_of_booted (on : PowerOn) {s : State} (hb : s.power.booted = true) : powerOn on s = s := by simp [powerOn, hb]

/-- Domain 0 leaves reset with what the straps and the fuses give (R1, R2, R564). -/
theorem powerOn_fixed (on : PowerOn) {s : State} (hb : s.power.booted = false) (hv : 8000 ≤ on.vholdMv) :
    (powerOn on s).power.fixed = (true, roleOf on, on.module.val, on.nx, on.stepping.val) := by
  have hv' : ¬ on.vholdMv < 8000 := by omega
  simp [powerOn, hb, hv', PowerState.fixed]

/-- What power-on reset fixed stays until domain 0 is reset. -/
theorem exec_keeps_fixed (c : Instr) (s : State) (hp : ∀ on, c = .powerOnReset on → s.power.booted = true) (hd : c ≠ .pfailDeassert)
    (hv : c ≠ .vholdLoss) : leaves c s fun t => t.power.fixed = s.power.fixed := by
  by_cases hon : ∃ on, c = .powerOnReset on
  · obtain ⟨on, rfl⟩ := hon
    exact ⟨s, congrArg Host.Outcome.next (powerOn_of_booted on (hp on rfl)), rfl⟩
  by_cases hscan : ∃ op, c = .boundaryScan op
  · obtain ⟨op, rfl⟩ := hscan
    exact ⟨scanWork op s, rfl, congrArg PowerState.fixed (scanWork_power op s)⟩
  obtain ⟨t, he, ht⟩ := exec_calm c s (not_exists.mp hon) hd hv (not_exists.mp hscan)
  exact ⟨t, he, ht.fixed⟩

/-- Settles O9: power-on reset takes the straps, and no other command but a reset of domain 0 writes what it took. -/
theorem roleFixedUntilPowerOnReset : Obligations.RoleFixedUntilPowerOnReset := by
  unfold Obligations.RoleFixedUntilPowerOnReset
  refine ⟨fun on s hb hv => ⟨powerOn on s, rfl, ?_⟩, fun c s hp hd hv => ?_⟩
  · have h := powerOn_fixed on hb hv
    simp only [PowerState.fixed, Prod.mk.injEq] at h
    obtain ⟨_, hrole, hmodule, hnx, hstepping⟩ := h
    exact ⟨hrole, hmodule, hnx, hstepping⟩
  · obtain ⟨t, he, ht⟩ := exec_keeps_fixed c s hp hd hv
    simp only [PowerState.fixed, Prod.mk.injEq] at ht
    obtain ⟨_, hrole, hmodule, hnx, hstepping⟩ := ht
    exact ⟨t, he, hrole, hmodule, hnx, hstepping⟩

end Sys2Proof.Machine
end

section
/-! SUPPORT. Domain 0 is reset in a power failure only, and the statement about its supply (R38). -/

namespace Sys2Proof.Machine

/-! The two resets of domain 0 change nothing while PFAIL_N is not asserted (R543). -/

theorem pfailOff_of_supplied {s : State} (hp : s.power.pfail = false) : pfailOff s = s := by simp [pfailOff, hp]

theorem vholdLost_of_supplied {s : State} (hp : s.power.pfail = false) : vholdLost s = s := by simp [vholdLost, hp]

/-- Settles O10: whether domain 0 runs is among what power-on reset fixed, which only the two commands of its supply write, and those act in a power
failure only. -/
theorem domain0StaysOn : Obligations.Domain0StaysOn := by
  unfold Obligations.Domain0StaysOn
  intro c s hb hsupply
  by_cases hd : c = .pfailDeassert
  · have hp : s.power.pfail = false := Bool.eq_false_iff.mpr fun h => (hsupply h).1 hd
    subst hd
    exact ⟨s, congrArg Host.Outcome.next (pfailOff_of_supplied hp), hb⟩
  by_cases hv : c = .vholdLoss
  · have hp : s.power.pfail = false := Bool.eq_false_iff.mpr fun h => (hsupply h).2 hv
    subst hv
    exact ⟨s, congrArg Host.Outcome.next (vholdLost_of_supplied hp), hb⟩
  obtain ⟨t, he, hfixed⟩ := exec_keeps_fixed c s (fun _ _ => hb) hd hv
  have hbooted : t.power.booted = s.power.booted := congrArg Prod.fst hfixed
  exact ⟨t, he, hbooted.trans hb⟩

end Sys2Proof.Machine
end

section
/-! SUPPORT. An uncorrectable error in the island's own memory puts it into SAFE_STATE (Table 22.3, R382), and the statement about what leaves it alone (R394). -/

namespace Sys2Proof.Machine

/-! What a refresh of the island does not decide: its state. -/

@[simp] theorem SafetyState.modCh_state (x : SafetyState) (c : SafeChan) (f : SafeChannel → SafeChannel) : (x.modCh c f).state = x.state := by
  cases c <;> rfl

theorem zonesStep_state (us : Nat) (x : SafetyState) : (zonesStep us x).state = x.state := by
  unfold zonesStep
  split <;> rfl

theorem proofAbort_state (i : SafIn) (x : SafetyState) : (proofAbort i x).1.state = x.state :=
  List.foldlRecOn _ _ (motive := fun (acc : SafetyState × List Effect) => acc.1.state = x.state) rfl fun _ h _ _ => h

theorem driveOut_state (i : SafIn) (c : SafeChan) (x : SafetyState) : (driveOut i c x).1.state = x.state := SafetyState.modCh_state ..

theorem safeStart_state (i : SafIn) (c : SafeChan) (x : SafetyState) : (safeStart i c x).1.state = x.state := by
  unfold safeStart
  extract_lets h
  match x.active, h.last with
  | some _, some _ => rw [apply_ite Prod.fst, apply_ite SafetyState.state, SafetyState.modCh_state, ite_self]
  | some _, none | none, _ => rfl

theorem safeSend_state (i : SafIn) (force : Bool) (c : SafeChan) (x : SafetyState) : (safeSend i force c x).1.state = x.state := by
  unfold safeSend
  split
  · rfl
  split
  · rfl
  dsimp only
  split
  · rfl
  · rw [safeStart_state, SafetyState.modCh_state]

/-- Zones, latches, outputs and messages follow the island's state; it does not follow them. -/
theorem safRefresh_state (i : SafIn) (force : Bool) (x : SafetyState) : (safRefresh i force x).1.state = x.state := by
  simp only [safRefresh, safeSend_state, driveOut_state, SafetyState.modCh_state]
  exact (proofAbort_state i _).trans (zonesStep_state i.us x)

/-- An island fault leaves the island in SAFE_STATE, whatever its state was (R382). -/
theorem safIsland_state (i : SafIn) (cause : Nat) (c : SafeChan) (own : Bool) (x : SafetyState) : (safIsland i cause c own x).1.state = 3 := by
  unfold safIsland
  split
  case isTrue h => rw [safRefresh_state, SafetyState.modCh_state, h]
  case isFalse => exact (safRefresh_state ..).trans (SafetyState.modCh_state ..)

/-! The error in the safety banks, region 13 of Table 22.3. -/

/-- A judgement of the island made while domain 0 runs and no power failure lasts. -/
theorem safJudge_safety (f : SafIn → SafetyState → SafetyState × List Effect) {s : State} (hb : s.power.booted = true) (hp : s.power.pfail = false) :
    (safJudge f s).safety = (f (safIn s) s.safety).1 := by
  simp [safJudge, safDo, hb, hp]

/-- The record of an uncorrectable error at the Watchtower writes no power register but those of its memory. -/
theorem badWork_none_power (region init addr syndrome : Nat) (demand : Bool) (s : State) :
    (badWork none region init addr syndrome demand s).power =
      { s.power with wtMem := memBad addr (memErrInfo region (regionIsland region) init demand syndrome) s.power.wtMem } := by
  simp only [badWork]
  rw [power_of_rest (applyEffect_rest _ _ _), keepPut_power, count_power]
  rfl

theorem scrubWork_safetyBank_state (addr syndrome pass part : Nat) (demand : Bool) {s : State} (hb : s.power.booted = true) (hp : s.power.pfail = false) :
    (scrubWork none 13 addr (.bad syndrome) pass part demand s).safety.state = 3 := by
  have hreach : scrubReach s none 13 = true := by simp [scrubReach, hb]
  have hwork : scrubWork none 13 addr (.bad syndrome) pass part demand s =
      safJudge (fun i => safIsland i 5 .A false) (badWork none 13 (if !demand then 5 else 7) addr syndrome demand s) := by
    simp [scrubWork, hreach, regionError]
  rw [hwork, safJudge_safety _ (by simp [badWork_none_power, hb]) (by simp [badWork_none_power, hp])]
  exact safIsland_state ..

/-- Refutes O33: SCRUB_ACCESS is no event of the island by `islandEvent` and does not reset domain 0, and an uncorrectable word that the scrubber finds in the
safety banks takes the island, in RUN with its outputs driven, to SAFE_STATE (Table 22.3, R382), where the statement keeps the island's state. -/
theorem not_noLaneOrCommandWeakensSafety : ¬ Obligations.NoLaneOrCommandWeakensSafety := by
  unfold Obligations.NoLaneOrCommandWeakensSafety
  intro h
  obtain ⟨t, he, _, hkeep, _⟩ := h (.scrubAccess none 13 0 (.bad 0) 0 0 false) Tests.isle rfl rfl Tests.isle_driven
  have ht : scrubWork none 13 0 (.bad 0) 0 0 false Tests.isle = t := Host.Outcome.next.inj he
  have hsafe : t.safety.state = 3 := ht ▸ scrubWork_safetyBank_state 0 0 0 0 false rfl rfl
  have hrun : Tests.isle.safety.state = 2 := rfl
  omega

end Sys2Proof.Machine
end

section
/-! SUPPORT. The lanes under the comparison of a cycle (R399 to R402, R408), and the statement about the lane that is SYNCING. -/

namespace Sys2Proof.Machine

/-! One lane of the arbiter. -/

theorem ArbState.lane_modLane (a : ArbState) (l k : LaneId) (f : LaneArb → LaneArb) :
    (a.modLane l f).lane k = if k = l then f (a.lane k) else a.lane k := by
  cases l <;> cases k <;> simp [ArbState.lane, ArbState.modLane, vget, vmodN, LaneId.num]

@[simp] theorem ArbState.lane_modLane_same (a : ArbState) (l : LaneId) (f : LaneArb → LaneArb) : (a.modLane l f).lane l = f (a.lane l) := by
  simp [ArbState.lane_modLane]

/-- A part of a lane that a change does not write. -/
theorem ArbState.part_modLane {α : Type} (g : LaneArb → α) (a : ArbState) {l k : LaneId} {f : LaneArb → LaneArb} (hf : k = l → ∀ x, g (f x) = g x) :
    g ((a.modLane l f).lane k) = g (a.lane k) := by
  rw [ArbState.lane_modLane]
  split
  case isTrue h => exact hf h _
  case isFalse => rfl

theorem ArbState.lane_mapLanes (a : ArbState) (f : LaneArb → LaneArb) (l : LaneId) :
    ({ a with lanes := a.lanes.map f } : ArbState).lane l = f (a.lane l) := by
  cases l <;> simp [ArbState.lane, vget, LaneId.num]

theorem lane_ne_other (l : LaneId) : l ≠ l.other := by cases l <;> decide

/-! A fault condition of a lane (R400, R403, R406). -/

/-- A lane that is withdrawn already meets no further condition. -/
theorem laneFault_of_withdrawn (cycle tick : Nat) {l : LaneId} (code : Nat) {a : ArbState} (h : (a.lane l).faultAt.isSome = true) :
    laneFault cycle tick l code a = a := by
  simp [laneFault, h]

/-- What a fault condition leaves of a lane: it writes the lane's own code, counts and boundary, and makes either lane UNHEALTHY. -/
theorem part_laneFault {α : Type} (g : LaneArb → α) (cycle tick : Nat) (l k : LaneId) (code : Nat) (a : ArbState)
    (hcode : k = l → ∀ x, g { x with cause := code, healthyRun := 0, clean := 0, condNow := true } = g x)
    (hfault : k = l → ∀ x b, g { x with faultAt := b } = g x) (hhealth : ∀ x, g { x with unhealthy := true } = g x) :
    g ((laneFault cycle tick l code a).lane k) = g (a.lane k) := by
  have h1 := a.part_modLane g hcode
  have h2 (b : ArbState) (w : Option Nat) := b.part_modLane g (k := k) fun h x => hfault h x w
  have h3 (b : ArbState) (m : LaneId) := b.part_modLane g (l := m) (k := k) fun _ x => hhealth x
  have h12 (w : Option Nat) := (h2 _ w).trans h1
  have h13 (m : LaneId) := (h3 _ m).trans h1
  have h123 (w : Option Nat) (m : LaneId) := (h3 _ m).trans (h12 w)
  unfold laneFault
  dsimp only
  split
  · rfl
  split
  · rfl
  split
  · split
    · exact h1
    split
    · exact h1
    · exact h13 l
  split
  · split
    · split
      · exact h123 _ _
      · exact h123 _ _
    · split
      · exact h12 _
      · exact h12 _
  · split
    · exact h12 _
    · exact h12 _

/-- What the way of a lane to STANDBY turns on (R408), and how the lane is withdrawn (R406). -/
def LaneArb.progress (x : LaneArb) : Nat × Nat := (x.state, x.syncRun)
def LaneArb.verdict (x : LaneArb) : Nat × Option Nat := (x.cause, x.faultAt)

theorem laneFault_progress (cycle tick : Nat) (l k : LaneId) (code : Nat) (a : ArbState) :
    ((laneFault cycle tick l code a).lane k).progress = (a.lane k).progress :=
  part_laneFault LaneArb.progress cycle tick l k code a (fun _ _ => rfl) (fun _ _ _ => rfl) (fun _ => rfl)

theorem laneFault_verdict_of_ne (cycle tick : Nat) {l k : LaneId} (h : k ≠ l) (code : Nat) (a : ArbState) :
    ((laneFault cycle tick l code a).lane k).verdict = (a.lane k).verdict :=
  part_laneFault LaneArb.verdict cycle tick l k code a (absurd · h) (absurd · h) (fun _ => rfl)

/-- A SYNCING lane that meets a condition is withdrawn, to be FAULTED at the next boundary (R406). -/
theorem laneFault_verdict_syncing (cycle tick : Nat) {l : LaneId} (code : Nat) {a : ArbState} (hs : (a.lane l).state = 4) (hf : (a.lane l).faultAt = none) :
    ((laneFault cycle tick l code a).lane l).verdict = (code, some (effBoundary cycle tick)) := by
  have hother (b : ArbState) (f : LaneArb → LaneArb) := b.part_modLane LaneArb.verdict (f := f) (absurd · (lane_ne_other l))
  have hown : (((a.modLane l fun y => { y with cause := code, healthyRun := 0, clean := 0, condNow := true }).modLane l fun y =>
      { y with faultAt := some (effBoundary cycle tick) }).lane l).verdict = (code, some (effBoundary cycle tick)) := by
    simp [LaneArb.verdict]
  unfold laneFault
  rw [if_neg (by simp [hs]), if_neg (by simp [hs, hf])]
  dsimp only
  rw [if_neg (by simp [hs])]
  split
  · split
    · split
      · exact (hother _ _).trans hown
      · exact (hother _ _).trans hown
    · split
      · exact hown
      · exact hown
  · split
    · exact hown
    · exact hown

/-! The faults found at a comparison. -/

/-- The faults take effect one after the other. -/
def laneFaults (cycle tick : Nat) (ps : List (LaneId × Nat)) (a : ArbState) : ArbState := ps.foldl (fun a p => laneFault cycle tick p.1 p.2 a) a

theorem laneFaults_cons (cycle tick : Nat) (p : LaneId × Nat) (ps : List (LaneId × Nat)) (a : ArbState) :
    laneFaults cycle tick (p :: ps) a = laneFaults cycle tick ps (laneFault cycle tick p.1 p.2 a) := rfl

theorem laneFaults_progress (cycle tick : Nat) (k : LaneId) (ps : List (LaneId × Nat)) (a : ArbState) :
    ((laneFaults cycle tick ps a).lane k).progress = (a.lane k).progress := by
  induction ps generalizing a with
  | nil => rfl
  | cons p ps ih => rw [laneFaults_cons, ih, laneFault_progress]

/-- The faults of the other lane, and any found in a lane that is withdrawn already, leave a lane's verdict. -/
theorem laneFaults_verdict (cycle tick : Nat) {k : LaneId} {ps : List (LaneId × Nat)} {a : ArbState}
    (h : ∀ c, (k, c) ∈ ps → (a.lane k).faultAt.isSome = true) : ((laneFaults cycle tick ps a).lane k).verdict = (a.lane k).verdict := by
  induction ps generalizing a with
  | nil => rfl
  | cons p ps ih =>
    have hhead : ((laneFault cycle tick p.1 p.2 a).lane k).verdict = (a.lane k).verdict := by
      by_cases hk : k = p.1
      · subst hk
        rw [laneFault_of_withdrawn _ _ _ (h p.2 List.mem_cons_self)]
      · exact laneFault_verdict_of_ne cycle tick hk p.2 a
    have hfault : ((laneFault cycle tick p.1 p.2 a).lane k).faultAt = (a.lane k).faultAt := congrArg Prod.snd hhead
    exact (ih fun c hc => hfault ▸ h c (List.mem_cons_of_mem _ hc)).trans hhead

/-- A SYNCING lane for which one code was found is withdrawn with it. -/
theorem laneFaults_verdict_syncing (cycle tick : Nat) {k : LaneId} {c : Nat} {ps : List (LaneId × Nat)} {a : ArbState} (hs : (a.lane k).state = 4)
    (hf : (a.lane k).faultAt = none) (hmem : (k, c) ∈ ps) (honly : ∀ d, (k, d) ∈ ps → d = c) :
    ((laneFaults cycle tick ps a).lane k).verdict = (c, some (effBoundary cycle tick)) := by
  induction ps generalizing a with
  | nil => simp at hmem
  | cons p ps ih =>
    obtain ⟨l, d⟩ := p
    rw [laneFaults_cons]
    by_cases hk : k = l
    · subst hk
      obtain rfl : d = c := honly d List.mem_cons_self
      have hown := laneFault_verdict_syncing cycle tick d hs hf
      have hfault : ((laneFault cycle tick k d a).lane k).faultAt = some (effBoundary cycle tick) := congrArg Prod.snd hown
      exact (laneFaults_verdict cycle tick fun _ _ => by rw [hfault]; rfl).trans hown
    · have hstate : ((laneFault cycle tick l d a).lane k).state = (a.lane k).state := congrArg Prod.fst (laneFault_progress cycle tick l k d a)
      have hfault : ((laneFault cycle tick l d a).lane k).faultAt = (a.lane k).faultAt := congrArg Prod.snd (laneFault_verdict_of_ne cycle tick hk d a)
      have hmem' : (k, c) ∈ ps := (List.mem_cons.mp hmem).resolve_left fun he => hk (congrArg Prod.fst he)
      exact ih (hstate.trans hs) (hfault.trans hf) hmem' fun e he => honly e (List.mem_cons_of_mem _ he)

/-! What the comparison itself finds (R399, R401, R402). -/

/-- The comparison writes no part of a lane but its strikes. -/
theorem part_compareTwo {α : Type} (g : LaneArb → α) (img : Option Bytes) (cycle : Nat) (a : ArbState) (k : LaneId)
    (hg : ∀ x st, g { x with strikes := st } = g x) : g ((compareTwo img cycle a).1.lane k) = g (a.lane k) := by
  unfold compareTwo strike
  dsimp only
  split
  · rfl
  split
  · split
    · rfl
    split
    · rfl
    split
    · exact ArbState.part_modLane g _ fun _ x => hg x _
    split
    · rfl
    · rfl
  · rfl

theorem compareTwo_lane (img : Option Bytes) (cycle : Nat) (a : ArbState) (k : LaneId) :
    ∃ st, (compareTwo img cycle a).1.lane k = { a.lane k with strikes := st } :=
  have h := part_compareTwo (fun x => { x with strikes := [] }) img cycle a k fun _ _ => rfl
  ⟨_, congrArg (fun x : LaneArb => { x with strikes := ((compareTwo img cycle a).1.lane k).strikes }) h⟩

section
variable {img : Option Bytes} {cycle : Nat} {s : ArbState} {a b : Bytes} (hA : compared (s.lane .A) = true) (hB : compared (s.lane .B) = true)
  (ha : digestOf cycle s .A = some a) (hb : digestOf cycle s .B = some b)
include hA hB ha hb

/-- Equal digests are a match, which gives no lane a code (R399). -/
theorem compareTwo_of_equal (h : sliceB a 8 28 = sliceB b 8 28) : (compareTwo img cycle s).2 = (true, fun _ => none) := by
  simp [compareTwo, hA, hB, ha, hb, h]

/-- Digests that differ are no match, whichever lane is charged with it (R399, R401, R402). -/
theorem compareTwo_of_differ (h : sliceB a 8 28 ≠ sliceB b 8 28) : (compareTwo img cycle s).2.1 = false := by
  simp only [compareTwo, hA, hB, ha, hb, Bool.and_true, Bool.not_true, Bool.false_eq_true, if_false, beq_iff_eq, h]
  split
  · rfl
  split
  · rfl
  split
  · rfl
  · rfl

end

/-! What the comparison counts for one lane (R397, R408). -/

/-- What the comparison finds in a lane: its own condition, or the code that it is charged with. -/
def comparedCode (img : Option Bytes) (cycle : Nat) (a : ArbState) (l : LaneId) : Option Nat :=
  (laneCode cycle a l).orElse fun _ => (compareTwo img cycle a).2.2 l

/-- The lane and its code after the comparison, before the faults take effect. -/
def judged (img : Option Bytes) (cycle : Nat) (a : ArbState) (l : LaneId) : LaneArb × Option Nat :=
  afterCompare img cycle (comparedCode img cycle a l).isNone (compareTwo img cycle a).2.1
    (digestOf cycle a l).isSome ((compareTwo img cycle a).1.lane l)

/-- The fault found in a lane at the comparison: its own condition, what the comparison charges it with, or the end of R408's time. -/
def foundCode (img : Option Bytes) (cycle : Nat) (a : ArbState) (l : LaneId) : Option Nat :=
  (comparedCode img cycle a l).orElse fun _ => (judged img cycle a l).2

/-- Both lanes as judged, and the faults found in them in the order in which they take effect: those of the ACTIVE lane last. -/
def judgedLanes (img : Option Bytes) (cycle : Nat) (a : ArbState) : ArbState :=
  ((compareTwo img cycle a).1.modLane .A fun _ => (judged img cycle a .A).1).modLane .B fun _ => (judged img cycle a .B).1
def faultsOf (img : Option Bytes) (cycle : Nat) (a : ArbState) (l : LaneId) : List (LaneId × Nat) :=
  match foundCode img cycle a l with
  | some k => [(l, k)]
  | none => []
def faultsFound (img : Option Bytes) (cycle : Nat) (a : ArbState) : List (LaneId × Nat) :=
  let cs := faultsOf img cycle a .A ++ faultsOf img cycle a .B
  cs.filter (fun p => ((judgedLanes img cycle a).lane p.1).state ≠ 6) ++ cs.filter fun p => ((judgedLanes img cycle a).lane p.1).state = 6

theorem judgedLanes_lane (img : Option Bytes) (cycle : Nat) (a : ArbState) (l : LaneId) : (judgedLanes img cycle a).lane l = (judged img cycle a l).1 := by
  unfold judgedLanes
  cases l
  case A => rw [ArbState.lane_modLane, if_neg (by decide), ArbState.lane_modLane_same]
  case B => rw [ArbState.lane_modLane_same]

theorem mem_faultsOf {img : Option Bytes} {cycle : Nat} {a : ArbState} {l k : LaneId} {c : Nat} :
    (k, c) ∈ faultsOf img cycle a l ↔ k = l ∧ foundCode img cycle a l = some c := by
  cases h : foundCode img cycle a l <;> simp [faultsOf, h, eq_comm]

theorem mem_faultsFound {img : Option Bytes} {cycle : Nat} {a : ArbState} {l : LaneId} {c : Nat} :
    (l, c) ∈ faultsFound img cycle a ↔ foundCode img cycle a l = some c := by
  have hstate : ∀ n : Nat, n ≠ 6 ∨ n = 6 := fun n => (em (n = 6)).symm
  cases l <;> simp [faultsFound, mem_faultsOf, ← and_or_left, hstate]

/-- The comparison judges both lanes, then the faults found take effect, and the digests are gone. -/
theorem digestCompare_lane (img : Option Bytes) (cycle tick : Nat) (a : ArbState) (l : LaneId) : (digestCompare img cycle tick a).1.lane l =
    { (laneFaults cycle tick (faultsFound img cycle a) (judgedLanes img cycle a)).lane l with digest := none } := by
  have hB (b : ArbState) (f : LaneArb → LaneArb) : (b.modLane .A f).lane .B = b.lane .B := by rw [ArbState.lane_modLane, if_neg (by decide)]
  refine Eq.trans ?_ (ArbState.lane_mapLanes _ (fun x => { x with digest := none }) l)
  congr 1
  unfold digestCompare faultsFound faultsOf foundCode judgedLanes judged comparedCode laneFaults
  rcases compareTwo img cycle a with ⟨a1, matched, cmp⟩
  simp only [hB]
  rfl

theorem digestCompare_progress (img : Option Bytes) (cycle tick : Nat) (a : ArbState) (l : LaneId) :
    ((digestCompare img cycle tick a).1.lane l).progress = (judged img cycle a l).1.progress := by
  rw [digestCompare_lane, ← judgedLanes_lane]
  exact laneFaults_progress ..

theorem digestCompare_verdict_of_noCode (tick : Nat) {img : Option Bytes} {cycle : Nat} {a : ArbState} {l : LaneId} (h : foundCode img cycle a l = none) :
    ((digestCompare img cycle tick a).1.lane l).verdict = (judged img cycle a l).1.verdict := by
  rw [digestCompare_lane, ← judgedLanes_lane]
  exact laneFaults_verdict cycle tick fun c hc => by simp [mem_faultsFound, h] at hc

theorem digestCompare_verdict_of_code (tick : Nat) {img : Option Bytes} {cycle : Nat} {a : ArbState} {l : LaneId} {c : Nat}
    (hs : (judged img cycle a l).1.state = 4) (hf : (judged img cycle a l).1.faultAt = none) (h : foundCode img cycle a l = some c) :
    ((digestCompare img cycle tick a).1.lane l).verdict = (c, some (effBoundary cycle tick)) := by
  rw [digestCompare_lane]
  rw [← judgedLanes_lane] at hs hf
  exact laneFaults_verdict_syncing cycle tick hs hf (mem_faultsFound.mpr h) fun d hd => Option.some.inj ((mem_faultsFound.mp hd).symm.trans h)

/-! The SYNCING lane (R408). -/

/-- Consecutive matches of a lane after a comparison. -/
def syncCount (ok matched : Bool) (x : LaneArb) : Nat := if matched && (ok && !x.condNow) then x.syncRun + 1 else 0

/-- UNHEALTHY after a comparison, and the run of clean cycles that ends it (R397). -/
def healed (img : Option Bytes) (good : Bool) (x : LaneArb) : LaneArb :=
  if good && x.unhealthy then
    if redSyncCyc img ≤ x.clean + 1 then { x with unhealthy := false, clean := 0 } else { x with clean := x.clean + 1 }
  else if x.unhealthy then { x with clean := 0 } else x

/-- UNHEALTHY is no part of the way to STANDBY. -/
theorem part_healed {α : Type} (g : LaneArb → α) (img : Option Bytes) (good : Bool) (x : LaneArb)
    (hg : ∀ y u n, g { y with unhealthy := u, clean := n } = g y) : g (healed img good x) = g x := by
  unfold healed
  split
  · split
    · exact hg ..
    · exact hg x x.unhealthy _
  split
  · exact hg x x.unhealthy _
  · rfl

/-- The comparison of a SYNCING lane. -/
theorem afterCompare_eq_of_syncing (img : Option Bytes) (cycle : Nat) (ok matched seen : Bool) {x : LaneArb} (hs : x.state = 4) (hf : x.faultAt = none) :
    let y := healed img (ok && !x.condNow) { x with seen := seen, matched := matched, condNow := false }
    afterCompare img cycle ok matched seen x =
      if redSyncCyc img ≤ syncCount ok matched x then ({ y with state := 5, syncRun := 0, healthyRun := 0 }, none)
      else ({ y with syncRun := syncCount ok matched x }, if 10 * redSyncCyc img ≤ cycle + 1 - x.syncFrom then some 6 else none) := by
  intro y
  have hc : compared x = true := by simp [compared, hs, hf]
  have hstate : y.state = 4 := (part_healed LaneArb.state _ _ _ fun _ _ _ => rfl).trans hs
  have hrun : y.syncRun = x.syncRun := part_healed LaneArb.syncRun _ _ _ fun _ _ _ => rfl
  have hfrom : y.syncFrom = x.syncFrom := part_healed LaneArb.syncFrom _ _ _ fun _ _ _ => rfl
  have hx1 : ((ok && !x.condNow) && (x.state == 5 || x.state == 6)) = false := by simp [hs]
  rw [syncCount, ← hrun, ← hfrom]
  unfold afterCompare
  simp only [hc, hx1]
  exact if_pos hstate

/-- At the SYNC_CYC-th match in a row the lane is STANDBY. -/
theorem afterCompare_of_reached (cycle : Nat) (seen : Bool) {img : Option Bytes} {ok matched : Bool} {x : LaneArb} (hs : x.state = 4)
    (hf : x.faultAt = none) (h : redSyncCyc img ≤ syncCount ok matched x) : (afterCompare img cycle ok matched seen x).1.progress = (5, 0) := by
  rw [afterCompare_eq_of_syncing img cycle ok matched seen hs hf, if_pos h]
  rfl

/-- Before it the lane stays SYNCING with its count, and meets code 6 when its time has passed. -/
theorem afterCompare_of_early (cycle : Nat) (seen : Bool) {img : Option Bytes} {ok matched : Bool} {x : LaneArb} (hs : x.state = 4)
    (hf : x.faultAt = none) (h : syncCount ok matched x < redSyncCyc img) :
    (afterCompare img cycle ok matched seen x).1.progress = (4, syncCount ok matched x) ∧
    (afterCompare img cycle ok matched seen x).1.verdict = x.verdict ∧
    (afterCompare img cycle ok matched seen x).2 = if 10 * redSyncCyc img ≤ cycle + 1 - x.syncFrom then some 6 else none := by
  rw [afterCompare_eq_of_syncing img cycle ok matched seen hs hf, if_neg h.not_ge]
  refine ⟨Prod.ext ((part_healed LaneArb.state _ _ _ fun _ _ _ => rfl).trans hs) rfl, part_healed LaneArb.verdict _ _ _ fun _ _ _ => rfl, rfl⟩

/-- The count of matches of a lane after the comparison of a cycle. -/
def judgedCount (img : Option Bytes) (cycle : Nat) (a : ArbState) (l : LaneId) : Nat :=
  syncCount (comparedCode img cycle a l).isNone (compareTwo img cycle a).2.1 (a.lane l)

section
variable (tick : Nat) {img : Option Bytes} {cycle : Nat} {a : ArbState} {l : LaneId} (hs : (a.lane l).state = 4) (hf : (a.lane l).faultAt = none)
include hs hf

theorem digestCompare_state_of_reached (h : redSyncCyc img ≤ judgedCount img cycle a l) : ((digestCompare img cycle tick a).1.lane l).state = 5 := by
  obtain ⟨st, hst⟩ := compareTwo_lane img cycle a l
  have hjudged : (judged img cycle a l).1.progress = (5, 0) := by
    unfold judged
    rw [hst]
    exact afterCompare_of_reached cycle _ hs hf h
  exact congrArg Prod.fst ((digestCompare_progress img cycle tick a l).trans hjudged)

theorem judged_of_early (h : judgedCount img cycle a l < redSyncCyc img) :
    (judged img cycle a l).1.progress = (4, judgedCount img cycle a l) ∧ (judged img cycle a l).1.verdict = (a.lane l).verdict ∧
    (judged img cycle a l).2 = if 10 * redSyncCyc img ≤ cycle + 1 - (a.lane l).syncFrom then some 6 else none := by
  obtain ⟨st, hst⟩ := compareTwo_lane img cycle a l
  unfold judged
  rw [hst]
  exact afterCompare_of_early cycle _ hs hf h

theorem digestCompare_progress_of_early (h : judgedCount img cycle a l < redSyncCyc img) :
    ((digestCompare img cycle tick a).1.lane l).progress = (4, judgedCount img cycle a l) :=
  (digestCompare_progress img cycle tick a l).trans (judged_of_early hs hf h).1

/-- A lane that is still SYNCING after 10 × SYNC_CYC cycles is withdrawn with code 6, and no other when nothing else is found in it. -/
theorem digestCompare_verdict_of_early (h : judgedCount img cycle a l < redSyncCyc img) (hn : comparedCode img cycle a l = none) :
    ((digestCompare img cycle tick a).1.lane l).verdict =
      if 10 * redSyncCyc img ≤ cycle + 1 - (a.lane l).syncFrom then (6, some (effBoundary cycle tick)) else (a.lane l).verdict := by
  obtain ⟨hprogress, hverdict, hcode⟩ := judged_of_early hs hf h
  have hfound : foundCode img cycle a l = if 10 * redSyncCyc img ≤ cycle + 1 - (a.lane l).syncFrom then some 6 else none := by
    rw [foundCode, hn, ← hcode]
    rfl
  split_ifs at hfound ⊢ with htime
  · exact digestCompare_verdict_of_code tick (congrArg Prod.fst hprogress) ((congrArg Prod.snd hverdict).trans hf) hfound
  · exact (digestCompare_verdict_of_noCode tick hfound).trans hverdict

end

/-! DIGEST_COMPARE at its tick. -/

/-- A row at its tick acts once in the cycle, with time moved on to the tick. -/
theorem atTick_of_due {code tick : Nat} (k : State → State) {s : State} (h : dueAt code tick s) :
    atTick code tick k s = k ((advanceTo tick s).modTime fun x => { x with ran := code :: x.ran }) := by
  obtain ⟨htick, hran⟩ := h
  simp [atTick, htick, hran]

theorem compareWork_arb (s : State) : (compareWork s).arb = (digestCompare s.image s.time.cycle s.time.tick s.arb).1 :=
  List.foldlRecOn _ _ (motive := fun t : State => t.arb = (digestCompare s.image s.time.cycle s.time.tick s.arb).1) rfl
    fun _ h _ _ => (State.modLane_arb ..).trans h

theorem leaves_digestCompare {s : State} {tick : Nat} {p : State → Prop} (harb : arbitrates s = true) (htick : compareTick s = some tick)
    (hdue : dueAt 140 tick s) (h : ∀ t, t.arb = (digestCompare s.image s.time.cycle tick s.arb).1 → p t) : leaves .digestCompare s p := by
  refine ⟨_, rfl, h _ ?_⟩
  rw [htick]
  simp only [harb, if_true]
  rw [atTick_of_due _ hdue, compareWork_arb]
  rw [advanceTo, if_pos hdue.1]
  rfl

/-! What the digests of both lanes decide for a SYNCING one. -/

section
variable {img : Option Bytes} {cycle : Nat} {s : ArbState} {l : LaneId} {a b : Bytes} (hA : compared (s.lane .A) = true)
  (hB : compared (s.lane .B) = true) (ha : digestOf cycle s .A = some a) (hb : digestOf cycle s .B = some b)
include hA hB ha hb

theorem comparedCode_of_equal (hown : laneCode cycle s l = none) (h : sliceB a 8 28 = sliceB b 8 28) : comparedCode img cycle s l = none := by
  simp [comparedCode, hown, compareTwo_of_equal hA hB ha hb h]

theorem judgedCount_of_equal (hown : laneCode cycle s l = none) (hcond : (s.lane l).condNow = false) (h : sliceB a 8 28 = sliceB b 8 28) :
    judgedCount img cycle s l = (s.lane l).syncRun + 1 := by
  simp [judgedCount, syncCount, comparedCode_of_equal hA hB ha hb hown h, compareTwo_of_equal hA hB ha hb h, hcond]

/-- Every mismatch ends the run of matches (R408). -/
theorem judgedCount_of_differ (h : sliceB a 8 28 ≠ sliceB b 8 28) : judgedCount img cycle s l = 0 := by
  simp [judgedCount, syncCount, compareTwo_of_differ hA hB ha hb h]

end

/-- Settles O23: the comparison counts the match of a SYNCING lane, or ends its run; what the count reaches gives its state, and the time it has taken its
fault, which no fault of the other lane undoes. -/
theorem syncingLaneBecomesStandby : Obligations.SyncingLaneBecomesStandby := by
  unfold Obligations.SyncingLaneBecomesStandby
  intro s l tick a b harb htick hdue hs hA hB hcond hsync ha hb hown
  have hf : (s.arb.lane l).faultAt = none := by
    have hc : compared (s.arb.lane l) = true := by
      cases l
      · exact hA
      · exact hB
    simpa [compared, hs] using hc
  have hmatch (heq : sliceB a 8 28 = sliceB b 8 28) : judgedCount s.image s.time.cycle s.arb l = (s.arb.lane l).syncRun + 1 :=
    judgedCount_of_equal hA hB ha hb (hown l) hcond heq
  refine ⟨fun heq hlast => leaves_digestCompare harb htick hdue fun t ht => ?_, fun heq hearly => leaves_digestCompare harb htick hdue fun t ht => ?_,
    fun hne _ _ => leaves_digestCompare harb htick hdue fun t ht => ?_⟩ <;> rw [ht]
  · exact digestCompare_state_of_reached tick hs hf ((hmatch heq).symm ▸ hlast)
  · have hcount := (hmatch heq).symm ▸ hearly
    obtain ⟨hstate, hrun⟩ := Prod.ext_iff.mp (digestCompare_progress_of_early tick hs hf hcount)
    have hverdict := digestCompare_verdict_of_early tick hs hf hcount (comparedCode_of_equal hA hB ha hb (hown l) heq)
    refine ⟨hrun.trans (hmatch heq), fun htime => ?_, fun htime => ?_⟩
    · rw [if_pos htime] at hverdict
      exact Prod.ext_iff.mp hverdict
    · rw [if_neg htime.not_ge] at hverdict
      exact ⟨hstate, (congrArg Prod.snd hverdict).trans hf⟩
  · have hcount : judgedCount s.image s.time.cycle s.arb l = 0 := judgedCount_of_differ hA hB ha hb hne
    have hprogress := digestCompare_progress_of_early tick hs hf (hcount ▸ hsync)
    exact (congrArg Prod.snd hprogress).trans hcount

end Sys2Proof.Machine
end
